-- ==== Sys2Proof/Word.lean ====
section
/-! DEFINITION. The word types of the FD2418's link: bytes as they travel in frames (R210). -/

namespace Sys2Proof

/-- A byte of the serial link (chapter 10: 8 data bits). -/
abbrev Byte := BitVec 8

end Sys2Proof
end

