-- ==== Sys2Proof/Syntax.lean ====
section
/-! DEFINITION. The commands of the FD2418: one constructor per row of spec/opcode_table.json.

Three kinds of row, three kinds of operand (assumption 1):
* an event of the part's own clockwork (a timer, a sample, a store completion) names the numbered
  object it happens at and carries what is measured at it;
* an event of a line (supply, nRST, IGN, HOLD, receive line, a lamp's current) carries the level;
* a request kind carries the frame's tag and payload bytes (R211), and the two rows that stand for
  several kinds carry the kind byte too. -/

namespace Sys2Proof

inductive Instr where
  -- resets and start-up
  | powerOnReset
  | brownOut
  | externalReset
  | startupLoadComplete
  | startupEnd
  -- supply and ignition: VB in mV, and whether IGN reads ACTIVE
  | vbMeasurement (mv : Nat) (ign : Bool)
  | supplyLowReportExpiry
  | supplyHighReportExpiry
  | ignDebounceExpiry
  | operatingMinuteElapsed
  -- SLEEP: the sample gives IGN and the voltage of every line, of which the watched ones are used
  | sleepEntry
  | sleepSample (ign : Bool) (mv : Vector Nat 32)
  -- the receive line: `idle` says that it had been idle for one bit time or more before the edge,
  -- `stopHigh` that the stop bit reads high
  | startOfReception (idle : Bool)
  | byteReceived (b : Byte) (stopHigh : Bool)
  | gapTimerExpiry
  | replySent
  | breakLatch
  | breakRelease
  | hostSilenceBegins
  | holdLineChange (asserted : Bool)
  | holdLimitExpiry
  -- requests
  | ping (tag : Byte) (payload : List Byte)
  | readStatus (tag : Byte) (payload : List Byte)
  | readAttention (tag : Byte) (payload : List Byte)
  | setMode (tag : Byte) (payload : List Byte)
  | restart (tag : Byte) (payload : List Byte)
  | restartTakesEffect
  | writeTable (tag : Byte) (payload : List Byte)
  | readTable (tag : Byte) (payload : List Byte)
  | storeConfig (tag : Byte) (payload : List Byte)
  | readLines (tag : Byte) (payload : List Byte)
  | readLineDetail (tag : Byte) (payload : List Byte)
  | feedValue (tag : Byte) (payload : List Byte)
  | readGauges (tag : Byte) (payload : List Byte)
  | sweep (tag : Byte) (payload : List Byte)
  | readRules (tag : Byte) (payload : List Byte)
  | readPresentation (tag : Byte) (payload : List Byte)
  | acknowledge (tag : Byte) (payload : List Byte)
  | readDoors (tag : Byte) (payload : List Byte)
  | releaseDoors (tag : Byte) (payload : List Byte)
  | withdrawRelease (tag : Byte) (payload : List Byte)
  | readFaults (tag : Byte) (payload : List Byte)
  | setFaultCursor (tag : Byte) (payload : List Byte)
  | readFaultDetail (tag : Byte) (payload : List Byte)
  | readCounters (tag : Byte) (payload : List Byte)
  | forceLamp (tag : Byte) (payload : List Byte)
  | forceNeedle (tag : Byte) (payload : List Byte)
  | forceChime (tag : Byte) (payload : List Byte)
  | endForcing (tag : Byte) (payload : List Byte)
  | clearFaults (tag : Byte) (payload : List Byte)
  | resetCounter (tag : Byte) (payload : List Byte)
  | readRawLine (tag : Byte) (payload : List Byte)
  | noEffectKind (kind tag : Byte) (payload : List Byte)
  | unknownKind (kind tag : Byte) (payload : List Byte)
  -- sense lines: the line voltage in mV; an edge comes `wait` µs after the present moment
  | lineSample (n : Fin 32) (mv : Nat)
  | qualifyTimerExpiry (n : Fin 32)
  | healTimerExpiry (n : Fin 32)
  | pulseEdge (n : Fin 32) (mv wait : Nat)
  -- gauges and needles
  | channelSample (k : Fin 6)
  | feedTimeout (k : Fin 6)
  | motionInterval (k : Fin 6)
  -- rules, lamps and chime: `low` says that the sensed lamp current is low
  | evaluationPass
  | lampCheckEnd
  | lampDiagnosticTick (n : Fin 24) (low : Bool)
  | lampOvercurrent (n : Fin 24)
  | lampRetryExpiry (n : Fin 24)
  | lampSuccessTimerExpiry (n : Fin 24)
  | singleToneComplete
  -- doors: set D1 is index 0
  | openTimerExpiry (d : Fin 4)
  | closeTimerExpiry (d : Fin 4)
  | lockTimerExpiry (d : Fin 4)
  | inconsistencyTimerExpiry (d : Fin 4)
  | releaseDelayExpiry
  -- nonvolatile store
  | writeStart
  | slotWriteComplete
  | counterSaveComplete
  | configStoreComplete
  -- forcing, pins, lamp and chime clockwork
  | lampForcingExpiry (n : Fin 24)
  | chimeForcingExpiry
  | nrstRelease
  | brownOutEnd
  | flashPhaseAdvance
  | chimeToneEdge
  deriving DecidableEq, Repr

end Sys2Proof
end

