-- ==== Sys2Proof/Config.lean ====
section
/-! DEFINITION. The values the manual leaves open, as opaque constants: nothing in Lean can evaluate
them, so a claim holds whatever they are. Each is applied to the state's plain counter
`freeCount`, so that every use is a fresh value. -/

namespace Sys2Proof.Config

/-- R16: a power-on or external reset cuts off a nonvolatile write in flight, which "may leave its slot
or block torn". Whether the n-th such write is torn is open (assumption 4). -/
opaque cutWriteIsTorn : Nat → Bool

/-- R23 divides by the most recent VB measurement. Before the first measurement after a reset, and for
a measurement of 0 mV, the manual gives no ratio. This is the n-th such ratio before the clamp to
10 000 (assumption 5). -/
opaque ratioWithoutVb : Nat → Nat

/-- The last usable value of a line whose logical value is trusted but that holds none: the manual's
own machine never reaches this, and states no value for it (assumption 6). -/
opaque usableWhenAbsent : Nat → Nat

end Sys2Proof.Config
end

