-- ==== Sys2Proof/Machine/Types.lean ====
section
/-! DEFINITION. The names of the manual as types: modes, states, classes, fault codes and the
configuration records of R211 to R213. Their numeric codes stand in Machine/Codes.lean. -/

namespace Sys2Proof.Machine

/-! ### Supply, ignition and modes (chapter 1) -/

/-- The seven part modes (1.3). -/
inductive Mode where
  | startup | unconfigured | setup | standby | run | workshop | sleep
  deriving DecidableEq, Repr

/-- The four supply states (1.1). -/
inductive Supply where
  | normal | low | crank | high
  deriving DecidableEq, Repr

/-- The causes of the last reset (R18). -/
inductive ResetCause where
  | powerOn | brownOut | pin | linkBreak | restart
  deriving DecidableEq, Repr

/-- The accepted IGN state (R5). -/
inductive IgnState where
  | unknown | inactive | active
  deriving DecidableEq, Repr

/-! ### Harness lines (chapter 2) -/

inductive LineFn where
  | off | switchGnd | switchBat | switchCoded | analogRatio | analogVolt | pulse
  deriving DecidableEq, Repr

inductive Bias where
  | unbiased | pullUp | pullDown
  deriving DecidableEq, Repr

/-- The six classes of a band map. An accepted class is an `Option`, `none` being UNKNOWN. -/
inductive LineClass where
  | active | inactive | invalid | faultOpen | faultShortGnd | faultShortBat
  deriving DecidableEq, Repr

/-- The logical value of a line (R26). -/
inductive Logical where
  | active | inactive | invalid
  deriving DecidableEq, Repr

inductive FaultStatus where
  | clear | pending | confirmed | healing
  deriving DecidableEq, Repr

inductive LineSym where
  | openWire | shortGnd | shortBat
  deriving DecidableEq, Repr

/-- The reported symptom of a line: NONE, one of the three, or ANY (R33). -/
inductive RepSym where
  | nothing | sym (y : LineSym) | any
  deriving DecidableEq, Repr

/-- The comparator of a PULSE line (R28); `fresh` runs but has made no comparison yet. -/
inductive Comparator where
  | stopped | fresh | low | high
  deriving DecidableEq, Repr

/-! ### Gauges and needles (chapters 3 and 4) -/

inductive Source where
  | unused | line | pulse | host
  deriving DecidableEq, Repr

/-- The source state of a channel (3.2). -/
inductive ChannelState where
  | init | valid | stale | lost | fault
  deriving DecidableEq, Repr

/-- The needle state with its homing phase or sweep leg (4.1). -/
inductive NeedleState where
  | homingWaiting | homingDriving | tracking | sweepUp | sweepReturn | parked | forced | suspended
  deriving DecidableEq, Repr

inductive Direction where
  | up | down
  deriving DecidableEq, Repr

/-! ### Warning rules (chapter 5) -/

inductive RuleState where
  | off | pending | activeNew | activeAck | latchedNew | latchedAck
  deriving DecidableEq, Repr

/-- The result of a term, and the raw result of a rule (R85, R91). -/
inductive TermResult where
  | no | yes | invalid
  deriving DecidableEq, Repr

inductive Combine where
  | all | any | firstNotRest | twoOfThree
  deriving DecidableEq, Repr

inductive OnInvalid where
  | no | yes | hold
  deriving DecidableEq, Repr

inductive Qualifier where
  | always | ignOn | moving | standing | notCrank
  deriving DecidableEq, Repr

inductive Latch where
  | unlatched | untilAck | untilIgnition
  deriving DecidableEq, Repr

/-- The lamp levels, OFF < ON < FLASH_SLOW < FLASH_FAST (6.2). -/
inductive Level where
  | off | on | flashSlow | flashFast
  deriving DecidableEq, Repr

/-- The chime patterns (6.4). A rule's chime class is an `Option` of one. -/
inductive Pattern where
  | single | repeatSlow | repeatFast | continuous
  deriving DecidableEq, Repr

/-- The open and short status of a lamp (6.3). -/
inductive LampStatus where
  | unsettled | good | confirmed
  deriving DecidableEq, Repr

/-! ### Doors (chapter 7) -/

inductive DoorState where
  | closedLocked | closed | opening | opened | closing | obstructed | emergency | unknown
  deriving DecidableEq, Repr

inductive Interlock where
  | forced | held | delay | free | overridden
  deriving DecidableEq, Repr

/-- The five line roles (R22). -/
inductive Role where
  | ackButton | releaseButton | override | parkingBrake | kneel
  deriving DecidableEq, Repr

/-! ### Faults (8.1) -/

inductive SourceClass where
  | line | gauge | lamp | door | rule | supply | link | store
  deriving DecidableEq, Repr

inductive GaugeSym where
  | lost | pulseNoise
  deriving DecidableEq, Repr

inductive LampSym where
  | openWire | short
  deriving DecidableEq, Repr

/-- The six fault codes of one door set (R142). -/
inductive DoorSym where
  | inconsistent | notLocked | openEndMissing | closeTimeout | repeatedObstruction | openWhileMoving
  deriving DecidableEq, Repr

inductive SupplySym where
  | high | low
  deriving DecidableEq, Repr

/-- The code space of 8.1: exactly the codes a report can carry. Door sets count from 0 (D1). -/
inductive FaultCode where
  | line (n : Fin 32) (y : LineSym)
  | gauge (k : Fin 6) (y : GaugeSym)
  | lamp (n : Fin 24) (y : LampSym)
  | door (d : Fin 4) (y : DoorSym)
  | override
  | rule (m : Fin 64)
  | supply (y : SupplySym)
  | hostSilent
  | imageBad
  | slotLost (n : Fin 49)
  deriving DecidableEq, Repr

/-! ### The link (chapter 10) -/

/-- The attention causes (10.3). -/
inductive Cause where
  | reset | supply | line | warn | door | fault | lost | link | opdone | hold | hostsil | mode
  deriving DecidableEq, Repr

/-- The reply statuses (R197). -/
inductive Status where
  | ok | accepted | busy | refusedMode | refusedArg | unknownKind | denied
  deriving DecidableEq, Repr

/-- A frame without its marker, length and check (R210). -/
structure Frame where
  kind : Byte
  tag : Byte
  payload : List Byte
  deriving DecidableEq, Repr

/-! ### Configuration records (R211 to R213)

Every field a record carries is kept, so that READ_TABLE gives back what WRITE_TABLE stored. -/

/-- Table 0. The values given are the UNCONFIGURED defaults (11.3). -/
structure GeneralCfg where
  releaseSpeed : Nat := 30
  withdrawSpeed : Nat := 50
  inconsistency : Nat := 300
  agingLimit : Nat := 40
  hostSilence : Nat := 300
  lampCheck : Nat := 3000
  deriving DecidableEq, Repr

/-- Table 1: the configuration record of one sense line (2.1). The UNCONFIGURED default is the OFF record of
zeros that R213 accepts, with qualify and heal time 0 and not the 200 ms and 1000 ms that 2.1 gives the
functions which use them (assumption 51). -/
structure LineCfg where
  fn : LineFn := .off
  bias : Bias := .unbiased
  w1 : Nat := 0
  w2 : Nat := 0
  w3 : Nat := 0
  w4 : Nat := 0
  w5 : Nat := 0
  b0 : LineClass := .active
  b1 : LineClass := .active
  b2 : LineClass := .active
  b3 : LineClass := .active
  b4 : LineClass := .active
  b5 : LineClass := .active
  debounce : Nat := 0
  qualify : Nat := 0
  heal : Nat := 0
  suppressed : Bool := false
  unitC1 : Bool := false
  falling : Bool := false
  deriving DecidableEq, Repr

/-- Table 2: the role table (R22). -/
structure RoleCfg where
  ackButton : Option (Fin 32) := none
  releaseButton : Option (Fin 32) := none
  override : Option (Fin 32) := none
  parkingBrake : Option (Fin 32) := none
  kneel : Option (Fin 32) := none
  deriving DecidableEq, Repr

/-- Table 3: the channel record (3.1, 4.1). `input` is the line or capture unit byte, taken as an index field in
the UNCONFIGURED default (11.3; assumption 51). -/
structure ChannelCfg where
  source : Source := .unused
  input : Nat := 0xFF
  emin : Int := 0
  emax : Int := 0
  k : Nat := 0
  pMin : Nat := 0
  standstill : Nat := 0
  feedTimeout : Nat := 0
  shift : Nat := 0
  snap : Bool := false
  speedRole : Bool := false
  homing : Bool := false
  holdLast : Bool := false
  pmax : Nat := 3840
  smax : Nat := 24
  deriving DecidableEq, Repr

/-- R42, 3.1: the SPEED role belongs to every source but NONE; a channel record of source NONE keeps the
bit as written, without effect (R213, assumption 13). -/
def ChannelCfg.hasSpeedRole (c : ChannelCfg) : Bool := c.source != .unused && c.speedRole

/-- Tables 4 and 5: a sensor or dial table, 0 or 2..8 points. -/
abbrev Curve := List (Int × Int)

inductive LineTest where
  | active | inactive | faulted
  deriving DecidableEq, Repr

inductive DoorTest where
  | stateMask | flag | interlock
  deriving DecidableEq, Repr

/-- The term of a used slot (5.1). A door term keeps its four bytes as written, because which of them
are used depends on its test (R88). -/
inductive Term where
  | line (n : Fin 32) (test : LineTest)
  | value (k : Fin 6) (filtered below : Bool) (threshold : Int) (hysteresis : Nat)
  | door (set : Nat) (test : DoorTest) (mask flag : Nat)
  | rule (m : Fin 64)
  | fault (c : SourceClass)
  | supply (mask : Nat)
  deriving DecidableEq, Repr

/-- Table 6: the rule record (5.1). -/
structure RuleCfg where
  enabled : Bool := false
  form : Nat := 0
  combine : Combine := .all
  onInvalid : OnInvalid := .no
  qualifier : Qualifier := .always
  qualClear : Bool := false
  onset : Nat := 0
  release : Nat := 0
  latch : Latch := .unlatched
  popup : Bool := false
  record : Bool := false
  chime : Option Pattern := none
  reminder : Nat := 0
  priority : Nat := 0
  lamp : Option (Fin 24) := none
  lampNew : Level := .off
  lampAcked : Level := .off
  slot0 : Option Term := none
  slot1 : Option Term := none
  slot2 : Option Term := none
  deriving DecidableEq, Repr

/-- Table 7: the lamp record (6.2). -/
structure LampCfg where
  suppressed : Bool := true
  fallback : Option (Fin 24) := none
  participates : Bool := false
  deriving DecidableEq, Repr

/-- Table 8: the door-set record (7.1). -/
structure DoorCfg where
  configured : Bool := false
  closed : Option (Fin 32) := none
  locked : Option (Fin 32) := none
  openEnd : Option (Fin 32) := none
  edge : Option (Fin 32) := none
  emergency : Option (Fin 32) := none
  ramp : Option (Fin 32) := none
  inMask : Bool := false
  openTimeout : Nat := 5000
  closeTimeout : Nat := 8000
  lockTimeout : Nat := 2000
  deriving DecidableEq, Repr

/-- The nine tables (11.3), with the UNCONFIGURED defaults of R9 as the values given. -/
structure Tables where
  general : GeneralCfg := {}
  lines : Vector LineCfg 32 := .replicate 32 {}
  roles : RoleCfg := {}
  channels : Vector ChannelCfg 6 := .replicate 6 {}
  sensors : Vector Curve 6 := .replicate 6 []
  dials : Vector Curve 6 := .replicate 6 []
  rules : Vector RuleCfg 64 := .replicate 64 {}
  lamps : Vector LampCfg 24 := .replicate 24 {}
  doors : Vector DoorCfg 4 := .replicate 4 {}
  deriving DecidableEq, Repr

end Sys2Proof.Machine
end

