-- ==== Sys2Proof/Machine/State.lean ====
section
/-! DEFINITION. The state of the FD2418, block by block, as plain data, with the value after reset
written as each field's default. Fields that only the model has say so; fields of the manual that are
functions of others (a logical value, a lamp level, ATTN) are computed where they are read
(INVENTORY.md lists them). -/

namespace Sys2Proof.Machine

/-- A timer of the part. `running since` has counted since the moment `since` (µs); a paused timer
keeps its elapsed time (0.6). -/
inductive Timer where
  | stopped
  | running (since : Int)
  | paused (elapsed : Nat)
  deriving DecidableEq, Repr

/-! ### MCTL (R18) -/

/-- The progress of a RESTART answered OK (R17, R171). -/
inductive RestartState where
  | idle
  /-- answered OK; the writes and the counter save are still to be made -/
  | waiting
  /-- a counter save that started after the OK is in flight -/
  | saving
  /-- the counter save that ends the wait has completed -/
  | ready
  deriving DecidableEq, Repr

structure Mctl where
  mode : Mode := .startup
  supply : Supply := .low
  /-- the last VB measurement in mV; none before the first after a reset (R2, R18) -/
  vb : Option Nat := none
  highTimer : Timer := .stopped
  recoveryTimer : Timer := .stopped
  lowReport : Timer := .stopped
  highReport : Timer := .stopped
  lowMark : Bool := true
  highMark : Bool := true
  ign : IgnState := .unknown
  /-- the IGN debounce timer, with the level (ACTIVE?) that it times (R5) -/
  ignTimer : Option (Bool × Timer) := none
  cycle : Bool := false
  /-- the operating-minute timer; paused it holds the part-minute remainder (R11) -/
  minute : Timer := .stopped
  cause : ResetCause := .powerOn
  /-- the tables of an image that passed its check, until STARTUP ends (R7, R215) -/
  loaded : Option Tables := none
  /-- whether the image check failed at the last start-up (R168) -/
  imageFailed : Bool := false
  /-- a SET_MODE SLEEP answered OK whose SLEEP entry is still to come (R14) -/
  sleepPending : Bool := false
  restart : RestartState := .idle
  deriving DecidableEq, Repr

/-! ### HLM (R41) -/

structure LineRec where
  /-- last measured value: mV and ratio -/
  measured : Option (Nat × Nat) := none
  /-- last usable value: mV and ratio -/
  usable : Option (Nat × Nat) := none
  candidate : Option LineClass := none
  count : Nat := 0
  /-- accepted class; none is UNKNOWN -/
  accepted : Option LineClass := none
  status : FaultStatus := .clear
  timer : Timer := .stopped
  symptom : RepSym := .any
  flag : Bool := false
  comparator : Comparator := .stopped
  deriving DecidableEq, Repr

/-- One line's entry of the detail snapshot (R39). -/
structure LineSnap where
  status : FaultStatus := .clear
  accepted : Option LineClass := none
  measured : Option (Nat × Nat) := none
  deriving DecidableEq, Repr

structure Hlm where
  lines : Vector LineRec 32 := .replicate 32 {}
  summaryNo : Nat := 0
  /-- the detail snapshot with its summary number; none while empty -/
  detail : Option (Nat × Vector LineSnap 32) := none
  deriving DecidableEq, Repr

/-! ### GVE (R63) -/

structure Capture where
  /-- the time base: counts µs while running, read modulo 2^32 (R44) -/
  base : Timer := .stopped
  tRef : Option (BitVec 32) := none
  tLast : Option (BitVec 32) := none
  edges : Nat := 0
  glitches : Nat := 0
  deriving DecidableEq, Repr

structure Channel where
  st : ChannelState := .init
  e : Option Int := none
  f256 : Int := 0
  f : Option Int := none
  standstill : Bool := false
  pLast : Option Nat := none
  start : Option (BitVec 32) := none
  fed : Option Int := none
  /-- a FEED_VALUE has been taken since the previous sample (R54) -/
  newFeed : Bool := false
  feedTimer : Timer := .stopped
  expiries : Nat := 0
  lostMark : Bool := true
  noiseMark : Bool := true
  deriving DecidableEq, Repr

structure Gve where
  units : Vector Capture 2 := .replicate 2 {}
  channels : Vector Channel 6 := .replicate 6 {}
  deriving DecidableEq, Repr

/-! ### NDR (R83) -/

structure Needle where
  st : NeedleState := .homingWaiting
  count : Nat := 0
  /-- actual position; none while not established -/
  pos : Option Nat := none
  speed : Nat := 0
  dir : Direction := .up
  latest : Nat := 0
  published : Nat := 0
  resume : Option NeedleState := none
  deriving DecidableEq, Repr

structure Ndr where
  needles : Vector Needle 6 := .replicate 6 {}
  sweep : Bool := false
  deriving DecidableEq, Repr

/-! ### WEV (R111) -/

structure RuleRec where
  st : RuleState := .off
  cond : Bool := false
  raw : TermResult := .no
  res0 : TermResult := .no
  res1 : TermResult := .no
  res2 : TermResult := .no
  /-- the term states of value terms (R87) -/
  hyst0 : Bool := false
  hyst1 : Bool := false
  hyst2 : Bool := false
  onset : Nat := 0
  /-- release timer in passes; none while it is not running (R99) -/
  release : Option Nat := none
  reminder : Nat := 0
  seq : Option Nat := none
  mark : Bool := true
  qualHeld : Bool := false
  frozen : Bool := false
  deriving DecidableEq, Repr

structure Wev where
  rules : Vector RuleRec 64 := .replicate 64 {}
  seq : Nat := 0
  deriving DecidableEq, Repr

/-! ### PRU (R131) -/

/-- An entry of the presentation list (6.1). -/
structure ListEntry where
  rule : Fin 64
  priority : Nat
  seq : Nat
  latched : Bool
  deriving DecidableEq, Repr

structure Lamp where
  openStatus : LampStatus := .unsettled
  openCount : Int := 0
  shortStatus : LampStatus := .unsettled
  /-- the retry timer; stopped when the lamp is not tripped -/
  retry : Timer := .stopped
  trips : Nat := 0
  /-- the success timer: running while the driver is on; paused once its 50 ms are counted -/
  success : Timer := .stopped
  published : Level := .off
  deriving DecidableEq, Repr

structure Pru where
  list : List ListEntry := []
  shown : List ListEntry := []
  lamps : Vector Lamp 24 := .replicate 24 {}
  phase : Nat := 0
  lampCheck : Timer := .stopped
  singleMarks : Vector Bool 64 := .replicate 64 false
  winner : Option (Fin 64) := none
  /-- the moment from which the sounding pattern counts -/
  patternStart : Int := 0
  /-- whether the sounder is on -/
  tone : Bool := false
  deriving DecidableEq, Repr

/-! ### DMN (R154) -/

structure Door where
  st : DoorState := .unknown
  openTimer : Timer := .stopped
  closeTimer : Timer := .stopped
  lockTimer : Timer := .stopped
  inconTimer : Timer := .stopped
  inconMark : Bool := false
  openWhileMoving : Bool := false
  repeatedObstruction : Bool := false
  closeTimeout : Bool := false
  notLocked : Bool := false
  obstructions : Nat := 0
  cycle : Bool := false
  /-- the codes whose reported mark is set -/
  marks : List DoorSym :=
    [.inconsistent, .notLocked, .openEndMissing, .closeTimeout, .repeatedObstruction, .openWhileMoving]
  grant : Bool := false
  output : Bool := false
  deriving DecidableEq, Repr

structure Dmn where
  doors : Vector Door 4 := .replicate 4 {}
  interlock : Interlock := .forced
  delay : Timer := .stopped
  deriving DecidableEq, Repr

/-! ### FMY (R176) and the nonvolatile store -/

/-- A stamp: operating minutes and ignition-cycle number (R156). -/
structure Stamp where
  minutes : Nat
  cycles : Nat
  deriving DecidableEq, Repr

/-- The vehicle conditions at an entry's creation (R157), with the supply state that R4 makes a field of
it (assumption 39). -/
structure Snapshot where
  supply : Supply
  vb : Nat
  mode : Mode
  speed : Option Int
  values : List (Fin 6 × Int)
  doors : Vector DoorState 4
  ilk : Bool
  deriving DecidableEq, Repr

structure FaultEntry where
  code : FaultCode
  priority : Nat
  active : Bool
  occurrences : Nat
  first : Stamp
  last : Stamp
  aging : Nat
  snapshot : Option Snapshot
  slot : Fin 48
  created : Nat
  deriving DecidableEq, Repr

/-- What a fault slot of the store holds; `bad` fails its check (8.4). -/
inductive SlotContent where
  | empty
  | entry (e : FaultEntry)
  | bad
  deriving DecidableEq, Repr

/-- A copy of the counter block; `bad` fails its check (R174). -/
inductive CounterCopy where
  | bad
  | good (counters : Vector Nat 12) (saveNo : BitVec 32)
  deriving DecidableEq, Repr

/-- The configuration image of the store: its bytes, or torn by a cut-off write (R171, R215). -/
inductive ImageContent where
  | bytes (l : List Byte)
  | torn
  deriving DecidableEq, Repr

/-- The nonvolatile store: it survives every reset (1.4). A store that has never been written holds no
image, empty slots and no counter block (assumption 3). -/
structure Nv where
  image : ImageContent := .bytes []
  slots : Vector SlotContent 48 := .replicate 48 .empty
  copyA : CounterCopy := .bad
  copyB : CounterCopy := .bad
  deriving DecidableEq, Repr

/-- The write in flight, with the contents taken at its start (R167, R168). -/
inductive Write where
  | idle
  /-- `stale` says that a clear removed the slot's entry after this write had started (R172) -/
  | slot (n : Fin 48) (c : SlotContent) (stale : Bool)
  | counters (c : Vector Nat 12)
  | image (l : List Byte)
  deriving DecidableEq, Repr

structure Fmy where
  table : List FaultEntry := []
  created : Nat := 0
  writes : List (Fin 48) := []
  /-- the slot being written is marked for re-append (R165) -/
  reappend : Bool := false
  write : Write := .idle
  writeTimer : Timer := .stopped
  storeRequested : Bool := false
  counterDue : Bool := false
  /-- the clear in flight, with the freed slots still to be written (R172) -/
  clear : Option (List (Fin 48)) := none
  /-- the start-up load is in progress (R169) -/
  loading : Bool := true
  /-- reports held during the load, with the priority they carry (R170) -/
  held : List (FaultCode × Nat × Bool) := []
  lost : Nat := 0
  counters : Vector Nat 12 := .replicate 12 0
  saveNo : BitVec 32 := 0
  /-- whether copy B is the one written last (R174) -/
  lastIsB : Bool := true
  /-- for each slot whose erasure is pending or in flight, the code last removed from it (R164) -/
  formers : Vector (Option FaultCode) 48 := .replicate 48 none
  deriving DecidableEq, Repr

/-! ### WSV (R191) -/

structure LampForce where
  level : Level
  duration : Nat
  timer : Timer
  deriving DecidableEq, Repr

structure ChimeForce where
  pattern : Pattern
  duration : Nat
  timer : Timer
  deriving DecidableEq, Repr

structure Wsv where
  lamps : Vector (Option LampForce) 24 := .replicate 24 none
  /-- the forced position of each needle, which is NDR's forced position and GVE's forced mark too -/
  needles : Vector (Option Nat) 6 := .replicate 6 none
  chime : Option ChimeForce := none
  cursor : Nat := 0
  deriving DecidableEq, Repr

/-! ### LIF (10.8) -/

/-- The attention summary (10.3). -/
structure Attention where
  reset : Bool := true
  supply : Bool := true
  line : Bool := false
  warn : Bool := false
  door : Bool := false
  fault : Bool := false
  lost : Bool := false
  link : Bool := false
  opdone : Bool := false
  hold : Bool := false
  hostsil : Bool := true
  mode : Bool := false
  deriving DecidableEq, Repr

/-- The receiver (10.1), with what it has taken of the frame so far. -/
inductive Rx where
  | hunt
  | length
  | kind (len : Nat)
  | tag (len : Nat) (kind : Byte)
  | payload (len : Nat) (kind tag : Byte) (got : List Byte)
  | checkHigh (f : Frame)
  | checkLow (f : Frame) (high : Byte)
  deriving DecidableEq, Repr

structure Lif where
  rx : Rx := .hunt
  gap : Timer := .stopped
  /-- after a stop-bit error, until the line has been idle for one bit time (R192) -/
  waitIdle : Bool := false
  /-- the receive queue; its head is being answered while `tx` holds a reply -/
  queue : List Frame := []
  /-- the reply being sent: kind, tag and payload with the status first (R197) -/
  tx : Option Frame := none
  errors : Nat := 0
  attention : Attention := {}
  silence : Bool := true
  startupSilence : Bool := true
  silenceTimer : Timer := .stopped
  linkMark : Bool := true
  hold : Bool := false
  holdTimer : Timer := .stopped
  spent : Bool := false
  /-- times the period in which the receive line is low (R209) -/
  lowTimer : Timer := .stopped
  breakLatched : Bool := false
  deriving DecidableEq, Repr

/-! ### The whole part -/

/-- The input levels that a reset of the part does not change: they belong to the outside. -/
structure Pins where
  /-- nRST is low -/
  nrstLow : Bool := false
  /-- VB is below 6 000 mV -/
  brownOut : Bool := false
  /-- HOLD is asserted -/
  holdAsserted : Bool := false
  deriving DecidableEq, Repr

/-- The MODEL's own: the earliest moment (µs) of the next event of each periodic source, so that a
periodic command falls one period after the one before it (assumption 2). -/
structure Sched where
  vb : Nat := 2000
  lines : Vector Nat 32 := .ofFn fun n => 125 * n.val
  channels : Vector Nat 6 := .replicate 6 0
  needles : Vector Nat 6 := .replicate 6 0
  pass : Nat := 0
  flash : Nat := 0
  lamps : Vector Nat 24 := .replicate 24 0
  sleep : Nat := 0
  deriving DecidableEq, Repr

structure State where
  /-- the MODEL's own: the commands that wait, first in first out -/
  pending : List Instr := []
  /-- the MODEL's own: the present moment in µs (assumption 2) -/
  now : Nat := 0
  /-- the MODEL's own: how many free values have been used (Config.lean) -/
  freeCount : Nat := 0
  sched : Sched := {}
  pins : Pins := {}
  mctl : Mctl := {}
  hlm : Hlm := {}
  gve : Gve := {}
  ndr : Ndr := {}
  wev : Wev := {}
  pru : Pru := {}
  dmn : Dmn := {}
  fmy : Fmy := {}
  wsv : Wsv := {}
  lif : Lif := {}
  /-- the tables in force (R212) -/
  tables : Tables := {}
  /-- the written copy, which exists in SETUP (R212) -/
  written : Option Tables := none
  nv : Nv := {}
  deriving DecidableEq, Repr

/-- The part right after a power-on reset: STARTUP begins (R18 and the reset tables of the chapters). -/
def State.reset : State := {}

/-- The reasons a step can stop with a fault. There is none: the manual gives every command an effect
or none, and no state in which the part stops (safe: no fault is ever raised). -/
inductive Fault where
  deriving DecidableEq, Repr

/-- The reasons a step can be refused. -/
inductive Refusal where
  /-- Raised by an arm of `exec` whose command has no meaning yet; no arm is left so (safe: the model
  stops where the part goes on). -/
  | notModelled (mnemonic : String)
  deriving DecidableEq, Repr

end Sys2Proof.Machine
end

