-- ==== Sys2Proof/Machine/Ops.lean ====
section
/-! DEFINITION. The operations every block shares: time and timers, updates of one block or one record,
attention causes, service counters, and the readings that several chapters use (speed, qualifiers,
logical values, ILK). -/

namespace Sys2Proof.Machine

/-- The answer of every command. -/
abbrev Answer := Host.Outcome State Fault Refusal

/-! ### Records of a fixed number -/

/-- Replace the `i`-th of a fixed number of like things. -/
def updAt {α : Type} {n : Nat} (v : Vector α n) (i : Fin n) (f : α → α) : Vector α n :=
  v.set i (f v[i])

/-- Replace every one of them. -/
def updAll {α : Type} {n : Nat} (v : Vector α n) (f : Fin n → α → α) : Vector α n :=
  Vector.ofFn fun i => f i v[i]

/-- Take the numbered objects of a kind in index order. -/
def forEach {n : Nat} (f : Fin n → State → State) (s : State) : State :=
  (List.finRange n).foldl (fun s i => f i s) s

/-! ### Time (0.6) -/

/-- Milliseconds in µs. -/
def ms (n : Nat) : Nat := 1000 * n

def Timer.elapsed (t : Timer) (now : Nat) : Nat :=
  match t with
  | .stopped => 0
  | .running since => ((now : Int) - since).toNat
  | .paused e => e

def Timer.isRunning (t : Timer) : Bool :=
  match t with
  | .running _ => true
  | _ => false

/-- Pause a timer: it keeps its elapsed time (0.6). -/
def Timer.pause (t : Timer) (now : Nat) : Timer :=
  match t with
  | .running _ => .paused (t.elapsed now)
  | _ => t

/-- Resume a paused timer from its elapsed time (0.6). -/
def Timer.resume (t : Timer) (now : Nat) : Timer :=
  match t with
  | .paused e => .running ((now : Int) - e)
  | _ => t

/-- Start a timer at 0, paused if it may not run now. -/
def Timer.start (now : Nat) (mayRun : Bool) : Timer :=
  if mayRun then .running now else .paused 0

/-- Let time pass to the moment `t`, if it is still to come. -/
def State.reach (s : State) (t : Int) : State := { s with now := max s.now t.toNat }

/-- The event at which a running timer reaches its figure: the moment is the one at which it does
(assumption 2). A timer that is not running has no such event. -/
def atExpiry (t : Timer) (figure : Nat) (k : State → State) (s : State) : State :=
  match t with
  | .running since => k (s.reach (since + figure))
  | _ => s

/-! ### Updates of one block -/

def State.modMctl (s : State) (f : Mctl → Mctl) : State := { s with mctl := f s.mctl }
def State.modHlm (s : State) (f : Hlm → Hlm) : State := { s with hlm := f s.hlm }
def State.modGve (s : State) (f : Gve → Gve) : State := { s with gve := f s.gve }
def State.modNdr (s : State) (f : Ndr → Ndr) : State := { s with ndr := f s.ndr }
def State.modWev (s : State) (f : Wev → Wev) : State := { s with wev := f s.wev }
def State.modPru (s : State) (f : Pru → Pru) : State := { s with pru := f s.pru }
def State.modDmn (s : State) (f : Dmn → Dmn) : State := { s with dmn := f s.dmn }
def State.modFmy (s : State) (f : Fmy → Fmy) : State := { s with fmy := f s.fmy }
def State.modWsv (s : State) (f : Wsv → Wsv) : State := { s with wsv := f s.wsv }
def State.modLif (s : State) (f : Lif → Lif) : State := { s with lif := f s.lif }
def State.modSched (s : State) (f : Sched → Sched) : State := { s with sched := f s.sched }

def State.modLine (s : State) (n : Fin 32) (f : LineRec → LineRec) : State :=
  s.modHlm fun h => { h with lines := updAt h.lines n f }
def State.modUnit (s : State) (u : Fin 2) (f : Capture → Capture) : State :=
  s.modGve fun g => { g with units := updAt g.units u f }
def State.modChannel (s : State) (k : Fin 6) (f : Channel → Channel) : State :=
  s.modGve fun g => { g with channels := updAt g.channels k f }
def State.modNeedle (s : State) (k : Fin 6) (f : Needle → Needle) : State :=
  s.modNdr fun d => { d with needles := updAt d.needles k f }
def State.modRule (s : State) (m : Fin 64) (f : RuleRec → RuleRec) : State :=
  s.modWev fun w => { w with rules := updAt w.rules m f }
def State.modLamp (s : State) (n : Fin 24) (f : Lamp → Lamp) : State :=
  s.modPru fun p => { p with lamps := updAt p.lamps n f }
def State.modDoor (s : State) (d : Fin 4) (f : Door → Door) : State :=
  s.modDmn fun m => { m with doors := updAt m.doors d f }

/-! ### Records by number -/

def State.line (s : State) (n : Fin 32) : LineRec := s.hlm.lines[n]
def State.unit (s : State) (u : Fin 2) : Capture := s.gve.units[u]
def State.channel (s : State) (k : Fin 6) : Channel := s.gve.channels[k]
def State.needle (s : State) (k : Fin 6) : Needle := s.ndr.needles[k]
def State.rule (s : State) (m : Fin 64) : RuleRec := s.wev.rules[m]
def State.lamp (s : State) (n : Fin 24) : Lamp := s.pru.lamps[n]
def State.door (s : State) (d : Fin 4) : Door := s.dmn.doors[d]
def State.lineCfg (s : State) (n : Fin 32) : LineCfg := s.tables.lines[n]
def State.channelCfg (s : State) (k : Fin 6) : ChannelCfg := s.tables.channels[k]
def State.ruleCfg (s : State) (m : Fin 64) : RuleCfg := s.tables.rules[m]
def State.lampCfg (s : State) (n : Fin 24) : LampCfg := s.tables.lamps[n]
def State.doorCfg (s : State) (d : Fin 4) : DoorCfg := s.tables.doors[d]

/-! ### Resets, modes and supply -/

/-- R16: nRST low, or VB below 6 000 mV, holds the part in reset. -/
def State.heldInReset (s : State) : Bool := s.pins.nrstLow || s.pins.brownOut

/-- A command reaches the part only while it is not held in reset (R16; assumption 9). -/
def live (k : State → State) (s : State) : Answer :=
  .next (if s.heldInReset then s else k s)

/-- The modes in which ignition is on and the services run (R10). -/
def Mode.isRunning : Mode → Bool
  | .run | .workshop => true
  | _ => false

/-- The modes in which the host-silence timer may run (R202). -/
def Mode.isTimed : Mode → Bool
  | .run | .workshop | .standby => true
  | _ => false

/-- R166: a nonvolatile write may start in NORMAL and LOW only. -/
def Supply.allowsWrite : Supply → Bool
  | .normal | .low => true
  | _ => false

def State.mode (s : State) : Mode := s.mctl.mode
def State.supply (s : State) : Supply := s.mctl.supply

/-! ### Attention (R201) -/

def Attention.raise (c : Cause) (a : Attention) : Attention :=
  match c with
  | .reset => { a with reset := true }
  | .supply => { a with supply := true }
  | .line => { a with line := true }
  | .warn => { a with warn := true }
  | .door => { a with door := true }
  | .fault => { a with fault := true }
  | .lost => { a with lost := true }
  | .link => { a with link := true }
  | .opdone => { a with opdone := true }
  | .hold => { a with hold := true }
  | .hostsil => { a with hostsil := true }
  | .mode => { a with mode := true }

def Attention.has (a : Attention) : Cause → Bool
  | .reset => a.reset
  | .supply => a.supply
  | .line => a.line
  | .warn => a.warn
  | .door => a.door
  | .fault => a.fault
  | .lost => a.lost
  | .link => a.link
  | .opdone => a.opdone
  | .hold => a.hold
  | .hostsil => a.hostsil
  | .mode => a.mode

/-- Set an attention cause; setting one that is present leaves it present (R201). -/
def State.attend (s : State) (c : Cause) : State :=
  s.modLif fun l => { l with attention := l.attention.raise c }

/-- R201: ATTN is asserted exactly while the attention summary is non-empty. -/
def State.attn (s : State) : Bool :=
  let a := s.lif.attention
  a.reset || a.supply || a.line || a.warn || a.door || a.fault || a.lost || a.link || a.opdone
    || a.hold || a.hostsil || a.mode

/-! ### Service counters (R173) -/

def counterMax : Nat := 4294967295

/-- Places 0..3, 4..7: door cycles and obstructions of D1..D4 (R189). -/
def cyclePlace (d : Fin 4) : Fin 12 := ⟨d.val, by omega⟩
def obstructionPlace (d : Fin 4) : Fin 12 := ⟨4 + d.val, by omega⟩
def overridePlace : Fin 12 := 8
def ignitionPlace : Fin 12 := 9
def minutePlace : Fin 12 := 10
def silencePlace : Fin 12 := 11

/-- R173: an increment raises a counter by 1; at 4 294 967 295 it stays. -/
def State.bump (s : State) (c : Fin 12) : State :=
  s.modFmy fun m => { m with counters := updAt m.counters c fun v => min (v + 1) counterMax }

def State.counter (s : State) (c : Fin 12) : Nat := s.fmy.counters[c]

/-! ### Lines and roles -/

/-- R26: the logical value follows the accepted class; `none` is UNKNOWN. -/
def logicalOf : Option LineClass → Logical
  | some .active => .active
  | some .inactive => .inactive
  | _ => .invalid

def State.logical (s : State) (n : Fin 32) : Logical := logicalOf (s.line n).accepted

def RoleCfg.of (c : RoleCfg) : Role → Option (Fin 32)
  | .ackButton => c.ackButton
  | .releaseButton => c.releaseButton
  | .override => c.override
  | .parkingBrake => c.parkingBrake
  | .kneel => c.kneel

/-- R22: the logical value of the line that a role names; none for a role that names no line. -/
def State.roleValue (s : State) (r : Role) : Option Logical :=
  (s.tables.roles.of r).map s.logical

/-- An INVALID OVERRIDE line counts as INACTIVE (R150). -/
def State.overrideActive (s : State) : Bool := s.roleValue .override == some .active

/-! ### Speed and qualifiers (R58, R59, R132) -/

/-- The channel with the SPEED role (at most one by R214). -/
def State.speedChannel (s : State) : Option (Fin 6) :=
  (List.finRange 6).find? fun k => (s.channelCfg k).hasSpeedRole

/-- A value is known in VALID and STALE (R43). -/
def ChannelState.known : ChannelState → Bool
  | .valid | .stale => true
  | _ => false

def State.knownE (s : State) (k : Fin 6) : Option Int :=
  if (s.channel k).st.known then (s.channel k).e else none

def State.knownF (s : State) (k : Fin 6) : Option Int :=
  if (s.channel k).st.known then (s.channel k).f else none

/-- R58: the speed is E of the SPEED channel while that channel is VALID or STALE. -/
def State.speed (s : State) : Option Int := s.speedChannel.bind s.knownE

/-- R59, STANDING. -/
def State.standing (s : State) : Bool :=
  match s.speed with
  | some e => e ≤ s.tables.general.releaseSpeed || s.roleValue .parkingBrake == some .active
  | none => s.roleValue .parkingBrake == some .active

/-- R59, MOVING. -/
def State.moving (s : State) : Bool :=
  match s.speed with
  | some e => e > s.tables.general.releaseSpeed && s.roleValue .parkingBrake != some .active
  | none => false

/-- R132: the speed is above the withdraw speed when it is known and greater. -/
def State.aboveWithdraw (s : State) : Bool :=
  match s.speed with
  | some e => e > s.tables.general.withdrawSpeed
  | none => false

/-- R149: ILK is asserted in FORCED, HELD and DELAY. -/
def Interlock.ilk : Interlock → Bool
  | .free | .overridden => false
  | _ => true

def State.ilk (s : State) : Bool := s.dmn.interlock.ilk

/-! ### Free values -/

/-- A fresh free value: the state with the counter advanced, and the number to apply it to. -/
def State.fresh (s : State) : State × Nat := ({ s with freeCount := s.freeCount + 1 }, s.freeCount)

end Sys2Proof.Machine
end

