-- ==== Sys2Proof/Machine/Codes.lean ====
section
/-! DEFINITION. The numeric codes of the mnemonics, each list in numeric order from 0 (R210), and the
fault codes as class, index and symptom (8.1). -/

namespace Sys2Proof.Machine

/-! ### Codes -/

def Mode.code : Mode → Nat
  | .startup => 0
  | .unconfigured => 1
  | .setup => 2
  | .standby => 3
  | .run => 4
  | .workshop => 5
  | .sleep => 6

def Supply.code : Supply → Nat
  | .normal => 0
  | .low => 1
  | .crank => 2
  | .high => 3

def ResetCause.code : ResetCause → Nat
  | .powerOn => 0
  | .brownOut => 1
  | .pin => 2
  | .linkBreak => 3
  | .restart => 4

def IgnState.code : IgnState → Nat
  | .unknown => 0
  | .inactive => 1
  | .active => 2

def LineFn.code : LineFn → Nat
  | .off => 0
  | .switchGnd => 1
  | .switchBat => 2
  | .switchCoded => 3
  | .analogRatio => 4
  | .analogVolt => 5
  | .pulse => 6

def Bias.code : Bias → Nat
  | .unbiased => 0
  | .pullUp => 1
  | .pullDown => 2

def LineClass.code : LineClass → Nat
  | .active => 0
  | .inactive => 1
  | .invalid => 2
  | .faultOpen => 3
  | .faultShortGnd => 4
  | .faultShortBat => 5

def Logical.code : Logical → Nat
  | .active => 0
  | .inactive => 1
  | .invalid => 2

def FaultStatus.code : FaultStatus → Nat
  | .clear => 0
  | .pending => 1
  | .confirmed => 2
  | .healing => 3

def LineSym.code : LineSym → Nat
  | .openWire => 0
  | .shortGnd => 1
  | .shortBat => 2

def Source.code : Source → Nat
  | .unused => 0
  | .line => 1
  | .pulse => 2
  | .host => 3

def ChannelState.code : ChannelState → Nat
  | .init => 0
  | .valid => 1
  | .stale => 2
  | .lost => 3
  | .fault => 4

def NeedleState.code : NeedleState → Nat
  | .homingWaiting => 0
  | .homingDriving => 1
  | .tracking => 2
  | .sweepUp => 3
  | .sweepReturn => 4
  | .parked => 5
  | .forced => 6
  | .suspended => 7

def RuleState.code : RuleState → Nat
  | .off => 0
  | .pending => 1
  | .activeNew => 2
  | .activeAck => 3
  | .latchedNew => 4
  | .latchedAck => 5

def TermResult.code : TermResult → Nat
  | .no => 0
  | .yes => 1
  | .invalid => 2

def Combine.code : Combine → Nat
  | .all => 0
  | .any => 1
  | .firstNotRest => 2
  | .twoOfThree => 3

def OnInvalid.code : OnInvalid → Nat
  | .no => 0
  | .yes => 1
  | .hold => 2

def Qualifier.code : Qualifier → Nat
  | .always => 0
  | .ignOn => 1
  | .moving => 2
  | .standing => 3
  | .notCrank => 4

def Latch.code : Latch → Nat
  | .unlatched => 0
  | .untilAck => 1
  | .untilIgnition => 2

def Level.code : Level → Nat
  | .off => 0
  | .on => 1
  | .flashSlow => 2
  | .flashFast => 3

def LampStatus.code : LampStatus → Nat
  | .unsettled => 0
  | .good => 1
  | .confirmed => 2

def DoorState.code : DoorState → Nat
  | .closedLocked => 0
  | .closed => 1
  | .opening => 2
  | .opened => 3
  | .closing => 4
  | .obstructed => 5
  | .emergency => 6
  | .unknown => 7

def Interlock.code : Interlock → Nat
  | .forced => 0
  | .held => 1
  | .delay => 2
  | .free => 3
  | .overridden => 4

def SourceClass.code : SourceClass → Nat
  | .line => 0
  | .gauge => 1
  | .lamp => 2
  | .door => 3
  | .rule => 4
  | .supply => 5
  | .link => 6
  | .store => 7

def GaugeSym.code : GaugeSym → Nat
  | .lost => 0
  | .pulseNoise => 1

def LampSym.code : LampSym → Nat
  | .openWire => 0
  | .short => 1

def DoorSym.code : DoorSym → Nat
  | .inconsistent => 0
  | .notLocked => 1
  | .openEndMissing => 2
  | .closeTimeout => 3
  | .repeatedObstruction => 4
  | .openWhileMoving => 5

def SupplySym.code : SupplySym → Nat
  | .high => 0
  | .low => 1

def LineTest.code : LineTest → Nat
  | .active => 0
  | .inactive => 1
  | .faulted => 2

def DoorTest.code : DoorTest → Nat
  | .stateMask => 0
  | .flag => 1
  | .interlock => 2

def Status.code : Status → Nat
  | .ok => 0
  | .accepted => 1
  | .busy => 2
  | .refusedMode => 3
  | .refusedArg => 4
  | .unknownKind => 5
  | .denied => 6

/-! ### The mnemonic of a code; `none` for a code out of the list -/

def Mode.ofCode : Nat → Option Mode
  | 0 => some .startup
  | 1 => some .unconfigured
  | 2 => some .setup
  | 3 => some .standby
  | 4 => some .run
  | 5 => some .workshop
  | 6 => some .sleep
  | _ => none

def LineFn.ofCode : Nat → Option LineFn
  | 0 => some .off
  | 1 => some .switchGnd
  | 2 => some .switchBat
  | 3 => some .switchCoded
  | 4 => some .analogRatio
  | 5 => some .analogVolt
  | 6 => some .pulse
  | _ => none

def Bias.ofCode : Nat → Option Bias
  | 0 => some .unbiased
  | 1 => some .pullUp
  | 2 => some .pullDown
  | _ => none

def LineClass.ofCode : Nat → Option LineClass
  | 0 => some .active
  | 1 => some .inactive
  | 2 => some .invalid
  | 3 => some .faultOpen
  | 4 => some .faultShortGnd
  | 5 => some .faultShortBat
  | _ => none

def LineSym.ofCode : Nat → Option LineSym
  | 0 => some .openWire
  | 1 => some .shortGnd
  | 2 => some .shortBat
  | _ => none

def Source.ofCode : Nat → Option Source
  | 0 => some .unused
  | 1 => some .line
  | 2 => some .pulse
  | 3 => some .host
  | _ => none

def Combine.ofCode : Nat → Option Combine
  | 0 => some .all
  | 1 => some .any
  | 2 => some .firstNotRest
  | 3 => some .twoOfThree
  | _ => none

def OnInvalid.ofCode : Nat → Option OnInvalid
  | 0 => some .no
  | 1 => some .yes
  | 2 => some .hold
  | _ => none

def Qualifier.ofCode : Nat → Option Qualifier
  | 0 => some .always
  | 1 => some .ignOn
  | 2 => some .moving
  | 3 => some .standing
  | 4 => some .notCrank
  | _ => none

def Latch.ofCode : Nat → Option Latch
  | 0 => some .unlatched
  | 1 => some .untilAck
  | 2 => some .untilIgnition
  | _ => none

def Level.ofCode : Nat → Option Level
  | 0 => some .off
  | 1 => some .on
  | 2 => some .flashSlow
  | 3 => some .flashFast
  | _ => none

def SourceClass.ofCode : Nat → Option SourceClass
  | 0 => some .line
  | 1 => some .gauge
  | 2 => some .lamp
  | 3 => some .door
  | 4 => some .rule
  | 5 => some .supply
  | 6 => some .link
  | 7 => some .store
  | _ => none

def GaugeSym.ofCode : Nat → Option GaugeSym
  | 0 => some .lost
  | 1 => some .pulseNoise
  | _ => none

def LampSym.ofCode : Nat → Option LampSym
  | 0 => some .openWire
  | 1 => some .short
  | _ => none

def DoorSym.ofCode : Nat → Option DoorSym
  | 0 => some .inconsistent
  | 1 => some .notLocked
  | 2 => some .openEndMissing
  | 3 => some .closeTimeout
  | 4 => some .repeatedObstruction
  | 5 => some .openWhileMoving
  | _ => none

def SupplySym.ofCode : Nat → Option SupplySym
  | 0 => some .high
  | 1 => some .low
  | _ => none

def LineTest.ofCode : Nat → Option LineTest
  | 0 => some .active
  | 1 => some .inactive
  | 2 => some .faulted
  | _ => none

def DoorTest.ofCode : Nat → Option DoorTest
  | 0 => some .stateMask
  | 1 => some .flag
  | 2 => some .interlock
  | _ => none

/-- Chime class and pattern share the list none, SINGLE, REPEAT_SLOW, REPEAT_FAST, CONTINUOUS. -/
def patternCode : Option Pattern → Nat
  | none => 0
  | some .single => 1
  | some .repeatSlow => 2
  | some .repeatFast => 3
  | some .continuous => 4

def patternOfCode : Nat → Option (Option Pattern)
  | 0 => some none
  | 1 => some (some .single)
  | 2 => some (some .repeatSlow)
  | 3 => some (some .repeatFast)
  | 4 => some (some .continuous)
  | _ => none

/-- Accepted class: the six classes, then UNKNOWN. -/
def acceptedCode : Option LineClass → Nat
  | some c => c.code
  | none => 6

/-- Reported symptom: NONE, OPEN, SHORT_GND, SHORT_BAT, ANY. -/
def RepSym.code : RepSym → Nat
  | .nothing => 0
  | .sym y => 1 + y.code
  | .any => 4

/-- An index field: 0xFF means "none" (R210). -/
def indexCode {n : Nat} : Option (Fin n) → Nat
  | some i => i.val
  | none => 0xFF

/-! ### Kinds (R198, R211) -/

/-- R198: the kinds answered OK with no effect. -/
def isNoEffectKind (k : Byte) : Bool := 0x60 ≤ k.toNat && k.toNat ≤ 0x6F

/-- R211: the kinds with a request assigned. -/
def assignedKinds : List Nat :=
  [0x01, 0x02, 0x03, 0x04, 0x05, 0x08, 0x09, 0x0A, 0x10, 0x11, 0x14, 0x15, 0x16, 0x18, 0x19, 0x1A,
   0x1C, 0x1D, 0x1E, 0x20, 0x21, 0x22, 0x23, 0x70, 0x71, 0x72, 0x73, 0x74, 0x75, 0x76]

/-- R198: a request kind (below 0x80) that is neither assigned nor in the range answered OK. -/
def isUnknownKind (k : Byte) : Bool :=
  k.toNat < 0x80 && !isNoEffectKind k && !assignedKinds.contains k.toNat

/-! ### Fault codes (8.1) -/

def FaultCode.sourceClass : FaultCode → SourceClass
  | .line _ _ => .line
  | .gauge _ _ => .gauge
  | .lamp _ _ => .lamp
  | .door _ _ | .override => .door
  | .rule _ => .rule
  | .supply _ => .supply
  | .hostSilent => .link
  | .imageBad | .slotLost _ => .store

/-- The index of a code as it travels: door sets are numbered 1 to 4, OVERRIDE has index 0. -/
def FaultCode.index : FaultCode → Nat
  | .line n _ => n.val
  | .gauge k _ => k.val
  | .lamp n _ => n.val
  | .door d _ => d.val + 1
  | .rule m => m.val
  | .slotLost n => n.val
  | .override | .supply _ | .hostSilent | .imageBad => 0

/-- The symptoms of each class in the order of the table of 8.1. -/
def FaultCode.symptom : FaultCode → Nat
  | .line _ y => y.code
  | .gauge _ y => y.code
  | .lamp _ y => y.code
  | .door _ y => y.code
  | .override => 6
  | .rule _ => 0
  | .supply y => y.code
  | .hostSilent => 0
  | .imageBad => 0
  | .slotLost _ => 1

/-- A number below a bound, or nothing. -/
def finOf (n v : Nat) : Option (Fin n) := if h : v < n then some ⟨v, h⟩ else none

/-- R187: the code of a class, index and symptom, or nothing outside the code space of 8.1. -/
def FaultCode.ofWire (cls index symptom : Nat) : Option FaultCode :=
  match SourceClass.ofCode cls with
  | some .line => do return .line (← finOf 32 index) (← LineSym.ofCode symptom)
  | some .gauge => do return .gauge (← finOf 6 index) (← GaugeSym.ofCode symptom)
  | some .lamp => do return .lamp (← finOf 24 index) (← LampSym.ofCode symptom)
  | some .door =>
    if symptom = 6 then (if index = 0 then some .override else none)
    else if index = 0 then none
    else do return .door (← finOf 4 (index - 1)) (← DoorSym.ofCode symptom)
  | some .rule => if symptom = 0 then (finOf 64 index).map .rule else none
  | some .supply => if index = 0 then (SupplySym.ofCode symptom).map .supply else none
  | some .link => if index = 0 ∧ symptom = 0 then some .hostSilent else none
  | some .store =>
    if symptom = 0 then (if index = 0 then some .imageBad else none)
    else if symptom = 1 then (finOf 49 index).map .slotLost
    else none
  | none => none

/-- The class priorities of 8.1; a RULE code carries its rule's own priority. -/
def FaultCode.priority (t : Tables) : FaultCode → Nat
  | .line _ _ => 6
  | .gauge _ _ => 5
  | .lamp _ _ => 7
  | .door _ _ => 9
  | .override => 12
  | .rule m => t.rules[m].priority
  | .supply _ => 8
  | .hostSilent => 4
  | .imageBad | .slotLost _ => 10

/-- R157: entries of class DOOR, RULE and SUPPLY have a snapshot. -/
def SourceClass.hasSnapshot : SourceClass → Bool
  | .door | .rule | .supply => true
  | _ => false

/-- R197: the status byte. -/
def Status.byte (x : Status) : Byte := BitVec.ofNat 8 x.code

end Sys2Proof.Machine
end

