-- ==== Sys2Proof/Machine/Operands.lean ====
section
/-! DEFINITION. The operand forms of requests and replies (R210): numbers of one, two and four bytes,
high byte first, signed quantities in two's complement of 16 bits, masks with object n in bit n, and
the frame check of R193. -/

namespace Sys2Proof.Machine

/-! ### Writing -/

def u8 (v : Nat) : List Byte := [BitVec.ofNat 8 v]
def u16 (v : Nat) : List Byte := [BitVec.ofNat 8 (v / 256), BitVec.ofNat 8 v]
def u32 (v : Nat) : List Byte :=
  [BitVec.ofNat 8 (v / 16777216), BitVec.ofNat 8 (v / 65536), BitVec.ofNat 8 (v / 256),
    BitVec.ofNat 8 v]
/-- A signed quantity in two's complement of 16 bits. -/
def i16 (v : Int) : List Byte := u16 (v % 65536).toNat
/-- An absent value is sent with its bytes at zero (R210). -/
def i16? (v : Option Int) : List Byte := i16 (v.getD 0)
def u16? (v : Option Nat) : List Byte := u16 (v.getD 0)

/-- A byte of flags, the first in bit 0. -/
def bits (l : List Bool) : Nat := l.foldr (fun b acc => (if b then 1 else 0) + 2 * acc) 0

/-! ### Reading: byte `i` of a payload or record, 0 past its end (lengths are checked first) -/

def rd8 (p : List Byte) (i : Nat) : Nat := (p.getD i 0).toNat
def rd16 (p : List Byte) (i : Nat) : Nat := 256 * rd8 p i + rd8 p (i + 1)
def rd32 (p : List Byte) (i : Nat) : Nat := 65536 * rd16 p i + rd16 p (i + 2)
/-- Two's complement of 16 bits. -/
def toSigned (v : Nat) : Int := if v < 32768 then (v : Int) else (v : Int) - 65536
def rdI16 (p : List Byte) (i : Nat) : Int := toSigned (rd16 p i)
/-- Bit `b` of a number. -/
def bitOf (v b : Nat) : Bool := v / 2 ^ b % 2 == 1
/-- The field of `w` bits from bit `b` up. -/
def fieldOf (v b w : Nat) : Nat := v / 2 ^ b % 2 ^ w

/-! ### The frame check (R193) -/

/-- One bit of the check with generator x^16 + x^12 + x^5 + 1. -/
def crcBit (crc : BitVec 16) : BitVec 16 :=
  if crc.msb then (crc <<< 1) ^^^ 0x1021 else crc <<< 1

/-- One byte, most significant bit first. -/
def crcByte (crc : BitVec 16) (b : Byte) : BitVec 16 :=
  let x := crc ^^^ ((b.setWidth 16) <<< 8)
  crcBit (crcBit (crcBit (crcBit (crcBit (crcBit (crcBit (crcBit x)))))))

/-- R193: the check starts from 0xFFFF and is not inverted. -/
def crc16 (l : List Byte) : BitVec 16 := l.foldl crcByte 0xFFFF

/-- The bytes the check of a frame covers: length, kind, tag and payload. -/
def Frame.covered (f : Frame) : List Byte :=
  BitVec.ofNat 8 f.payload.length :: f.kind :: f.tag :: f.payload

/-- R193: the check of a frame. -/
def Frame.check (f : Frame) : BitVec 16 := crc16 f.covered

/-- R210: a frame as it travels, marker first, check high byte first. -/
def Frame.bytes (f : Frame) : List Byte := 0x5A :: f.covered ++ u16 f.check.toNat

end Sys2Proof.Machine
end

