-- ==== Sys2Proof/Machine/Records.lean ====
section
/-! DEFINITION. The configuration records as bytes (11.3): the layout of each record both ways, the
field checks of R213, the cross-table checks of R214, and the image of R215. -/

namespace Sys2Proof.Machine

/-! ### Reading a record

`ofBytes` reads a record of the right length and refuses a code out of its list, an index out of its
range and a nonzero reserved bit; what it reads keeps every bit of the record. -/

/-- An index field of a record: 0xFF is "none", a value beyond the range is refused. -/
def rdIndex (n : Nat) (v : Nat) : Option (Option (Fin n)) :=
  if v = 0xFF then some none else (finOf n v).map some

/-- A one-byte YES/NO field (lamp-check participation, configured, in release mask) and the diagnosis byte: 0 is
NO (ENABLED), 1 is YES (SUPPRESSED), and every other value is refused. 11.3 gives the codes of the
diagnosis byte only, and R213 no check of the others (assumption 54). -/
def rdBool (v : Nat) : Option Bool :=
  if v = 0 then some false else if v = 1 then some true else none

def GeneralCfg.ofBytes (p : List Byte) : Option GeneralCfg :=
  if p.length = 11 then
    some { releaseSpeed := rd16 p 0, withdrawSpeed := rd16 p 2, inconsistency := rd16 p 4,
           agingLimit := rd8 p 6, hostSilence := rd16 p 7, lampCheck := rd16 p 9 }
  else none

def LineCfg.ofBytes (p : List Byte) : Option LineCfg :=
  if p.length = 24 ∧ rd8 p 23 < 8 then do
    return { fn := ← LineFn.ofCode (rd8 p 0), bias := ← Bias.ofCode (rd8 p 1),
             w1 := rd16 p 2, w2 := rd16 p 4, w3 := rd16 p 6, w4 := rd16 p 8, w5 := rd16 p 10,
             b0 := ← LineClass.ofCode (rd8 p 12), b1 := ← LineClass.ofCode (rd8 p 13),
             b2 := ← LineClass.ofCode (rd8 p 14), b3 := ← LineClass.ofCode (rd8 p 15),
             b4 := ← LineClass.ofCode (rd8 p 16), b5 := ← LineClass.ofCode (rd8 p 17),
             debounce := rd8 p 18, qualify := rd16 p 19, heal := rd16 p 21,
             suppressed := bitOf (rd8 p 23) 0, unitC1 := bitOf (rd8 p 23) 1,
             falling := bitOf (rd8 p 23) 2 }
  else none

def RoleCfg.ofBytes (p : List Byte) : Option RoleCfg :=
  if p.length = 5 then do
    return { ackButton := ← rdIndex 32 (rd8 p 0), releaseButton := ← rdIndex 32 (rd8 p 1),
             override := ← rdIndex 32 (rd8 p 2), parkingBrake := ← rdIndex 32 (rd8 p 3),
             kneel := ← rdIndex 32 (rd8 p 4) }
  else none

def ChannelCfg.ofBytes (p : List Byte) : Option ChannelCfg :=
  if p.length = 22 ∧ rd8 p 17 < 16 ∧ rd8 p 21 = 0 then do
    return { source := ← Source.ofCode (rd8 p 0), input := rd8 p 1, emin := rdI16 p 2,
             emax := rdI16 p 4, k := rd32 p 6, pMin := rd16 p 10, standstill := rd16 p 12,
             feedTimeout := rd16 p 14, shift := rd8 p 16, snap := bitOf (rd8 p 17) 0,
             speedRole := bitOf (rd8 p 17) 1, homing := bitOf (rd8 p 17) 2,
             holdLast := bitOf (rd8 p 17) 3, pmax := rd16 p 18, smax := rd8 p 20 }
  else none

/-- The first number of a sensor point is unsigned (x), that of a dial point signed (E); the second
is signed (E) and unsigned (position). -/
def rdPoint (sensor : Bool) (p : List Byte) (i : Nat) : Int × Int :=
  if sensor then ((rd16 p (1 + 4 * i) : Int), rdI16 p (3 + 4 * i))
  else (rdI16 p (1 + 4 * i), (rd16 p (3 + 4 * i) : Int))

/-- A point count of 0 or 2..8, then the points, and zeros beyond them. -/
def curveOfBytes (sensor : Bool) (p : List Byte) : Option Curve :=
  let n := rd8 p 0
  if p.length = 33 ∧ (n = 0 ∨ (2 ≤ n ∧ n ≤ 8)) ∧ (p.drop (1 + 4 * n)).all (· == 0) then
    some ((List.range n).map (rdPoint sensor p))
  else none

/-- The kinds of the slots of a form (R85). -/
inductive TermKind where
  | line | value | door | rule | fault | supply
  deriving DecidableEq, Repr

def formKinds : Nat → Option (TermKind × TermKind × TermKind)
  | 0 => some (.line, .line, .line)
  | 1 => some (.line, .line, .value)
  | 2 => some (.line, .value, .value)
  | 3 => some (.value, .value, .value)
  | 4 => some (.line, .line, .door)
  | 5 => some (.door, .door, .door)
  | 6 => some (.value, .door, .door)
  | 7 => some (.line, .value, .door)
  | 8 => some (.rule, .rule, .rule)
  | 9 => some (.line, .rule, .fault)
  | 10 => some (.fault, .fault, .supply)
  | 11 => some (.value, .value, .supply)
  | _ => none

def Term.kind : Term → TermKind
  | .line _ _ => .line
  | .value _ _ _ _ _ => .value
  | .door _ _ _ _ => .door
  | .rule _ => .rule
  | .fault _ => .fault
  | .supply _ => .supply

/-- The term fields of a kind, from byte 1 of the slot (11.3). -/
def Term.ofBytes (k : TermKind) (p : List Byte) : Option Term :=
  match k with
  | .line =>
    if (p.drop 3).all (· == 0) then do
      return .line (← finOf 32 (rd8 p 1)) (← LineTest.ofCode (rd8 p 2))
    else none
  | .value =>
    if (p.drop 7).all (· == 0) ∧ rd8 p 2 < 4 then do
      return .value (← finOf 6 (rd8 p 1)) (bitOf (rd8 p 2) 0) (bitOf (rd8 p 2) 1) (rdI16 p 3)
        (rd16 p 5)
    else none
  | .door =>
    if (p.drop 5).all (· == 0) then do
      return .door (rd8 p 1) (← DoorTest.ofCode (rd8 p 2)) (rd8 p 3) (rd8 p 4)
    else none
  | .rule => if (p.drop 2).all (· == 0) then (finOf 64 (rd8 p 1)).map .rule else none
  | .fault => if (p.drop 2).all (· == 0) then (SourceClass.ofCode (rd8 p 1)).map .fault else none
  | .supply =>
    if (p.drop 2).all (· == 0) ∧ rd8 p 1 < 16 then some (.supply (rd8 p 1)) else none

/-- A slot of 8 bytes: unused and all zero, or used with the fields of its kind (R84). -/
def slotOfBytes (k : TermKind) (p : List Byte) : Option (Option Term) :=
  if rd8 p 0 = 0x80 then (Term.ofBytes k p).map some
  else if p.all (· == 0) then some none
  else none

def RuleCfg.ofBytes (p : List Byte) : Option RuleCfg :=
  if p.length = 34 ∧ fieldOf (rd8 p 0) 4 3 = 0 ∧ ¬ bitOf (rd8 p 4) 7 ∧ rd8 p 8 < 16 ∧ rd8 p 9 = 0
  then do
    let form := fieldOf (rd8 p 0) 0 4
    let (k0, k1, k2) ← formKinds form
    return { enabled := bitOf (rd8 p 0) 7, form := form,
             combine := ← Combine.ofCode (fieldOf (rd8 p 1) 0 2),
             onInvalid := ← OnInvalid.ofCode (fieldOf (rd8 p 1) 2 2),
             qualifier := ← Qualifier.ofCode (fieldOf (rd8 p 1) 4 3),
             qualClear := bitOf (rd8 p 1) 7, onset := rd8 p 2, release := rd8 p 3,
             latch := ← Latch.ofCode (fieldOf (rd8 p 4) 0 2), popup := bitOf (rd8 p 4) 2,
             record := bitOf (rd8 p 4) 3, chime := ← patternOfCode (fieldOf (rd8 p 4) 4 3),
             reminder := rd8 p 5, priority := rd8 p 6, lamp := ← rdIndex 24 (rd8 p 7),
             lampNew := ← Level.ofCode (fieldOf (rd8 p 8) 0 2),
             lampAcked := ← Level.ofCode (fieldOf (rd8 p 8) 2 2),
             slot0 := ← slotOfBytes k0 ((p.drop 10).take 8),
             slot1 := ← slotOfBytes k1 ((p.drop 18).take 8),
             slot2 := ← slotOfBytes k2 ((p.drop 26).take 8) }
  else none

def LampCfg.ofBytes (p : List Byte) : Option LampCfg :=
  if p.length = 3 then do
    return { suppressed := ← rdBool (rd8 p 0), fallback := ← rdIndex 24 (rd8 p 1),
             participates := ← rdBool (rd8 p 2) }
  else none

def DoorCfg.ofBytes (p : List Byte) : Option DoorCfg :=
  if p.length = 14 then do
    return { configured := ← rdBool (rd8 p 0), closed := ← rdIndex 32 (rd8 p 1),
             locked := ← rdIndex 32 (rd8 p 2), openEnd := ← rdIndex 32 (rd8 p 3),
             edge := ← rdIndex 32 (rd8 p 4), emergency := ← rdIndex 32 (rd8 p 5),
             ramp := ← rdIndex 32 (rd8 p 6), inMask := ← rdBool (rd8 p 7),
             openTimeout := rd16 p 8, closeTimeout := rd16 p 10, lockTimeout := rd16 p 12 }
  else none

/-! ### Writing a record -/

def GeneralCfg.toBytes (c : GeneralCfg) : List Byte :=
  u16 c.releaseSpeed ++ u16 c.withdrawSpeed ++ u16 c.inconsistency ++ u8 c.agingLimit
    ++ u16 c.hostSilence ++ u16 c.lampCheck

def LineCfg.toBytes (c : LineCfg) : List Byte :=
  u8 c.fn.code ++ u8 c.bias.code ++ u16 c.w1 ++ u16 c.w2 ++ u16 c.w3 ++ u16 c.w4 ++ u16 c.w5
    ++ u8 c.b0.code ++ u8 c.b1.code ++ u8 c.b2.code ++ u8 c.b3.code ++ u8 c.b4.code ++ u8 c.b5.code
    ++ u8 c.debounce ++ u16 c.qualify ++ u16 c.heal ++ u8 (bits [c.suppressed, c.unitC1, c.falling])

def RoleCfg.toBytes (c : RoleCfg) : List Byte :=
  u8 (indexCode c.ackButton) ++ u8 (indexCode c.releaseButton) ++ u8 (indexCode c.override)
    ++ u8 (indexCode c.parkingBrake) ++ u8 (indexCode c.kneel)

def ChannelCfg.toBytes (c : ChannelCfg) : List Byte :=
  u8 c.source.code ++ u8 c.input ++ i16 c.emin ++ i16 c.emax ++ u32 c.k ++ u16 c.pMin
    ++ u16 c.standstill ++ u16 c.feedTimeout ++ u8 c.shift
    ++ u8 (bits [c.snap, c.speedRole, c.homing, c.holdLast]) ++ u16 c.pmax ++ u8 c.smax ++ u8 0

def curveToBytes (c : Curve) : List Byte :=
  u8 c.length ++ c.flatMap (fun q => i16 q.1 ++ i16 q.2) ++ List.replicate (32 - 4 * c.length) 0

def Term.toBytes : Term → List Byte
  | .line n t => u8 0x80 ++ u8 n.val ++ u8 t.code ++ List.replicate 5 0
  | .value k f b t h =>
    u8 0x80 ++ u8 k.val ++ u8 (bits [f, b]) ++ i16 t ++ u16 h ++ List.replicate 1 0
  | .door d t m f => u8 0x80 ++ u8 d ++ u8 t.code ++ u8 m ++ u8 f ++ List.replicate 3 0
  | .rule m => u8 0x80 ++ u8 m.val ++ List.replicate 6 0
  | .fault c => u8 0x80 ++ u8 c.code ++ List.replicate 6 0
  | .supply m => u8 0x80 ++ u8 m ++ List.replicate 6 0

def slotToBytes : Option Term → List Byte
  | none => List.replicate 8 0
  | some t => t.toBytes

def RuleCfg.toBytes (c : RuleCfg) : List Byte :=
  u8 (c.form + (if c.enabled then 128 else 0))
    ++ u8 (c.combine.code + 4 * c.onInvalid.code + 16 * c.qualifier.code
            + (if c.qualClear then 128 else 0))
    ++ u8 c.onset ++ u8 c.release
    ++ u8 (c.latch.code + (if c.popup then 4 else 0) + (if c.record then 8 else 0)
            + 16 * patternCode c.chime)
    ++ u8 c.reminder ++ u8 c.priority ++ u8 (indexCode c.lamp)
    ++ u8 (c.lampNew.code + 4 * c.lampAcked.code) ++ u8 0
    ++ slotToBytes c.slot0 ++ slotToBytes c.slot1 ++ slotToBytes c.slot2

def LampCfg.toBytes (c : LampCfg) : List Byte :=
  u8 (if c.suppressed then 1 else 0) ++ u8 (indexCode c.fallback)
    ++ u8 (if c.participates then 1 else 0)

def DoorCfg.toBytes (c : DoorCfg) : List Byte :=
  u8 (if c.configured then 1 else 0) ++ u8 (indexCode c.closed) ++ u8 (indexCode c.locked)
    ++ u8 (indexCode c.openEnd) ++ u8 (indexCode c.edge) ++ u8 (indexCode c.emergency)
    ++ u8 (indexCode c.ramp) ++ u8 (if c.inMask then 1 else 0) ++ u16 c.openTimeout
    ++ u16 c.closeTimeout ++ u16 c.lockTimeout

/-! ### The tables by code and index (11.3) -/

/-- How many records a table has; `none` for a table code above 8. -/
def recordCount : Nat → Option Nat
  | 0 => some 1
  | 1 => some 32
  | 2 => some 1
  | 3 => some 6
  | 4 => some 6
  | 5 => some 6
  | 6 => some 64
  | 7 => some 24
  | 8 => some 4
  | _ => none

/-- R212: whether a table code and an index name a record. -/
def namesRecord (table index : Nat) : Bool :=
  match recordCount table with
  | some n => index < n
  | none => false

/-- The record of a table in its WRITE_TABLE layout; empty for a name of no record. -/
def Tables.recordBytes (t : Tables) (table index : Nat) : List Byte :=
  match table with
  | 0 => t.general.toBytes
  | 1 => ((finOf 32 index).map fun i => t.lines[i].toBytes).getD []
  | 2 => t.roles.toBytes
  | 3 => ((finOf 6 index).map fun i => t.channels[i].toBytes).getD []
  | 4 => ((finOf 6 index).map fun i => curveToBytes t.sensors[i]).getD []
  | 5 => ((finOf 6 index).map fun i => curveToBytes t.dials[i]).getD []
  | 6 => ((finOf 64 index).map fun i => t.rules[i].toBytes).getD []
  | 7 => ((finOf 24 index).map fun i => t.lamps[i].toBytes).getD []
  | 8 => ((finOf 4 index).map fun i => t.doors[i].toBytes).getD []
  | _ => []

/-- Replace a record by what its bytes read as; nothing where they cannot be read. -/
def Tables.setRecord (t : Tables) (table index : Nat) (p : List Byte) : Option Tables :=
  match table with
  | 0 => if index = 0 then do return { t with general := ← GeneralCfg.ofBytes p } else none
  | 1 => do
    let i ← finOf 32 index
    let r ← LineCfg.ofBytes p
    return { t with lines := t.lines.set i r }
  | 2 => if index = 0 then do return { t with roles := ← RoleCfg.ofBytes p } else none
  | 3 => do
    let i ← finOf 6 index
    let r ← ChannelCfg.ofBytes p
    return { t with channels := t.channels.set i r }
  | 4 => do
    let i ← finOf 6 index
    let r ← curveOfBytes true p
    return { t with sensors := t.sensors.set i r }
  | 5 => do
    let i ← finOf 6 index
    let r ← curveOfBytes false p
    return { t with dials := t.dials.set i r }
  | 6 => do
    let i ← finOf 64 index
    let r ← RuleCfg.ofBytes p
    return { t with rules := t.rules.set i r }
  | 7 => do
    let i ← finOf 24 index
    let r ← LampCfg.ofBytes p
    return { t with lamps := t.lamps.set i r }
  | 8 => do
    let i ← finOf 4 index
    let r ← DoorCfg.ofBytes p
    return { t with doors := t.doors.set i r }
  | _ => none

/-! ### The field checks (R213) -/

def within (lo v hi : Nat) : Bool := lo ≤ v && v ≤ hi

def GeneralCfg.ok (c : GeneralCfg) : Bool :=
  c.releaseSpeed ≤ 200 && within 1 c.withdrawSpeed 400 && c.releaseSpeed ≤ c.withdrawSpeed
    && within 100 c.inconsistency 2000 && c.inconsistency % 100 == 0 && within 1 c.agingLimit 100
    && within 100 c.hostSilence 2000 && c.lampCheck ≤ 5000

/-- R20: the bias that suits a function. -/
def LineCfg.biasOk (c : LineCfg) : Bool :=
  match c.fn with
  | .switchGnd => c.bias == .pullUp
  | .switchBat => c.bias == .pullDown
  | .off => c.bias == .unbiased
  | _ => true

/-- R20, R213, with the readings of assumption 12 for OFF and PULSE. -/
def LineCfg.ok (c : LineCfg) : Bool :=
  c.biasOk &&
  match c.fn with
  | .off => c == {}
  | .pulse =>
    c.w1 < c.w2 && c.w2 ≤ 10000 && c.w3 == 0 && c.w4 == 0 && c.w5 == 0
      && [c.b0, c.b1, c.b2, c.b3, c.b4, c.b5].all (·.code == 0)
      && c.qualify == 0 && c.heal == 0 && !c.suppressed
  | fn =>
    c.w1 < c.w2 && c.w2 < c.w3 && c.w3 < c.w4 && c.w4 < c.w5
      && c.w5 ≤ (if fn = .analogVolt then 40000 else 10000)
      && within 1 c.debounce 32 && within 20 c.qualify 2000 && within 20 c.heal 5000

/-- The lines that the roles name, in role order. -/
def RoleCfg.named (c : RoleCfg) : List (Fin 32) :=
  [c.ackButton, c.releaseButton, c.override, c.parkingBrake, c.kneel].filterMap id

def Tables.isPulse (t : Tables) (n : Fin 32) : Bool := t.lines[n].fn == .pulse

/-- R22: no line in two roles, no role on a PULSE line. -/
def Tables.rolesOk (t : Tables) : Bool :=
  decide t.roles.named.Nodup && t.roles.named.all (!t.isPulse ·)

def curvePositionsOk (c : Curve) (pmax : Nat) : Bool := c.all fun q => q.2 ≤ pmax

/-- R42, R64 and the ranges of 3.1; a field that the source does not use is stored as written
(assumption 13). -/
def Tables.channelOk (t : Tables) (k : Fin 6) : Bool :=
  let c := t.channels[k]
  (match c.source with
   | .unused => true
   | .line => c.emin < c.emax && c.shift ≤ 7 && c.input < 32
   | .pulse =>
     c.emin ≤ 0 && 0 < c.emax && c.shift ≤ 7 && c.input < 2 && 1 ≤ c.k && within 50 c.pMin 5000
       && within 500 c.standstill 4000
   | .host => c.emin < c.emax && c.shift ≤ 7 && within 100 c.feedTimeout 2000)
    && within 240 c.pmax 3840 && within 1 c.smax 24 && curvePositionsOk t.dials[k] c.pmax

/-- Strictly increasing first coordinates. -/
def increasing (c : Curve) : Bool := (c.zip (c.drop 1)).all fun q => q.1.1 < q.2.1

def Tables.dialOk (t : Tables) (k : Fin 6) : Bool :=
  increasing t.dials[k] && curvePositionsOk t.dials[k] t.channels[k].pmax

/-- The checks of R84 on one term; the fields a door test does not use are stored as written. -/
def Tables.termOk (t : Tables) : Term → Bool
  | .line n _ => !t.isPulse n
  | .value _ _ _ _ h => h ≤ 1000
  | .door d .stateMask _ _ => within 1 d 4
  | .door d .flag _ f => within 1 d 4 && f ≤ 3
  | .door _ .interlock _ _ => true
  | .rule _ | .fault _ | .supply _ => true

def RuleCfg.terms (c : RuleCfg) : List Term := [c.slot0, c.slot1, c.slot2].filterMap id

def Tables.ruleOk (t : Tables) (m : Fin 64) : Bool :=
  let c := t.rules[m]
  c.priority ≤ 15 && c.terms.all t.termOk
    && (c.lamp.isSome || (c.lampNew == .off && c.lampAcked == .off))

/-- The line slots of a door-set record. -/
def DoorCfg.named (c : DoorCfg) : List (Fin 32) :=
  [c.closed, c.locked, c.openEnd, c.edge, c.emergency, c.ramp].filterMap id

/-- R132. -/
def Tables.doorOk (t : Tables) (d : Fin 4) : Bool :=
  let c := t.doors[d]
  if c.configured then
    c.closed.isSome && c.emergency.isSome && decide c.named.Nodup && c.named.all (!t.isPulse ·)
      && within 500 c.openTimeout 30000 && c.openTimeout % 100 == 0
      && within 500 c.closeTimeout 30000 && c.closeTimeout % 100 == 0
      && within 100 c.lockTimeout 10000 && c.lockTimeout % 100 == 0
  else c == {}

/-- R213: the field checks of the record that a table code and an index name. -/
def Tables.recordOk (t : Tables) (table index : Nat) : Bool :=
  match table with
  | 0 => t.general.ok
  | 1 => ((finOf 32 index).map fun i => t.lines[i].ok).getD false
  | 2 => t.rolesOk
  | 3 => ((finOf 6 index).map fun i => t.channelOk i).getD false
  | 4 => ((finOf 6 index).map fun i => increasing t.sensors[i]).getD false
  | 5 => ((finOf 6 index).map fun i => t.dialOk i).getD false
  | 6 => ((finOf 64 index).map fun i => t.ruleOk i).getD false
  | 7 => ((finOf 24 index).map fun i => t.lamps[i].fallback != some i).getD false
  | 8 => ((finOf 4 index).map fun i => t.doorOk i).getD false
  | _ => false

/-- R213: a record replaces its predecessor where it can be read and passes its field checks. -/
def Tables.write (t : Tables) (table index : Nat) (p : List Byte) : Option Tables :=
  match t.setRecord table index p with
  | some t' => if t'.recordOk table index then some t' else none
  | none => none

/-! ### The cross-table checks (R214) -/

/-- The line slots of all configured door sets. -/
def Tables.doorLines (t : Tables) : List (Fin 32) :=
  (t.doors.toList.filter (·.configured)).flatMap DoorCfg.named

def Tables.crossOk (t : Tables) : Bool :=
  decide t.doorLines.Nodup && t.doorLines.all (!t.isPulse ·)
    && t.rolesOk
    && t.rules.toList.all (fun c => c.terms.all fun q =>
        match q with
        | .line n _ => !t.isPulse n
        | _ => true)
    && (t.channels.toList.filter ChannelCfg.hasSpeedRole).length ≤ 1
    && (List.finRange 6).all (fun k =>
        let c := t.channels[k]
        (c.source != .line ||
          (((finOf 32 c.input).map fun n =>
              t.lines[n].fn == .analogRatio || t.lines[n].fn == .analogVolt).getD false
            && !t.sensors[k].isEmpty))
        && (c.source == .unused ||
            (!t.dials[k].isEmpty && curvePositionsOk t.dials[k] c.pmax)))
    && decide ((t.channels.toList.filter (·.source == .pulse)).map ChannelCfg.input).Nodup
    && decide ((t.lines.toList.filter (·.fn == .pulse)).map LineCfg.unitC1).Nodup

/-! ### The image (R215) -/

/-- Every record's table code and index, in table code order and index order. -/
def recordNames : List (Nat × Nat) :=
  (List.range 9).flatMap fun t => (List.range ((recordCount t).getD 0)).map fun i => (t, i)

/-- Record bytes of each table (11.3). -/
def recordSize : Nat → Nat
  | 0 => 11
  | 1 => 24
  | 2 => 5
  | 3 => 22
  | 4 => 33
  | 5 => 33
  | 6 => 34
  | 7 => 3
  | 8 => 14
  | _ => 0

def Tables.imageBody (t : Tables) : List Byte :=
  1 :: recordNames.flatMap fun q => t.recordBytes q.1 q.2

/-- R215: format byte 1, every record, the check word. -/
def Tables.image (t : Tables) : List Byte :=
  t.imageBody ++ u16 (crc16 t.imageBody).toNat

/-- Read the records one after the other. -/
def readRecords : List (Nat × Nat) → List Byte → Tables → Option Tables
  | [], l, t => if l.isEmpty then some t else none
  | (a, i) :: rest, l, t =>
    match t.setRecord a i (l.take (recordSize a)) with
    | some t' => readRecords rest (l.drop (recordSize a)) t'
    | none => none

/-- R215: the check word and the format byte of an image. -/
def imageCheckOk (l : List Byte) : Bool :=
  let body := l.take (l.length - 2)
  2 ≤ l.length && l.drop (l.length - 2) == u16 (crc16 body).toNat && body.head? == some 1

/-- R215: the tables of an image that passes its check; nothing otherwise. -/
def tablesOfImage (c : ImageContent) : Option Tables :=
  match c with
  | .torn => none
  | .bytes l =>
    if imageCheckOk l then
      match readRecords recordNames ((l.take (l.length - 2)).drop 1) {} with
      | some t =>
        if recordNames.all (fun q => t.recordOk q.1 q.2) && t.crossOk then some t else none
      | none => none
    else none

end Sys2Proof.Machine
end

