-- ==== Sys2Proof/Machine/FaultMemory.lean ====
section
/-! DEFINITION. The fault memory FMY (chapter 8): reports and the fault table, slots and the
pending-write list, the store controller, the start-up load, aging and clearing. -/

namespace Sys2Proof.Machine

def maxEntries : Nat := 48

/-! ### Slots and the pending-write list (R164, R165) -/

/-- A slot that no entry owns is free (R164). -/
def Fmy.owns (m : Fmy) (n : Fin 48) : Bool := m.table.any (·.slot == n)

/-- The slot of the write in flight. -/
def Write.slotNo : Write → Option (Fin 48)
  | .slot n _ _ => some n
  | _ => none

/-- R165: dirtying marks a slot in flight for re-append, and otherwise sees to one item for it. -/
def Fmy.dirty (n : Fin 48) (m : Fmy) : Fmy :=
  if m.write.slotNo = some n then { m with reappend := true }
  else if n ∈ m.writes then m
  else { m with writes := m.writes ++ [n] }

/-- R163: a change of the table sets attention cause FAULT and dirties the slot concerned. -/
def State.tableChanged (n : Fin 48) (s : State) : State :=
  (s.modFmy (Fmy.dirty n)).attend .fault

/-- R164: the slot of an entry created otherwise than by replacement. -/
def Fmy.slotFor (m : Fmy) (code : FaultCode) : Fin 48 :=
  match (List.finRange 48).find? fun n => m.formers[n] == some code && !m.owns n with
  | some n => n
  | none => ((List.finRange 48).find? fun n => !m.owns n).getD 0

/-- R165: what a write of a slot takes at its start. -/
def Fmy.slotContent (m : Fmy) (n : Fin 48) : SlotContent :=
  match m.table.find? (·.slot == n) with
  | some e => .entry e
  | none => .empty

/-! ### Entries (R156, R157) -/

/-- R156: a stamp takes both counters as they stand in working memory. -/
def State.stamp (s : State) : Stamp := ⟨s.counter minutePlace, s.counter ignitionPlace⟩

/-- R157, and the supply state of R4: the vehicle conditions at this moment. VB is 0 before the first
measurement (R18). -/
def State.takeSnapshot (s : State) : Snapshot where
  supply := s.supply
  vb := s.mctl.vb.getD 0
  mode := s.mode
  speed := s.speed
  values := (List.finRange 6).filterMap fun k => (s.knownF k).map fun f => (k, f)
  doors := Vector.ofFn fun d => (s.door d).st
  ilk := s.ilk

/-- R158: a new entry behind the others, in the slot given (assumption 25). -/
def State.createEntry (code : FaultCode) (priority : Nat) (slot : Fin 48) (s : State) : State :=
  let number := min (s.fmy.created + 1) counterMax
  let entry : FaultEntry :=
    { code := code, priority := priority, active := true, occurrences := 1, first := s.stamp,
      last := s.stamp, aging := 0,
      snapshot := if code.sourceClass.hasSnapshot then some s.takeSnapshot else none,
      slot := slot, created := number }
  (s.modFmy fun m =>
    { m with table := m.table ++ [entry], created := number, formers := m.formers.set slot none
    }).tableChanged slot

/-- R186: a removal below the cursor lowers it by one. -/
def Wsv.entryRemoved (position : Nat) (w : Wsv) : Wsv :=
  if position < w.cursor then { w with cursor := w.cursor - 1 } else w

/-- R163, R164: remove the entry at a position; its slot becomes free and is dirtied. -/
def State.removeEntry (position : Nat) (s : State) : State :=
  match s.fmy.table[position]? with
  | none => s
  | some e =>
    ((s.modFmy fun m =>
        { m with table := m.table.eraseIdx position, formers := m.formers.set e.slot (some e.code)
        }).tableChanged e.slot).modWsv (Wsv.entryRemoved position)

/-- Change the entry at a position; its slot is dirtied. -/
def State.changeEntry (position : Nat) (f : FaultEntry → FaultEntry) (s : State) : State :=
  match s.fmy.table[position]? with
  | none => s
  | some e =>
    (s.modFmy fun m => { m with table := m.table.set position (f e) }).tableChanged e.slot

def Fmy.position (m : Fmy) (code : FaultCode) : Option Nat := m.table.findIdx? (·.code == code)

/-! ### Reports (R158 to R160) -/

/-- R159: whether the first of two INACTIVE entries gives way before the second, which stands behind
it: lower priority, then higher aging, then earlier position. -/
def FaultEntry.givesWayBefore (a b : FaultEntry) : Bool :=
  a.priority < b.priority || (a.priority == b.priority && a.aging ≥ b.aging)

/-- R159: the replacement candidate, from the end of the table forwards. -/
def candidateFrom : List FaultEntry → Nat → Option (Nat × FaultEntry)
  | [], _ => none
  | e :: rest, i =>
    match candidateFrom rest (i + 1) with
    | some (j, b) => if !e.active && e.givesWayBefore b then some (i, e) else some (j, b)
    | none => if e.active then none else some (i, e)

/-- R159: the lost count saturates at 65 535, and attention cause LOST is set. -/
def State.reportLost (s : State) : State :=
  (s.modFmy fun m => { m with lost := min (m.lost + 1) 65535 }).attend .lost

/-- R158, present and INACTIVE: the entry returns to ACTIVE. -/
def FaultEntry.reactivate (at_ : Stamp) (e : FaultEntry) : FaultEntry :=
  { e with active := true, occurrences := min (e.occurrences + 1) 255, last := at_, aging := 0 }

/-- R158, R159. -/
def State.activeReport (code : FaultCode) (priority : Nat) (s : State) : State :=
  match s.fmy.position code with
  | some i =>
    if (s.fmy.table[i]?.map (·.active)).getD true then s
    else s.changeEntry i (FaultEntry.reactivate s.stamp)
  | none =>
    if s.fmy.table.length < maxEntries then s.createEntry code priority (s.fmy.slotFor code)
    else
      match candidateFrom s.fmy.table 0 with
      | some (i, e) =>
        if e.priority ≤ priority then (s.removeEntry i).createEntry code priority e.slot
        else s.reportLost
      | none => s.reportLost

/-- R160. -/
def State.clearedReport (code : FaultCode) (s : State) : State :=
  match s.fmy.position code with
  | some i =>
    if (s.fmy.table[i]?.map (·.active)).getD false then
      s.changeEntry i fun e => { e with active := false }
    else s
  | none => s

def State.handleReport (code : FaultCode) (priority : Nat) (active : Bool) (s : State) : State :=
  if active then s.activeReport code priority else s.clearedReport code

/-- R155: FMY acts on a report at once; while the start-up load is in progress it holds it (R170). -/
def State.report (code : FaultCode) (active : Bool) (s : State) : State :=
  let priority := code.priority s.tables
  if s.fmy.loading then
    s.modFmy fun m => { m with held := m.held ++ [(code, priority, active)] }
  else s.handleReport code priority active

def State.reportActive (code : FaultCode) (s : State) : State := s.report code true
def State.reportCleared (code : FaultCode) (s : State) : State := s.report code false

/-- CLEARED for each of a list of codes, in its order. -/
def State.reportAllCleared (codes : List FaultCode) (s : State) : State :=
  codes.foldl (fun s c => s.reportCleared c) s

/-! ### Aging and clearing (R161, R162, R172) -/

/-- Remove every entry that a test picks, in order of position: of `k` entries still to look at,
the next stands at `i`. The slots are so dirtied in that order, as R172 says; R161 and R162 give none
(assumption 53). -/
def removeWhere (pick : FaultEntry → Bool) : Nat → Nat → State → State
  | 0, _, s => s
  | k + 1, i, s =>
    match s.fmy.table[i]? with
    | none => s
    | some e =>
      if pick e then removeWhere pick k i (s.removeEntry i) else removeWhere pick k (i + 1) s

def State.removeEntries (pick : FaultEntry → Bool) (s : State) : State :=
  removeWhere pick s.fmy.table.length 0 s

/-- Change every entry that a test picks, in order of position, which is then the order in which their slots
are dirtied; R161 gives none (assumption 53). -/
def State.changeEntries (pick : FaultEntry → Bool) (f : FaultEntry → FaultEntry) (s : State) :
    State :=
  (List.range s.fmy.table.length).foldl
    (fun s i => if (s.fmy.table[i]?.map pick).getD false then s.changeEntry i f else s) s

/-- R162: remove every entry whose aging is at or above the limit. -/
def State.removeOverAged (limit : Nat) (s : State) : State :=
  s.removeEntries fun e => limit ≤ e.aging

def FaultCode.isSlotLost : FaultCode → Bool
  | .slotLost _ => true
  | _ => false

def State.makeCounterDue (s : State) : State := s.modFmy fun m => { m with counterDue := true }

/-- R161: at ignition-off, age the INACTIVE entries, remove those at the limit, settle the start-up
faults and make the counter block due. -/
def State.ageFaults (s : State) : State :=
  (((s.changeEntries (!·.active) fun e => { e with aging := e.aging + 1 }).removeEntries
      fun e => !e.active && s.tables.general.agingLimit ≤ e.aging).changeEntries
      (fun e => e.active && e.code.isSlotLost)
      fun e => { e with active := false, aging := 0 }).makeCounterDue

/-- R172: the completion of a clear is handed to LIF, which sets OPDONE (R208). -/
def State.clearDone (s : State) : State :=
  (s.modFmy fun m => { m with clear := none }).attend .opdone

/-- R172: a write in flight of a freed slot does not take it out of the clear. -/
def Write.outdate (freed : List (Fin 48)) : Write → Write
  | .slot n c old => .slot n c (old || freed.contains n)
  | w => w

/-- R172: remove the entries of a set of classes and hold the freed slots as the clear in flight. -/
def State.clearClasses (pick : SourceClass → Bool) (s : State) : State :=
  let freed := (s.fmy.table.filter fun e => pick e.code.sourceClass).map (·.slot)
  let s := s.removeEntries fun e => pick e.code.sourceClass
  if freed.isEmpty then s.clearDone
  else s.modFmy fun m => { m with clear := some freed, write := m.write.outdate freed }

/-! ### The store controller (R166 to R168) -/

/-- The restart in waiting as a write starts: only a counter save that starts after the OK ends the
wait, and any other write calls for another save (R17, R171; assumption 18). -/
def RestartState.writeStarts (counterSave : Bool) : RestartState → RestartState
  | .idle => .idle
  | _ => if counterSave then .saving else .waiting

/-- R171: the wait ends with a counter save, so a write after it makes the block due again. -/
def State.restartAtWrite (counterSave : Bool) (s : State) : State :=
  let again := s.mctl.restart == .ready && !counterSave
  (s.modMctl fun m => { m with restart := m.restart.writeStarts counterSave }).modFmy fun m =>
    { m with counterDue := m.counterDue || again }

/-- R166: the controller starts its next write, in the order store, list item, counter save; in STARTUP
too once the load is complete (assumption 26). -/
def State.startWrite (s : State) : State :=
  if s.fmy.write ≠ .idle ∨ s.fmy.loading ∨ ¬ s.supply.allowsWrite then s
  else if s.fmy.storeRequested then
    (s.modFmy fun m =>
      { m with storeRequested := false, write := .image s.tables.image,
               writeTimer := .running s.now }).restartAtWrite false
  else
    match s.fmy.writes with
    | n :: rest =>
      (s.modFmy fun m =>
        { m with writes := rest, reappend := false, write := .slot n (m.slotContent n) false,
                 writeTimer := .running s.now }).restartAtWrite false
    | [] =>
      if s.fmy.counterDue then
        (s.modFmy fun m =>
          { m with counterDue := false, write := .counters m.counters,
                   writeTimer := .running s.now }).restartAtWrite true
      else s

def Fmy.writeDone (m : Fmy) : Fmy := { m with write := .idle, writeTimer := .stopped }

/-- R172: a slot leaves the clear in flight, which is complete when none is left. -/
def State.leaveClear (n : Fin 48) (s : State) : State :=
  match s.fmy.clear with
  | none => s
  | some l =>
    let l' := l.filter (· ≠ n)
    if l'.isEmpty then s.clearDone else s.modFmy fun m => { m with clear := some l' }

/-- R165, R167: a slot marked for re-append gets an item at the end; an erasure that stands frees the
slot of its former code. -/
def Fmy.slotWritten (n : Fin 48) (m : Fmy) : Fmy :=
  if m.reappend then
    { m.writeDone with reappend := false,
                       writes := if n ∈ m.writes then m.writes else m.writes ++ [n] }
  else if m.owns n then m.writeDone
  else { m.writeDone with formers := m.formers.set n none }

/-- R167, R172: the completion of a slot write. -/
def State.completeSlotWrite (n : Fin 48) (c : SlotContent) (old : Bool) (s : State) : State :=
  let s := { s with nv := { s.nv with slots := s.nv.slots.set n c } }
  let s := s.modFmy (Fmy.slotWritten n)
  if old then s else s.leaveClear n

/-- R174: a save goes into the copy not written last, numbered one above the last save. -/
def State.completeCounterSave (c : Vector Nat 12) (s : State) : State :=
  let no := s.fmy.saveNo + 1
  let nv := if s.fmy.lastIsB then { s.nv with copyA := .good c no }
            else { s.nv with copyB := .good c no }
  { s with nv := nv }.modFmy fun m => { m.writeDone with saveNo := no, lastIsB := !m.lastIsB }

/-- R171: whether the restart may take effect at the completion of a counter save, or waits for
another one. -/
def State.restartAfterSave (s : State) : State :=
  if s.mctl.restart ≠ .saving then s
  else if s.fmy.writes.isEmpty ∧ ¬ s.fmy.storeRequested then
    s.modMctl fun m => { m with restart := .ready }
  else (s.modMctl fun m => { m with restart := .waiting }).makeCounterDue

/-- R168: the completion of a configuration store. -/
def State.completeStore (l : List Byte) (s : State) : State :=
  let s := { s with nv := { s.nv with image := .bytes l } }
  let s := (s.modFmy Fmy.writeDone).attend .opdone
  if s.mode = .unconfigured ∨ s.mctl.imageFailed then s.reportCleared .imageBad else s

/-! ### Resets and the start-up load (R169 to R171) -/

/-- R16, R171: a write cut off by a reset may leave its slot, copy or image torn; which is open
(assumption 4). -/
def State.cutOffWrite (s : State) : State :=
  let (s', i) := s.fresh
  let torn := Config.cutWriteIsTorn i
  match s.fmy.write with
  | .idle => s
  | .slot n _ _ =>
    { s' with nv := { s.nv with slots := if torn then s.nv.slots.set n .bad else s.nv.slots } }
  | .counters _ =>
    { s' with nv :=
        if s.fmy.lastIsB then { s.nv with copyA := if torn then .bad else s.nv.copyA }
        else { s.nv with copyB := if torn then .bad else s.nv.copyB } }
  | .image _ => { s' with nv := { s.nv with image := if torn then .torn else s.nv.image } }

def Stamp.inRange (t : Stamp) : Bool := t.minutes ≤ counterMax && t.cycles ≤ counterMax

/-- E and F are signed integers within -32768..32767 (chapter 3). -/
def valueInRange (v : Int) : Bool := -32768 ≤ v && v ≤ 32767

/-- Channel numbers that strictly rise. -/
def channelsRise : List (Fin 6 × Int) → Bool
  | a :: b :: rest => a.1 < b.1 && channelsRise (b :: rest)
  | _ => true

/-- R157: the ranges of a snapshot's fields; its channel values stand once each, in channel order
(assumption 40). -/
def Snapshot.inRange (x : Snapshot) : Bool :=
  x.vb < 65536 && x.speed.all valueInRange && x.values.length ≤ 6 && channelsRise x.values
    && x.values.all fun v => valueInRange v.2

/-- R169, step 1: the ranges of an entry's fields (8.2) and of its snapshot's (R157). -/
def FaultEntry.inRange (e : FaultEntry) : Bool :=
  e.priority ≤ 15 && within 1 e.occurrences 255 && e.aging < 100 && e.first.inRange
    && e.last.inRange && within 1 e.created counterMax
    && e.snapshot.isSome == e.code.sourceClass.hasSnapshot && e.snapshot.all Snapshot.inRange

/-- A slot as the load finds it. -/
inductive Found where
  | nothing
  | lost
  | entry (e : FaultEntry)
  deriving DecidableEq, Repr

/-- R169, steps 1 and 2. -/
def findSlot (c : SlotContent) (n : Fin 48) : Found :=
  match c with
  | .empty => .nothing
  | .bad => .lost
  | .entry e => if e.inRange then .entry { e with slot := n } else .lost

/-- R169, step 3: whether another entry of the same code is kept instead. -/
def FaultEntry.supersededBy (e other : FaultEntry) : Bool :=
  other.code == e.code &&
    (other.created > e.created || (other.created == e.created && other.slot < e.slot))

/-- R156: ascending creation number, equal numbers by ascending slot. -/
def FaultEntry.before (a b : FaultEntry) : Bool :=
  a.created < b.created || (a.created == b.created && a.slot ≤ b.slot)

def insertEntry (e : FaultEntry) : List FaultEntry → List FaultEntry
  | [] => [e]
  | x :: rest => if e.before x then e :: x :: rest else x :: insertEntry e rest

/-- R174: the copy that the load takes, with its counters and save number; copy A where both carry the
same number (assumption 47). -/
def chooseCopy (a b : CounterCopy) : Option (Bool × Vector Nat 12 × BitVec 32) :=
  match a, b with
  | .bad, .bad => none
  | .good c n, .bad => some (false, c, n)
  | .bad, .good c n => some (true, c, n)
  | .good ca na, .good cb nb =>
    if na = nb + 1 then some (false, ca, na)
    else if nb = na + 1 then some (true, cb, nb)
    else if nb ≤ na then some (false, ca, na)
    else some (true, cb, nb)

/-- R169, step 1: the slots that the load drops, in ascending order (assumption 48). -/
def lostSlots (nv : Nv) : List (Fin 48) :=
  (List.finRange 48).filter fun n => findSlot nv.slots[n] n == .lost

def foundEntries (nv : Nv) : List FaultEntry :=
  (List.finRange 48).filterMap fun n =>
    match findSlot nv.slots[n] n with
    | .entry e => some e
    | _ => none

/-- R169: the working table built from the slots, and the slots it frees. -/
def Fmy.buildTable (nv : Nv) (m : Fmy) : Fmy :=
  let found := foundEntries nv
  let kept := found.filter fun e => !found.any e.supersededBy
  let doubled := (found.filter fun e => found.any e.supersededBy).map (·.slot)
  { m with
    table := kept.foldr insertEntry []
    created := (kept.map (·.created)).foldl max 0
    writes := lostSlots nv ++ doubled }

/-- R174: the counter block taken at the load. -/
def Fmy.loadCounters (nv : Nv) (m : Fmy) : Fmy :=
  match chooseCopy nv.copyA nv.copyB with
  | some (isB, c, no) => { m with counters := c, saveNo := no, lastIsB := isB }
  | none =>
    { m with counters := .replicate 12 0, saveNo := 0, lastIsB := true, counterDue := true }

/-- R170, step 2: SLOT_LOST for each slot dropped and for a counter block that neither copy gives, in
ascending order of number (assumption 48). -/
def lostNumbers (nv : Nv) : List (Fin 49) :=
  (lostSlots nv).map (fun n => ⟨n.val, by omega⟩)
    ++ (if (chooseCopy nv.copyA nv.copyB).isSome then [] else [48])

/-- R169, R170: the completion of the start-up load. -/
def State.completeLoad (s : State) : State :=
  let loaded := tablesOfImage s.nv.image
  let limit := (loaded.getD {}).general.agingLimit
  let held := s.fmy.held
  let s := s.modMctl fun m => { m with loaded := loaded, imageFailed := loaded.isNone }
  let s := s.modFmy fun m =>
    { (m.buildTable s.nv).loadCounters s.nv with loading := false, held := [] }
  let s := s.removeOverAged limit
  let s := (lostNumbers s.nv).foldl (fun s n => s.reportActive (.slotLost n)) s
  held.foldl (fun s (c, p, a) => s.handleReport c p a) s

end Sys2Proof.Machine
end

