-- ==== Sys2Proof/Machine/Presentation.lean ====
section
/-! DEFINITION. The presentation unit PRU (chapter 6): the ranking and the presentation list, telltale
levels, lamp diagnostics and the chime arbiter. -/

namespace Sys2Proof.Machine

/-! ### Ranking and the presentation list (R112 to R116) -/

def RuleState.isUnacked : RuleState → Bool
  | .activeNew | .latchedNew => true
  | _ => false

def RuleState.isAcked : RuleState → Bool
  | .activeAck | .latchedAck => true
  | _ => false

/-- R112: higher priority, then lower sequence, then lower index. -/
def ListEntry.ranksAbove (a b : ListEntry) : Bool :=
  a.priority > b.priority ||
    (a.priority == b.priority && (a.seq < b.seq || (a.seq == b.seq && a.rule < b.rule)))

/-- The list entry that a rule has or would have (6.1). -/
def State.entryOf (s : State) (m : Fin 64) : ListEntry where
  rule := m
  priority := (s.ruleCfg m).priority
  seq := (s.rule m).seq.getD 0
  latched := (s.rule m).st == .latchedNew

/-- 6.1: an eligible rule is a popup rule in ACTIVE_NEW or LATCHED_NEW. -/
def State.eligible (s : State) (m : Fin 64) : Bool :=
  (s.ruleCfg m).popup && (s.rule m).st.isUnacked

/-- Insert an entry at its rank. -/
def insertRanked (e : ListEntry) : List ListEntry → List ListEntry
  | [] => [e]
  | x :: rest => if e.ranksAbove x then e :: x :: rest else x :: insertRanked e rest

def listPlaces : Nat := 16

/-- R113: admit a newly eligible rule. -/
def admitEntry (e : ListEntry) (l : List ListEntry) : List ListEntry :=
  if l.length < listPlaces then insertRanked e l
  else
    match l.getLast? with
    | some last => if e.ranksAbove last then insertRanked e l.dropLast else l
    | none => l

def listed (l : List ListEntry) (m : Fin 64) : Bool := l.any (·.rule == m)

/-- 6.1: the waiting rules are the eligible rules not in the list. -/
def State.waiting (s : State) : List (Fin 64) :=
  (List.finRange 64).filter fun m => s.eligible m && !listed s.pru.list m

/-- The best-ranked of some entries. -/
def bestRanked : List ListEntry → Option ListEntry
  | [] => none
  | e :: rest =>
    match bestRanked rest with
    | some b => if b.ranksAbove e then some b else some e
    | none => some e

/-- R114: remove a rule's entry and admit the best-ranked waiting rule at the last place. -/
def State.delist (m : Fin 64) (s : State) : State :=
  if listed s.pru.list m then
    let s := s.modPru fun p => { p with list := p.list.filter (·.rule ≠ m) }
    match bestRanked (s.waiting.map s.entryOf) with
    | some e => s.modPru fun p => { p with list := p.list ++ [e] }
    | none => s
  else s

/-- R114: a change between ACTIVE_NEW and LATCHED_NEW changes the entry's flag in place. -/
def State.reflag (m : Fin 64) (s : State) : State :=
  s.modPru fun p =>
    { p with list := p.list.map fun e =>
        if e.rule = m then { e with latched := (s.rule m).st == .latchedNew } else e }

/-- R116: outside a hold the published copy equals the internal list. -/
def State.publishList (s : State) : State :=
  if s.lif.hold then s else s.modPru fun p => { p with shown := p.list }

/-- R113, R114, R116: PRU takes a rule's change of state from `old`. -/
def State.listChange (m : Fin 64) (old : RuleState) (s : State) : State :=
  if (s.ruleCfg m).popup then
    let new := (s.rule m).st
    if new.isUnacked then
      if old.isUnacked then (s.reflag m).publishList
      else (s.modPru fun p => { p with list := admitEntry (s.entryOf m) p.list }).publishList
    else if old.isUnacked then (s.delist m).publishList
    else s
  else s

/-! ### Telltale levels (R120 to R124) -/

def Level.max (a b : Level) : Level := if a.code < b.code then b else a

def highest (l : List Level) : Level := l.foldl Level.max .off

/-- R120: the demand a rule makes on its lamp, raised during host silence. -/
def State.demand (s : State) (m : Fin 64) : Level :=
  let c := s.ruleCfg m
  if (s.rule m).st.isUnacked then
    if s.lif.silence && c.popup then c.lampNew.max .flashSlow else c.lampNew
  else if (s.rule m).st.isAcked then c.lampAcked
  else .off

/-- The highest demand of the rules that name a lamp and pass a test. -/
def State.demandOn (s : State) (n : Fin 24) (pick : RuleCfg → Bool) : Level :=
  highest (((List.finRange 64).filter fun m =>
    (s.ruleCfg m).lamp == some n && pick (s.ruleCfg m)).map s.demand)

/-- R121: a lamp's own demand. -/
def State.ownDemand (s : State) (n : Fin 24) : Level := s.demandOn n fun _ => true

/-- R179: the demand of the rules of priority 12 to 15. -/
def State.criticalDemand (s : State) (n : Fin 24) : Level := s.demandOn n fun c => 12 ≤ c.priority

/-- R121: open or short CONFIRMED. -/
def Lamp.failed (l : Lamp) : Bool := l.openStatus == .confirmed || l.shortStatus == .confirmed

/-- R121: own demand, and the own demands of the failed lamps that fall back to this one. -/
def State.lampLevel (s : State) (n : Fin 24) : Level :=
  (s.ownDemand n).max (highest (((List.finRange 24).filter fun i =>
    (s.lampCfg i).fallback == some n && (s.lamp i).failed).map s.ownDemand))

/-- R124: the presented level, by mode, lamp check and forcing (R179). -/
def State.presentedLevel (s : State) (n : Fin 24) : Level :=
  match s.mode with
  | .startup | .setup | .standby | .sleep => .off
  | .unconfigured => if n = 0 ∧ s.mctl.ign = .active then .flashSlow else .off
  | .run | .workshop =>
    if s.pru.lampCheck.isRunning && (s.lampCfg n).participates then .on
    else
      match s.wsv.lamps[n] with
      | some r => r.level.max (s.criticalDemand n)
      | none => s.lampLevel n

/-- R124: the hold and the crank freeze the published levels in RUN and WORKSHOP. -/
def State.lampsFrozen (s : State) : Bool :=
  s.mode.isRunning && (s.lif.hold || s.supply == .crank)

/-- R122: whether a published level calls for current at a flash phase. -/
def Level.calls (l : Level) (phase : Nat) : Bool :=
  match l with
  | .off => false
  | .on => true
  | .flashSlow => phase ≤ 499
  | .flashFast =>
    phase ≤ 124 || (250 ≤ phase && phase ≤ 374) || (500 ≤ phase && phase ≤ 624)
      || (750 ≤ phase && phase ≤ 874)

def Timer.isStopped : Timer → Bool
  | .stopped => true
  | _ => false

/-- R126: a lamp is tripped while its retry timer has not expired. -/
def Lamp.tripped (l : Lamp) : Bool := !l.retry.isStopped

/-- R122, R126: the driver carries current while its call is on and it is not tripped. -/
def Lamp.driverOn (l : Lamp) (phase : Nat) : Bool := l.published.calls phase && !l.tripped

def State.driverOn (s : State) (n : Fin 24) : Bool := (s.lamp n).driverOn s.pru.phase

/-- R126: the success timer counts the on time from each switch-on of an untripped driver. -/
def Lamp.timeSuccess (phase now : Nat) (l : Lamp) : Lamp :=
  if l.driverOn phase then
    if l.success.isStopped then { l with success := .running now } else l
  else { l with success := .stopped }

/-- The drivers follow their calls. -/
def State.followCalls (s : State) : State :=
  s.modPru fun p => { p with lamps := updAll p.lamps fun _ l => l.timeSuccess p.phase s.now }

/-- R124: the published levels take the presented levels. -/
def State.publishLamps (s : State) : State :=
  (s.modPru fun p =>
    { p with lamps := updAll p.lamps fun n l => { l with published := s.presentedLevel n }
    }).followCalls

/-- R124: the published levels follow the presented levels unless they are frozen. -/
def State.refreshLamps (s : State) : State := if s.lampsFrozen then s else s.publishLamps

/-! ### The chime (R128 to R130) -/

/-- R128: a chime candidate. -/
def State.isCandidate (s : State) (m : Fin 64) : Bool :=
  (s.rule m).st.isUnacked &&
    match (s.ruleCfg m).chime with
    | none => false
    | some .single => !s.pru.singleMarks[m]
    | some _ => true

/-- R130: no winner outside RUN and WORKSHOP, in the lamp check and under chime forcing. -/
def State.chimeSilenced (s : State) : Bool :=
  !s.mode.isRunning || s.pru.lampCheck.isRunning || s.wsv.chime.isSome

/-- R128: the winner as it is due. -/
def State.dueWinner (s : State) : Option (Fin 64) :=
  if s.chimeSilenced then none
  else (bestRanked (((List.finRange 64).filter s.isCandidate).map s.entryOf)).map (·.rule)

/-- Start a pattern from its beginning, which is a tone (R129). -/
def State.startPattern (s : State) : State :=
  s.modPru fun p => { p with patternStart := s.now, tone := true }

def State.soundOff (s : State) : State := s.modPru fun p => { p with tone := false }

/-- R128, R129: decide the winner anew; a change starts the new pattern or stops the sounder. -/
def State.refreshChime (s : State) : State :=
  let w := s.dueWinner
  if w = s.pru.winner then s
  else
    let s := s.modPru fun p => { p with winner := w }
    if w.isSome then s.startPattern else s.soundOff

/-- The pattern the sounder follows: the forced one, or the winner's (R130, R182). -/
def State.pattern (s : State) : Option Pattern :=
  match s.wsv.chime with
  | some r => some r.pattern
  | none => s.pru.winner.bind fun m => (s.ruleCfg m).chime

/-- PRU brings its outputs up to date with its inputs. -/
def State.refreshPru (s : State) : State := s.refreshLamps.refreshChime

/-- The SINGLE mark is cleared at every entry of the rule to ACTIVE_NEW (6.4). -/
def State.clearSingleMark (m : Fin 64) (s : State) : State :=
  s.modPru fun p => { p with singleMarks := p.singleMarks.set m false }

/-- Tone length and period of the repeating patterns, in ms (R129). -/
def Pattern.repeats : Pattern → Option (Nat × Nat)
  | .repeatSlow => some (400, 2000)
  | .repeatFast => some (200, 500)
  | .single | .continuous => none

/-! ### The lamp check (R123) -/

/-- R123: at ignition-on the check starts if the lamp-check time is 1 ms or more. -/
def State.startLampCheck (s : State) : State :=
  s.modPru fun p =>
    { p with lampCheck := if 1 ≤ s.tables.general.lampCheck then .running s.now else .stopped }

def State.endLampCheck (s : State) : State := s.modPru fun p => { p with lampCheck := .stopped }

/-! ### Lamp diagnostics (R125 to R127) -/

/-- R125, R126: diagnosis ENABLED and supply NORMAL. -/
def State.testable (s : State) (n : Fin 24) : Bool :=
  !(s.lampCfg n).suppressed && s.supply == .normal

/-- R125: the test conditions. -/
def State.tested (s : State) (n : Fin 24) : Bool := s.testable n && s.driverOn n

/-- R125: the open counter after one tested millisecond. -/
def Lamp.openStep (l : Lamp) (low : Bool) : Int :=
  match l.openStatus with
  | .unsettled => if low then l.openCount - 1 else l.openCount + 1
  | .good => if low then l.openCount + 1 else max (l.openCount - 1) 0
  | .confirmed => if low then max (l.openCount - 1) 0 else l.openCount + 1

/-- An open is confirmed or found gone: the status, the counter 0, and the report. -/
def State.openBecomes (n : Fin 24) (confirmed : Bool) (s : State) : State :=
  ((s.modLamp n fun l =>
      { l with openStatus := if confirmed then .confirmed else .good, openCount := 0 }).report
      (.lamp n .openWire) confirmed).refreshPru

/-- R125: one millisecond of the open test. -/
def State.openTest (n : Fin 24) (low : Bool) (s : State) : State :=
  let l := s.lamp n
  let c := l.openStep low
  match l.openStatus with
  | .unsettled =>
    if c ≥ 100 then s.openBecomes n false
    else if c ≤ -100 then s.openBecomes n true
    else s.modLamp n fun l => { l with openCount := c }
  | .good =>
    if c ≥ 100 then s.openBecomes n true else s.modLamp n fun l => { l with openCount := c }
  | .confirmed =>
    if c ≥ 100 then s.openBecomes n false else s.modLamp n fun l => { l with openCount := c }

/-- R126: the retry time is 10 s while the short status is CONFIRMED and 1 s otherwise. -/
def Lamp.retryTime (l : Lamp) : Nat := if l.shortStatus == .confirmed then ms 10000 else ms 1000

/-- R126: an overcurrent trips the driver; under the test conditions it counts and may confirm. -/
def State.overcurrent (n : Fin 24) (s : State) : State :=
  let trip := s.modLamp n fun l => { l with retry := .running s.now }
  if s.testable n then
    let count := min ((s.lamp n).trips + 1) 255
    let s' := trip.modLamp n fun l => { l with trips := count }
    if 3 ≤ count ∧ (s.lamp n).shortStatus ≠ .confirmed then
      ((s'.modLamp n fun l => { l with shortStatus := .confirmed }).reportActive
        (.lamp n .short)).followCalls.refreshPru
    else s'.followCalls
  else trip.followCalls

/-- R126: the on period is successful; the timer stands at 50 ms (assumption 31). -/
def State.onPeriodGood (n : Fin 24) (s : State) : State :=
  let status := (s.lamp n).shortStatus
  let s := s.modLamp n fun l => { l with success := .paused (ms 50), trips := 0 }
  if status = .good then s
  else ((s.modLamp n fun l => { l with shortStatus := .good }).reportCleared
    (.lamp n .short)).refreshPru

/-- R127: at the end of STARTUP and the exit from SETUP the SUPPRESSED lamps are settled, OPEN before SHORT
(assumption 41). -/
def State.settleLamps (s : State) : State :=
  forEach (n := 24) (fun n s =>
    if (s.lampCfg n).suppressed then
      (s.reportAllCleared [.lamp n .openWire, .lamp n .short]).modLamp n fun l =>
        { l with openStatus := .good, shortStatus := .good }
    else s) s

end Sys2Proof.Machine
end

