-- ==== Sys2Proof/Machine/Warning.lean ====
section
/-! DEFINITION. The warning evaluator WEV (chapter 5): terms, condition, qualifier, the rule state
machine, acknowledgement and the evaluation pass. -/

namespace Sys2Proof.Machine

/-! ### Terms (R85 to R90) -/

def yesNo (b : Bool) : TermResult := if b then .yes else .no

/-- R86. -/
def lineTerm (t : LineTest) (v : Logical) : TermResult :=
  match t, v with
  | .active, .active => .yes
  | .active, .inactive => .no
  | .active, .invalid => .invalid
  | .inactive, .active => .no
  | .inactive, .inactive => .yes
  | .inactive, .invalid => .invalid
  | .faulted, .invalid => .yes
  | .faulted, _ => .no

/-- R87: the term state of a value term for a known value. -/
def valueState (below : Bool) (threshold : Int) (hysteresis : Nat) (v : Int) (h : Bool) : Bool :=
  if below then
    if v ≤ threshold then true else if v > threshold + hysteresis then false else h
  else if v ≥ threshold then true
  else if v < threshold - hysteresis then false
  else h

/-- R88: a door set that has no record is read as UNKNOWN with no flag set. Sets count from 1. -/
def State.doorView (s : State) (set : Nat) : Door :=
  if set = 0 then {}
  else
    match finOf 4 (set - 1) with
    | some d => if (s.doorCfg d).configured then s.door d else {}
    | none => {}

/-- The door flags by code (R210). -/
def Door.flag (d : Door) : Nat → Bool
  | 0 => d.openWhileMoving
  | 1 => d.repeatedObstruction
  | 2 => d.closeTimeout
  | 3 => d.notLocked
  | _ => false

/-- R88. -/
def State.doorTerm (s : State) (set : Nat) (t : DoorTest) (mask flag : Nat) : TermResult :=
  match t with
  | .stateMask =>
    let st := (s.doorView set).st
    if bitOf mask st.code then .yes else if st = .unknown then .invalid else .no
  | .flag => yesNo ((s.doorView set).flag flag)
  | .interlock => yesNo s.ilk

/-- R89: ACTIVE_NEW and ACTIVE_ACK. -/
def RuleState.isActive : RuleState → Bool
  | .activeNew | .activeAck => true
  | _ => false

/-- R90: an ACTIVE entry of the class stands in the fault table. -/
def State.classActive (s : State) (c : SourceClass) : Bool :=
  s.fmy.table.any fun e => e.active && e.code.sourceClass == c

/-- The result of a used slot, and its term state afterwards. -/
def State.evalTerm (s : State) (h : Bool) : Term → TermResult × Bool
  | .line n t => (lineTerm t (s.logical n), h)
  | .value k filtered below threshold hysteresis =>
    match if filtered then s.knownF k else s.knownE k with
    | none => (.invalid, h)
    | some v =>
      let h' := valueState below threshold hysteresis v h
      (yesNo h', h')
  | .door set t mask flag => (s.doorTerm set t mask flag, h)
  | .rule m => (yesNo (s.rule m).st.isActive, h)
  | .fault c => (yesNo (s.classActive c), h)
  | .supply mask => (yesNo (bitOf mask s.supply.code), h)

/-- A slot: `none` for an unused one, whose term state is kept. -/
def State.evalSlot (s : State) (h : Bool) (t : Option Term) : Option TermResult × Bool :=
  match t with
  | none => (none, h)
  | some t => ((s.evalTerm h t).1, (s.evalTerm h t).2)

/-! ### From terms to condition (R91 to R93) -/

/-- R91: an unused slot gives the neutral result. -/
def slotIs (neutral : Bool) (r : Option TermResult) : Bool :=
  match r with
  | none => neutral
  | some r => r == .yes

/-- R91. -/
def combine (c : Combine) (a b d : Option TermResult) : TermResult :=
  if a = some .invalid ∨ b = some .invalid ∨ d = some .invalid then .invalid
  else
    match c with
    | .all => yesNo (slotIs true a && slotIs true b && slotIs true d)
    | .any => yesNo (slotIs false a || slotIs false b || slotIs false d)
    | .firstNotRest => yesNo (slotIs false a && !slotIs false b && !slotIs false d)
    | .twoOfThree =>
      yesNo ((slotIs false a && slotIs false b) || (slotIs false a && slotIs false d)
        || (slotIs false b && slotIs false d))

/-- R92. -/
def onInvalid (o : OnInvalid) (before : Bool) (raw : TermResult) : Bool :=
  match raw, o with
  | .yes, _ => true
  | .no, _ => false
  | .invalid, .no => false
  | .invalid, .yes => true
  | .invalid, .hold => before

/-- R93. -/
def State.qualifierHolds (s : State) : Qualifier → Bool
  | .always => true
  | .ignOn => s.mode.isRunning
  | .moving => s.mode.isRunning && s.moving
  | .standing => s.mode.isRunning && s.standing
  | .notCrank => s.supply != .crank

/-! ### Changes of a rule's state (R105 to R107) -/

/-- R107: CLEARED for a rule whose mark is set, and the mark cleared. -/
def State.settleRule (m : Fin 64) (s : State) : State :=
  if (s.rule m).mark then
    (s.reportCleared (.rule m)).modRule m fun r => { r with mark := false }
  else s

/-- R106, R107: change a rule's record; a change of its state is handed on. A rule whose mark is set reports
CLEARED at its return from PENDING to OFF too (assumption 46). -/
def State.changeRule (m : Fin 64) (f : RuleRec → RuleRec) (s : State) : State :=
  let old := (s.rule m).st
  let s := s.modRule m f
  let new := (s.rule m).st
  if old = new then s
  else
    let s := s.attend .warn
    let s := if new = .activeNew then s.clearSingleMark m else s
    let s := if new = .off then s.settleRule m else s
    (s.listChange m old).refreshPru

/-- A rule that is OFF has no timer and shows no sequence (R97, R105). -/
def RuleRec.toOff (r : RuleRec) : RuleRec :=
  { r with st := .off, onset := 0, release := none, reminder := 0, seq := none }

/-- R105: an activation. -/
def State.activate (m : Fin 64) (s : State) : State :=
  let n := min (s.wev.seq + 1) counterMax
  let s := s.modWev fun w => { w with seq := n }
  let s := if (s.ruleCfg m).record then
      (s.reportActive (.rule m)).modRule m fun r => { r with mark := true }
    else s
  s.changeRule m fun r => { r with st := .activeNew, onset := 0, seq := some n }

/-! ### The rule state machine (R98 to R102) -/

/-- R99: the state after an active state is left with its condition FALSE. -/
def releasedState (st : RuleState) (l : Latch) : RuleState :=
  match st, l with
  | .activeNew, .unlatched => .off
  | .activeNew, _ => .latchedNew
  | _, .untilIgnition => .latchedAck
  | _, _ => .off

/-- R99: leave an active state; a sequence is kept except at a change to OFF. -/
def State.releaseRule (m : Fin 64) (s : State) : State :=
  let new := releasedState (s.rule m).st (s.ruleCfg m).latch
  s.changeRule m fun r =>
    if new = .off then r.toOff else { r with st := new, release := none, reminder := 0 }

/-- R101: the reminder timer of a rule in ACTIVE_ACK. -/
def State.remind (m : Fin 64) (s : State) : State :=
  let c := s.ruleCfg m
  let t := (s.rule m).reminder + 1
  if (s.rule m).st = .activeAck ∧ 1 ≤ c.reminder then
    if 100 * c.reminder ≤ t then
      s.changeRule m fun r => { r with st := .activeNew, reminder := 0 }
    else s.modRule m fun r => { r with reminder := t }
  else s

/-- R99, R101: the step of a rule in ACTIVE_NEW or ACTIVE_ACK. -/
def State.stepActive (m : Fin 64) (s : State) : State :=
  let c := s.ruleCfg m
  let r := s.rule m
  if r.cond then (s.modRule m fun r => { r with release := none }).remind m
  else if c.release = 0 then s.releaseRule m
  else
    match r.release with
    | none => (s.modRule m fun r => { r with release := some 0 }).remind m
    | some t =>
      if 10 * c.release ≤ t + 1 then s.releaseRule m
      else (s.modRule m fun r => { r with release := some (t + 1) }).remind m

/-- R98 to R102: the step of a rule whose qualifier holds. -/
def State.stepRule (m : Fin 64) (s : State) : State :=
  let c := s.ruleCfg m
  let r := s.rule m
  match r.st with
  | .off =>
    if r.cond then
      if c.onset = 0 then s.activate m
      else s.changeRule m fun r => { r with st := .pending, onset := 0 }
    else s
  | .pending =>
    if r.cond then
      if 10 * c.onset ≤ r.onset + 1 then s.activate m
      else s.modRule m fun r => { r with onset := r.onset + 1 }
    else s.changeRule m RuleRec.toOff
  | .activeNew | .activeAck => s.stepActive m
  | .latchedNew => if r.cond then s.changeRule m fun r => { r with st := .activeNew } else s
  | .latchedAck =>
    if r.cond then s.changeRule m fun r => { r with st := .activeAck, reminder := 0 } else s

/-- R94: the qualifier of a rule with qualifier mode CLEAR is false. -/
def State.clearRule (m : Fin 64) (s : State) : State :=
  match (s.rule m).st with
  | .off | .latchedNew | .latchedAck => s
  | .pending | .activeNew | .activeAck => s.changeRule m RuleRec.toOff

/-- R107: a rule whose mark is set and that is OFF at the end of its step. -/
def State.settleIfOff (m : Fin 64) (s : State) : State :=
  if (s.rule m).st = .off then s.settleRule m else s

/-! ### The evaluation pass (R96) -/

/-- Steps 2 to 4 of R96 for one enabled rule. -/
def State.evaluateRule (m : Fin 64) (s : State) : State :=
  let c := s.ruleCfg m
  let r := s.rule m
  let (a, h0) := s.evalSlot r.hyst0 c.slot0
  let (b, h1) := s.evalSlot r.hyst1 c.slot1
  let (d, h2) := s.evalSlot r.hyst2 c.slot2
  let raw := combine c.combine a b d
  let holds := s.qualifierHolds c.qualifier
  let s := s.modRule m fun r =>
    { r with
      res0 := a.getD .no, res1 := b.getD .no, res2 := d.getD .no
      hyst0 := h0, hyst1 := h1, hyst2 := h2, raw := raw, qualHeld := holds
      frozen := !holds && !c.qualClear
      cond := if holds then onInvalid c.onInvalid r.cond raw
              else if c.qualClear then false else r.cond }
  if holds then (s.stepRule m).settleIfOff m
  else if c.qualClear then (s.clearRule m).settleIfOff m
  else s

/-- R96: a disabled rule is not evaluated. -/
def State.passRule (m : Fin 64) (s : State) : State :=
  if (s.ruleCfg m).enabled then s.evaluateRule m else s

/-- R96: the whole pass, in number order. -/
def State.pass (s : State) : State := forEach State.passRule s

/-! ### Acknowledgement, ignition-on, SETUP (R103, R104, R107, R109) -/

/-- R104: whether an acknowledgement of a rule is taken. -/
def State.ackTaken (s : State) (m : Fin 64) : Bool :=
  match (s.rule m).st with
  | .activeNew => true
  | .latchedNew => (s.ruleCfg m).latch != .unlatched
  | _ => false

/-- R104: apply an acknowledgement; a refused one changes nothing. -/
def State.ackRule (m : Fin 64) (s : State) : State :=
  match (s.rule m).st with
  | .activeNew => s.changeRule m fun r => { r with st := .activeAck, reminder := 0 }
  | .latchedNew =>
    match (s.ruleCfg m).latch with
    | .untilAck => s.changeRule m RuleRec.toOff
    | .untilIgnition => s.changeRule m fun r => { r with st := .latchedAck }
    | .unlatched => s
  | _ => s

/-- The rule at the top of the internal list (R117). -/
def State.topRule (s : State) : Option (Fin 64) := s.pru.list.head?.map (·.rule)

/-- R117: a press edge acknowledges the top of the internal list. -/
def State.ackButton (s : State) : State :=
  match s.topRule with
  | some m => s.ackRule m
  | none => s

/-- R103: at each ignition-on every rule in LATCHED_ACK goes OFF, in index order where there are several (R103
gives none; assumption 41). -/
def State.endIgnitionLatches (s : State) : State :=
  forEach (fun m s =>
    if (s.rule m).st = .latchedAck then s.changeRule m RuleRec.toOff else s) s

/-- R109: at the entry to SETUP every rule that is not OFF is set OFF. -/
def State.allRulesOff (s : State) : State :=
  forEach (fun m s =>
    if (s.rule m).st = .off then s else s.changeRule m RuleRec.toOff) s

/-- R107: at the end of STARTUP and the exit from SETUP. -/
def State.settleRules (s : State) : State :=
  forEach (fun m s =>
    if (s.ruleCfg m).enabled && (s.ruleCfg m).record then s
    else (s.reportCleared (.rule m)).modRule m fun r => { r with mark := false }) s

end Sys2Proof.Machine
end

