-- ==== Sys2Proof/Machine/Doors.lean ====
section
/-! DEFINITION. The door monitor DMN (chapter 7): door states, flags and reports, release grants and
outputs, the interlock and override episodes. -/

namespace Sys2Proof.Machine

/-! ### The door lines -/

inductive DoorSlot where
  | closed | locked | openEnd | edge | emergency | ramp
  deriving DecidableEq, Repr

def DoorCfg.line (c : DoorCfg) : DoorSlot → Option (Fin 32)
  | .closed => c.closed
  | .locked => c.locked
  | .openEnd => c.openEnd
  | .edge => c.edge
  | .emergency => c.emergency
  | .ramp => c.ramp

def doorSlots : List DoorSlot := [.closed, .locked, .openEnd, .edge, .emergency, .ramp]

/-- The logical value of a line of a door set; none where the set has no such line. -/
def State.doorLine (s : State) (d : Fin 4) (k : DoorSlot) : Option Logical :=
  ((s.doorCfg d).line k).map s.logical

/-- R137: locked by the LOCKED line, or whenever CLOSED where there is none. -/
def State.doorLocked (s : State) (d : Fin 4) : Bool :=
  match s.doorLine d .locked with
  | some v => v == .active
  | none => s.doorLine d .closed == some .active

/-- R134, check 1. -/
def State.doorUntrusted (s : State) (d : Fin 4) : Bool :=
  (s.door d).inconMark || doorSlots.any fun k => s.doorLine d k == some .invalid

/-- R143: the door timers run except in CRANK and in SLEEP. -/
def State.doorTimersRun (s : State) : Bool := s.supply != .crank && s.mode != .sleep

/-! ### Interlock conditions, grants and outputs (7.3, 7.4) -/

/-- Interlock condition 1. -/
def State.condDoors (s : State) : Bool :=
  (List.finRange 4).any fun d => (s.doorCfg d).configured && (s.door d).st != .closedLocked

/-- Interlock condition 2. -/
def State.condRamps (s : State) : Bool :=
  (List.finRange 4).any fun d =>
    (s.doorCfg d).configured &&
      match s.doorLine d .ramp with
      | some v => v != .active
      | none => false

/-- Interlock condition 3. -/
def State.condKneel (s : State) : Bool :=
  match s.roleValue .kneel with
  | some v => v != .inactive
  | none => false

/-- Interlock condition 4. -/
def State.condGrants (s : State) : Bool := (List.finRange 4).any fun d => (s.door d).grant

def State.anyCondition (s : State) : Bool :=
  s.condDoors || s.condRamps || s.condKneel || s.condGrants

/-- Set the interlock state; a change of ILK sets attention cause DOOR (R149). -/
def State.setInterlock (i : Interlock) (delay : Timer) (s : State) : State :=
  let before := s.ilk
  let s := s.modDmn fun m => { m with interlock := i, delay := delay }
  if s.ilk = before then s else s.attend .door

/-- R149: the outcome of an evaluation of the interlock conditions. -/
def State.evalInterlock (s : State) : State :=
  match s.dmn.interlock with
  | .held => if s.anyCondition then s else s.setInterlock .delay (.running s.now)
  | .delay => if s.anyCondition then s.setInterlock .held .stopped else s
  | .free => if s.anyCondition then s.setInterlock .held .stopped else s
  | .forced | .overridden => s

/-- R148. -/
def State.outputDue (s : State) (d : Fin 4) : Bool :=
  (s.door d).grant && !s.aboveWithdraw && (s.door d).st != .emergency && s.mode.isRunning

def State.refreshOutput (d : Fin 4) (s : State) : State :=
  s.modDoor d fun r => { r with output := s.outputDue d }

def State.refreshOutputs (s : State) : State := forEach State.refreshOutput s

/-- R145, R147: a change of a set's grant. -/
def State.setGrant (g : Bool) (d : Fin 4) (s : State) : State :=
  if (s.door d).grant = g then s
  else
    (((s.modDoor d fun r => { r with grant := g }).attend .door).evalInterlock).refreshOutput d

def State.grantAll (sets : List (Fin 4)) (g : Bool) (s : State) : State :=
  sets.foldl (fun s d => s.setGrant g d) s

def State.withdrawAll (s : State) : State := s.grantAll (List.finRange 4) false

/-- R145, from the mode check on: whether release may be granted to some door sets. -/
def State.releaseStanding (s : State) (sets : List (Fin 4)) : Bool :=
  s.standing && !s.aboveWithdraw && sets.all fun d => (s.door d).st != .emergency

/-- R146: the button mask. -/
def State.buttonMask (s : State) : List (Fin 4) :=
  (List.finRange 4).filter fun d => (s.doorCfg d).configured && (s.doorCfg d).inMask

/-- R146: a press edge of the RELEASE_BUTTON line. -/
def State.releaseButton (s : State) : State :=
  let mask := s.buttonMask
  if mask.isEmpty then s
  else if mask.any fun d => (s.door d).grant then s.grantAll mask false
  else if s.mode.isRunning && s.releaseStanding mask then s.grantAll mask true
  else s.attend .door

/-- R147, R148: a speed update. -/
def State.doorSpeedUpdate (s : State) : State :=
  (if s.aboveWithdraw then s.withdrawAll else s).refreshOutputs

/-! ### Door states (R134 to R142) -/

inductive DoorEvent where
  | line (k : DoorSlot) (v : Logical)
  | openExpired
  | closeExpired
  | lockExpired
  | inconExpired
  deriving DecidableEq, Repr

/-- R135: the test of the two end stops at each re-derivation. -/
def State.testEndStops (d : Fin 4) (s : State) : State :=
  if (s.doorCfg d).openEnd.isNone then s
  else if s.doorLine d .closed = some .active ∧ s.doorLine d .openEnd = some .active then
    s.modDoor d fun r =>
      if r.inconTimer.isStopped && !r.inconMark then
        { r with inconTimer := Timer.start s.now s.doorTimersRun }
      else r
  else s.modDoor d fun r => { r with inconTimer := .stopped, inconMark := false }

/-- R136: the state from the positions the lines show. -/
def State.positionState (s : State) (d : Fin 4) : DoorState :=
  if s.doorLine d .closed = some .active then
    if s.doorLocked d then .closedLocked else .closed
  else if s.doorLine d .openEnd = some .active then .opened
  else .opening

/-- R137 to R139: the position rules, with the CLOSED line not ACTIVE. -/
def State.movingState (s : State) (d : Fin 4) (ev : DoorEvent) (st : DoorState) : DoorState :=
  let openEnd := s.doorLine d .openEnd == some .active
  let edge := s.doorLine d .edge == some .active
  match st with
  | .closed | .closedLocked => if openEnd then .opened else .opening
  | .opening => if openEnd || ev == .openExpired then .opened else .opening
  | .opened =>
    if ev = .line .openEnd .inactive then (if edge then .obstructed else .closing) else .opened
  | .closing =>
    if ev = .line .edge .active then .obstructed
    else if ev = .line .openEnd .active then .opened
    else .closing
  | .obstructed =>
    if ev = .line .edge .inactive then (if openEnd then .opened else .closing) else .obstructed
  | .emergency | .unknown => st

/-- R134: the three checks in their order. -/
def State.derivedState (s : State) (d : Fin 4) (ev : DoorEvent) : DoorState :=
  let st := (s.door d).st
  if s.doorUntrusted d then .unknown
  else if s.doorLine d .emergency = some .active then .emergency
  else if st = .unknown ∨ st = .emergency then s.positionState d
  else if s.doorLine d .closed = some .active then s.positionState d
  else s.movingState d ev st

def doorSyms : List DoorSym :=
  [.inconsistent, .notLocked, .openEndMissing, .closeTimeout, .repeatedObstruction,
    .openWhileMoving]

/-- R142: an ACTIVE report is made only if the code's mark is clear, and sets it. -/
def State.doorReport (y : DoorSym) (d : Fin 4) (s : State) : State :=
  if y ∈ (s.door d).marks then s
  else (s.modDoor d fun r => { r with marks := y :: r.marks }).reportActive (.door d y)

/-- R140: flags, count, reports and cycle mark at an entry to CLOSED_LOCKED. The CLEARED reports of the marked
codes go in the order of the symptoms in 8.1; R140 gives none (assumption 41). -/
def State.shutAndLocked (d : Fin 4) (s : State) : State :=
  let marked := doorSyms.filter fun y => y ∈ (s.door d).marks
  (s.reportAllCleared (marked.map (.door d))).modDoor d fun r =>
    { r with openWhileMoving := false, repeatedObstruction := false, closeTimeout := false,
             notLocked := false, obstructions := 0, marks := [], cycle := true }

/-- R141: a departure from CLOSED_LOCKED while the speed is above the withdraw speed. -/
def State.flagOpening (d : Fin 4) (s : State) : State :=
  if s.aboveWithdraw && !(s.door d).openWhileMoving then
    (s.modDoor d fun r => { r with openWhileMoving := true }).doorReport .openWhileMoving d
  else s

/-- R140: the first opening after CLOSED_LOCKED counts a door cycle. -/
def State.countCycle (d : Fin 4) (s : State) : State :=
  if (s.door d).cycle then
    (s.bump (cyclePlace d)).modDoor d fun r => { r with cycle := false }
  else s

/-- R139: an obstruction is counted in three steps. -/
def State.countObstruction (d : Fin 4) (s : State) : State :=
  let s := s.modDoor d fun r => { r with obstructions := min (r.obstructions + 1) 255 }
  let s := s.bump (obstructionPlace d)
  if 3 ≤ (s.door d).obstructions ∧ ¬ (s.door d).repeatedObstruction then
    (s.modDoor d fun r => { r with repeatedObstruction := true }).doorReport .repeatedObstruction d
  else s

def DoorState.isOpening : DoorState → Bool
  | .opening | .opened | .closing | .obstructed => true
  | _ => false

/-- A change of a set's state: its timers, attention, grants, interlock, output (R134, R144), and then
the counts and reports of R139 to R141 (assumption 27). -/
def State.enterDoorState (d : Fin 4) (new : DoorState) (s : State) : State :=
  let old := (s.door d).st
  if new = old then s
  else
    let start := Timer.start s.now s.doorTimersRun
    let s := s.modDoor d fun r =>
      { r with st := new
               openTimer := if new = .opening then start else .stopped
               closeTimer := if new = .closing then start else .stopped
               lockTimer := if new = .closed then start else .stopped }
    let s := s.attend .door
    let s := if new = .emergency then s.withdrawAll else s
    let s := s.evalInterlock.refreshOutput d
    let s := if old = .closedLocked ∧ new ≠ .unknown then s.flagOpening d else s
    let s := if new = .closedLocked then s.shutAndLocked d else s
    let s := if new.isOpening then s.countCycle d else s
    if new = .obstructed then s.countObstruction d else s

/-- A flag that is set without a change of state sets attention cause DOOR (R144). -/
def State.raiseFlag (isSet : Door → Bool) (f : Door → Door) (d : Fin 4) (s : State) : State :=
  if isSet (s.door d) then s else (s.modDoor d f).attend .door

/-- R137 to R139: what a timer's expiry does besides the state. -/
def State.expiryReport (d : Fin 4) (ev : DoorEvent) (before : DoorState) (s : State) : State :=
  let after := (s.door d).st
  match ev with
  | .openExpired =>
    if before = .opening ∧ after = .opened ∧ (s.doorCfg d).openEnd.isSome then
      s.doorReport .openEndMissing d
    else s
  | .closeExpired =>
    if before = .closing ∧ after = .closing then
      (((s.modDoor d fun r => { r with closeTimer := .stopped }).raiseFlag (·.closeTimeout)
        (fun r => { r with closeTimeout := true }) d)).doorReport .closeTimeout d
    else s
  | .lockExpired =>
    if before = .closed ∧ after = .closed then
      (((s.modDoor d fun r => { r with lockTimer := .stopped }).raiseFlag (·.notLocked)
        (fun r => { r with notLocked := true }) d)).doorReport .notLocked d
    else s
  | .inconExpired => s.doorReport .inconsistent d
  | .line _ _ => s

/-- R134: one re-derivation, taken whole. -/
def State.rederive (d : Fin 4) (ev : DoorEvent) (s : State) : State :=
  let before := (s.door d).st
  let s := s.testEndStops d
  (s.enterDoorState d (s.derivedState d ev)).expiryReport d ev before

/-- R135: the inconsistency timer reaches its time. -/
def State.inconsistent (d : Fin 4) (s : State) : State :=
  (s.modDoor d fun r => { r with inconTimer := .stopped, inconMark := true }).rederive d
    .inconExpired

/-! ### Override episodes (R150) -/

def State.beginOverride (s : State) : State :=
  (((s.setInterlock .overridden .stopped).bump overridePlace).attend .door).reportActive .override

def State.endOverride (s : State) : State :=
  let s := (s.reportCleared .override).attend .door
  if s.anyCondition then s.setInterlock .held .stopped else s.setInterlock .free .stopped

/-- A change of the OVERRIDE line. -/
def State.overrideChange (new : Logical) (s : State) : State :=
  match s.dmn.interlock with
  | .held | .delay | .free => if new = .active then s.beginOverride else s
  | .overridden => if new = .active then s else s.endOverride
  | .forced => s

/-! ### Line changes (R27, R134, R149) -/

/-- The slots in which a configured door set names a line. -/
def State.slotsNaming (s : State) (d : Fin 4) (n : Fin 32) : List DoorSlot :=
  if (s.doorCfg d).configured then doorSlots.filter fun k => (s.doorCfg d).line k == some n else []

/-- R149: a change of a RAMP_STOWED line is evaluated even where the door state stays. -/
def State.doorSlotChange (d : Fin 4) (v : Logical) (k : DoorSlot) (s : State) : State :=
  let s := s.rederive d (.line k v)
  if k = .ramp then s.evalInterlock else s

/-- A line's new logical value reaches the door sets that name it. -/
def State.doorLineChange (n : Fin 32) (v : Logical) (s : State) : State :=
  forEach (fun d s => (s.slotsNaming d n).foldl (fun s k => s.doorSlotChange d v k) s) s

/-! ### Modes and supply (R143, R151, R152) -/

def Door.mapTimers (f : Timer → Timer) (r : Door) : Door :=
  { r with openTimer := f r.openTimer, closeTimer := f r.closeTimer, lockTimer := f r.lockTimer,
           inconTimer := f r.inconTimer }

/-- R143: pause or resume the timers of every door set as the supply state and mode say. -/
def State.gateDoorTimers (s : State) : State :=
  let f := fun t : Timer => if s.doorTimersRun then t.resume s.now else t.pause s.now
  s.modDmn fun m => { m with doors := updAll m.doors fun _ r => r.mapTimers f }

/-- R151: a change of mode into one in which the interlock is FORCED; an episode ends (R150). -/
def State.forceInterlock (s : State) : State :=
  let s := if s.dmn.interlock = .overridden then
      (s.reportCleared .override).attend .door
    else s
  s.setInterlock .forced .stopped

/-- R151: a change of mode out of FORCED. -/
def State.freeInterlock (s : State) : State :=
  if s.overrideActive then s.beginOverride
  else if s.anyCondition then s.setInterlock .held .stopped
  else s.setInterlock .delay (.running s.now)

/-- R142, R150: the settling reports of the end of STARTUP and the exit from SETUP: the sets in index order, of one
set its six codes in the order of the symptoms in 8.1, and DOOR/0/OVERRIDE after them; the rules order
none of this (assumption 41). -/
def State.settleDoors (s : State) : State :=
  (forEach (n := 4) (fun d s =>
    if (s.doorCfg d).configured then s
    else (s.reportAllCleared (doorSyms.map (.door d))).modDoor d fun r => { r with marks := [] })
    s).reportCleared .override

end Sys2Proof.Machine
end

