-- ==== Sys2Proof/Machine/Needles.lean ====
section
/-! DEFINITION. The needle drive NDR (chapter 4): targets, the motion rule, homing, sweep, forcing and
crank suspension. -/

namespace Sys2Proof.Machine

/-! ### Tables of points (R51, R65) -/

/-- A quotient rounded half away from zero (0.6), for a positive divisor. -/
def divHalfAway (num den : Int) : Int :=
  if 0 ≤ num then (2 * num + den) / (2 * den) else -((2 * -num + den) / (2 * den))

/-- From point `q` on, with x at or above its first coordinate. -/
def curveFrom (x : Int) : Int × Int → Curve → Int
  | q, [] => q.2
  | q, r :: rest =>
    if x < r.1 then q.2 + divHalfAway ((x - q.1) * (r.2 - q.2)) (r.1 - q.1)
    else curveFrom x r rest

/-- R51, R65: end points clamp, and between two points the quotient is rounded. -/
def curveAt (c : Curve) (x : Int) : Option Int :=
  match c with
  | [] => none
  | q :: rest => some (if x ≤ q.1 then q.2 else curveFrom x q rest)

/-! ### The effective state: the resume state while SUSPENDED (R78) -/

def Needle.effective (n : Needle) : NeedleState :=
  if n.st = .suspended then n.resume.getD .suspended else n.st

def Needle.become (x : NeedleState) (n : Needle) : Needle :=
  if n.st = .suspended then { n with resume := some x } else { n with st := x }

def NeedleState.isSweeping : NeedleState → Bool
  | .sweepUp | .sweepReturn => true
  | _ => false

def NeedleState.isHoming : NeedleState → Bool
  | .homingWaiting | .homingDriving => true
  | _ => false

def forNeedles (f : Fin 6 → Needle → Needle) (s : State) : State :=
  s.modNdr fun d => { d with needles := updAll d.needles f }

/-! ### Targets (R65 to R67) -/

/-- R67: outside a hold, each change of the latest target is copied to the published target. -/
def Needle.aim (hold : Bool) (t : Nat) (n : Needle) : Needle :=
  { n with latest := t, published := if hold then n.published else t }

def State.setLatest (k : Fin 6) (t : Nat) (s : State) : State :=
  s.modNeedle k (Needle.aim s.lif.hold t)

/-- R65, R66: NDR acts on what GVE hands on for a channel. -/
def State.needleInput (k : Fin 6) (s : State) : State :=
  match (s.channel k).st with
  | .valid =>
    match (s.channel k).f.bind (curveAt s.tables.dials[k]) with
    | some p => s.setLatest k p.toNat
    | none => s
  | .fault | .lost => if (s.channelCfg k).holdLast then s else s.setLatest k 0
  | .stale | .init => s

/-- R67: at the end of a hold each published target takes its latest target. -/
def State.publishTargets (s : State) : State :=
  forNeedles (fun _ n => { n with published := n.latest }) s

/-! ### Motion (R68 to R70) -/

/-- R68, step 3: the largest candidate from which the needle can still stop at the target. -/
def nextSpeed (speed smax : Nat) (rem : Int) : Nat :=
  let ok := fun c : Nat => decide (((c * (c + 1) / 2 : Nat) : Int) ≤ rem)
  match [speed - 1, speed, min (speed + 1) smax].filter ok with
  | [] => speed - 1
  | l => l.foldl max 0

/-- R68, step 2. -/
def turn (n : Needle) (a target : Nat) : Direction :=
  if n.speed = 0 then (if a < target then .up else .down) else n.dir

/-- R68, R69: one motion interval of a needle at `a` towards `target`. -/
def Needle.moveTo (target pmax smax a : Nat) (n : Needle) : Needle :=
  if n.speed = 0 ∧ a = target then n
  else
    let dir := turn n a target
    match dir with
    | .up =>
      let v := nextSpeed n.speed smax ((target : Int) - a)
      if pmax < a + v then { n with pos := some pmax, speed := 0, dir := dir }
      else { n with pos := some (a + v), speed := v, dir := dir }
    | .down =>
      let v := nextSpeed n.speed smax ((a : Int) - target)
      if a < v then { n with pos := some 0, speed := 0, dir := dir }
      else { n with pos := some (a - v), speed := v, dir := dir }

/-- 4.1: the target in use; none where there is no motion rule. -/
def Needle.target (n : Needle) (pmax : Nat) (forced : Option Nat) : Option Nat :=
  match n.st with
  | .tracking | .sweepReturn => some n.published
  | .sweepUp => some pmax
  | .parked => some 0
  | .forced => forced
  | .homingWaiting | .homingDriving | .suspended => none

/-- R75: a member's leg after an interval. -/
def Needle.turnLeg (pmax : Nat) (n : Needle) : Needle :=
  if n.st = .sweepUp ∧ n.pos = some pmax then { n with st := .sweepReturn } else n

/-- R75: the return leg ends at the target in use, or below it on the way down. -/
def Needle.endLeg (n : Needle) : Needle :=
  match n.pos with
  | some a =>
    if n.st = .sweepReturn ∧ (a = n.published ∨ (n.dir = .down ∧ a ≤ n.published)) then
      { n with st := .tracking }
    else n
  | none => n

/-- One motion interval outside homing; no motion while the position is not established (R69). -/
def Needle.interval (pmax smax : Nat) (forced : Option Nat) (n : Needle) : Needle :=
  match n.pos, n.target pmax forced with
  | some a, some t => ((n.moveTo t pmax smax a).turnLeg pmax).endLeg
  | _, _ => n

/-- R75, R76: the sweep ends when no member remains, with OPDONE. -/
def State.endSweep (s : State) : State :=
  if s.ndr.sweep ∧ ¬ s.ndr.needles.toList.any (·.effective.isSweeping) then
    (s.modNdr fun d => { d with sweep := false }).attend .opdone
  else s

/-! ### Homing (R71 to R73) -/

/-- R71: begin homing over Pmax + 64 microsteps. A SUSPENDED needle loses its established position and takes
direction DOWN at the event too, and not at the end of CRANK (assumption 44). -/
def Needle.beginHoming (pmax : Nat) (n : Needle) : Needle :=
  { n with count := pmax + 64, pos := none, speed := 0, dir := .down }.become .homingDriving

/-- R72: the state due at the completion of homing. -/
def homedState (m : Mode) (forced : Option Nat) : NeedleState :=
  if m.isRunning then (if forced.isSome then .forced else .tracking) else .parked

/-- R72: one interval of the homing drive. -/
def Needle.homingStep (m : Mode) (forced : Option Nat) (n : Needle) : Needle :=
  let left := n.count - (if n.count = 1 then 1 else 2)
  if left = 0 then
    { n with count := 0, pos := some 0, speed := 0, dir := .up, st := homedState m forced }
  else { n with count := left }

/-- R68, R72: the motion interval of a needle. -/
def State.motion (k : Fin 6) (s : State) : State :=
  let c := s.channelCfg k
  let forced := s.wsv.needles[k]
  let n := s.needle k
  if n.st = .homingDriving then s.modNeedle k (Needle.homingStep s.mode forced)
  else (s.modNeedle k (Needle.interval c.pmax c.smax forced)).endSweep

/-! ### Sweep and forcing (R74, R76, R77) -/

/-- R74: a named needle that is HOMING, or SUSPENDED with resume state HOMING. -/
def State.sweepBlocked (s : State) (named : List (Fin 6)) : Bool :=
  named.any fun k => (s.needle k).effective.isHoming

/-- R74: the members of an accepted sweep take leg UP; with none the sweep ends at once. -/
def State.startSweep (named : List (Fin 6)) (s : State) : State :=
  (forNeedles (fun k n =>
      if named.contains k && n.effective != .forced then n.become .sweepUp else n)
    (s.modNdr fun d => { d with sweep := true })).endSweep

/-- R77, R181: what a forcing record created or changed does to a needle. A SUSPENDED needle takes FORCED
as its resume state whatever it was; a homing that was suspended is then over, with the position still
not established, so that the needle stands until it homes again (R69; assumption 23). -/
def Needle.takeForce (n : Needle) : Needle :=
  match n.st with
  | .tracking | .sweepUp | .sweepReturn => { n with st := .forced }
  | .suspended => { n with resume := some .forced, count := 0 }
  | _ => n

/-- R77: a forcing record created or changed; a member leaves the sweep. -/
def State.needleForced (k : Fin 6) (s : State) : State := (s.modNeedle k Needle.takeForce).endSweep

/-- R77: a forcing record ended. -/
def Needle.unforce (n : Needle) : Needle :=
  if n.effective = .forced then n.become .tracking else n

/-! ### Crank (R78) -/

def Needle.suspend (n : Needle) : Needle :=
  match n.st with
  | .homingWaiting | .suspended => n
  | x => { n with st := .suspended, resume := some x, speed := 0 }

def Needle.wakeUp (n : Needle) : Needle :=
  if n.st = .suspended then { n with st := n.resume.getD .suspended, resume := none } else n

/-! ### Modes (R79 to R81) -/

/-- R79: entry to STANDBY or SETUP parks the needle. -/
def Needle.park (n : Needle) : Needle :=
  match n.effective with
  | .tracking | .sweepUp | .sweepReturn | .forced => n.become .parked
  | _ => n

/-- R71, R79: entry to RUN from another mode than WORKSHOP; ignition-on homes where configured
(assumptions 22 and 29). -/
def Needle.enterRun (c : ChannelCfg) (n : Needle) : Needle :=
  let n := if n.effective = .parked then n.become .tracking else n
  if n.st = .homingWaiting ∨ (c.homing ∧ n.effective ≠ .homingDriving) then n.beginHoming c.pmax
  else n

/-- R81: SLEEP entry. -/
def Needle.toSleep (n : Needle) : Needle :=
  match n.st with
  | .parked => { n with speed := 0 }
  | .homingDriving => { n with st := .homingWaiting, count := 0 }
  | _ => n

def State.parkNeedles (s : State) : State := (forNeedles (fun _ n => n.park) s).endSweep

def State.runNeedles (s : State) : State :=
  forNeedles (fun k n => n.enterRun (s.channelCfg k)) s

def State.homeAllNeedles (s : State) : State :=
  forNeedles (fun k n => n.beginHoming (s.channelCfg k).pmax) s

/-- R64, R83: the drive of a needle is energised outside STARTUP and SLEEP, except in phase WAITING. -/
def State.driveEnergised (s : State) (k : Fin 6) : Bool :=
  s.mode != .startup && s.mode != .sleep && (s.needle k).st != .homingWaiting

end Sys2Proof.Machine
end

