-- ==== Sys2Proof/Machine/Harness.lean ====
section
/-! DEFINITION. The harness line monitor HLM (chapter 2): measurement and classification, debounce, the
fault status walk, comparators, and what modes and supply states do to the line records. What a changed
logical value does to its consumers stands in Machine/Lines.lean. -/

namespace Sys2Proof.Machine

/-! ### Measurement and class (R20 to R24) -/

/-- R23: the ratio of a line voltage to VB in ratio units, clamped to 10 000. -/
def ratioOf (mv vb : Nat) : Nat := min ((mv * 10000 + vb / 2) / vb) 10000

/-- R23: a voltage above 40 000 mV reads as 40 000 mV; without a VB measurement the ratio is free
(assumption 5). -/
def State.measure (s : State) (mv : Nat) : State × (Nat × Nat) :=
  let v := min mv 40000
  match s.mctl.vb with
  | some vb =>
    if vb = 0 then (s.fresh.1, (v, min (Config.ratioWithoutVb s.fresh.2) 10000))
    else (s, (v, ratioOf v vb))
  | none => (s.fresh.1, (v, min (Config.ratioWithoutVb s.fresh.2) 10000))

/-- R20: the functions that are sampled, classified and debounced. -/
def LineFn.classified : LineFn → Bool
  | .off | .pulse => false
  | _ => true

/-- R24: the comparison value. -/
def LineCfg.compared (c : LineCfg) (m : Nat × Nat) : Nat := if c.fn = .analogVolt then m.1 else m.2

/-- R24: the number of the band. -/
def LineCfg.band (c : LineCfg) (x : Nat) : Nat :=
  if x < c.w1 then 0 else if x < c.w2 then 1 else if x < c.w3 then 2 else if x < c.w4 then 3
  else if x < c.w5 then 4 else 5

def LineCfg.bandClass (c : LineCfg) : Nat → LineClass
  | 0 => c.b0
  | 1 => c.b1
  | 2 => c.b2
  | 3 => c.b3
  | 4 => c.b4
  | _ => c.b5

def LineClass.symptom : LineClass → Option LineSym
  | .faultOpen => some .openWire
  | .faultShortGnd => some .shortGnd
  | .faultShortBat => some .shortBat
  | _ => none

/-- A FAULT_* class (2.1). -/
def LineClass.isFault (c : LineClass) : Bool := c.symptom.isSome

/-- R21: with diagnosis SUPPRESSED a FAULT_* class reads as INVALID. -/
def LineCfg.classAt (c : LineCfg) (x : Nat) : LineClass :=
  let k := c.bandClass (c.band x)
  if c.suppressed && k.isFault then .invalid else k

/-! ### Reports and fault status (R29 to R34) -/

def lineSyms : List LineSym := [.openWire, .shortGnd, .shortBat]

/-- The code of the symptom that the accepted class has. -/
def LineRec.acceptedSym (r : LineRec) : Option LineSym := r.accepted.bind LineClass.symptom

/-- R35, R36, R38: the fault timers run except in CRANK, in HIGH and in SLEEP. -/
def State.faultTimersRun (s : State) : Bool :=
  s.supply != .crank && s.supply != .high && s.mode != .sleep

/-- R33: a line that settles reports CLEARED for its three codes, in the order of 8.1 (assumption 41). -/
def State.settleLine (n : Fin 32) (s : State) : State :=
  (s.reportAllCleared (lineSyms.map (.line n))).modLine n fun r => { r with symptom := .nothing }

/-- R33: the first acceptance of a healthy class by a line whose reported symptom is ANY. -/
def State.settleIfAny (n : Fin 32) (s : State) : State :=
  if (s.line n).symptom = .any then s.settleLine n else s

/-- R30, R32: the reported symptom becomes `y`, with CLEARED for what it was before (of two other codes in the
order of 8.1, assumption 41). -/
def State.reportSymptom (n : Fin 32) (y : LineSym) (s : State) : State :=
  let s :=
    match (s.line n).symptom with
    | .any => s.reportAllCleared ((lineSyms.filter (· ≠ y)).map (.line n))
    | .sym x => s.reportCleared (.line n x)
    | .nothing => s
  (s.reportActive (.line n y)).modLine n fun r => { r with symptom := .sym y }

/-- R34: an entry of the status to CONFIRMED. -/
def State.enterConfirmed (n : Fin 32) (s : State) : State :=
  (s.modLine n fun r =>
    { r with status := .confirmed, timer := .stopped, flag := true }).attend .line

/-- R34: a return of the status to NONE. -/
def State.returnToNone (n : Fin 32) (s : State) : State :=
  (s.modLine n fun r => { r with status := .clear, timer := .stopped }).attend .line

/-- R29 to R33: the fault status at the acceptance of a class. -/
def State.walkStatus (n : Fin 32) (k : LineClass) (s : State) : State :=
  let start := Timer.start s.now s.faultTimersRun
  match (s.line n).status, k.symptom with
  | .clear, some _ =>
    s.modLine n fun r => { r with status := .pending, timer := start, flag := true }
  | .clear, none => s.settleIfAny n
  | .pending, some _ => s
  | .pending, none => (s.returnToNone n).settleIfAny n
  | .confirmed, some y =>
    if (s.line n).symptom = .sym y then s else (s.reportSymptom n y).enterConfirmed n
  | .confirmed, none => s.modLine n fun r => { r with status := .healing, timer := start }
  | .healing, some y =>
    (if (s.line n).symptom = .sym y then s else s.reportSymptom n y).enterConfirmed n
  | .healing, none => s

/-- R30: the qualify timer expires; the symptom confirmed is that of the accepted class. -/
def State.confirmLine (n : Fin 32) (s : State) : State :=
  match (s.line n).acceptedSym with
  | some y => (s.reportSymptom n y).enterConfirmed n
  | none => s

/-- R31: the heal timer expires. -/
def State.healLine (n : Fin 32) (s : State) : State :=
  let s :=
    match (s.line n).symptom with
    | .sym y => s.reportCleared (.line n y)
    | _ => s
  (s.modLine n fun r => { r with symptom := .nothing }).returnToNone n

/-! ### Debounce and acceptance (R25) -/

/-- R25, first two steps. -/
def LineRec.debounce (k : LineClass) (limit : Nat) (r : LineRec) : LineRec :=
  if r.candidate = some k then { r with count := min (r.count + 1) limit }
  else { r with candidate := some k, count := 1 }

/-- R25, third step: the accepted class becomes the candidate. -/
def State.acceptIfDue (n : Fin 32) (k : LineClass) (s : State) : State :=
  if (s.lineCfg n).debounce ≤ (s.line n).count ∧ (s.line n).accepted ≠ some k then
    (s.modLine n fun r => { r with accepted := some k }).walkStatus n k
  else s

/-- R23 to R25: a sample of a classified line, up to its fault status. -/
def State.classify (n : Fin 32) (mv : Nat) (s : State) : State :=
  let c := s.lineCfg n
  let (s, m) := s.measure mv
  let k := c.classAt (c.compared m)
  let s := s.modLine n fun r =>
    { r with measured := some m, usable := if k.isFault then r.usable else some m }
  (s.modLine n (LineRec.debounce k c.debounce)).acceptIfDue n k

/-- R37: in STARTUP a sample only becomes the last measured value. -/
def State.measureOnly (n : Fin 32) (mv : Nat) (s : State) : State :=
  let (s, m) := s.measure mv
  s.modLine n fun r => { r with measured := some m }

/-! ### Comparators (R28) -/

/-- R28: the level of a comparator for a ratio. -/
def Comparator.next (c : LineCfg) (r : Nat) : Comparator → Comparator
  | .stopped => .stopped
  | .fresh => if c.w2 ≤ r then .high else .low
  | .low => if c.w2 ≤ r then .high else .low
  | .high => if r < c.w1 then .low else .high

/-- R28: whether a change of level is an edge of the configured direction. -/
def edgeOf (falling : Bool) (before after : Comparator) : Bool :=
  if falling then before == .high && after == .low else before == .low && after == .high

/-! ### Modes and supply (R33, R35 to R38, R41) -/

def forLines (f : Fin 32 → LineRec → LineRec) (s : State) : State :=
  s.modHlm fun h => { h with lines := updAll h.lines f }

/-- R38: the lines named in the records of configured door sets. -/
def State.watched (s : State) (n : Fin 32) : Bool := s.tables.doorLines.contains n

/-- R35, R36, R38: pause or resume the fault timers as the supply state and mode say. -/
def State.gateFaultTimers (s : State) : State :=
  forLines (fun _ r =>
    { r with timer := if s.faultTimersRun then r.timer.resume s.now else r.timer.pause s.now }) s

def LineRec.restartDebounce (r : LineRec) : LineRec := { r with candidate := none, count := 0 }

/-- R35: the end of CRANK restarts the debounce of every scanned line. -/
def State.restartDebounces (s : State) : State :=
  forLines (fun n r => if (s.lineCfg n).fn.classified then r.restartDebounce else r) s

/-- R28, R37, R38: the comparators start (end of STARTUP, exit from SETUP, wake). -/
def State.startComparators (s : State) : State :=
  forLines (fun n r =>
    { r with comparator := if (s.lineCfg n).fn = .pulse then .fresh else .stopped }) s

def State.stopComparators (s : State) : State :=
  forLines (fun _ r => { r with comparator := .stopped }) s

/-- R37: at the end of STARTUP the last measured values of OFF and PULSE lines become absent. -/
def State.dropUnclassified (s : State) : State :=
  forLines (fun n r =>
    if (s.lineCfg n).fn.classified then r else { r with measured := none }) s

/-- R33: at the end of STARTUP and the exit from SETUP. -/
def State.settleLines (s : State) : State :=
  forEach (fun n s =>
    if !(s.lineCfg n).fn.classified || (s.lineCfg n).suppressed then s.settleLine n else s) s

/-- R20: whether a line's configured bias is connected; a configured bias NONE counts as connected where
another one would be (assumption 49). -/
def State.biasConnected (s : State) (n : Fin 32) : Bool :=
  (s.lineCfg n).fn != .off &&
    match s.mode with
    | .startup => false
    | .sleep => s.watched n && (s.lineCfg n).fn.classified
    | _ => true

end Sys2Proof.Machine
end

