-- ==== Sys2Proof/Machine/Gauges.lean ====
section
/-! DEFINITION. The gauge value engine GVE (chapter 3): capture units, the period estimator, sensor
scaling, host feeds, the filter, and gauge fault reports. -/

namespace Sys2Proof.Machine

/-! ### Capture units (R44, R45) -/

/-- R44: what a unit's time base reads. -/
def State.timeBase (s : State) (u : Fin 2) : BitVec 32 :=
  BitVec.ofNat 32 ((s.unit u).base.elapsed s.now)

/-- The unit a PULSE line feeds. -/
def LineCfg.unit (c : LineCfg) : Fin 2 := if c.unitC1 then 1 else 0

/-- The unit a PULSE channel reads. -/
def ChannelCfg.unit (c : ChannelCfg) : Fin 2 := if c.input = 1 then 1 else 0

/-- R45: P_min of the channel that names the unit, or 50 µs. -/
def State.unitPMin (s : State) (u : Fin 2) : Nat :=
  match (List.finRange 6).find? fun k =>
      (s.channelCfg k).source == .pulse && (s.channelCfg k).unit == u with
  | some k => (s.channelCfg k).pMin
  | none => 50

/-- R45: an edge with timestamp `t`. -/
def Capture.edge (t : BitVec 32) (pMin : Nat) (u : Capture) : Capture :=
  match u.tRef, u.tLast with
  | some _, some l =>
    if (t - l).toNat < pMin then { u with glitches := min (u.glitches + 1) 255 }
    else { u with tLast := some t, edges := min (u.edges + 1) 65535 }
  | _, _ => { u with tRef := some t, tLast := some t, edges := 0 }

/-- R47, R48: the unit drops its reference edge. -/
def Capture.dropReference (u : Capture) : Capture :=
  { u with tRef := none, tLast := none, edges := 0 }

/-! ### The period estimator (R46 to R49) -/

/-- R46: (K + P div 2) div P, clamped to Emax. -/
def speedOf (k p : Nat) (emax : Int) : Int := min (((k + p / 2) / p : Nat) : Int) emax

/-- Elapsed time between two readings of one unit, modulo 2^32 (R44). -/
def since (t ref : BitVec 32) : Nat := (t - ref).toNat

def Channel.standing (h : Channel) : Channel := { h with e := some 0, standstill := true }

/-- R46. -/
def estimateEdges (c : ChannelCfg) (ref last : BitVec 32) (u : Capture) (h : Channel) :
    Capture × Channel :=
  let p := since last ref / u.edges
  ({ u with tRef := some last, edges := 0 },
   { h with pLast := some p, standstill := false, e := some (speedOf c.k p c.emax),
            st := if h.st = .init then .valid else h.st })

/-- R47. -/
def estimateWait (c : ChannelCfg) (t ref : BitVec 32) (p : Nat) (u : Capture) (h : Channel) :
    Capture × Channel :=
  if since t ref < ms c.standstill then
    (u, { h with e := some (speedOf c.k (max p (since t ref)) c.emax), standstill := false })
  else (u.dropReference, { h.standing with pLast := none })

/-- R48, as its table counts: the INIT timeout runs from the reference edge where there is one, and otherwise
from the channel start time (assumption 45). -/
def estimateNone (c : ChannelCfg) (t start : BitVec 32) (u : Capture) (h : Channel) :
    Capture × Channel :=
  let overdue := ms c.standstill ≤ since t (u.tRef.getD start)
  match h.st with
  | .init => if overdue then (u, { h.standing with st := .valid }) else (u, { h with e := none })
  | _ => if u.tRef.isSome && overdue then (u.dropReference, h.standing) else (u, h.standing)

/-- R46 to R48 at time `t` of the unit. -/
def estimate (c : ChannelCfg) (t : BitVec 32) (u : Capture) (h : Channel) : Capture × Channel :=
  let start := h.start.getD t
  let h := { h with start := some start }
  if 1 ≤ u.edges then estimateEdges c (u.tRef.getD t) (u.tLast.getD t) u h
  else
    match h.pLast with
    | some p => estimateWait c t (u.tRef.getD t) p u h
    | none => estimateNone c t start u h

/-- R49: the glitches since the previous sample decide FAULT and recovery. -/
def noiseState (glitches : Nat) (st : ChannelState) : ChannelState :=
  if 16 ≤ glitches then .fault
  else if glitches = 0 ∧ st = .fault then .valid
  else st

/-! ### Line and host channels (R50, R51, R54) -/

def clampTo (lo hi v : Int) : Int := max lo (min v hi)

/-- R50, R51: the E of a trusted line through the sensor table. -/
def lineValue (c : ChannelCfg) (curve : Curve) (x : Nat) : Option Int :=
  (curveAt curve x).map (clampTo c.emin c.emax)

/-- The comparison value of the last usable value (R50). -/
def State.usableValue (s : State) (n : Fin 32) : Nat :=
  match (s.line n).usable with
  | some m => (s.lineCfg n).compared m
  | none => Config.usableWhenAbsent s.freeCount

/-- The counter of free values advances where one may have been used. -/
def State.useFree (used : Bool) (s : State) : State := if used then s.fresh.1 else s

/-- R50: a sample of a LINE channel. -/
def State.lineChannel (k : Fin 6) (n : Fin 32) (s : State) (h : Channel) : Channel :=
  match s.logical n with
  | .active | .inactive =>
    { h with
      st := .valid
      e := (lineValue (s.channelCfg k) s.tables.sensors[k] (s.usableValue n)).or h.e }
  | .invalid =>
    if (s.line n).accepted = none ∧ h.st = .init then h else { h with st := .fault }

/-- R54: a sample of a HOST channel. -/
def hostChannel (c : ChannelCfg) (h : Channel) : Channel :=
  match h.newFeed, h.fed with
  | true, some v => { h with e := some (clampTo c.emin c.emax v), st := .valid, newFeed := false }
  | _, _ => h

/-! ### The filter (R55) -/

/-- R55: the step, truncated toward zero and at least 1 in size while the distance is not 0. -/
def filterStep (d : Int) (shift : Nat) : Int :=
  let q := Int.tdiv d (2 ^ shift)
  if q = 0 then d.sign else q

/-- R55: the filter after a sample whose source state before it was `before`. -/
def Channel.filter (c : ChannelCfg) (before : ChannelState) (h : Channel) : Channel :=
  if h.st.known then
    let e := h.e.getD 0
    let f256 :=
      if c.snap && h.standstill then 0
      else if before.known then h.f256 + filterStep (256 * e - h.f256) c.shift
      else 256 * e
    { h with f256 := f256, f := some ((f256 + 128) / 256) }
  else h

/-! ### Reports (R49, R60) -/

/-- R60: at an entry to VALID, CLEARED for each code whose mark is set, LOST first (assumption 41). -/
def State.gaugeValid (k : Fin 6) (s : State) : State :=
  let s := if (s.channel k).lostMark then s.reportCleared (.gauge k .lost) else s
  let s := if (s.channel k).noiseMark then s.reportCleared (.gauge k .pulseNoise) else s
  s.modChannel k fun h => { h with lostMark := false, noiseMark := false }

/-- R49: at an entry to FAULT by pulse noise. -/
def State.noiseReport (k : Fin 6) (s : State) : State :=
  if (s.channel k).noiseMark then s
  else (s.reportActive (.gauge k .pulseNoise)).modChannel k fun h => { h with noiseMark := true }

def State.gaugeReports (k : Fin 6) (before : ChannelState) (s : State) : State :=
  let after := (s.channel k).st
  if after = before then s
  else if after = .valid then s.gaugeValid k
  else if after = .fault ∧ (s.channelCfg k).source = .pulse then s.noiseReport k
  else s

/-! ### The sample (R42) -/

/-- The acquisition of a PULSE channel, which also clears the unit's glitch count (R49). -/
def State.pulseAcquire (k : Fin 6) (s : State) : State :=
  let c := s.channelCfg k
  let u := s.unit c.unit
  let r := estimate c (s.timeBase c.unit) u (s.channel k)
  (s.modUnit c.unit fun _ => { r.1 with glitches := 0 }).modChannel k fun _ =>
    { r.2 with st := noiseState u.glitches r.2.st }

def State.acquire (k : Fin 6) (s : State) : State :=
  let c := s.channelCfg k
  match c.source with
  | .unused => s
  | .pulse => s.pulseAcquire k
  | .line =>
    match finOf 32 c.input with
    | some n => (s.modChannel k (s.lineChannel k n)).useFree ((s.line n).usable.isNone)
    | none => s
  | .host => s.modChannel k (hostChannel c)

/-- R42 to R60: a sample of a channel, up to what NDR is handed (R57). -/
def State.sampleChannel (k : Fin 6) (s : State) : State :=
  let before := (s.channel k).st
  let s := s.acquire k
  let s := s.modChannel k (Channel.filter (s.channelCfg k) before)
  (s.gaugeReports k before).needleInput k

/-! ### The feed timer (R53) -/

/-- R53: the feed timer expires. -/
def State.feedExpired (k : Fin 6) (s : State) : State :=
  if (s.channel k).expiries = 0 then
    (s.modChannel k fun h =>
      { h with st := .stale, expiries := 1, feedTimer := .running s.now }).needleInput k
  else
    let s := s.modChannel k fun h => { h with st := .lost, expiries := 2, feedTimer := .stopped }
    let s := if (s.channel k).lostMark then s
      else (s.reportActive (.gauge k .lost)).modChannel k fun h => { h with lostMark := true }
    s.needleInput k

/-! ### Modes (R60, R62) -/

def forChannels (f : Fin 6 → Channel → Channel) (s : State) : State :=
  s.modGve fun g => { g with channels := updAll g.channels f }

def forUnits (f : Capture → Capture) (s : State) : State :=
  s.modGve fun g => { g with units := updAll g.units fun _ u => f u }

/-- R44: the time bases start from 0. -/
def State.startUnits (s : State) : State := forUnits (fun _ => { base := .running s.now }) s

/-- R62: SLEEP entry stops the capture units and the feed timers. -/
def State.stopGauges (s : State) : State :=
  forChannels (fun _ h => { h with feedTimer := h.feedTimer.pause s.now })
    (forUnits (fun u => { u with base := u.base.pause s.now }) s)

/-- R62: the wake resets source states and units and keeps the reported marks; a feed not yet sampled
is forgotten (assumption 24). -/
def State.wakeGauges (s : State) : State :=
  forChannels (fun _ h =>
    { h with st := .init, e := none, standstill := false, pLast := none, start := none,
             newFeed := false, feedTimer := .stopped, expiries := 0 }) s.startUnits

/-- R62: the exit from SETUP resets channels and units, except that the time bases keep running. -/
def State.resetGauges (s : State) : State :=
  forUnits (fun u => { base := u.base }) (forChannels (fun _ _ => {}) s)

/-- R60: the codes that a source cannot raise. -/
def Source.settles : Source → Bool × Bool
  | .unused | .line => (true, true)
  | .pulse => (true, false)
  | .host => (false, true)

/-- R60: at the end of STARTUP and the exit from SETUP, in channel order and LOST first (assumption 41). -/
def State.settleGauges (s : State) : State :=
  forEach (fun k s =>
    let (lost, noise) := (s.channelCfg k).source.settles
    let s := if lost then s.reportCleared (.gauge k .lost) else s
    let s := if noise then s.reportCleared (.gauge k .pulseNoise) else s
    s.modChannel k fun h =>
      { h with lostMark := h.lostMark && !lost, noiseMark := h.noiseMark && !noise }) s

end Sys2Proof.Machine
end

