-- ==== Sys2Proof/Machine/Forcing.lean ====
section
/-! DEFINITION. What the workshop services WSV do with their forcing records (9.2): the ending of one
record and of all of them, handed to PRU and NDR. -/

namespace Sys2Proof.Machine

/-- R178, R183: the lamp returns to its lamp level. -/
def State.endLampForce (n : Fin 24) (s : State) : State :=
  (s.modWsv fun w => { w with lamps := w.lamps.set n none }).refreshPru

/-- R77, R183: the forced position becomes none, and a FORCED needle becomes TRACKING. -/
def State.endNeedleForce (k : Fin 6) (s : State) : State :=
  (s.modWsv fun w => { w with needles := w.needles.set k none }).modNeedle k Needle.unforce

/-- R182, R183: the sounder leaves the forced pattern and the arbiter decides a winner. -/
def State.endChimeForce (s : State) : State :=
  ((s.modWsv fun w => { w with chime := none }).soundOff).refreshChime

def State.endLampForces (s : State) : State :=
  (s.modWsv fun w => { w with lamps := .replicate 24 none }).refreshPru

def State.endNeedleForces (s : State) : State :=
  forNeedles (fun _ n => n.unforce) (s.modWsv fun w => { w with needles := .replicate 6 none })

/-- End the chime's record if there is one. -/
def State.endChimeIfForced (s : State) : State :=
  if s.wsv.chime.isSome then s.endChimeForce else s

/-- R183, R184: end every record that WSV holds. -/
def State.endAllForcing (s : State) : State := s.endLampForces.endNeedleForces.endChimeIfForced

/-- How many records WSV holds (R183). -/
def Wsv.records (w : Wsv) : Nat :=
  (w.lamps.toList.filter Option.isSome).length + (w.needles.toList.filter Option.isSome).length
    + (if w.chime.isSome then 1 else 0)

end Sys2Proof.Machine
end

