-- ==== Sys2Proof/Machine/Modes.lean ====
section
/-! DEFINITION. The mode controller MCTL (chapter 1): mode changes with what each block does at them,
ignition-on and ignition-off, the presentation hold, supply states, the ignition input and the resets. -/

namespace Sys2Proof.Machine

/-! ### Mode and hold -/

/-- R6: the new mode; a SLEEP entry still to come is dropped when STANDBY is left (assumption 14). -/
def State.setMode (m : Mode) (s : State) : State :=
  s.modMctl fun c => { c with mode := m, sleepPending := c.sleepPending && m == .standby }

/-- R206: the hold begins. -/
def State.beginHold (s : State) : State :=
  s.modLif fun l => { l with hold := true, holdTimer := .running s.now }

/-- R206: the hold ends, and NDR and PRU release what they publish (R67, R116, R124). -/
def State.endHold (s : State) : State :=
  (s.modLif fun l => { l with hold := false, holdTimer := .stopped }).publishList.publishTargets
    |>.refreshPru

/-- R207: the end of STARTUP and the wake act as an assertion of HOLD. -/
def State.holdIfAsserted (s : State) : State := if s.pins.holdAsserted then s.beginHold else s

/-- R202: entry to a timed mode from any other mode. -/
def State.startSilenceTimer (s : State) : State :=
  s.modLif fun l =>
    { l with silenceTimer := if l.silence then .stopped else .running s.now }

def State.stopSilenceTimer (s : State) : State :=
  s.modLif fun l => { l with silenceTimer := .stopped }

/-! ### When the periodic events fall (assumption 2) -/

/-- VB every 2 ms, and the lines in index order, one every 125 µs. -/
def State.startScans (s : State) : State :=
  s.modSched fun c =>
    { c with vb := s.now + ms 2, lines := .ofFn fun n => s.now + 125 * n.val }

/-- The first moment of a periodic series, of which one moment is given, that has not passed. -/
def onGrid (period now due : Nat) : Nat :=
  if now ≤ due then due else due + period * ((now - due + period - 1) / period)

/-- The events that run outside STARTUP and SLEEP begin one period from now. -/
def State.startServices (s : State) : State :=
  s.modSched fun c =>
    { c with channels := .replicate 6 (s.now + ms 10), needles := .replicate 6 (s.now + ms 1),
             pass := s.now + ms 10, flash := s.now + ms 1,
             lamps := .replicate 24 (s.now + ms 1) }

/-! ### Ignition-on and ignition-off (R10, R11) -/

/-- The operating-minute timer starts, or counts on from its part-minute remainder. -/
def Timer.goOn (now : Nat) (t : Timer) : Timer :=
  match t with
  | .stopped => .running now
  | .paused e => .running ((now : Int) - e)
  | .running t => .running t

/-- R11: what the blocks do at an ignition-on, in mode RUN. -/
def State.ignitionOn (s : State) : State :=
  let s := s.bump ignitionPlace
  let s := s.modMctl fun c => { c with cycle := true, minute := c.minute.goOn s.now }
  let s := s.startLampCheck.endIgnitionLatches.runNeedles
  s.publishLamps.refreshChime

/-- R10: an entry to RUN that begins an ignition cycle. -/
def State.enterRun (s : State) : State := (s.setMode .run).ignitionOn

/-- R184: every exit from WORKSHOP ends all forcing. -/
def State.endForcingOf (m : Mode) (s : State) : State :=
  if m = .workshop then s.endAllForcing else s

/-- R10, R11: the ignition-off. -/
def State.ignitionOff (s : State) : State :=
  let was := s.mode
  let s := s.setMode .standby
  let s := s.modMctl fun c => { c with cycle := false, minute := c.minute.pause s.now }
  let s := s.endLampCheck.ageFaults.withdrawAll.refreshOutputs
  (s.endForcingOf was).parkNeedles.refreshPru

/-! ### WORKSHOP (R13) -/

/-- R13: WORKSHOP is left for RUN; the ignition cycle and the services go on (assumption 28). -/
def State.leaveWorkshop (s : State) : State := ((s.setMode .run).endAllForcing).refreshPru

/-- R13: an automatic exit sets attention cause MODE. -/
def State.workshopToRun (s : State) : State := s.leaveWorkshop.attend .mode

/-- R13: a speed update or a PARKING_BRAKE change after which MOVING holds. -/
def State.leaveWorkshopIfMoving (s : State) : State :=
  if s.mode = .workshop ∧ s.moving then s.workshopToRun else s

/-! ### SETUP (R12, R212, R214) -/

/-- R12, R212: the entry to SETUP. -/
def State.enterSetup (s : State) : State :=
  let s := { s with written := some s.tables }.setMode .setup
  s.allRulesOff.parkNeedles.forceInterlock.stopSilenceTimer.refreshPru

/-- R33, R60, R107, R127, R142: the reports at the end of STARTUP and at the exit from SETUP, in the order HLM,
GVE, WEV, PRU, DMN, within each block in index order, of one object in the order of its symptoms in 8.1, and
DOOR/0/OVERRIDE last (assumption 41). -/
def State.settleBlocks (s : State) : State :=
  s.settleLines.settleGauges.settleRules.settleLamps.settleDoors

/-- R12: HLM, GVE, NDR, WEV, PRU and DMN take their reset values and the tables as written. -/
def State.takeUpTables (t : Tables) (s : State) : State :=
  { s with
    tables := t, written := none, hlm := { summaryNo := s.hlm.summaryNo }, ndr := {}, wev := {},
    pru := {}, dmn := {} }.resetGauges

/-- R12: the successful exit from SETUP; the flash phase runs on from 0 (assumption 20), and the comparator of
every PULSE line takes a first level without an edge, as at the end of STARTUP (assumption 43). The channels'
10 ms series runs on from SETUP: the first sample after the exit falls where the series has it, and at once for
a channel that had no source before (R62 gives no moment; assumption 52). The 4 ms scan runs on in the same way,
and a line that was OFF or PULSE before joins it at its own place of the 125 µs grid (R37 gives no moment;
assumption 55). The entries that the new aging limit makes too old are removed before the blocks settle their
codes (R162 gives no order; assumption 53). -/
def State.exitSetup (t : Tables) (s : State) : State :=
  let s := (s.takeUpTables t).removeOverAged t.general.agingLimit
  let s := s.settleBlocks.startComparators
  let s := s.modSched fun c =>
    { c with lines := c.lines.map (onGrid (ms 4) s.now), pass := s.now + ms 10,
             flash := s.now + ms 1 }
  let s := if s.mctl.ign = .active then s.enterRun else s.setMode .standby
  s.freeInterlock.startSilenceTimer.refreshPru

/-! ### The end of STARTUP (R7) -/

/-- STARTUP ends when the load is complete and IGN has an accepted state. -/
def State.startupOver (s : State) : Bool :=
  s.mode == .startup && !s.fmy.loading && s.mctl.ign != .unknown

/-- R205: the settling of HOST_SILENT at the end of STARTUP, after the blocks' reports (assumption 41). -/
def State.settleLink (s : State) : State :=
  (s.reportCleared .hostSilent).modLif fun l => { l with linkMark := false }

/-- The modes that the end of STARTUP leads to. -/
def State.leaveStartup (passed : Bool) (s : State) : State :=
  if passed then
    let s := if s.mctl.ign = .active then s.enterRun else s.setMode .standby
    s.freeInterlock.startSilenceTimer
  else (s.setMode .unconfigured).homeAllNeedles

/-- R7: the end of STARTUP, with the tables of the image or the defaults of R9 (assumptions 19
and 21). -/
def State.endStartup (s : State) : State :=
  let passed := s.mctl.loaded.isSome
  let s := { s with tables := s.mctl.loaded.getD {} }.modMctl fun c => { c with loaded := none }
  let s := (s.attend .mode).report .imageBad !passed
  let s := s.settleBlocks.settleLink
  let s := s.dropUnclassified.startComparators.startUnits.startServices
  (s.leaveStartup passed).holdIfAsserted.refreshPru

/-! ### SLEEP and the wake (R14, R15) -/

/-- R14: the reply has left the part, no further frame is held and the supply permits. An entry that is still
to come when a RESTART held behind it is answered OK comes during the wait all the same (assumption 50). -/
def State.mayEnterSleep (s : State) : Bool :=
  s.mctl.sleepPending && s.mode == .standby && s.lif.tx.isNone && s.lif.queue.isEmpty
    && s.supply.allowsWrite

/-- R2, R3: MCTL stops its measurements and clears its timers (IGN's too, assumption 36). -/
def Mctl.toSleep (c : Mctl) : Mctl :=
  { c with highTimer := .stopped, recoveryTimer := .stopped, lowReport := .stopped,
           highReport := .stopped, ignTimer := none }

/-- R131: trips and their retry timers are held in SLEEP. -/
def State.mapRetries (f : Timer → Timer) (s : State) : State :=
  s.modPru fun p => { p with lamps := updAll p.lamps fun _ l => { l with retry := f l.retry } }

/-- R207: a hold in force ends at SLEEP entry, and the spent mark is cleared. -/
def State.endHoldForSleep (s : State) : State :=
  (if s.lif.hold then s.endHold else s).modLif fun l => { l with spent := false }

/-- R14: SLEEP entry. -/
def State.enterSleep (s : State) : State :=
  let s := (s.endHoldForSleep.setMode .sleep).modMctl Mctl.toSleep
  let s := s.makeCounterDue.gateFaultTimers.stopComparators.stopGauges
  let s := (forNeedles (fun _ n => n.toSleep) s).gateDoorTimers.forceInterlock.refreshOutputs
  let s := (s.mapRetries fun t => t.pause s.now).stopSilenceTimer.refreshPru
  s.modSched fun c => { c with sleep := s.now + ms 50 }

/-- R3: at a wake the report timer of the held supply state starts. -/
def Mctl.wakeUp (now : Nat) (c : Mctl) : Mctl :=
  { c with lowReport := if c.supply = .low then .running now else .stopped,
           highReport := if c.supply = .high then .running now else .stopped }

/-- R38: the lines outside the watched set debounce anew. -/
def State.wakeLines (s : State) : State :=
  (forLines (fun n r => if s.watched n then r else r.restartDebounce)
    s).gateFaultTimers.startComparators

/-- R122: the flash phase starts again at 0. -/
def State.restartPhase (s : State) : State := (s.modPru fun p => { p with phase := 0 }).followCalls

/-- R15: the wake, to STANDBY with attention cause MODE. -/
def State.wake (s : State) : State :=
  let s := ((s.setMode .standby).attend .mode).modMctl (Mctl.wakeUp s.now)
  let s := s.startScans.startServices.wakeLines.wakeGauges
  let s := (s.gateDoorTimers.mapRetries fun t => t.resume s.now).restartPhase
  s.freeInterlock.startSilenceTimer.holdIfAsserted.refreshPru

/-! ### Supply states (R1 to R4) -/

/-- A continuity timer: it starts while its condition holds, and is cleared when it does not. -/
def Timer.continueIf (holds : Bool) (now : Nat) (t : Timer) : Timer :=
  if holds then (if t.isStopped then .running now else t) else .stopped

/-- R1: the row of the current state for a measurement, with the continuity timers' times. -/
def supplyRow (now mv : Nat) (high recovery : Timer) (x : Supply) : Supply :=
  match x with
  | .normal =>
    if mv < 15000 then .crank
    else if mv < 17500 then .low
    else if 32500 < mv ∧ ms 10 ≤ high.elapsed now then .high
    else .normal
  | .low => if mv < 15000 then .crank else if 18000 ≤ mv then .normal else .low
  | .high => if mv < 15000 then .crank else if mv ≤ 31500 then .normal else .high
  | .crank => if 16000 ≤ mv ∧ ms 100 ≤ recovery.elapsed now then .low else .crank

/-- R2: the state that the first measurement after a reset sets. -/
def supplyFirst (mv : Nat) : Supply :=
  if mv < 15000 then .crank else if mv < 18000 then .low else .normal

/-- R3: at each entry to NORMAL, CLEARED for each code whose mark is set, LOW first (assumption 41). -/
def State.clearSupplyMarks (s : State) : State :=
  let s := if s.mctl.lowMark then s.reportCleared (.supply .low) else s
  let s := if s.mctl.highMark then s.reportCleared (.supply .high) else s
  s.modMctl fun c => { c with lowMark := false, highMark := false }

/-- R5: at entry to CRANK the debounce timer for INACTIVE is cleared. -/
def Mctl.crankEntry (c : Mctl) : Mctl :=
  { c with ignTimer := c.ignTimer.filter fun t => t.1 }

/-- The blocks at the end of CRANK (R35, R78) and at its beginning (R5, R78). -/
def State.crankChange (old new : Supply) (s : State) : State :=
  if old = .crank then forNeedles (fun _ n => n.wakeUp) s.restartDebounces
  else if new = .crank then forNeedles (fun _ n => n.suspend) (s.modMctl Mctl.crankEntry)
  else s

/-- R3: the report timers run in their own supply states. -/
def Mctl.enterSupply (new : Supply) (now : Nat) (c : Mctl) : Mctl :=
  { c with supply := new,
           lowReport := if new = .low then .running now else .stopped,
           highReport := if new = .high then .running now else .stopped }

/-- R4: a change of supply state is given to every block. -/
def State.changeSupply (new : Supply) (s : State) : State :=
  let old := s.supply
  if new = old then s
  else
    let s := (s.modMctl (Mctl.enterSupply new s.now)).attend .supply
    let s := if new = .normal then s.clearSupplyMarks else s
    (s.crankChange old new).gateFaultTimers.gateDoorTimers.refreshPru

/-- R1: a measurement from the second after a reset on. -/
def State.measureLater (mv : Nat) (s : State) : State :=
  let c := s.mctl
  let high := c.highTimer.continueIf (c.supply == .normal && 32500 < mv) s.now
  let recovery := c.recoveryTimer.continueIf (c.supply == .crank && 16000 ≤ mv) s.now
  let new := supplyRow s.now mv high recovery c.supply
  (s.modMctl fun c =>
    { c with vb := some mv, highTimer := if new = .normal then high else .stopped,
             recoveryTimer := if new = .crank then recovery else .stopped }).changeSupply new

/-- R2: the first measurement after a reset. -/
def State.measureFirst (mv : Nat) (s : State) : State :=
  let new := supplyFirst mv
  (s.modMctl fun c =>
    { c with vb := some mv, highTimer := if 32500 < mv then .running s.now else .stopped,
             lowReport := if new = .low then .running s.now else .stopped }).changeSupply new

def State.measureVb (mv : Nat) (s : State) : State :=
  if s.mctl.vb.isNone then s.measureFirst mv else s.measureLater mv

/-! ### The ignition input (R5) -/

/-- R5: one sample of IGN. -/
def Mctl.ignSample (active : Bool) (now : Nat) (c : Mctl) : Mctl :=
  let accepted := if active then c.ign == .active else c.ign == .inactive
  if accepted || (!active && c.supply == .crank) then { c with ignTimer := none }
  else
    match c.ignTimer with
    | some (level, t) =>
      { c with ignTimer := some (if level = active then (level, t) else (active, .running now)) }
    | none => { c with ignTimer := some (active, .running now) }

/-- R5, R10: a level of IGN is accepted. -/
def State.acceptIgn (active : Bool) (s : State) : State :=
  let s := s.modMctl fun c =>
    { c with ign := if active then .active else .inactive, ignTimer := none }
  match s.mode, active with
  | .standby, true => s.enterRun.attend .mode
  | .run, false | .workshop, false => s.ignitionOff.attend .mode
  | _, _ => s.refreshPru

/-! ### Resets (R16 to R18) -/

/-- The state after a reset: everything volatile at its reset value, the store and the pins kept
(assumptions 7 and 11). -/
def State.applyReset (cause : ResetCause) (s : State) : State :=
  { pending := s.pending, now := s.now, freeCount := s.freeCount, pins := s.pins, nv := s.nv,
    mctl := { cause := cause } : State }.startScans

/-- R16: a power-on or external reset cuts off a write in flight. -/
def State.hardReset (cause : ResetCause) (s : State) : State := s.cutOffWrite.applyReset cause

/-- R17, R171: the restart may take effect: the OK reply has left the part, and the last write was a counter
save after which no item is listed, no store is requested and no save is due (assumption 18). -/
def State.restartReady (s : State) : Bool :=
  s.mctl.restart == .ready && s.lif.tx.isNone && s.fmy.write == .idle && s.fmy.writes.isEmpty
    && !s.fmy.storeRequested && !s.fmy.counterDue

end Sys2Proof.Machine
end

