-- ==== Sys2Proof/Machine/Link.lean ====
section
/-! DEFINITION. The link interface LIF (chapter 10): the frame receiver, the arrival of a frame, the
host-silence supervisor, serving and replies. -/

namespace Sys2Proof.Machine

/-! ### Link errors and arrival (R194, R196, R202, R204) -/

/-- R196. -/
def State.linkError (s : State) : State :=
  (s.modLif fun l => { l with errors := min (l.errors + 1) 65535 }).attend .link

/-- R202: the host-silence timer restarts at 0 if it may run. -/
def State.restartSilenceTimer (s : State) : State :=
  if s.mode.isTimed then s.modLif fun l => { l with silenceTimer := .running s.now } else s

/-- R204: the end of an episode is reported; that of the start-up silence is not (R205). -/
def State.silenceReport (s : State) : State :=
  if s.lif.startupSilence then s
  else (s.reportCleared .hostSilent).modLif fun l => { l with linkMark := false }

/-- R204: host silence ends. -/
def State.endSilence (s : State) : State :=
  ((s.silenceReport.modLif fun l =>
    { l with silence := false, startupSilence := false }).restartSilenceTimer).refreshPru

/-- R194: the supervisor takes the arrival of a frame. -/
def State.hearHost (s : State) : State :=
  if s.lif.silence then s.endSilence else s.restartSilenceTimer

/-- The receive queue holds up to 2 frames (R195). -/
def queuePlaces : Nat := 2

/-- R194: a frame that has passed its check arrives, and is disposed of by the first case that applies. -/
def State.frameArrives (f : Frame) (s : State) : State :=
  let s := s.hearHost
  if s.mctl.restart ≠ .idle then s
  else if 0x80 ≤ f.kind.toNat then s.linkError
  else if queuePlaces ≤ s.lif.queue.length then s.linkError
  else s.modLif fun l => { l with queue := l.queue ++ [f] }

/-! ### The receiver (R192, R193) -/

/-- Enter a receiver state; inside a frame the gap timer restarts at the end of each byte. -/
def State.receiver (r : Rx) (s : State) : State :=
  s.modLif fun l => { l with rx := r, gap := if r = .hunt then .stopped else .running s.now }

/-- R192: abandon the frame; the receiver returns to HUNT. -/
def State.abandon (s : State) : State := (s.receiver .hunt).linkError

/-- After the tag or a payload byte: the payload goes on, or the check comes next. -/
def Rx.afterByte (len : Nat) (kind tag : Byte) (got : List Byte) : Rx :=
  if got.length < len then .payload len kind tag got else .checkHigh ⟨kind, tag, got⟩

/-- R192, R193: a byte taken at the end of its stop bit. -/
def State.takeByte (b : Byte) (s : State) : State :=
  match s.lif.rx with
  | .hunt => if b = 0x5A then s.receiver .length else s.linkError
  | .length => if b.toNat ≤ 48 then s.receiver (.kind b.toNat) else s.abandon
  | .kind len => s.receiver (.tag len b)
  | .tag len kind => s.receiver (Rx.afterByte len kind b [])
  | .payload len kind tag got => s.receiver (Rx.afterByte len kind tag (got ++ [b]))
  | .checkHigh f => s.receiver (.checkLow f b)
  | .checkLow f high =>
    let s := s.receiver .hunt
    if high ++ b = f.check then s.frameArrives f else s.linkError

/-- R192: a byte whose stop bit reads low is discarded, and abandons a frame: one link error
(assumption 34). -/
def State.stopBitError (s : State) : State :=
  s.abandon.modLif fun l => { l with waitIdle := true }

/-- Whether LIF takes bytes: not until the line has been idle after a stop-bit error, and not during a
latched break (R192, R209). -/
def State.takesBytes (s : State) : Bool := !s.lif.waitIdle && !s.lif.breakLatched

/-- R15: the start of reception wakes a sleeping part. -/
def State.wakeByLink (s : State) : State := if s.mode = .sleep then s.wake else s

/-- R209: the break timing at the end of a byte's stop bit. A stop bit that reads high ends the period in which
the line is low; below one that reads low the period goes on from its falling edge where every bit of the
byte was low, and a new one begins where a bit was high (assumption 56). -/
def lowAfterByte (now : Nat) (b : Byte) (stopHigh : Bool) (low : Timer) : Timer :=
  if stopHigh then .stopped
  else if b = 0 ∧ low ≠ .stopped then low
  else .running now

def State.byteEnds (b : Byte) (stopHigh : Bool) (s : State) : State :=
  s.modLif fun l => { l with lowTimer := lowAfterByte s.now b stopHigh l.lowTimer }

/-- R209: the receive line is back at idle, which ends the period in which it is low. -/
def State.lineWentHigh (s : State) : State := s.modLif fun l => { l with lowTimer := .stopped }

/-! ### Serving (R195, R197, R198) -/

/-- What a request does and answers: the state, the status and the items after it (R197). -/
abbrev Service := State → State × Status × List Byte

/-- A refusal changes nothing and carries the status alone (R197). -/
def refuse (x : Status) : Service := fun s => (s, x, [])

/-- R198: a request of the range 0x01..0x3F; `early` are the three served in STARTUP. -/
def served (early : Bool) (lengthOk : Nat → Bool) (p : List Byte) (k : Service) : Service := fun s =>
  if s.mode = .startup ∧ ¬ early then (s, .refusedMode, [])
  else if lengthOk p.length then k s
  else (s, .refusedArg, [])

/-- R177, R198: a request of the workshop range, refused in every other mode before any field. -/
def servedInWorkshop (lengthOk : Nat → Bool) (p : List Byte) (k : Service) : Service := fun s =>
  if s.mode ≠ .workshop then (s, .refusedMode, [])
  else if lengthOk p.length then k s
  else (s, .refusedArg, [])

/-- A request that has one length (R211). -/
def ofLength (n : Nat) : Nat → Bool := fun l => l == n

/-- R197: the reply of a frame. -/
def Frame.reply (f : Frame) (x : Status) (items : List Byte) : Frame :=
  { kind := f.kind + 0x80, tag := f.tag, payload := x.byte :: items }

/-- R195: serve the head of the queue; the reply begins to be sent. -/
def State.serve (f : Frame) (k : Service) (s : State) : State :=
  let r := k s
  r.1.modLif fun l => { l with tx := some (f.reply r.2.1 r.2.2) }

/-- Whether a frame stands at the head of the queue and is not being answered yet. -/
def State.atHead (f : Frame) (s : State) : Bool :=
  s.lif.tx.isNone && s.lif.queue.head? == some f

/-- Whether the receiver is between frames on a line that it takes bytes from. -/
def State.lineFree (s : State) : Bool := s.takesBytes && s.lif.rx == .hunt

/-- A whole frame comes in on the link (assumption 1); its last stop bit leaves the line high (R209). -/
def State.receiveWhole (f : Frame) (s : State) : State :=
  if s.lineFree then s.wakeByLink.lineWentHigh.frameArrives f else s

/-- A request command: the frame is the unserved head of the queue, or it first comes in; it is served
if it then stands at the head (assumption 1). -/
def State.request (f : Frame) (k : Service) (s : State) : State :=
  let s := if s.atHead f then s else s.receiveWhole f
  if s.atHead f then s.serve f k else s

end Sys2Proof.Machine
end

