-- ==== Sys2Proof/Machine/Lines.lean ====
section
/-! DEFINITION. The events of the sense lines (chapter 2): scan samples with what a changed logical value
does to its consumers, fault timer expiries, pulse edges, and the 50 ms sleep sample. -/

namespace Sys2Proof.Machine

/-- R27, KNEEL and OVERRIDE: DMN takes the new value. -/
def State.interlockRoleChange (n : Fin 32) (new : Logical) (s : State) : State :=
  let c := s.tables.roles
  let s := if c.kneel = some n then s.evalInterlock else s
  if c.override = some n then s.overrideChange new else s

/-- R27, the buttons and the parking brake; a press edge is INACTIVE to ACTIVE. -/
def State.buttonRoleChange (n : Fin 32) (press : Bool) (s : State) : State :=
  let c := s.tables.roles
  let s := if c.releaseButton = some n ∧ press then s.releaseButton else s
  let s := if c.parkingBrake = some n then s.leaveWorkshopIfMoving else s
  if c.ackButton = some n ∧ press then s.ackButton else s

/-- R27: the consumers of a role line take its new value. -/
def State.roleChange (n : Fin 32) (old new : Logical) (s : State) : State :=
  (s.interlockRoleChange n new).buttonRoleChange n (old == .inactive && new == .active)

/-- R27: a line's logical value is handed to its consumers if it has changed from `old`. For a line that a door
set and a role both name no rule gives an order: the door set re-derives its state first, then the role takes
the change (assumption 57). -/
def State.handOn (n : Fin 32) (old : Logical) (s : State) : State :=
  let new := s.logical n
  if new = old then s else (s.doorLineChange n new).roleChange n old new

/-- R23 to R27: a sample of a classified line, taken whole: the fault-status reports of R29 to R33 first, then
the new logical value to its consumers (assumption 42). -/
def State.sampleLine (n : Fin 32) (mv : Nat) (s : State) : State :=
  (s.classify n mv).handOn n (s.logical n)

/-- The moment of a line's next scan sample (R23). -/
def State.atLineSample (n : Fin 32) (s : State) : State :=
  let t := max s.now s.sched.lines[n]
  { s with now := t, sched := { s.sched with lines := s.sched.lines.set n (t + ms 4) } }

/-- R20, R35, R37: what becomes of a scan sample in the present mode and supply state. -/
def State.scanSample (n : Fin 32) (mv : Nat) (s : State) : State :=
  if s.supply = .crank then s
  else if s.mode = .startup then s.measureOnly n mv
  else s.sampleLine n mv

/-- Whether a line has scan samples: every line in STARTUP, and otherwise the classified ones (R20,
R37); outside the scan of SLEEP (R38). -/
def State.scanned (s : State) (n : Fin 32) : Bool :=
  s.mode == .startup || (s.mode != .sleep && (s.lineCfg n).fn.classified)

/-- R20 to R27, R35, R37. -/
def execLineSample (n : Fin 32) (mv : Nat) : State → Answer := live fun s =>
  if s.scanned n then (s.atLineSample n).scanSample n mv else s

/-- R30: the fault timer of a PENDING line reaches the qualify time. -/
def execQualifyTimerExpiry (n : Fin 32) : State → Answer := live fun s =>
  if (s.line n).status = .pending then
    atExpiry (s.line n).timer (ms (s.lineCfg n).qualify) (State.confirmLine n) s
  else s

/-- R31: the fault timer of a HEALING line reaches the heal time. -/
def execHealTimerExpiry (n : Fin 32) : State → Answer := live fun s =>
  if (s.line n).status = .healing then
    atExpiry (s.line n).timer (ms (s.lineCfg n).heal) (State.healLine n) s
  else s

/-- R28: the comparator of a PULSE line takes a voltage; an edge of the configured direction goes to
the capture unit (R45). -/
def State.compare (n : Fin 32) (mv : Nat) (s : State) : State :=
  let c := s.lineCfg n
  let before := (s.line n).comparator
  let (s, m) := s.measure mv
  let after := before.next c m.2
  let s := s.modLine n fun r => { r with comparator := after }
  if edgeOf c.falling before after then
    s.modUnit c.unit (Capture.edge (s.timeBase c.unit) (s.unitPMin c.unit))
  else s

/-- R28, R45: the voltage of a PULSE line changes, `wait` µs after the present moment. -/
def execPulseEdge (n : Fin 32) (mv wait : Nat) : State → Answer := live fun s =>
  if (s.lineCfg n).fn = .pulse ∧ (s.line n).comparator ≠ .stopped then
    State.compare n mv { s with now := s.now + wait }
  else s

/-! ### The sleep sample (R14, R15, R38) -/

/-- R38: the watched lines, each handled by R23 to R27; the mark says whether a logical value has changed. R38
gives no order within one sleep sample: the model takes the lines in index order (assumption 16). -/
def State.sleepLines (mv : Vector Nat 32) (s : State) : State × Bool :=
  (List.finRange 32).foldl
    (fun (s, changed) n =>
      if s.watched n && (s.lineCfg n).fn.classified then
        let s' := s.sampleLine n mv[n]
        (s', changed || s'.logical n != s.logical n)
      else (s, changed)) (s, false)

/-- R15: a sleep sample that reads IGN ACTIVE or changes a watched logical value wakes the part. -/
def State.sleepSample (ign : Bool) (mv : Vector Nat 32) (s : State) : State :=
  let t := max s.now s.sched.sleep
  let s := { s with now := t }.modSched fun c => { c with sleep := t + ms 50 }
  let (s, changed) := s.sleepLines mv
  let s := s.modMctl (Mctl.ignSample ign s.now)
  if ign || changed then s.wake else s

def execSleepSample (ign : Bool) (mv : Vector Nat 32) : State → Answer := live fun s =>
  if s.mode = .sleep then s.sleepSample ign mv else s

end Sys2Proof.Machine
end

