-- ==== Sys2Proof/Machine/Replies.lean ====
section
/-! DEFINITION. The items of the replies after the status byte (R211, 11.4), each taken from the state at
the moment the request is served. -/

namespace Sys2Proof.Machine

/-! ### MCTL and LIF (R19, R200, R201) -/

def Write.isImage : Write → Bool
  | .image _ => true
  | _ => false

/-- R208: a configuration store requested or being written. -/
def State.storeInFlight (s : State) : Bool := s.fmy.storeRequested || s.fmy.write.isImage

/-- R208: a clear in flight. -/
def State.clearInFlight (s : State) : Bool := s.fmy.clear.isSome

def State.statusItems (s : State) : List Byte :=
  u8 s.mode.code ++ u8 s.supply.code ++ u16 (s.mctl.vb.getD 0) ++ u8 s.mctl.ign.code
    ++ u8 s.mctl.cause.code ++ u32 (s.counter ignitionPlace) ++ u16 s.lif.errors
    ++ u8 (bits [s.lif.silence, s.lif.startupSilence, s.lif.hold, s.lif.spent, s.pins.holdAsserted,
        s.storeInFlight, s.ndr.sweep, s.clearInFlight])

/-- The attention summary as a set of bits (R210). -/
def Attention.set (a : Attention) : Nat :=
  bits [a.reset, a.supply, a.line, a.warn, a.door, a.fault, a.lost, a.link, a.opdone, a.hold,
    a.hostsil, a.mode]

/-- R201: what a READ_ATTENTION leaves present. -/
def Attention.afterRead (supply silence : Bool) (a : Attention) : Attention where
  reset := false
  supply := a.supply && supply
  hostsil := a.hostsil && silence

/-! ### HLM (R39, R40, R190) -/

/-- Four values of 2 bits, the first in bits 7..6. -/
def pack4 : List Nat → List Byte
  | a :: b :: c :: d :: rest => u8 (64 * a + 16 * b + 4 * c + d) ++ pack4 rest
  | _ => []

/-- Eight flags, the first in bit 7. -/
def pack8 : List Bool → List Byte
  | a :: b :: c :: d :: e :: f :: g :: h :: rest => u8 (bits [h, g, f, e, d, c, b, a]) ++ pack8 rest
  | _ => []

/-- R39, with the new summary number. -/
def State.summaryItems (s : State) (number : Nat) : List Byte :=
  pack4 ((List.finRange 32).map fun n => (s.logical n).code)
    ++ pack8 ((List.finRange 32).map fun n => (s.line n).flag) ++ u16 number

def LineSnap.bytes (x : LineSnap) : List Byte :=
  u8 (x.status.code + 4 * acceptedCode x.accepted + (if x.measured.isNone then 128 else 0))
    ++ u16? (x.measured.map (·.1)) ++ u16? (x.measured.map (·.2))

/-- R40: the snapshot's number and its entries from `first` on. -/
def Hlm.detailItems (h : Hlm) (first count : Nat) : List Byte :=
  match h.detail with
  | none => u16 0
  | some (number, lines) =>
    u16 number ++ ((lines.toList.drop first).take count).flatMap LineSnap.bytes

def Timer.code : Timer → Nat
  | .stopped => 0
  | .running _ => 1
  | .paused _ => 2

/-- R190. A stopped comparator is shown for a line whose function is not PULSE, and neither level for a
comparator that has made no comparison (assumptions 30 and 49); the fault timer's elapsed time is given in whole
ms, rounded down (assumption 58). -/
def State.rawLineItems (s : State) (n : Fin 32) : List Byte :=
  let c := s.lineCfg n
  let r := s.line n
  let x := r.measured.map c.compared
  u8 c.fn.code
    ++ u8 (bits [s.biasConnected n, r.measured.isNone, r.usable.isNone,
        r.comparator == .stopped, r.comparator == .high])
    ++ u16? (r.measured.map (·.1)) ++ u16? (r.measured.map (·.2))
    ++ u8 ((x.map c.band).getD 0) ++ u8 ((x.map fun v => (c.classAt v).code).getD 0)
    ++ u16? (r.usable.map (·.1)) ++ u16? (r.usable.map (·.2))
    ++ u8 ((r.candidate.map LineClass.code).getD 0xFF) ++ u8 r.count ++ u8 (acceptedCode r.accepted)
    ++ u8 (s.logical n).code ++ u8 r.status.code ++ u8 r.timer.code
    ++ u16 (r.timer.elapsed s.now / 1000) ++ u8 r.symptom.code

/-! ### GVE and NDR (R61, R82) -/

/-- R43: the channel state published to the host. -/
def State.publishedState (s : State) (k : Fin 6) : Nat :=
  if s.wsv.needles[k].isSome then 5 else (s.channel k).st.code

def State.channelItems (s : State) (k : Fin 6) : List Byte :=
  let e := s.knownE k
  let f := s.knownF k
  u8 (s.channelCfg k).source.code ++ u8 (s.publishedState k) ++ u8 (s.channel k).st.code
    ++ u8 (bits [(s.channelCfg k).hasSpeedRole, (s.channel k).standstill, e.isSome, f.isSome])
    ++ i16? e ++ i16? f

def State.needleItems (s : State) (k : Fin 6) : List Byte :=
  let n := s.needle k
  let forced := s.wsv.needles[k]
  u8 n.st.code ++ u8 (bits [n.pos.isSome, n.dir == .down, forced.isSome]) ++ u16? n.pos
    ++ u8 n.speed ++ u16 n.latest ++ u16 n.published ++ u16? forced

/-- The mask of some numbered objects (R210). -/
def maskOf {n : Nat} (p : Fin n → Bool) : Nat := bits ((List.finRange n).map p)

/-- R82: the member set of the sweep in flight. -/
def State.isMember (s : State) (k : Fin 6) : Bool :=
  s.ndr.sweep && (s.needle k).effective.isSweeping

def State.gaugesItems (s : State) : List Byte :=
  u8 (bits [s.speed.isSome, s.standing, s.moving, s.ndr.sweep, s.lif.hold])
    ++ u8 (maskOf s.isMember) ++ (List.finRange 6).flatMap s.channelItems
    ++ (List.finRange 6).flatMap s.needleItems

/-! ### WEV and PRU (R110, R119) -/

/-- The result of a slot, or the mark that it is unused. -/
def resultCode (t : Option Term) (r : TermResult) : Nat := if t.isNone then 3 else r.code

def State.ruleItems (s : State) (m : Fin 64) : List Byte :=
  let c := s.ruleCfg m
  let r := s.rule m
  u8 r.st.code ++ u8 (bits [r.cond, r.qualHeld, r.frozen, r.seq.isSome]) ++ u32 (r.seq.getD 0)
    ++ u8 (r.raw.code + 4 * resultCode c.slot0 r.res0 + 16 * resultCode c.slot1 r.res1
        + 64 * resultCode c.slot2 r.res2)

def State.rulesItems (s : State) (first count : Nat) : List Byte :=
  u32 s.wev.seq ++ (((List.finRange 64).drop first).take count).flatMap s.ruleItems

def ListEntry.bytes (e : ListEntry) : List Byte :=
  u8 e.rule.val ++ u8 e.priority ++ u32 e.seq ++ u8 (if e.latched then 1 else 0)

def State.telltaleItems (s : State) (n : Fin 24) : List Byte :=
  let l := s.lamp n
  u8 ((s.lampLevel n).code + 4 * l.published.code + (if s.driverOn n then 16 else 0))
    ++ u8 (l.openStatus.code + 4 * l.shortStatus.code)

def State.presentationItems (s : State) : List Byte :=
  u8 (bits [s.lif.hold, s.pru.lampCheck.isRunning, s.wsv.chime.isSome])
    ++ u8 s.pru.shown.length ++ u8 s.waiting.length ++ u8 (indexCode s.pru.winner)
    ++ u8 (patternCode (s.pru.winner.bind fun m => (s.ruleCfg m).chime))
    ++ s.pru.shown.flatMap ListEntry.bytes ++ (List.finRange 24).flatMap s.telltaleItems

/-! ### DMN (R153) -/

/-- One set's items (assumption 33). -/
def State.doorItems (s : State) (d : Fin 4) : List Byte :=
  let r := s.door d
  u8 (bits [(s.doorCfg d).configured, r.grant, r.output, false, r.openWhileMoving,
      r.repeatedObstruction, r.closeTimeout, r.notLocked])
    ++ u8 r.st.code ++ u8 r.obstructions
    ++ u8 (r.openTimer.code + 4 * r.closeTimer.code + 16 * r.lockTimer.code + 64 * r.inconTimer.code)
    ++ u8 0

def State.doorsItems (s : State) : List Byte :=
  (List.finRange 4).flatMap s.doorItems ++ u8 (maskOf fun d => s.buttonMask.contains d)
    ++ u8 ((if s.ilk then 1 else 0) + 2 * s.dmn.interlock.code
        + (if s.dmn.interlock == .overridden then 16 else 0))
    ++ u8 (bits [s.condDoors, s.condRamps, s.condKneel, s.condGrants])
    ++ u8 (bits [s.speed.isSome, s.aboveWithdraw, s.standing])

/-! ### FMY (R175, R185, R187, 11.4) -/

def Stamp.bytes (t : Stamp) : List Byte := u32 t.minutes ++ u32 t.cycles

def FaultEntry.bytes (position : Nat) (e : FaultEntry) : List Byte :=
  u8 position ++ u8 e.code.sourceClass.code ++ u8 e.code.index ++ u8 e.code.symptom ++ u8 e.priority
    ++ u8 (bits [e.active, e.snapshot.isSome]) ++ u8 e.occurrences ++ u8 e.aging ++ e.first.bytes
    ++ e.last.bytes

def Snapshot.bytes (x : Snapshot) : List Byte :=
  u16 x.vb ++ u8 x.mode.code ++ u8 (if x.speed.isSome then 1 else 0) ++ i16? x.speed
    ++ u8 x.values.length ++ x.values.flatMap (fun v => u8 v.1.val ++ i16 v.2)
    ++ x.doors.toList.flatMap (fun d => u8 d.code) ++ u8 (if x.ilk then 1 else 0)

/-- R187: whether a write of the slot is pending or in flight. -/
def Fmy.writeCode (m : Fmy) (n : Fin 48) : Nat :=
  if m.write.slotNo = some n then 2 else if n ∈ m.writes then 1 else 0

def Fmy.detailOf (m : Fmy) (position : Nat) (e : FaultEntry) : List Byte :=
  u8 1 ++ e.bytes position ++ u32 e.created ++ u8 e.slot.val ++ u8 (m.writeCode e.slot)
    ++ match e.snapshot with
       | some x => x.bytes
       | none => []

/-- R187: the entry of a code, or the mark that it is absent. -/
def Fmy.detailItems (m : Fmy) (code : FaultCode) : List Byte :=
  match m.position code with
  | some i =>
    match m.table[i]? with
    | some e => m.detailOf i e
    | none => u8 0
  | none => u8 0

/-- The entries at positions `c` to `c + n - 1` (R185). -/
def Fmy.entriesFrom (m : Fmy) (c n : Nat) : List Byte :=
  (List.range n).flatMap fun i => ((m.table[c + i]?).map (FaultEntry.bytes (c + i))).getD []

/-- R175: the write in flight. -/
def Write.code : Write → Nat
  | .idle => 0xFF
  | .slot n _ _ => n.val
  | .counters _ => 0xFD
  | .image _ => 0xFE

def State.countersItems (s : State) : List Byte :=
  let m := s.fmy
  m.counters.toList.flatMap u32 ++ u32 m.saveNo.toNat
    ++ u8 (bits [m.counterDue, m.storeRequested, m.clear.isSome]) ++ u16 m.lost ++ u8 m.table.length
    ++ u8 (m.table.filter (·.active)).length ++ u8 m.writes.length ++ u8 m.write.code

end Sys2Proof.Machine
end

