-- ==== Sys2Proof/Machine/Requests.lean ====
section
/-! DEFINITION. The requests of the range 0x01..0x3F and the kinds handled by range (R198, R211): what
each does and answers when it is served. -/

namespace Sys2Proof.Machine

/-! ### LIF and MCTL -/

/-- R199: PING returns its payload, and changes no state. -/
def pingService (p : List Byte) : Service := fun s => (s, .ok, p)

def execPing (tag : Byte) (p : List Byte) : State → Answer :=
  live (State.request ⟨0x01, tag, p⟩ (served true (fun l => decide (l ≤ 47)) p (pingService p)))

/-- R19, R200. -/
def readStatusService : Service := fun s => (s, .ok, s.statusItems)

def execReadStatus (tag : Byte) (p : List Byte) : State → Answer :=
  live (State.request ⟨0x02, tag, p⟩ (served true (ofLength 0) p readStatusService))

/-- R201. -/
def readAttentionService : Service := fun s =>
  (s.modLif fun l =>
      { l with attention := l.attention.afterRead (s.supply != .normal) l.silence },
    .ok, u16 s.lif.attention.set)

def execReadAttention (tag : Byte) (p : List Byte) : State → Answer :=
  live (State.request ⟨0x03, tag, p⟩ (served true (ofLength 0) p readAttentionService))

/-- R12, R214: SET_MODE RUN or STANDBY in SETUP. -/
def leaveSetupService : Service := fun s =>
  let t := s.written.getD s.tables
  if t.crossOk then (s.exitSetup t, .ok, []) else (s, .refusedArg, [])

/-- R12 to R14: the reply and effect by target and current mode. -/
def setModeService (target : Nat) : Service := fun s =>
  match Mode.ofCode target with
  | some .setup =>
    if s.mode = .standby ∨ s.mode = .unconfigured then (s.enterSetup, .ok, [])
    else (s, .refusedMode, [])
  | some .run =>
    if s.mode = .setup then leaveSetupService s
    else if s.mode = .workshop then (s.leaveWorkshop, .ok, [])
    else (s, .refusedMode, [])
  | some .standby => if s.mode = .setup then leaveSetupService s else (s, .refusedMode, [])
  | some .workshop =>
    if s.mode = .run then
      if s.standing then (s.setMode .workshop, .ok, []) else (s, .denied, [])
    else (s, .refusedMode, [])
  | some .sleep =>
    if s.mode = .standby then
      if s.supply.allowsWrite then
        (s.modMctl fun c => { c with sleepPending := true }, .ok, [])
      else (s, .denied, [])
    else (s, .refusedMode, [])
  | some .startup | some .unconfigured | none => (s, .refusedArg, [])

def execSetMode (tag : Byte) (p : List Byte) : State → Answer :=
  live (State.request ⟨0x04, tag, p⟩ (served false (ofLength 1) p (setModeService (rd8 p 0))))

/-- R17, R171, R195: the restart waits; a frame held behind the RESTART is discarded. -/
def restartService : Service := fun s =>
  (((s.modMctl fun c => { c with restart := .waiting }).modLif fun l =>
    { l with queue := l.queue.take 1 }).makeCounterDue, .ok, [])

def execRestart (tag : Byte) (p : List Byte) : State → Answer :=
  live (State.request ⟨0x05, tag, p⟩ (served false (ofLength 0) p restartService))

/-! ### Configuration (R212, R213, R215) -/

/-- The payload lengths that 11.3 gives a WRITE_TABLE: the table, the index and a record (R211;
assumption 17). -/
def writeTableLength (l : Nat) : Bool := (List.range 9).any fun t => l == 2 + recordSize t

/-- R213. -/
def writeTableService (p : List Byte) : Service := fun s =>
  if s.mode ≠ .setup then (s, .refusedMode, [])
  else
    match (s.written.getD s.tables).write (rd8 p 0) (rd8 p 1) (p.drop 2) with
    | some t => ({ s with written := some t }, .ok, [])
    | none => (s, .refusedArg, [])

def execWriteTable (tag : Byte) (p : List Byte) : State → Answer :=
  live (State.request ⟨0x08, tag, p⟩ (served false writeTableLength p (writeTableService p)))

/-- R212: the tables that READ_TABLE reads. -/
def State.readableTables (s : State) : Tables :=
  if s.mode = .setup then s.written.getD s.tables else s.tables

def readTableService (p : List Byte) : Service := fun s =>
  let a := rd8 p 0
  let i := rd8 p 1
  if namesRecord a i then (s, .ok, u8 a ++ u8 i ++ s.readableTables.recordBytes a i)
  else (s, .refusedArg, [])

def execReadTable (tag : Byte) (p : List Byte) : State → Answer :=
  live (State.request ⟨0x09, tag, p⟩ (served false (ofLength 2) p (readTableService p)))

/-- R215. -/
def storeConfigService : Service := fun s =>
  if s.mode = .setup then (s, .refusedMode, [])
  else if s.storeInFlight then (s, .busy, [])
  else (s.modFmy fun m => { m with storeRequested := true }, .accepted, [])

def execStoreConfig (tag : Byte) (p : List Byte) : State → Answer :=
  live (State.request ⟨0x0A, tag, p⟩ (served false (ofLength 0) p storeConfigService))

/-! ### Lines (R39, R40) -/

/-- R39: the summary number after a read; 0 is never one. -/
def nextSummary (n : Nat) : Nat := if n = 65535 then 1 else n + 1

def LineRec.snap (r : LineRec) : LineSnap where
  status := r.status
  accepted := r.accepted
  measured := r.measured

/-- R39: a flag is kept while the status is PENDING or CONFIRMED. -/
def LineRec.afterRead (r : LineRec) : LineRec :=
  { r with flag := r.flag && (r.status == .pending || r.status == .confirmed) }

def readLinesService : Service := fun s =>
  let number := nextSummary s.hlm.summaryNo
  (s.modHlm fun h =>
      { lines := updAll h.lines fun _ r => r.afterRead, summaryNo := number,
        detail := some (number, .ofFn fun n => h.lines[n].snap) },
    .ok, s.summaryItems number)

def execReadLines (tag : Byte) (p : List Byte) : State → Answer :=
  live (State.request ⟨0x10, tag, p⟩ (served false (ofLength 0) p readLinesService))

/-- R40, R110: a first index and a count of 1 to 8 within the objects there are. -/
def spanOk (first count total : Nat) : Bool :=
  first < total && within 1 count 8 && first + count ≤ total

def readLineDetailService (p : List Byte) : Service := fun s =>
  if spanOk (rd8 p 0) (rd8 p 1) 32 then (s, .ok, s.hlm.detailItems (rd8 p 0) (rd8 p 1))
  else (s, .refusedArg, [])

def execReadLineDetail (tag : Byte) (p : List Byte) : State → Answer :=
  live (State.request ⟨0x11, tag, p⟩ (served false (ofLength 2) p (readLineDetailService p)))

/-! ### Gauges and needles (R52, R61, R74) -/

/-- R52: a feed of a HOST channel. -/
def Channel.feed (v : Int) (now : Nat) (h : Channel) : Channel :=
  { h with fed := some v, newFeed := true, feedTimer := .running now, expiries := 0 }

def feedValueService (p : List Byte) : Service := fun s =>
  match finOf 6 (rd8 p 0) with
  | some k =>
    if (s.channelCfg k).source = .host then
      (s.modChannel k (Channel.feed (rdI16 p 1) s.now), .ok, [])
    else (s, .refusedArg, [])
  | none => (s, .refusedArg, [])

def execFeedValue (tag : Byte) (p : List Byte) : State → Answer :=
  live (State.request ⟨0x14, tag, p⟩ (served false (ofLength 3) p (feedValueService p)))

def readGaugesService : Service := fun s => (s, .ok, s.gaugesItems)

def execReadGauges (tag : Byte) (p : List Byte) : State → Answer :=
  live (State.request ⟨0x15, tag, p⟩ (served false (ofLength 0) p readGaugesService))

/-- The objects that a mask names (R210). -/
def objectsOf (n : Nat) (mask : Nat) : List (Fin n) := (List.finRange n).filter fun i => bitOf mask i

/-- R74: the checks in their order. -/
def sweepService (p : List Byte) : Service := fun s =>
  let named := objectsOf 6 (rd8 p 0)
  if ¬ s.mode.isRunning then (s, .refusedMode, [])
  else if rd8 p 0 = 0 ∨ 64 ≤ rd8 p 0 then (s, .refusedArg, [])
  else if s.ndr.sweep then (s, .busy, [])
  else if s.sweepBlocked named then (s, .busy, [])
  else (s.startSweep named, .accepted, [])

def execSweep (tag : Byte) (p : List Byte) : State → Answer :=
  live (State.request ⟨0x16, tag, p⟩ (served false (ofLength 1) p (sweepService p)))

/-! ### Rules and presentation (R110, R118, R119) -/

def readRulesService (p : List Byte) : Service := fun s =>
  if spanOk (rd8 p 0) (rd8 p 1) 64 then (s, .ok, s.rulesItems (rd8 p 0) (rd8 p 1))
  else (s, .refusedArg, [])

def execReadRules (tag : Byte) (p : List Byte) : State → Answer :=
  live (State.request ⟨0x18, tag, p⟩ (served false (ofLength 2) p (readRulesService p)))

def readPresentationService : Service := fun s => (s, .ok, s.presentationItems)

def execReadPresentation (tag : Byte) (p : List Byte) : State → Answer :=
  live (State.request ⟨0x19, tag, p⟩ (served false (ofLength 0) p readPresentationService))

/-- R118: TOP, or one rule by its index. -/
def acknowledgeService (selector : Nat) : Service := fun s =>
  if selector = 0xFF then
    match s.topRule with
    | some m => (s.ackRule m, .ok, u8 m.val)
    | none => (s, .denied, [])
  else
    match finOf 64 selector with
    | some m => if s.ackTaken m then (s.ackRule m, .ok, u8 m.val) else (s, .denied, [])
    | none => (s, .refusedArg, [])

def execAcknowledge (tag : Byte) (p : List Byte) : State → Answer :=
  live (State.request ⟨0x1A, tag, p⟩ (served false (ofLength 1) p (acknowledgeService (rd8 p 0))))

/-! ### Doors (R145, R147, R153) -/

def readDoorsService : Service := fun s => (s, .ok, s.doorsItems)

def execReadDoors (tag : Byte) (p : List Byte) : State → Answer :=
  live (State.request ⟨0x1C, tag, p⟩ (served false (ofLength 0) p readDoorsService))

/-- R145: a mask that names a door set, none beyond D4 and only configured ones. -/
def State.doorMaskOk (s : State) (mask : Nat) : Bool :=
  mask != 0 && decide (mask < 16) && (objectsOf 4 mask).all fun d => (s.doorCfg d).configured

/-- R145: the checks in their order. -/
def releaseDoorsService (mask : Nat) : Service := fun s =>
  let sets := objectsOf 4 mask
  if ¬ s.doorMaskOk mask then (s, .refusedArg, [])
  else if ¬ s.mode.isRunning then (s, .refusedMode, [])
  else if s.releaseStanding sets then (s.grantAll sets true, .ok, [])
  else (s, .denied, [])

def execReleaseDoors (tag : Byte) (p : List Byte) : State → Answer :=
  live (State.request ⟨0x1D, tag, p⟩ (served false (ofLength 1) p (releaseDoorsService (rd8 p 0))))

/-- R147. -/
def withdrawReleaseService (mask : Nat) : Service := fun s =>
  if s.doorMaskOk mask then (s.grantAll (objectsOf 4 mask) false, .ok, [])
  else (s, .refusedArg, [])

def execWithdrawRelease (tag : Byte) (p : List Byte) : State → Answer :=
  live (State.request ⟨0x1E, tag, p⟩
    (served false (ofLength 1) p (withdrawReleaseService (rd8 p 0))))

/-! ### Fault readout (R175, R185 to R187) -/

/-- R177: the readout kinds are served in STANDBY, RUN and WORKSHOP. -/
def readout (k : Service) : Service := fun s =>
  if s.mode.isTimed then k s else (s, .refusedMode, [])

/-- R185: the cursor after a read of `n` entries from `c`, of a table of `total`. -/
def cursorAfter (c n total : Nat) : Nat := if c + n = total then 0 else c + n

def readFaultsService : Service := fun s =>
  let c := s.wsv.cursor
  let total := s.fmy.table.length
  let n := min 4 (total - c)
  (s.modWsv fun w => { w with cursor := cursorAfter c n total }, .ok,
    u8 total ++ u8 (cursorAfter c n total) ++ u8 (bits [c + n == total]) ++ u8 n
      ++ s.fmy.entriesFrom c n)

def execReadFaults (tag : Byte) (p : List Byte) : State → Answer :=
  live (State.request ⟨0x20, tag, p⟩ (served false (ofLength 0) p (readout readFaultsService)))

/-- R186. -/
def setFaultCursorService (position : Nat) : Service := fun s =>
  if position ≤ s.fmy.table.length then
    (s.modWsv fun w => { w with cursor := position }, .ok, u8 s.fmy.table.length)
  else (s, .refusedArg, [])

def execSetFaultCursor (tag : Byte) (p : List Byte) : State → Answer :=
  live (State.request ⟨0x21, tag, p⟩
    (served false (ofLength 1) p (readout (setFaultCursorService (rd8 p 0)))))

/-- R187. -/
def readFaultDetailService (p : List Byte) : Service := fun s =>
  match FaultCode.ofWire (rd8 p 0) (rd8 p 1) (rd8 p 2) with
  | some code => (s, .ok, s.fmy.detailItems code)
  | none => (s, .refusedArg, [])

def execReadFaultDetail (tag : Byte) (p : List Byte) : State → Answer :=
  live (State.request ⟨0x22, tag, p⟩
    (served false (ofLength 3) p (readout (readFaultDetailService p))))

def readCountersService : Service := fun s => (s, .ok, s.countersItems)

def execReadCounters (tag : Byte) (p : List Byte) : State → Answer :=
  live (State.request ⟨0x23, tag, p⟩ (served false (ofLength 0) p readCountersService))

/-! ### Kinds handled by range (R198) -/

/-- R198: 0x60..0x6F, answered OK with no effect in every mode. -/
def noEffectService : Service := fun s => (s, .ok, [])

/-- A kind outside the row's range is no frame of this row, and nothing happens. -/
def execNoEffectKind (kind tag : Byte) (p : List Byte) : State → Answer := live fun s =>
  if isNoEffectKind kind then s.request ⟨kind, tag, p⟩ noEffectService else s

/-- R198: an unassigned kind; in the workshop range the mode is tested first. -/
def unknownKindService (kind : Byte) : Service := fun s =>
  if 0x70 ≤ kind.toNat ∧ s.mode ≠ .workshop then (s, .refusedMode, []) else (s, .unknownKind, [])

def execUnknownKind (kind tag : Byte) (p : List Byte) : State → Answer := live fun s =>
  if isUnknownKind kind then s.request ⟨kind, tag, p⟩ (unknownKindService kind) else s

end Sys2Proof.Machine
end

