-- ==== Sys2Proof/Machine/Workshop.lean ====
section
/-! DEFINITION. The workshop requests (chapter 9) and the ends of the forcing records by their time. -/

namespace Sys2Proof.Machine

/-- R178, R182: 100 ms up to a limit, in steps of 100 ms. -/
def durationOk (d limit : Nat) : Bool := within 100 d limit && d % 100 == 0

/-- R178: create the record, or give it the new level and restart its time. -/
def State.forceLamp (n : Fin 24) (x : Level) (duration : Nat) (s : State) : State :=
  (s.modWsv fun w =>
    { w with lamps := w.lamps.set n (some ⟨x, duration, .running s.now⟩) }).refreshPru

def forceLampService (p : List Byte) : Service := fun s =>
  match finOf 24 (rd8 p 0), Level.ofCode (rd8 p 1) with
  | some n, some x =>
    if durationOk (rd16 p 2) 30000 then (s.forceLamp n x (rd16 p 2), .ok, [])
    else (s, .refusedArg, [])
  | _, _ => (s, .refusedArg, [])

def execForceLamp (tag : Byte) (p : List Byte) : State → Answer :=
  live (State.request ⟨0x70, tag, p⟩ (servedInWorkshop (ofLength 4) p (forceLampService p)))

/-- R181: create the record or give it the new position, and hand it to NDR (R77). -/
def State.forceNeedle (k : Fin 6) (position : Nat) (s : State) : State :=
  (s.modWsv fun w => { w with needles := w.needles.set k (some position) }).needleForced k

def forceNeedleService (p : List Byte) : Service := fun s =>
  match finOf 6 (rd8 p 0) with
  | some k =>
    if rd16 p 1 ≤ (s.channelCfg k).pmax then (s.forceNeedle k (rd16 p 1), .ok, [])
    else (s, .refusedArg, [])
  | none => (s, .refusedArg, [])

def execForceNeedle (tag : Byte) (p : List Byte) : State → Answer :=
  live (State.request ⟨0x71, tag, p⟩ (servedInWorkshop (ofLength 3) p (forceNeedleService p)))

/-- R182: the chime is silenced for the arbiter, and the forced pattern starts from its beginning. -/
def State.forceChime (x : Pattern) (duration : Nat) (s : State) : State :=
  ((s.modWsv fun w =>
    { w with chime := some ⟨x, duration, .running s.now⟩ }).refreshChime).startPattern

def forceChimeService (p : List Byte) : Service := fun s =>
  match patternOfCode (rd8 p 0) with
  | some (some x) =>
    if durationOk (rd16 p 1) 10000 then (s.forceChime x (rd16 p 1), .ok, [])
    else (s, .refusedArg, [])
  | _ => (s, .refusedArg, [])

def execForceChime (tag : Byte) (p : List Byte) : State → Answer :=
  live (State.request ⟨0x72, tag, p⟩ (servedInWorkshop (ofLength 3) p (forceChimeService p)))

/-- The targets of END_FORCING (R183). -/
inductive ForceTarget where
  | all
  | lamp (n : Fin 24)
  | needle (k : Fin 6)
  | chime
  deriving DecidableEq, Repr

/-- R211: the target byte. -/
def ForceTarget.ofByte (v : Nat) : Option ForceTarget :=
  if v = 0 then some .all
  else if v = 0x60 then some .chime
  else if 0x40 ≤ v then (finOf 6 (v - 0x40)).map .needle
  else if 0x20 ≤ v then (finOf 24 (v - 0x20)).map .lamp
  else none

/-- R183: how many records a target names and WSV holds. -/
def Wsv.held (w : Wsv) : ForceTarget → Nat
  | .all => w.records
  | .lamp n => if w.lamps[n].isSome then 1 else 0
  | .needle k => if w.needles[k].isSome then 1 else 0
  | .chime => if w.chime.isSome then 1 else 0

/-- R183: end every record that the target names. -/
def State.endTarget (t : ForceTarget) (s : State) : State :=
  if s.wsv.held t = 0 then s
  else
    match t with
    | .all => s.endAllForcing
    | .lamp n => s.endLampForce n
    | .needle k => s.endNeedleForce k
    | .chime => s.endChimeForce

def endForcingService (p : List Byte) : Service := fun s =>
  match ForceTarget.ofByte (rd8 p 0) with
  | some t => (s.endTarget t, .ok, u8 (s.wsv.held t))
  | none => (s, .refusedArg, [])

def execEndForcing (tag : Byte) (p : List Byte) : State → Answer :=
  live (State.request ⟨0x73, tag, p⟩ (servedInWorkshop (ofLength 1) p (endForcingService p)))

/-- R188: the checks in their order. -/
def clearFaultsService (mask : Nat) : Service := fun s =>
  if mask = 0 ∨ 256 ≤ mask then (s, .refusedArg, [])
  else if s.clearInFlight then (s, .busy, [])
  else (s.clearClasses fun c => bitOf mask c.code, .accepted, [])

def execClearFaults (tag : Byte) (p : List Byte) : State → Answer :=
  live (State.request ⟨0x74, tag, p⟩
    (servedInWorkshop (ofLength 2) p (clearFaultsService (rd16 p 0))))

/-- R189: the ignition cycles and the operating minutes are not resettable. -/
def resettable (c : Fin 12) : Bool := c != ignitionPlace && c != minutePlace

/-- R173, R189. -/
def State.resetCounter (c : Fin 12) (s : State) : State :=
  (s.modFmy fun m => { m with counters := m.counters.set c 0 }).makeCounterDue

def resetCounterService (p : List Byte) : Service := fun s =>
  match finOf 12 (rd8 p 0) with
  | some c =>
    if resettable c then (s.resetCounter c, .ok, u32 (s.counter c)) else (s, .refusedArg, [])
  | none => (s, .refusedArg, [])

def execResetCounter (tag : Byte) (p : List Byte) : State → Answer :=
  live (State.request ⟨0x75, tag, p⟩ (servedInWorkshop (ofLength 1) p (resetCounterService p)))

/-- R190. -/
def readRawLineService (p : List Byte) : Service := fun s =>
  match finOf 32 (rd8 p 0) with
  | some n => (s, .ok, s.rawLineItems n)
  | none => (s, .refusedArg, [])

def execReadRawLine (tag : Byte) (p : List Byte) : State → Answer :=
  live (State.request ⟨0x76, tag, p⟩ (servedInWorkshop (ofLength 1) p (readRawLineService p)))

/-! ### The ends by time (R178, R182) -/

/-- R178: a lamp record's remaining time reaches 0. -/
def execLampForcingExpiry (n : Fin 24) : State → Answer := live fun s =>
  match s.wsv.lamps[n] with
  | some r => atExpiry r.timer (ms r.duration) (State.endLampForce n) s
  | none => s

/-- R182: the chime record's remaining time reaches 0. -/
def execChimeForcingExpiry : State → Answer := live fun s =>
  match s.wsv.chime with
  | some r => atExpiry r.timer (ms r.duration) State.endChimeForce s
  | none => s

end Sys2Proof.Machine
end

