-- ==== Sys2Proof/Machine/Resets.lean ====
section
/-! DEFINITION. The resets and the start-up (1.3, 1.4): the three kinds of reset, the ends of a held
reset, the completion of the load, the end of STARTUP and the restart that takes effect. -/

namespace Sys2Proof.Machine

def State.modPins (s : State) (f : Pins → Pins) : State := { s with pins := f s.pins }

/-- R16: VB rises through the start threshold. -/
def execPowerOnReset (s : State) : Answer :=
  .next ((s.hardReset .powerOn).modPins fun p => { p with brownOut := false })

/-- R16: VB falls below 6 000 mV; the part is held in reset while it stays there. -/
def execBrownOut (s : State) : Answer :=
  .next (if s.pins.brownOut then s
         else (s.hardReset .brownOut).modPins fun p => { p with brownOut := true })

/-- R16: nRST has been low for 10 µs; the part is held in reset while it stays low. -/
def execExternalReset (s : State) : Answer :=
  .next (if s.pins.nrstLow then s
         else (s.hardReset .pin).modPins fun p => { p with nrstLow := true })

/-- R16: STARTUP begins when VB is back and nRST is high. -/
def State.startIfReleased (s : State) : State := if s.heldInReset then s else s.startScans

def execNrstRelease (s : State) : Answer :=
  .next (if s.pins.nrstLow then (s.modPins fun p => { p with nrstLow := false }).startIfReleased
         else s)

def execBrownOutEnd (s : State) : Answer :=
  .next (if s.pins.brownOut then (s.modPins fun p => { p with brownOut := false }).startIfReleased
         else s)

/-- R7, R169, R170: the counter block has been read. -/
def execStartupLoadComplete : State → Answer := live fun s =>
  if s.mode = .startup ∧ s.fmy.loading then s.completeLoad else s

/-- R7: STARTUP ends. -/
def execStartupEnd : State → Answer := live fun s => if s.startupOver then s.endStartup else s

/-- R17, R171: the restart takes effect. -/
def execRestartTakesEffect : State → Answer := live fun s =>
  if s.restartReady then s.applyReset .restart else s

end Sys2Proof.Machine
end

