-- ==== Sys2Proof/Machine/SupplyEvents.lean ====
section
/-! DEFINITION. The events of supply, ignition and SLEEP (1.1, 1.2, 1.3). -/

namespace Sys2Proof.Machine

/-- R1: the moment of the next VB measurement. -/
def State.atVbMeasurement (s : State) : State :=
  let t := max s.now s.sched.vb
  { s with now := t, sched := { s.sched with vb := t + ms 2 } }

/-- R1, R2, R5: VB is measured and IGN sampled with it (IGN first, assumption 16). MCTL measures in
every mode except SLEEP. -/
def execVbMeasurement (mv : Nat) (ign : Bool) : State → Answer := live fun s =>
  if s.mode = .sleep then s
  else ((s.atVbMeasurement.modMctl fun c => c.ignSample ign (max s.now s.sched.vb))).measureVb mv

/-- R3: the LOW report timer reaches 10 s. -/
def State.reportLow (s : State) : State :=
  (s.reportActive (.supply .low)).modMctl fun c =>
    { c with lowMark := true, lowReport := .stopped }

def execSupplyLowReportExpiry : State → Answer := live fun s =>
  atExpiry s.mctl.lowReport (ms 10000) State.reportLow s

/-- R3: the HIGH report timer reaches 1 s. -/
def State.reportHigh (s : State) : State :=
  (s.reportActive (.supply .high)).modMctl fun c =>
    { c with highMark := true, highReport := .stopped }

def execSupplyHighReportExpiry : State → Answer := live fun s =>
  atExpiry s.mctl.highReport (ms 1000) State.reportHigh s

/-- R5: a level of IGN has held for 20 ms. -/
def execIgnDebounceExpiry : State → Answer := live fun s =>
  match s.mctl.ignTimer with
  | some (level, t) => atExpiry t (ms 20) (State.acceptIgn level) s
  | none => s

/-- R11: a full minute of the ignition cycle; the timer goes on from it. -/
def execOperatingMinuteElapsed : State → Answer := live fun s =>
  match s.mctl.minute with
  | .running since =>
    let t := since + ms 60000
    (s.reach t).bump minutePlace |>.modMctl fun c => { c with minute := .running t }
  | _ => s

/-- R14. -/
def execSleepEntry : State → Answer := live fun s => if s.mayEnterSleep then s.enterSleep else s

end Sys2Proof.Machine
end

