-- ==== Sys2Proof/Machine/LinkEvents.lean ====
section
/-! DEFINITION. The events of the link (chapter 10): bytes, the gap timer, replies, host silence, the HOLD
line and the break. -/

namespace Sys2Proof.Machine

/-- R15, R192, R209: the receive line goes low; the break timing starts, and the gap timer stops. -/
def State.receptionStarts (idle : Bool) (s : State) : State :=
  s.wakeByLink.modLif fun l =>
    { l with gap := .stopped, lowTimer := .running s.now, waitIdle := l.waitIdle && !idle }

def execStartOfReception (idle : Bool) : State → Answer := live fun s =>
  if s.lif.breakLatched then s else s.receptionStarts idle

/-- R15, R192, R209: a byte on the line ends or begins anew the period in which the line is low, whether LIF
takes it or not; during a latched break there is none (assumption 56). -/
def execByteReceived (b : Byte) (stopHigh : Bool) : State → Answer := live fun s =>
  if s.lif.breakLatched then s
  else
    let s := s.wakeByLink.byteEnds b stopHigh
    if s.lif.waitIdle then s else if stopHigh then s.takeByte b else s.stopBitError

/-- R192: 1 ms without a further start bit. -/
def execGapTimerExpiry : State → Answer := live fun s => atExpiry s.lif.gap (ms 1) State.abandon s

/-- R195: the reply has left the part, and its frame leaves the queue. -/
def execReplySent : State → Answer := live fun s =>
  if s.lif.tx.isSome then s.modLif fun l => { l with tx := none, queue := l.queue.drop 1 } else s

/-- R209: the line has been low for 20 ms; the gap timer of a frame in progress goes on
(assumption 15). -/
def State.latchBreak (s : State) : State :=
  s.modLif fun l =>
    { l with breakLatched := true, lowTimer := .stopped,
             gap := if l.rx = .hunt then .stopped else .running s.now }

def execBreakLatch : State → Answer := live fun s =>
  atExpiry s.lif.lowTimer (ms 20) State.latchBreak s

/-- R16, R209: the line returns to idle with the break latched. Without a latch it ends a period shorter than
20 ms (assumption 56). -/
def execBreakRelease : State → Answer := live fun s =>
  if s.lif.breakLatched then s.hardReset .linkBreak else s.lineWentHigh

/-- R203: an episode of host silence begins. -/
def State.beginSilence (s : State) : State :=
  let s := (s.modLif fun l =>
    { l with silence := true, startupSilence := false, silenceTimer := .stopped,
             linkMark := true }).attend .hostsil
  let s := ((s.reportActive .hostSilent).bump silencePlace).refreshPru
  if s.mode = .workshop then s.workshopToRun else s

def execHostSilenceBegins : State → Answer := live fun s =>
  atExpiry s.lif.silenceTimer (ms s.tables.general.hostSilence) State.beginSilence s

/-- R206: the columns of a change of the HOLD line. -/
def State.holdChange (asserted : Bool) (s : State) : State :=
  if asserted then (if s.lif.hold || s.lif.spent then s else s.beginHold)
  else if s.lif.hold then s.endHold
  else s.modLif fun l => { l with spent := false }

/-- R207: HOLD is not acted on in STARTUP and in SLEEP, nor by a part held in reset. -/
def State.holdLineChange (asserted : Bool) (s : State) : State :=
  let s := s.modPins fun p => { p with holdAsserted := asserted }
  if s.heldInReset ∨ s.mode = .startup ∨ s.mode = .sleep then s else s.holdChange asserted

/-- A change of the HOLD line to the level that it has is none. -/
def execHoldLineChange (asserted : Bool) (s : State) : Answer :=
  .next (if s.pins.holdAsserted = asserted then s else s.holdLineChange asserted)

/-- R206: the hold ends by its limit of 2000 ms. -/
def State.holdLimit (s : State) : State :=
  (s.endHold.modLif fun l => { l with spent := true }).attend .hold

def execHoldLimitExpiry : State → Answer := live fun s =>
  atExpiry s.lif.holdTimer (ms 2000) State.holdLimit s

end Sys2Proof.Machine
end

