-- ==== Sys2Proof/Machine/GaugeEvents.lean ====
section
/-! DEFINITION. The events of the gauge channels and the needles (chapters 3 and 4). -/

namespace Sys2Proof.Machine

/-- The modes in which lines, channels, needles and the flash phase run (R37, R62, R79, R122). -/
def Mode.isAwake : Mode → Bool
  | .startup | .sleep => false
  | _ => true

/-- R42: the moment of a channel's next sample. -/
def State.atChannelSample (k : Fin 6) (s : State) : State :=
  let t := max s.now s.sched.channels[k]
  { s with now := t, sched := { s.sched with channels := s.sched.channels.set k (t + ms 10) } }

/-- R57, R58: a sample of the SPEED channel is a speed update for DMN and MCTL. -/
def State.speedUpdate (k : Fin 6) (s : State) : State :=
  if (s.channelCfg k).hasSpeedRole then s.doorSpeedUpdate.leaveWorkshopIfMoving else s

/-- R42 to R60: a channel without a source has no samples. -/
def execChannelSample (k : Fin 6) : State → Answer := live fun s =>
  if s.mode.isAwake ∧ (s.channelCfg k).source ≠ .unused then
    ((s.atChannelSample k).sampleChannel k).speedUpdate k
  else s

/-- R53, R58: a feed timer expires. The first expiry is a speed update (the speed goes on from STALE); the
second, after which the speed is unknown, is none (assumption 35). -/
def State.feedTimeout (k : Fin 6) (s : State) : State :=
  let first := (s.channel k).expiries == 0
  let s := s.feedExpired k
  if first then s.speedUpdate k else s

/-- R53. -/
def execFeedTimeout (k : Fin 6) : State → Answer := live fun s =>
  atExpiry (s.channel k).feedTimer (ms (s.channelCfg k).feedTimeout) (State.feedTimeout k) s

/-- R68: the moment of a needle's next motion interval. -/
def State.atMotionInterval (k : Fin 6) (s : State) : State :=
  let t := max s.now s.sched.needles[k]
  { s with now := t, sched := { s.sched with needles := s.sched.needles.set k (t + ms 1) } }

/-- R68, R72, R75. -/
def execMotionInterval (k : Fin 6) : State → Answer := live fun s =>
  if s.mode.isAwake then (s.atMotionInterval k).motion k else s

end Sys2Proof.Machine
end

