-- ==== Sys2Proof/Machine/DashEvents.lean ====
section
/-! DEFINITION. The events of the rules, the telltales and the chime (chapters 5 and 6). -/

namespace Sys2Proof.Machine

/-- R108: the modes in which evaluation passes are made. -/
def Mode.hasPasses : Mode → Bool
  | .unconfigured | .standby | .run | .workshop => true
  | _ => false

/-- R96: the moment of the next pass. -/
def State.atPass (s : State) : State :=
  let t := max s.now s.sched.pass
  { s with now := t, sched := { s.sched with pass := t + ms 10 } }

def execEvaluationPass : State → Answer := live fun s =>
  if s.mode.hasPasses then s.atPass.pass else s

/-- R123: the lamp-check time has passed. -/
def execLampCheckEnd : State → Answer := live fun s =>
  atExpiry s.pru.lampCheck (ms s.tables.general.lampCheck) (fun s => s.endLampCheck.refreshPru) s

/-- R125: the moment of a lamp's next tested millisecond. -/
def State.atLampTick (n : Fin 24) (s : State) : State :=
  let t := max s.now s.sched.lamps[n]
  { s with now := t, sched := { s.sched with lamps := s.sched.lamps.set n (t + ms 1) } }

/-- R125: a millisecond in which the lamp is tested. -/
def execLampDiagnosticTick (n : Fin 24) (low : Bool) : State → Answer := live fun s =>
  if s.tested n then (s.atLampTick n).openTest n low else s

/-- R126: an overcurrent can occur only while the driver carries current. -/
def execLampOvercurrent (n : Fin 24) : State → Answer := live fun s =>
  if s.driverOn n then s.overcurrent n else s

/-- R126: the trip ends and the driver follows its call again. -/
def State.endTrip (n : Fin 24) (s : State) : State :=
  (s.modLamp n fun l => { l with retry := .stopped }).followCalls

def execLampRetryExpiry (n : Fin 24) : State → Answer := live fun s =>
  atExpiry (s.lamp n).retry (s.lamp n).retryTime (State.endTrip n) s

/-- R126: 50 ms of on time without overcurrent. -/
def execLampSuccessTimerExpiry (n : Fin 24) : State → Answer := live fun s =>
  atExpiry (s.lamp n).success (ms 50) (State.onPeriodGood n) s

/-- R129, R182: a SINGLE tone has sounded its 400 ms; a winner's mark is set, a forced one ends
(assumption 37). -/
def State.singleDone (s : State) : State :=
  if s.wsv.chime.isSome then s.soundOff
  else
    match s.pru.winner with
    | some m => (s.modPru fun p => { p with singleMarks := p.singleMarks.set m true }).refreshChime
    | none => s

def execSingleToneComplete : State → Answer := live fun s =>
  if s.pattern = some .single ∧ s.pru.tone then
    atExpiry (.running s.pru.patternStart) (ms 400) State.singleDone s
  else s

/-- R122: the moment of the next millisecond of the flash phase. -/
def State.atFlash (s : State) : State :=
  let t := max s.now s.sched.flash
  { s with now := t, sched := { s.sched with flash := t + ms 1 } }

/-- R122: the phase counts from 0 to 999 and wraps, and the drivers follow their calls. -/
def State.advancePhase (s : State) : State :=
  (s.modPru fun p => { p with phase := (p.phase + 1) % 1000 }).followCalls

def execFlashPhaseAdvance : State → Answer := live fun s =>
  if s.mode.isAwake then s.atFlash.advancePhase else s

/-- R129: the tone of a repeating pattern ends, or the next period begins with a tone. -/
def State.toneEdge (tone period : Nat) (s : State) : State :=
  let start := s.pru.patternStart
  if s.pru.tone then (s.reach (start + ms tone)).soundOff
  else (s.reach (start + ms period)).modPru fun p =>
    { p with tone := true, patternStart := start + ms period }

def execChimeToneEdge : State → Answer := live fun s =>
  match s.pattern.bind Pattern.repeats with
  | some (tone, period) => s.toneEdge tone period
  | none => s

end Sys2Proof.Machine
end

