-- ==== Sys2Proof/Machine/DoorEvents.lean ====
section
/-! DEFINITION. The events of the door timers and the interlock (chapter 7). Door sets count from 0. -/

namespace Sys2Proof.Machine

/-- R138. -/
def execOpenTimerExpiry (d : Fin 4) : State → Answer := live fun s =>
  atExpiry (s.door d).openTimer (ms (s.doorCfg d).openTimeout) (State.rederive d .openExpired) s

/-- R139. -/
def execCloseTimerExpiry (d : Fin 4) : State → Answer := live fun s =>
  atExpiry (s.door d).closeTimer (ms (s.doorCfg d).closeTimeout) (State.rederive d .closeExpired) s

/-- R137. -/
def execLockTimerExpiry (d : Fin 4) : State → Answer := live fun s =>
  atExpiry (s.door d).lockTimer (ms (s.doorCfg d).lockTimeout) (State.rederive d .lockExpired) s

/-- R135. -/
def execInconsistencyTimerExpiry (d : Fin 4) : State → Answer := live fun s =>
  atExpiry (s.door d).inconTimer (ms s.tables.general.inconsistency) (State.inconsistent d) s

/-- R149: no condition has held for 500 ms. -/
def execReleaseDelayExpiry : State → Answer := live fun s =>
  atExpiry s.dmn.delay (ms 500) (State.setInterlock .free .stopped) s

end Sys2Proof.Machine
end

