-- ==== Sys2Proof/Machine/StoreEvents.lean ====
section
/-! DEFINITION. The events of the nonvolatile store (8.4, 8.5). -/

namespace Sys2Proof.Machine

/-- R166. -/
def execWriteStart : State → Answer := live State.startWrite

/-- R167: a slot write completes 4 ms after its start. -/
def execSlotWriteComplete : State → Answer := live fun s =>
  match s.fmy.write with
  | .slot n c stale => atExpiry s.fmy.writeTimer (ms 4) (State.completeSlotWrite n c stale) s
  | _ => s

/-- R167, R171, R174: a counter save completes 4 ms after its start. -/
def execCounterSaveComplete : State → Answer := live fun s =>
  match s.fmy.write with
  | .counters c =>
    atExpiry s.fmy.writeTimer (ms 4) (fun s => (s.completeCounterSave c).restartAfterSave) s
  | _ => s

/-- R168: an image write completes 120 ms after its start. -/
def execConfigStoreComplete : State → Answer := live fun s =>
  match s.fmy.write with
  | .image l => atExpiry s.fmy.writeTimer (ms 120) (State.completeStore l) s
  | _ => s

end Sys2Proof.Machine
end

