-- ==== Sys2Proof/Machine/Dispatch.lean ====
section
/-! DEFINITION. The meaning of every command: one arm per row of the table. -/

namespace Sys2Proof.Machine

def exec (i : Instr) (s : State) : Host.Outcome State Fault Refusal :=
  match i with
  | .powerOnReset => Sys2Proof.Machine.execPowerOnReset s
  | .brownOut => Sys2Proof.Machine.execBrownOut s
  | .externalReset => Sys2Proof.Machine.execExternalReset s
  | .startupLoadComplete => Sys2Proof.Machine.execStartupLoadComplete s
  | .startupEnd => Sys2Proof.Machine.execStartupEnd s
  | .vbMeasurement mv ign => Sys2Proof.Machine.execVbMeasurement mv ign s
  | .supplyLowReportExpiry => Sys2Proof.Machine.execSupplyLowReportExpiry s
  | .supplyHighReportExpiry => Sys2Proof.Machine.execSupplyHighReportExpiry s
  | .ignDebounceExpiry => Sys2Proof.Machine.execIgnDebounceExpiry s
  | .operatingMinuteElapsed => Sys2Proof.Machine.execOperatingMinuteElapsed s
  | .sleepEntry => Sys2Proof.Machine.execSleepEntry s
  | .sleepSample ign mv => Sys2Proof.Machine.execSleepSample ign mv s
  | .startOfReception idle => Sys2Proof.Machine.execStartOfReception idle s
  | .byteReceived b stopHigh => Sys2Proof.Machine.execByteReceived b stopHigh s
  | .gapTimerExpiry => Sys2Proof.Machine.execGapTimerExpiry s
  | .replySent => Sys2Proof.Machine.execReplySent s
  | .breakLatch => Sys2Proof.Machine.execBreakLatch s
  | .breakRelease => Sys2Proof.Machine.execBreakRelease s
  | .hostSilenceBegins => Sys2Proof.Machine.execHostSilenceBegins s
  | .holdLineChange asserted => Sys2Proof.Machine.execHoldLineChange asserted s
  | .holdLimitExpiry => Sys2Proof.Machine.execHoldLimitExpiry s
  | .ping tag p => Sys2Proof.Machine.execPing tag p s
  | .readStatus tag p => Sys2Proof.Machine.execReadStatus tag p s
  | .readAttention tag p => Sys2Proof.Machine.execReadAttention tag p s
  | .setMode tag p => Sys2Proof.Machine.execSetMode tag p s
  | .restart tag p => Sys2Proof.Machine.execRestart tag p s
  | .restartTakesEffect => Sys2Proof.Machine.execRestartTakesEffect s
  | .writeTable tag p => Sys2Proof.Machine.execWriteTable tag p s
  | .readTable tag p => Sys2Proof.Machine.execReadTable tag p s
  | .storeConfig tag p => Sys2Proof.Machine.execStoreConfig tag p s
  | .readLines tag p => Sys2Proof.Machine.execReadLines tag p s
  | .readLineDetail tag p => Sys2Proof.Machine.execReadLineDetail tag p s
  | .feedValue tag p => Sys2Proof.Machine.execFeedValue tag p s
  | .readGauges tag p => Sys2Proof.Machine.execReadGauges tag p s
  | .sweep tag p => Sys2Proof.Machine.execSweep tag p s
  | .readRules tag p => Sys2Proof.Machine.execReadRules tag p s
  | .readPresentation tag p => Sys2Proof.Machine.execReadPresentation tag p s
  | .acknowledge tag p => Sys2Proof.Machine.execAcknowledge tag p s
  | .readDoors tag p => Sys2Proof.Machine.execReadDoors tag p s
  | .releaseDoors tag p => Sys2Proof.Machine.execReleaseDoors tag p s
  | .withdrawRelease tag p => Sys2Proof.Machine.execWithdrawRelease tag p s
  | .readFaults tag p => Sys2Proof.Machine.execReadFaults tag p s
  | .setFaultCursor tag p => Sys2Proof.Machine.execSetFaultCursor tag p s
  | .readFaultDetail tag p => Sys2Proof.Machine.execReadFaultDetail tag p s
  | .readCounters tag p => Sys2Proof.Machine.execReadCounters tag p s
  | .forceLamp tag p => Sys2Proof.Machine.execForceLamp tag p s
  | .forceNeedle tag p => Sys2Proof.Machine.execForceNeedle tag p s
  | .forceChime tag p => Sys2Proof.Machine.execForceChime tag p s
  | .endForcing tag p => Sys2Proof.Machine.execEndForcing tag p s
  | .clearFaults tag p => Sys2Proof.Machine.execClearFaults tag p s
  | .resetCounter tag p => Sys2Proof.Machine.execResetCounter tag p s
  | .readRawLine tag p => Sys2Proof.Machine.execReadRawLine tag p s
  | .noEffectKind kind tag p => Sys2Proof.Machine.execNoEffectKind kind tag p s
  | .unknownKind kind tag p => Sys2Proof.Machine.execUnknownKind kind tag p s
  | .lineSample n mv => Sys2Proof.Machine.execLineSample n mv s
  | .qualifyTimerExpiry n => Sys2Proof.Machine.execQualifyTimerExpiry n s
  | .healTimerExpiry n => Sys2Proof.Machine.execHealTimerExpiry n s
  | .pulseEdge n mv wait => Sys2Proof.Machine.execPulseEdge n mv wait s
  | .channelSample k => Sys2Proof.Machine.execChannelSample k s
  | .feedTimeout k => Sys2Proof.Machine.execFeedTimeout k s
  | .motionInterval k => Sys2Proof.Machine.execMotionInterval k s
  | .evaluationPass => Sys2Proof.Machine.execEvaluationPass s
  | .lampCheckEnd => Sys2Proof.Machine.execLampCheckEnd s
  | .lampDiagnosticTick n low => Sys2Proof.Machine.execLampDiagnosticTick n low s
  | .lampOvercurrent n => Sys2Proof.Machine.execLampOvercurrent n s
  | .lampRetryExpiry n => Sys2Proof.Machine.execLampRetryExpiry n s
  | .lampSuccessTimerExpiry n => Sys2Proof.Machine.execLampSuccessTimerExpiry n s
  | .singleToneComplete => Sys2Proof.Machine.execSingleToneComplete s
  | .openTimerExpiry d => Sys2Proof.Machine.execOpenTimerExpiry d s
  | .closeTimerExpiry d => Sys2Proof.Machine.execCloseTimerExpiry d s
  | .lockTimerExpiry d => Sys2Proof.Machine.execLockTimerExpiry d s
  | .inconsistencyTimerExpiry d => Sys2Proof.Machine.execInconsistencyTimerExpiry d s
  | .releaseDelayExpiry => Sys2Proof.Machine.execReleaseDelayExpiry s
  | .writeStart => Sys2Proof.Machine.execWriteStart s
  | .slotWriteComplete => Sys2Proof.Machine.execSlotWriteComplete s
  | .counterSaveComplete => Sys2Proof.Machine.execCounterSaveComplete s
  | .configStoreComplete => Sys2Proof.Machine.execConfigStoreComplete s
  | .lampForcingExpiry n => Sys2Proof.Machine.execLampForcingExpiry n s
  | .chimeForcingExpiry => Sys2Proof.Machine.execChimeForcingExpiry s
  | .nrstRelease => Sys2Proof.Machine.execNrstRelease s
  | .brownOutEnd => Sys2Proof.Machine.execBrownOutEnd s
  | .flashPhaseAdvance => Sys2Proof.Machine.execFlashPhaseAdvance s
  | .chimeToneEdge => Sys2Proof.Machine.execChimeToneEdge s

end Sys2Proof.Machine
end

