-- ==== Sys2Proof/Safety.lean ====
section
/-! DEFINITION. What a safe run means on the FD2418, in the terms claims use: the parts of the state that a
change leaves alone, and the laws of the release outputs, the interlock, the link, the tables, the fault
memory, the needles, the presentation list, the telltales and the chime. -/

namespace Sys2Proof.Machine

/-! ### What a change leaves alone -/

/-- The parts of the state that a frame names. LIF and WSV are cut in two: attention causes and the
readout cursor move with the fault table, the rest of the two blocks does not. -/
inductive Part where
  | pending | now | free | sched | pins | mctl | hlm | gve | ndr | wev | pru | dmn | fmy | cursor
  | forcing | attention | link | tables | written | nv
  deriving DecidableEq, Repr

/-- WSV without its cursor. -/
def Wsv.forcing (w : Wsv) : Wsv := { w with cursor := 0 }

/-- LIF without its attention summary. -/
def Lif.link (l : Lif) : Lif := { l with attention := {} }

/-- Two states agree on a part. -/
def SameOn (s t : State) : Part → Prop
  | .pending => t.pending = s.pending
  | .now => t.now = s.now
  | .free => t.freeCount = s.freeCount
  | .sched => t.sched = s.sched
  | .pins => t.pins = s.pins
  | .mctl => t.mctl = s.mctl
  | .hlm => t.hlm = s.hlm
  | .gve => t.gve = s.gve
  | .ndr => t.ndr = s.ndr
  | .wev => t.wev = s.wev
  | .pru => t.pru = s.pru
  | .dmn => t.dmn = s.dmn
  | .fmy => t.fmy = s.fmy
  | .cursor => t.wsv.cursor = s.wsv.cursor
  | .forcing => t.wsv.forcing = s.wsv.forcing
  | .attention => t.lif.attention = s.lif.attention
  | .link => t.lif.link = s.lif.link
  | .tables => t.tables = s.tables
  | .written => t.written = s.written
  | .nv => t.nv = s.nv

/-- From `s` to `t` nothing changes outside the parts named. -/
def OnlyChanges (l : List Part) (s t : State) : Prop := ∀ p, p ∉ l → SameOn s t p

/-! ### Requests -/

/-- The frame that a request command carries; none for the other commands, and for a kind outside the
range of its row. -/
def requestFrame : Instr → Option Frame
  | .ping t p => some ⟨0x01, t, p⟩
  | .readStatus t p => some ⟨0x02, t, p⟩
  | .readAttention t p => some ⟨0x03, t, p⟩
  | .setMode t p => some ⟨0x04, t, p⟩
  | .restart t p => some ⟨0x05, t, p⟩
  | .writeTable t p => some ⟨0x08, t, p⟩
  | .readTable t p => some ⟨0x09, t, p⟩
  | .storeConfig t p => some ⟨0x0A, t, p⟩
  | .readLines t p => some ⟨0x10, t, p⟩
  | .readLineDetail t p => some ⟨0x11, t, p⟩
  | .feedValue t p => some ⟨0x14, t, p⟩
  | .readGauges t p => some ⟨0x15, t, p⟩
  | .sweep t p => some ⟨0x16, t, p⟩
  | .readRules t p => some ⟨0x18, t, p⟩
  | .readPresentation t p => some ⟨0x19, t, p⟩
  | .acknowledge t p => some ⟨0x1A, t, p⟩
  | .readDoors t p => some ⟨0x1C, t, p⟩
  | .releaseDoors t p => some ⟨0x1D, t, p⟩
  | .withdrawRelease t p => some ⟨0x1E, t, p⟩
  | .readFaults t p => some ⟨0x20, t, p⟩
  | .setFaultCursor t p => some ⟨0x21, t, p⟩
  | .readFaultDetail t p => some ⟨0x22, t, p⟩
  | .readCounters t p => some ⟨0x23, t, p⟩
  | .forceLamp t p => some ⟨0x70, t, p⟩
  | .forceNeedle t p => some ⟨0x71, t, p⟩
  | .forceChime t p => some ⟨0x72, t, p⟩
  | .endForcing t p => some ⟨0x73, t, p⟩
  | .clearFaults t p => some ⟨0x74, t, p⟩
  | .resetCounter t p => some ⟨0x75, t, p⟩
  | .readRawLine t p => some ⟨0x76, t, p⟩
  | .noEffectKind k t p => if isNoEffectKind k then some ⟨k, t, p⟩ else none
  | .unknownKind k t p => if isUnknownKind k then some ⟨k, t, p⟩ else none
  | .powerOnReset | .brownOut | .externalReset | .startupLoadComplete | .startupEnd => none
  | .vbMeasurement _ _ | .supplyLowReportExpiry | .supplyHighReportExpiry => none
  | .ignDebounceExpiry | .operatingMinuteElapsed | .sleepEntry | .sleepSample _ _ => none
  | .startOfReception _ | .byteReceived _ _ | .gapTimerExpiry | .replySent | .breakLatch => none
  | .breakRelease | .hostSilenceBegins | .holdLineChange _ | .holdLimitExpiry => none
  | .restartTakesEffect | .lineSample _ _ | .qualifyTimerExpiry _ | .healTimerExpiry _ => none
  | .pulseEdge _ _ _ | .channelSample _ | .feedTimeout _ | .motionInterval _ => none
  | .evaluationPass | .lampCheckEnd | .lampDiagnosticTick _ _ | .lampOvercurrent _ => none
  | .lampRetryExpiry _ | .lampSuccessTimerExpiry _ | .singleToneComplete => none
  | .openTimerExpiry _ | .closeTimerExpiry _ | .lockTimerExpiry _ => none
  | .inconsistencyTimerExpiry _ | .releaseDelayExpiry | .writeStart | .slotWriteComplete => none
  | .counterSaveComplete | .configStoreComplete | .lampForcingExpiry _ => none
  | .chimeForcingExpiry | .nrstRelease | .brownOutEnd | .flashPhaseAdvance | .chimeToneEdge => none

/-- R211: whether a request kind allows a payload length. -/
def lengthAllowed (kind : Byte) (l : Nat) : Bool :=
  match kind.toNat with
  | 0x01 => l ≤ 47
  | 0x04 | 0x16 | 0x1A | 0x1D | 0x1E | 0x21 | 0x73 | 0x75 | 0x76 => l == 1
  | 0x09 | 0x11 | 0x18 | 0x74 => l == 2
  | 0x14 | 0x22 | 0x71 | 0x72 => l == 3
  | 0x70 => l == 4
  | 0x08 => [13, 26, 7, 24, 35, 36, 5, 16].contains l
  | _ => l == 0

/-- A frame can be served now: the part runs, the frame is at the head of the queue, and no reply is
being sent (R195). -/
structure Ready (f : Frame) (s : State) : Prop where
  live : s.heldInReset = false
  head : s.lif.queue.head? = some f
  quiet : s.lif.tx = none

/-- The state in which the reply to a frame has begun to be sent, and nothing else has changed. -/
def State.replying (f : Frame) (x : Status) (items : List Byte) (s : State) : State :=
  s.modLif fun l => { l with tx := some (f.reply x items) }

/-- Commands one after the other. -/
def runAll : List Instr → State → Option State
  | [], s => some s
  | c :: rest, s =>
    match exec c s with
    | .next t => runAll rest t
    | _ => none

/-- R145: a mask that names a door set, none beyond D4, and only door sets that are configured. -/
def State.NamesDoorSets (s : State) (mask : Byte) : Prop :=
  mask ≠ 0 ∧ mask.toNat < 16 ∧
    ∀ d : Fin 4, mask.getLsbD d.val = true → (s.doorCfg d).configured = true

/-- A flag of a reply's byte at its weight (R211). -/
def weigh (b : Bool) (w : Nat) : Nat := if b then w else 0

/-! ### Resets -/

/-- What every reset leaves (R18, R41, R63, R83, R111, R131, R154, R176, R191 and 10.8), with the queue
of commands and the present moment as they were. -/
structure AfterReset (cause : ResetCause) (s t : State) : Prop where
  pending : t.pending = s.pending
  now : t.now = s.now
  mctl : t.mctl =
    { mode := .startup, supply := .low, vb := none, highTimer := .stopped,
      recoveryTimer := .stopped, lowReport := .stopped, highReport := .stopped, lowMark := true,
      highMark := true, ign := .unknown, ignTimer := none, cycle := false, minute := .stopped,
      cause := cause, loaded := none, imageFailed := false, sleepPending := false, restart := .idle }
  line : ∀ n, t.line n =
    { measured := none, usable := none, candidate := none, count := 0, accepted := none,
      status := .clear, timer := .stopped, symptom := .any, flag := false, comparator := .stopped }
  summary : t.hlm.detail = none ∧ t.hlm.summaryNo = 0
  unit : ∀ u, t.unit u = { base := .stopped, tRef := none, tLast := none, edges := 0, glitches := 0 }
  channel : ∀ k, t.channel k =
    { st := .init, e := none, f256 := 0, f := none, standstill := false, pLast := none, start := none,
      fed := none, newFeed := false, feedTimer := .stopped, expiries := 0, lostMark := true,
      noiseMark := true }
  needle : ∀ k, t.needle k =
    { st := .homingWaiting, count := 0, pos := none, speed := 0, dir := .up, latest := 0,
      published := 0, resume := none }
  sweep : t.ndr.sweep = false
  rule : ∀ m, t.rule m =
    { st := .off, cond := false, raw := .no, res0 := .no, res1 := .no, res2 := .no, hyst0 := false,
      hyst1 := false, hyst2 := false, onset := 0, release := none, reminder := 0, seq := none,
      mark := true, qualHeld := false, frozen := false }
  sequence : t.wev.seq = 0
  list : t.pru.list = [] ∧ t.pru.shown = []
  lamp : ∀ n, t.lamp n =
    { openStatus := .unsettled, openCount := 0, shortStatus := .unsettled, retry := .stopped,
      trips := 0, success := .stopped, published := .off }
  dash : t.pru.phase = 0 ∧ t.pru.lampCheck = .stopped ∧ t.pru.winner = none ∧ t.pru.tone = false
  single : ∀ m : Fin 64, t.pru.singleMarks[m] = false
  door : ∀ d, (t.door d).st = .unknown ∧ (t.door d).openTimer = .stopped ∧
    (t.door d).closeTimer = .stopped ∧ (t.door d).lockTimer = .stopped ∧
    (t.door d).inconTimer = .stopped ∧ (t.door d).inconMark = false ∧
    (t.door d).openWhileMoving = false ∧ (t.door d).repeatedObstruction = false ∧
    (t.door d).closeTimeout = false ∧ (t.door d).notLocked = false ∧ (t.door d).obstructions = 0 ∧
    (t.door d).cycle = false ∧ (∀ y, y ∈ (t.door d).marks) ∧ (t.door d).grant = false ∧
    (t.door d).output = false
  interlock : t.dmn.interlock = .forced ∧ t.dmn.delay = .stopped ∧ t.ilk = true
  table : t.fmy.table = [] ∧ t.fmy.writes = [] ∧ t.fmy.reappend = false ∧ t.fmy.held = []
  store : t.fmy.write = .idle ∧ t.fmy.loading = true ∧ t.fmy.storeRequested = false ∧
    t.fmy.counterDue = false ∧ t.fmy.clear = none ∧ t.fmy.lost = 0
  forcing : (∀ n : Fin 24, t.wsv.lamps[n] = none) ∧ (∀ k : Fin 6, t.wsv.needles[k] = none) ∧
    t.wsv.chime = none ∧ t.wsv.cursor = 0
  receiver : t.lif.rx = .hunt ∧ t.lif.gap = .stopped ∧ t.lif.queue = [] ∧ t.lif.tx = none ∧
    t.lif.errors = 0
  attention : ∀ c, t.lif.attention.has c = (c == .reset || c == .supply || c == .hostsil)
  silence : t.lif.silence = true ∧ t.lif.startupSilence = true ∧ t.lif.silenceTimer = .stopped ∧
    t.lif.linkMark = true
  hold : t.lif.hold = false ∧ t.lif.holdTimer = .stopped ∧ t.lif.spent = false ∧
    t.lif.breakLatched = false
  tables : t.tables = {} ∧ t.written = none

/-- R16, R171: what a power-on or external reset makes of the store: nothing, but for the place of a write
in flight, which may be torn. -/
def CutOff (s t : State) : Prop :=
  match s.fmy.write with
  | .idle => t.nv = s.nv
  | .slot n _ _ => t.nv = s.nv ∨ t.nv = { s.nv with slots := s.nv.slots.set n .bad }
  | .counters _ =>
    t.nv = s.nv ∨
      t.nv = if s.fmy.lastIsB then { s.nv with copyA := .bad } else { s.nv with copyB := .bad }
  | .image _ => t.nv = s.nv ∨ t.nv = { s.nv with image := .torn }

/-! ### Changes of the supply state, entries to RUN and the end of STARTUP -/

/-- R35, R36, R143: a running timer that a supply state stops keeps its elapsed time and counts on from it
afterwards. -/
def Timer.gated (stop : Bool) (now : Nat) : Timer → Timer
  | .stopped => .stopped
  | .running since => if stop then .paused (now - since).toNat else .running since
  | .paused e => if stop then .paused e else .running ((now : Int) - e)

/-- What the blocks do at a change of the supply state that a measurement brings about (R3, R35, R36, R78,
R143). -/
structure SupplyChange (s t : State) : Prop where
  /-- R3: at an entry to NORMAL, CLEARED for each code whose mark is set, LOW first (assumption 41). -/
  reports : t.fmy = if t.supply = .normal then
      ([(s.mctl.lowMark, FaultCode.supply .low), (s.mctl.highMark, .supply .high)].foldl
        (fun u q => if q.1 then u.reportCleared q.2 else u) s).fmy
    else s.fmy
  marks : t.mctl.lowMark = (s.mctl.lowMark && t.supply != .normal) ∧
    t.mctl.highMark = (s.mctl.highMark && t.supply != .normal)
  reportTimers : t.mctl.lowReport = (if t.supply = .low then .running t.now else .stopped) ∧
    t.mctl.highReport = (if t.supply = .high then .running t.now else .stopped)
  /-- R35, R36: the fault timers stand in CRANK and HIGH, and the end of CRANK restarts the debounce of every
  scanned line. -/
  line : ∀ n, t.line n = { s.line n with
    timer := (s.line n).timer.gated (t.supply == .crank || t.supply == .high) t.now,
    candidate := if s.supply = .crank ∧ (s.lineCfg n).fn.classified = true then none
      else (s.line n).candidate,
    count := if s.supply = .crank ∧ (s.lineCfg n).fn.classified = true then 0
      else (s.line n).count }
  summary : t.hlm.detail = s.hlm.detail ∧ t.hlm.summaryNo = s.hlm.summaryNo
  /-- R78: the entry to CRANK suspends every needle but one in phase WAITING, and the end takes the resume
  state up again. -/
  needle : ∀ k, t.needle k =
    if t.supply = .crank then
      (match (s.needle k).st with
        | .homingWaiting | .suspended => s.needle k
        | x => { s.needle k with st := .suspended, resume := some x, speed := 0 })
    else if s.supply = .crank ∧ (s.needle k).st = .suspended then
      (match (s.needle k).resume with
        | some x => { s.needle k with st := x, resume := none }
        | none => s.needle k)
    else s.needle k
  sweep : t.ndr.sweep = s.ndr.sweep
  /-- R143: the door timers stand in CRANK. -/
  door : ∀ d, t.door d = { s.door d with
    openTimer := (s.door d).openTimer.gated (t.supply == .crank) t.now,
    closeTimer := (s.door d).closeTimer.gated (t.supply == .crank) t.now,
    lockTimer := (s.door d).lockTimer.gated (t.supply == .crank) t.now,
    inconTimer := (s.door d).inconTimer.gated (t.supply == .crank) t.now }
  interlock : t.dmn.interlock = s.dmn.interlock ∧ t.dmn.delay = s.dmn.delay

/-- R71: the beginning of homing over Pmax + 64 microsteps, of a SUSPENDED needle in its resume state. -/
def Needle.homesOver (pmax : Nat) (n : Needle) : Needle :=
  { n with
    count := pmax + 64, pos := none, speed := 0, dir := .down,
    st := if n.st = .suspended then .suspended else .homingDriving,
    resume := if n.st = .suspended then some .homingDriving else n.resume }

/-- What NDR and PRU do at an ignition-on (R11, R71, R79, R123): a needle in phase WAITING, and one whose
channel homes at ignition and that is not homing already, begins to home; of the others a PARKED one is
TRACKING; and the lamp check starts unless its time is 0. -/
structure IgnitionOn (s t : State) : Prop where
  homes : ∀ k, (s.needle k).st = .homingWaiting ∨
      ((t.channelCfg k).homing = true ∧ (s.needle k).effective ≠ .homingDriving) →
    t.needle k = (s.needle k).homesOver (t.channelCfg k).pmax
  others : ∀ k, (s.needle k).st ≠ .homingWaiting →
    (t.channelCfg k).homing = false ∨ (s.needle k).effective = .homingDriving →
    t.needle k = if (s.needle k).effective = .parked then (s.needle k).become .tracking
      else s.needle k
  sweep : t.ndr.sweep = s.ndr.sweep
  lampCheck : t.pru.lampCheck =
    if t.tables.general.lampCheck = 0 then .stopped else .running t.now

/-- The codes that the blocks report CLEARED at the end of STARTUP, with the tables then in force (R33, R60,
R107, R127, R142, R150, R205). -/
def Tables.settles (w : Tables) : FaultCode → Bool
  | .line n _ => (w.lines[n]).fn == .off || (w.lines[n]).fn == .pulse || (w.lines[n]).suppressed
  | .gauge k .lost => (w.channels[k]).source != .host
  | .gauge k .pulseNoise => (w.channels[k]).source != .pulse
  | .lamp n _ => (w.lamps[n]).suppressed
  | .door d _ => !(w.doors[d]).configured
  | .rule m => !((w.rules[m]).enabled && (w.rules[m]).record)
  | .override | .hostSilent => true
  | .supply _ | .imageBad | .slotLost _ => false

/-- What the end of STARTUP reports and settles (R7, R9, R28, R33, R37, R44, R60, R107, R127, R142, R150,
R151, R205). -/
structure StartupSettles (s t : State) : Prop where
  /-- STORE/0/IMAGE_BAD is ACTIVE after a failed check and CLEARED after a passed one, and every settled code
  that has an ACTIVE entry becomes INACTIVE. -/
  table : (s.fmy.table.map (·.code)).Nodup →
    t.fmy.table = (s.report .imageBad s.mctl.loaded.isNone).fmy.table.map fun e =>
      if t.tables.settles e.code then { e with active := false } else e
  line : ∀ n, t.line n = { s.line n with
    measured := if (t.lineCfg n).fn.classified then (s.line n).measured else none,
    symptom := if t.tables.settles (.line n .openWire) then .nothing else (s.line n).symptom,
    comparator := if (t.lineCfg n).fn = .pulse then .fresh else .stopped }
  channel : ∀ k, t.channel k = { s.channel k with
    lostMark := (s.channel k).lostMark && !t.tables.settles (.gauge k .lost),
    noiseMark := (s.channel k).noiseMark && !t.tables.settles (.gauge k .pulseNoise) }
  unit : ∀ u, t.unit u =
    { base := .running t.now, tRef := none, tLast := none, edges := 0, glitches := 0 }
  rule : ∀ m, t.rule m = { s.rule m with
    mark := (s.rule m).mark && !t.tables.settles (.rule m) }
  lamp : ∀ n,
    (t.lamp n).openStatus = (if (t.lampCfg n).suppressed then .good else (s.lamp n).openStatus) ∧
    (t.lamp n).shortStatus = (if (t.lampCfg n).suppressed then .good else (s.lamp n).shortStatus)
  door : ∀ d, t.door d = { s.door d with
    marks := if (t.doorCfg d).configured then (s.door d).marks else [] }
  interlock : t.mode ≠ .unconfigured →
    t.dmn.interlock = if t.anyCondition then .held else .delay

/-! ### Line samples and passes -/

/-- A sample of `mv` on a classified line reads as a class (R23, R24), with VB measured. -/
def State.ReadsClass (s : State) (n : Fin 32) (mv : Nat) (k : LineClass) : Prop :=
  (s.lineCfg n).fn.classified = true ∧ ∃ vb, s.mctl.vb = some vb ∧ 0 < vb ∧
    k = (s.lineCfg n).classAt (if (s.lineCfg n).fn = .analogVolt then min mv 40000
      else min ((min mv 40000 * 10000 + vb / 2) / vb) 10000)

/-- R25: the debounce count that one more sample of a class brings. -/
def State.countWith (s : State) (n : Fin 32) (k : LineClass) : Nat :=
  if (s.line n).candidate = some k then min ((s.line n).count + 1) (s.lineCfg n).debounce else 1

/-- A sample of `mv` makes a line accept a class that it has not accepted yet (R25). -/
def State.AcceptsClass (s : State) (n : Fin 32) (mv : Nat) (k : LineClass) : Prop :=
  s.ReadsClass n mv k ∧ (s.lineCfg n).debounce ≤ s.countWith n k ∧ (s.line n).accepted ≠ some k

/-- A scan sample of a line is taken and changes its logical value to that of the class accepted (R20, R25,
R26, R35, R37, R38). -/
structure State.ChangesTo (s : State) (n : Fin 32) (mv : Nat) (v : Logical) : Prop where
  live : s.heldInReset = false
  scanned : s.mode ≠ .startup ∧ s.mode ≠ .sleep ∧ s.supply ≠ .crank
  accepts : ∃ k, s.AcceptsClass n mv k ∧ v = logicalOf (some k)
  changed : s.logical n ≠ v

/-- No configured door set names a line. -/
def State.NoDoorNames (s : State) (n : Fin 32) : Prop :=
  ∀ (d : Fin 4) (k : DoorSlot), (s.doorCfg d).configured = true → (s.doorCfg d).line k ≠ some n

/-- The roles that name a line are among those given. -/
def State.RolesAmong (s : State) (n : Fin 32) (l : List Role) : Prop :=
  ∀ r, s.tables.roles.of r = some n → r ∈ l

/-- What the turn of an enabled rule makes of it in an evaluation pass (R91 to R102, R105 to R107), from the
state before its turn to the state after it. -/
structure RuleTurn (m : Fin 64) (u w : State) : Prop where
  /-- R85, R87: each slot is evaluated, and value terms keep their term states current. -/
  slots :
    (w.rule m).res0 = ((u.evalSlot (u.rule m).hyst0 (u.ruleCfg m).slot0).1).getD .no ∧
    (w.rule m).res1 = ((u.evalSlot (u.rule m).hyst1 (u.ruleCfg m).slot1).1).getD .no ∧
    (w.rule m).res2 = ((u.evalSlot (u.rule m).hyst2 (u.ruleCfg m).slot2).1).getD .no ∧
    (w.rule m).hyst0 = (u.evalSlot (u.rule m).hyst0 (u.ruleCfg m).slot0).2 ∧
    (w.rule m).hyst1 = (u.evalSlot (u.rule m).hyst1 (u.ruleCfg m).slot1).2 ∧
    (w.rule m).hyst2 = (u.evalSlot (u.rule m).hyst2 (u.ruleCfg m).slot2).2
  raw : (w.rule m).raw = combine (u.ruleCfg m).combine
    (u.evalSlot (u.rule m).hyst0 (u.ruleCfg m).slot0).1
    (u.evalSlot (u.rule m).hyst1 (u.ruleCfg m).slot1).1
    (u.evalSlot (u.rule m).hyst2 (u.ruleCfg m).slot2).1
  qualHeld : (w.rule m).qualHeld = u.qualifierHolds (u.ruleCfg m).qualifier
  /-- R95 -/
  frozen : (w.rule m).frozen = (!(w.rule m).qualHeld && !(u.ruleCfg m).qualClear)
  /-- R92, R94, R95 -/
  cond : (w.rule m).cond =
    if (w.rule m).qualHeld then onInvalid (u.ruleCfg m).onInvalid (u.rule m).cond (w.rule m).raw
    else (!(u.ruleCfg m).qualClear && (u.rule m).cond)
  /-- R94, R95, R98 to R102 -/
  st : (w.rule m).st =
    if (w.rule m).qualHeld = false then
      (if (u.ruleCfg m).qualClear ∧ (u.rule m).st ≠ .latchedNew ∧ (u.rule m).st ≠ .latchedAck
        then .off else (u.rule m).st)
    else match (u.rule m).st, (w.rule m).cond with
      | .off, false => .off
      | .off, true => if (u.ruleCfg m).onset = 0 then .activeNew else .pending
      | .pending, false => .off
      | .pending, true =>
        if 10 * (u.ruleCfg m).onset ≤ (u.rule m).onset + 1 then .activeNew else .pending
      | .latchedNew, c => if c then .activeNew else .latchedNew
      | .latchedAck, c => if c then .activeAck else .latchedAck
      | x, c =>
        if c = false ∧ ((u.ruleCfg m).release = 0 ∨
            ∃ r, (u.rule m).release = some r ∧ 10 * (u.ruleCfg m).release ≤ r + 1) then
          (match x, (u.ruleCfg m).latch with
            | .activeNew, .unlatched => .off
            | .activeNew, _ => .latchedNew
            | _, .untilIgnition => .latchedAck
            | _, _ => .off)
        else if x = .activeAck ∧ 1 ≤ (u.ruleCfg m).reminder ∧
            100 * (u.ruleCfg m).reminder ≤ (u.rule m).reminder + 1 then .activeNew
        else x
  /-- R97, R98: the onset timer starts at 0 with PENDING, advances there, and is cleared where PENDING or
  a state that it belongs to no longer is left. -/
  onset : (w.rule m).onset =
    if (w.rule m).st ≠ (u.rule m).st ∧
        ((w.rule m).st = .off ∨ (w.rule m).st = .pending ∨
          (u.rule m).st = .off ∨ (u.rule m).st = .pending) then 0
    else if (w.rule m).qualHeld = true ∧ (u.rule m).st = .pending then (u.rule m).onset + 1
    else (u.rule m).onset
  /-- R97, R99: in the active states the release timer starts at 0 at the first pass with the condition
  FALSE, advances while it stays so, and is cleared when it is TRUE and when the states are left. -/
  release : (w.rule m).release =
    if (w.rule m).st = .off ∧ (u.rule m).st ≠ .off then none
    else if (w.rule m).qualHeld = true ∧
        ((u.rule m).st = .activeNew ∨ (u.rule m).st = .activeAck) then
      (if (w.rule m).cond = true ∨ (w.rule m).st = .latchedNew ∨ (w.rule m).st = .latchedAck
        then none
      else match (u.rule m).release with
        | none => some 0
        | some r => some (r + 1))
    else (u.rule m).release
  /-- R97, R101: the reminder timer starts at 0 with ACTIVE_ACK, advances there if the rule has a reminder,
  and is cleared by a reminder and when the active states are left. -/
  reminder : (w.rule m).reminder =
    if (w.rule m).st ≠ (u.rule m).st ∧
        ((w.rule m).st = .off ∨ (w.rule m).st = .activeAck ∨ (u.rule m).st = .activeAck ∨
          (u.rule m).st = .activeNew) then 0
    else if (w.rule m).qualHeld = true ∧ (u.rule m).st = .activeAck ∧ 1 ≤ (u.ruleCfg m).reminder
      then (u.rule m).reminder + 1
    else (u.rule m).reminder
  /-- R105: an activation takes the next sequence, which the rule keeps until it is OFF. -/
  seq : (w.rule m).seq =
    if (w.rule m).st = .off ∧ (u.rule m).st ≠ .off then none
    else if (w.rule m).st = .activeNew ∧ ((u.rule m).st = .off ∨ (u.rule m).st = .pending)
      then some w.wev.seq else (u.rule m).seq
  counter : w.wev.seq =
    if (w.rule m).st = .activeNew ∧ ((u.rule m).st = .off ∨ (u.rule m).st = .pending)
      then min (u.wev.seq + 1) counterMax else u.wev.seq
  /-- R107: the fault report of an activation, and of a rule that is OFF at the end of its step with its mark
  set. -/
  report : w.fmy =
    (if (w.rule m).st = .activeNew ∧ ((u.rule m).st = .off ∨ (u.rule m).st = .pending) ∧
        (u.ruleCfg m).record = true then (u.reportActive (.rule m)).fmy
     else if (w.rule m).st = .off ∧ (w.rule m).frozen = false ∧ (u.rule m).mark = true
      then (u.reportCleared (.rule m)).fmy else u.fmy)
  mark : (w.rule m).mark =
    if (w.rule m).st = .activeNew ∧ ((u.rule m).st = .off ∨ (u.rule m).st = .pending) ∧
        (u.ruleCfg m).record = true then true
    else if (w.rule m).st = .off ∧ (w.rule m).frozen = false then false else (u.rule m).mark
  /-- R106 -/
  warn : w.lif.attention.warn =
    (u.lif.attention.warn || decide ((w.rule m).st ≠ (u.rule m).st))
  others : ∀ j, j ≠ m → w.rule j = u.rule j
  only : OnlyChanges [.wev, .pru, .fmy, .cursor, .attention] u w

/-! ### The laws -/

/-- R147, R148: a release output is energised exactly with a grant, with the speed not above the withdraw
speed, outside EMERGENCY, and in RUN or WORKSHOP; and a grant is held under these three conditions only, since
an event that ends one withdraws it. -/
structure ReleaseLaw (s : State) : Prop where
  output : ∀ d, (s.door d).output = true ↔
    (s.door d).grant = true ∧ s.aboveWithdraw = false ∧ (s.door d).st ≠ .emergency ∧
      s.mode.isRunning = true
  grant : ∀ d, (s.door d).grant = true →
    s.aboveWithdraw = false ∧ (s.door d).st ≠ .emergency ∧ s.mode.isRunning = true

/-- The modes in which the interlock is FORCED (R151). -/
def Mode.forcesInterlock : Mode → Bool
  | .startup | .unconfigured | .setup | .sleep => true
  | .standby | .run | .workshop => false

/-- R149 to R151: FORCED in the modes that force it and in no other, a condition in HELD and none in DELAY and
FREE, OVERRIDDEN outside FORCED exactly while the OVERRIDE line is ACTIVE, and the release delay running
exactly in DELAY. -/
structure InterlockLaw (s : State) : Prop where
  forced : s.mode.forcesInterlock = true ↔ s.dmn.interlock = .forced
  held : s.dmn.interlock = .held → s.anyCondition = true
  clear : s.dmn.interlock = .delay ∨ s.dmn.interlock = .free → s.anyCondition = false
  override : s.dmn.interlock = .overridden ↔ s.overrideActive = true ∧ s.dmn.interlock ≠ .forced
  timer : s.dmn.delay.isRunning = true ↔ s.dmn.interlock = .delay

/-- R195, R196: at most two frames, a reply only for a frame in the queue, the error count in its
range. -/
structure LinkLaw (s : State) : Prop where
  places : s.lif.queue.length ≤ 2
  answers : s.lif.tx.isSome = true → s.lif.queue ≠ []
  errors : s.lif.errors ≤ 65535

/-- The tables pass the field checks of R213 and the cross-table checks of R214. -/
def Tables.Sound (t : Tables) : Prop :=
  (∀ a i, namesRecord a i = true → t.recordOk a i = true) ∧ t.crossOk = true

/-- R7, R212 to R215: the tables in force, and those of an image that passed its check, always pass the field
checks and the cross-table checks; so do the records of the written copy their field checks, but for a test
against PULSE lines (of a role, a rule's L slot or a door set), which a later line record can make fail
until the cross-table checks of the exit look again. -/
structure TablesLaw (s : State) : Prop where
  inForce : s.tables.Sound
  loaded : ∀ t, s.mctl.loaded = some t → t.Sound
  written : ∀ w, s.written = some w → ∀ a i, namesRecord a i = true →
    (if a = 2 ∨ a = 6 ∨ a = 8 then { w with lines := .replicate 32 {} } else w).recordOk a i = true

/-- The aging limit that FMY goes by: that of the image from the load to the end of STARTUP (R162, R170), then
that of the tables in force. -/
def State.agingLimit (s : State) : Nat :=
  (if s.mode = .startup then s.mctl.loaded.getD {} else s.tables).general.agingLimit

/-- An item for a slot is on the pending-write list, or its write is in flight. -/
def Fmy.awaits (m : Fmy) (n : Fin 48) : Prop := n ∈ m.writes ∨ m.write.slotNo = some n

/-- What the slot of an entry, or a slot that no entry owns, holds when the store is in step with the table. -/
def Fmy.Mirrors (m : Fmy) (n : Fin 48) (c : SlotContent) : Prop :=
  (∀ e ∈ m.table, e.slot = n → ∃ f, c = .entry f ∧ e = { f with slot := n }) ∧
    ((∀ e ∈ m.table, e.slot ≠ n) → c = .empty)

/-- R156, R158, R164, R165, R170, R173, R186: at most 48 entries, one for a code and one for a slot, in the
order of R156 (equal numbers out of slot order only at 4 294 967 295, assumption 25), none above the creation
counter, with occurrences of 1 to 255 and aging below the limit; at most one item for a slot on the
pending-write list, none for the slot being written; after the start-up load every slot in step with the
table, or listed, or in flight, and a write in flight that is not marked for re-append with the contents that
are due; the readout cursor within the table; the service counters, in working memory, in the store and on
their way there, within their range; and until the start-up load completes an empty table and no write. -/
structure FaultLaw (s : State) : Prop where
  room : s.fmy.table.length ≤ 48
  codes : (s.fmy.table.map (·.code)).Nodup
  slots : (s.fmy.table.map (·.slot)).Nodup
  order : s.fmy.table.Pairwise fun a b => a.created < b.created ∨
    (a.created = b.created ∧ (a.slot < b.slot ∨ a.created = counterMax))
  created : s.fmy.created ≤ counterMax ∧
    ∀ e ∈ s.fmy.table, 1 ≤ e.created ∧ e.created ≤ s.fmy.created
  ranges : ∀ e ∈ s.fmy.table, 1 ≤ e.occurrences ∧ e.occurrences ≤ 255 ∧ e.aging < s.agingLimit
  items : s.fmy.writes.Nodup
  flight : ∀ n, s.fmy.write.slotNo = some n → n ∉ s.fmy.writes
  mirror : s.fmy.loading = false → ∀ n, s.fmy.Mirrors n s.nv.slots[n] ∨ s.fmy.awaits n
  taken : ∀ n c stale, s.fmy.write = .slot n c stale → s.fmy.reappend = false → s.fmy.Mirrors n c
  cursor : s.wsv.cursor ≤ s.fmy.table.length
  counters : ∀ c, s.counter c ≤ counterMax
  saved : ∀ v : Vector Nat 12, s.fmy.write = .counters v ∨ (∃ no, s.nv.copyA = .good v no) ∨
    (∃ no, s.nv.copyB = .good v no) → ∀ c : Fin 12, v[c] ≤ counterMax
  load : s.fmy.loading = true → s.fmy.table = [] ∧ s.fmy.write = .idle

/-- R64, R65, R68, R69, R183: an established position, both targets and a forced position within the scale, the
speed within smax; a forced position in WORKSHOP only; and in STARTUP, before the tables are taken, no
position, speed or target. -/
structure NeedleLaw (s : State) : Prop where
  position : ∀ k p, (s.needle k).pos = some p → p ≤ (s.channelCfg k).pmax
  speed : ∀ k, (s.needle k).speed ≤ (s.channelCfg k).smax
  targets : ∀ k, (s.needle k).latest ≤ (s.channelCfg k).pmax ∧
    (s.needle k).published ≤ (s.channelCfg k).pmax
  forced : ∀ (k : Fin 6) p, s.wsv.needles[k] = some p →
    s.mode = .workshop ∧ p ≤ (s.channelCfg k).pmax
  startup : s.mode = .startup → ∀ k, (s.needle k).pos = none ∧ (s.needle k).speed = 0 ∧
    (s.needle k).latest = 0 ∧ (s.needle k).published = 0

/-- R112 to R116: at most 16 entries, no rule twice, each of a popup rule in ACTIVE_NEW or LATCHED_NEW with
that rule's priority and sequence, in the order of R112; a waiting rule only while the list is full, and
ranked below every entry; the published copy equal to the list outside a hold; and no rule in a state
but OFF during STARTUP (R8), when the tables that the ranks come from are still to change. -/
structure ListLaw (s : State) : Prop where
  places : s.pru.list.length ≤ 16
  once : (s.pru.list.map (·.rule)).Nodup
  entries : ∀ e ∈ s.pru.list, (s.ruleCfg e.rule).popup = true ∧
    ((s.rule e.rule).st = .activeNew ∨ (s.rule e.rule).st = .latchedNew) ∧
    e.priority = (s.ruleCfg e.rule).priority ∧ e.seq = ((s.rule e.rule).seq).getD 0 ∧
    e.latched = ((s.rule e.rule).st == .latchedNew)
  ranked : s.pru.list.Pairwise fun a b => b.priority < a.priority ∨ (a.priority = b.priority ∧
    (a.seq < b.seq ∨ (a.seq = b.seq ∧ a.rule < b.rule)))
  waiting : ∀ m, (s.ruleCfg m).popup = true →
    (s.rule m).st = .activeNew ∨ (s.rule m).st = .latchedNew → m ∉ s.pru.list.map (·.rule) →
    s.pru.list.length = 16 ∧ ∀ e ∈ s.pru.list, e.ranksAbove (s.entryOf m) = true
  shown : s.lif.hold = false → s.pru.shown = s.pru.list
  startup : s.mode = .startup → ∀ m, (s.rule m).st = .off

/-- R121: the rules whose demand a lamp's level takes: those that name it, and those that name a failed lamp
which falls back to it (one level deep). -/
def State.CallsFor (s : State) (n : Fin 24) (m : Fin 64) : Prop :=
  (s.ruleCfg m).lamp = some n ∨
    ∃ i : Fin 24, (s.ruleCfg m).lamp = some i ∧ (s.lampCfg i).fallback = some n ∧
      ((s.lamp i).openStatus = .confirmed ∨ (s.lamp i).shortStatus = .confirmed)

/-- A level is the highest of the demands of some rules, OFF where there is none. -/
def State.Highest (s : State) (x : Level) (pick : Fin 64 → Prop) : Prop :=
  (∀ m, pick m → (s.demand m).code ≤ x.code) ∧ (x = .off ∨ ∃ m, pick m ∧ s.demand m = x)

/-- R121, R124, R179: the published telltale levels by mode, lamp check and forcing, except under a freeze. -/
structure TelltaleLaw (s : State) : Prop where
  dark : s.mode = .startup ∨ s.mode = .setup ∨ s.mode = .standby ∨ s.mode = .sleep →
    ∀ n, (s.lamp n).published = .off
  unconfigured : s.mode = .unconfigured → ∀ n, (s.lamp n).published =
    if n = 0 ∧ s.mctl.ign = .active then .flashSlow else .off
  check : s.mode.isRunning = true → s.lif.hold = false → s.supply ≠ .crank →
    s.pru.lampCheck.isRunning = true → ∀ n, (s.lampCfg n).participates = true →
    (s.lamp n).published = .on
  forced : s.mode.isRunning = true → s.lif.hold = false → s.supply ≠ .crank →
    ∀ n r, s.pru.lampCheck.isRunning = false ∨ (s.lampCfg n).participates = false →
    s.wsv.lamps[n] = some r →
    ∃ x, s.Highest x (fun m => (s.ruleCfg m).lamp = some n ∧ 12 ≤ (s.ruleCfg m).priority) ∧
      (s.lamp n).published = if r.level.code < x.code then x else r.level
  level : s.mode.isRunning = true → s.lif.hold = false → s.supply ≠ .crank →
    ∀ n, s.pru.lampCheck.isRunning = false ∨ (s.lampCfg n).participates = false →
    s.wsv.lamps[n] = none → s.Highest (s.lamp n).published (s.CallsFor n)

/-- R128: a chime candidate. -/
def State.ChimeCandidate (s : State) (m : Fin 64) : Prop :=
  ((s.rule m).st = .activeNew ∨ (s.rule m).st = .latchedNew) ∧
    ∃ p, (s.ruleCfg m).chime = some p ∧ (p = .single → s.pru.singleMarks[m] = false)

/-- R128, R130, R182: the chime's winner is the candidate that ranks first by R112, unless the chime is
silenced; without a pattern the sounder is off. -/
structure ChimeLaw (s : State) : Prop where
  winner : ∀ m, s.pru.winner = some m → s.mode.isRunning = true ∧
    s.pru.lampCheck.isRunning = false ∧ s.wsv.chime = none ∧ s.ChimeCandidate m ∧
    ∀ j, j ≠ m → s.ChimeCandidate j → (s.entryOf m).ranksAbove (s.entryOf j) = true
  noWinner : s.pru.winner = none → s.mode.isRunning = false ∨ s.pru.lampCheck.isRunning = true ∨
    s.wsv.chime.isSome = true ∨ ∀ m, ¬ s.ChimeCandidate m
  silent : s.pru.winner = none → s.wsv.chime = none → s.pru.tone = false

end Sys2Proof.Machine
end

