-- ==== Sys2Proof/Certificates/Slice0/Obligations.lean ====
section
/-! DEFINITION. The statements for the provers. Each is about the machine, for every state that meets its
hypotheses; a hypothesis `heldInReset = false` says that the part runs (R16). Where a statement rests
on a choice of the model, its docstring names the log entry. -/

open Sys2Proof Sys2Proof.Machine

/-! ### The queue of commands and time -/

/-- A step takes the command at the front of the queue and runs it with the rest of the queue. -/
def Obligations.StepRunsFrontCommand : Prop :=
  ∀ (c : Instr) (rest : List Instr) (s : State), s.pending = c :: rest →
    step s = exec c { s with pending := rest }

/-- Every command is answered with a next state, which leaves the queue alone and never goes back in
time: the manual names no state in which the part stops. On an empty queue 1 µs passes and nothing else
changes, which is the model's choice (assumption 2). -/
def Obligations.EveryStepAnswersNext : Prop :=
  (∀ (c : Instr) (s : State), ∃ t, exec c s = .next t ∧ t.pending = s.pending ∧ s.now ≤ t.now) ∧
  (∀ s : State, s.pending = [] → ∃ t, step s = .next t ∧ t.now = s.now + 1 ∧ OnlyChanges [.now] s t)

/-! ### Resets and the start-up -/

/-- R16 to R18, R171 and the reset tables of the chapters. While nRST stays low or VB below 6 000 mV the part
is held in reset: only a further reset, the end of what holds it and the level of the HOLD line (which is
the host's) are left, and STARTUP begins when nothing holds it any more, with the first VB measurement
2 ms later (R1; the moment is the model's, assumption 2). What the five resets leave, whatever the state
before: a power-on, brown-out, external or break reset may tear the write in flight (whether it does is
free, assumption 4); a restart keeps the store, and waits while an item is listed, a store is requested
or a save is due (assumption 18). The chosen reset values (assumption 7) stand in `AfterReset` too. That
POWER_ON_RESET ends a brown-out and that a level which holds the part keeps holding it where two overlap
(the clauses on the pins, and the cause of the later reset) is the model's choice (assumption 11), and so is
that BREAK_RELEASE without a latched break only ends the period in which the line is low (assumption 56). -/
def Obligations.ResetsLeaveTheResetState : Prop :=
  ((∀ (c : Instr) (s : State), s.heldInReset = true →
      (c ≠ .powerOnReset → c ≠ .brownOut → c ≠ .externalReset → c ≠ .nrstRelease → c ≠ .brownOutEnd →
        (∀ a, c ≠ .holdLineChange a) → exec c s = .next s) ∧
      ∀ a, ∃ t, exec (.holdLineChange a) s = .next t ∧ t.pins.holdAsserted = a ∧
        OnlyChanges [.pins] s t) ∧
    ((∀ s : State, s.pins.nrstLow = true → ∃ t, exec .nrstRelease s = .next t ∧
      t.pins = { s.pins with nrstLow := false } ∧
      (s.pins.brownOut = false → t.heldInReset = false ∧ t.sched.vb = s.now + 2000) ∧
      OnlyChanges [.pins, .sched] s t) ∧
    (∀ s : State, s.pins.brownOut = true → ∃ t, exec .brownOutEnd s = .next t ∧
      t.pins = { s.pins with brownOut := false } ∧
      (s.pins.nrstLow = false → t.heldInReset = false ∧ t.sched.vb = s.now + 2000) ∧
      OnlyChanges [.pins, .sched] s t))) ∧
  ((∀ s : State, ∃ t, exec .powerOnReset s = .next t ∧ AfterReset .powerOn s t ∧ CutOff s t ∧
    t.pins = { s.pins with brownOut := false }) ∧
  (∀ s : State, s.pins.brownOut = false → ∃ t, exec .brownOut s = .next t ∧
    AfterReset .brownOut s t ∧ CutOff s t ∧ t.pins = { s.pins with brownOut := true }) ∧
  (∀ s : State, s.pins.nrstLow = false → ∃ t, exec .externalReset s = .next t ∧
    AfterReset .pin s t ∧ CutOff s t ∧ t.pins = { s.pins with nrstLow := true }) ∧
  (∀ s : State, s.heldInReset = false → s.lif.breakLatched = true → ∃ t,
    exec .breakRelease s = .next t ∧ AfterReset .linkBreak s t ∧ CutOff s t ∧ t.pins = s.pins) ∧
  (∀ s : State, s.heldInReset = false → s.lif.breakLatched = false →
    exec .breakRelease s = .next { s with lif := { s.lif with lowTimer := .stopped } }) ∧
  (∀ s : State, s.heldInReset = false → s.mctl.restart = .ready → s.lif.tx = none →
    s.fmy.write = .idle → s.fmy.writes = [] → s.fmy.storeRequested = false →
    s.fmy.counterDue = false → ∃ t, exec .restartTakesEffect s = .next t ∧
      AfterReset .restart s t ∧ t.nv = s.nv ∧ t.pins = s.pins) ∧
  (∀ s : State, s.mctl.restart ≠ .ready ∨ s.lif.tx ≠ none ∨ s.fmy.write ≠ .idle ∨
      s.fmy.writes ≠ [] ∨ s.fmy.storeRequested = true ∨ s.fmy.counterDue = true →
    exec .restartTakesEffect s = .next s))

/-- R7, R162, R169, R170, R174: the start-up load completes. The tables of an image that passes its check
wait for the end of STARTUP. The slots become the fault table: each slot whose contents are in range
gives its entry, of two entries of one code the one of higher creation number (then of lower slot) is
kept, in the order of creation, and the creation counter is the highest number loaded; every other slot
that held something is listed for erasure. Then, in this order, the entries at or above the aging limit
are removed, SLOT_LOST is reported for each slot dropped and for a counter block without a good copy, and
the reports held during the load are applied as they arrived. The counters are those of the copy taken:
of two good copies the one whose save number is one above the other's modulo 2^32, otherwise the higher;
of one good copy that one; of none zeros. The ranges of a snapshot and the order of the SLOT_LOST reports
are the model's (assumptions 40 and 48), and so is the order of the erasures (assumptions 48 and 53). -/
def Obligations.StartupLoadTakesTheStore : Prop :=
  (∀ s : State, s.heldInReset = false → s.mode = .startup → s.fmy.loading = true →
    ∃ t u limit, exec .startupLoadComplete s = .next t ∧
      limit = ((tablesOfImage s.nv.image).getD {}).general.agingLimit ∧
      u.fmy.table = (s.fmy.buildTable s.nv).table.filter (fun e => e.aging < limit) ∧
      u.fmy.created = (s.fmy.buildTable s.nv).created ∧
      (s.fmy.write = .idle → u.fmy.writes = (s.fmy.buildTable s.nv).writes ++
        ((s.fmy.buildTable s.nv).table.filter fun e => limit ≤ e.aging).map (·.slot)) ∧
      u.fmy.loading = false ∧ u.fmy.held = [] ∧
      t = s.fmy.held.foldl (fun x q => x.handleReport q.1 q.2.1 q.2.2)
        ((lostNumbers s.nv).foldl (fun x n => x.handleReport (.slotLost n)
          ((FaultCode.slotLost n).priority s.tables) true) u) ∧
      t.fmy.loading = false ∧ t.fmy.held = [] ∧
      t.mctl = { s.mctl with loaded := tablesOfImage s.nv.image,
                             imageFailed := (tablesOfImage s.nv.image).isNone } ∧
      (∀ b c n, chooseCopy s.nv.copyA s.nv.copyB = some (b, c, n) →
        t.fmy.counters = c ∧ t.fmy.saveNo = n ∧ t.fmy.lastIsB = b) ∧
      (chooseCopy s.nv.copyA s.nv.copyB = none →
        t.fmy.counters = .replicate 12 0 ∧ t.fmy.saveNo = 0 ∧ t.fmy.lastIsB = true ∧
          t.fmy.counterDue = true) ∧
      OnlyChanges [.mctl, .fmy, .cursor, .attention] s u ∧
      OnlyChanges [.mctl, .fmy, .cursor, .attention] s t) ∧
  ((∀ (nv : Nv) (m : Fmy),
    (∀ e, e ∈ (m.buildTable nv).table ↔
      (∃ f, nv.slots[e.slot] = .entry f ∧ f.inRange = true ∧ e = { f with slot := e.slot }) ∧
      ∀ (n : Fin 48) (f : FaultEntry), nv.slots[n] = .entry f → f.inRange = true →
        f.code = e.code → f.created < e.created ∨ (f.created = e.created ∧ e.slot ≤ n)) ∧
    ((m.buildTable nv).table.Pairwise fun a b =>
      a.created < b.created ∨ (a.created = b.created ∧ a.slot < b.slot)) ∧
    ((m.buildTable nv).table.map (·.code)).Nodup ∧
    (∀ e ∈ (m.buildTable nv).table, e.created ≤ (m.buildTable nv).created) ∧
    ((m.buildTable nv).created = 0 ∨
      ∃ e ∈ (m.buildTable nv).table, e.created = (m.buildTable nv).created) ∧
    (m.buildTable nv).writes.Nodup ∧
    (∀ n : Fin 48, n ∈ (m.buildTable nv).writes ↔
      nv.slots[n] ≠ .empty ∧ ∀ e ∈ (m.buildTable nv).table, e.slot ≠ n) ∧
    ∀ n : Fin 49, n ∈ lostNumbers nv ↔
      (∃ k : Fin 48, n.val = k.val ∧ (nv.slots[k] = .bad ∨
        ∃ f, nv.slots[k] = .entry f ∧ f.inRange = false)) ∨
      (n = 48 ∧ nv.copyA = .bad ∧ nv.copyB = .bad)) ∧
  (∀ e : FaultEntry, e.inRange = true ↔
    e.priority ≤ 15 ∧ 1 ≤ e.occurrences ∧ e.occurrences ≤ 255 ∧ e.aging < 100 ∧
    e.first.minutes ≤ 4294967295 ∧ e.first.cycles ≤ 4294967295 ∧
    e.last.minutes ≤ 4294967295 ∧ e.last.cycles ≤ 4294967295 ∧
    1 ≤ e.created ∧ e.created ≤ 4294967295 ∧
    e.snapshot.isSome = e.code.sourceClass.hasSnapshot ∧
    ∀ x, e.snapshot = some x → x.vb < 65536 ∧
      (∀ v, x.speed = some v → -32768 ≤ v ∧ v ≤ 32767) ∧ x.values.length ≤ 6 ∧
      (x.values.Pairwise fun a b => a.1 < b.1) ∧
      ∀ q ∈ x.values, -32768 ≤ q.2 ∧ q.2 ≤ 32767) ∧
  (∀ (a b : Vector Nat 12) (n m : BitVec 32), n = m + 1 →
    chooseCopy (.good a n) (.good b m) = some (false, a, n)) ∧
  (∀ (a b : Vector Nat 12) (n m : BitVec 32), m = n + 1 →
    chooseCopy (.good a n) (.good b m) = some (true, b, m)) ∧
  (∀ (a b : Vector Nat 12) (n m : BitVec 32), n ≠ m + 1 → m ≠ n + 1 → m < n →
    chooseCopy (.good a n) (.good b m) = some (false, a, n)) ∧
  (∀ (a b : Vector Nat 12) (n m : BitVec 32), n ≠ m + 1 → m ≠ n + 1 → n < m →
    chooseCopy (.good a n) (.good b m) = some (true, b, m)) ∧
  (∀ (a : Vector Nat 12) (n : BitVec 32), chooseCopy (.good a n) .bad = some (false, a, n)) ∧
  (∀ (b : Vector Nat 12) (m : BitVec 32), chooseCopy .bad (.good b m) = some (true, b, m)) ∧
  chooseCopy .bad .bad = none)

/-- R7: STARTUP ends with the tables of the image or the defaults, in the mode of the three-row table; an
entry to RUN is an ignition-on, which homes needles and starts the lamp check (R71, R79, R123; what a needle
does in CRANK is the model's reading, assumptions 22, 29 and 44); UNCONFIGURED homes every needle, STANDBY
none; a hold begins if HOLD is asserted (R207), in UNCONFIGURED too (assumption 21). With every rule OFF and no class accepted, as STARTUP leaves them
(R8, R37), the blocks settle what they cannot hold ACTIVE (R33, R60, R107, R127, R142, R150, R205) and
STORE/0/IMAGE_BAD is reported ACTIVE or CLEARED (R7, R9; that it is reported here and not at the load is
the model's reading, assumption 19). -/
def Obligations.StartupEndsByImageAndIgnition : Prop :=
  ∀ s : State, s.heldInReset = false → s.mode = .startup → s.fmy.loading = false →
    s.mctl.ign ≠ .unknown →
    ∃ t, exec .startupEnd s = .next t ∧ t.tables = s.mctl.loaded.getD {} ∧
      t.mode = (if s.mctl.loaded = none then .unconfigured
                else if s.mctl.ign = .active then .run else .standby) ∧
      t.lif.attention.mode = true ∧ t.lif.linkMark = false ∧
      t.lif.hold = (s.lif.hold || s.pins.holdAsserted) ∧
      (t.mode = .run → t.mctl.cycle = true ∧
        t.counter ignitionPlace = min (s.counter ignitionPlace + 1) counterMax) ∧
      (t.mode ≠ .run → t.counter ignitionPlace = s.counter ignitionPlace) ∧
      (t.mode = .run → IgnitionOn s t) ∧
      (t.mode ≠ .run → t.ndr.sweep = s.ndr.sweep ∧ t.pru.lampCheck = s.pru.lampCheck ∧
        ∀ k, t.needle k = if t.mode = .unconfigured
          then (s.needle k).homesOver (t.channelCfg k).pmax else s.needle k) ∧
      ((∀ m, (s.rule m).st = .off) → (∀ n, (s.line n).accepted = none) → StartupSettles s t) ∧
      OnlyChanges [.sched, .mctl, .hlm, .gve, .ndr, .wev, .pru, .dmn, .fmy, .cursor, .attention, .link,
        .tables] s t

/-! ### Supply and ignition -/

/-- R1, R2: the first VB measurement after a reset sets the supply state directly; from the second one on it
follows the table, at most one transition per measurement, with the two continuity timers; no measurement
in SLEEP. A change of the state (`SupplyChange`) clears the supply marks with their CLEARED reports at an
entry to NORMAL and starts the report timer of the new state (R3), pauses and resumes the fault timers,
restarts the debounces (R35, R36), suspends and resumes the needles (R78) and the door timers (R143). A
measurement falls at the moment that `sched.vb` names, which is the model's (assumption 2), and so is the
order of the two CLEARED reports (assumption 41). -/
def Obligations.SupplyFollowsItsTable : Prop :=
  (∀ (s : State) (mv : Nat) (ign : Bool), s.heldInReset = false → s.mode ≠ .sleep →
      s.mctl.vb = none →
      ∃ t, exec (.vbMeasurement mv ign) s = .next t ∧ t.mctl.vb = some mv ∧
        t.now = max s.now s.sched.vb ∧ t.sched.vb = t.now + 2000 ∧
        t.supply = (if mv < 15000 then .crank else if mv < 18000 then .low else .normal) ∧
        t.mctl.highTimer = (if 32500 < mv then .running t.now else .stopped) ∧
        t.mctl.lowReport = (if t.supply = .low then .running t.now else .stopped) ∧
        t.lif.attention.supply = (s.lif.attention.supply || decide (t.supply ≠ s.supply)) ∧
        t.mctl = { s.mctl with
          vb := some mv, supply := t.supply, highTimer := t.mctl.highTimer,
          lowReport := t.mctl.lowReport, highReport := t.mctl.highReport, lowMark := t.mctl.lowMark,
          highMark := t.mctl.highMark, ignTimer := t.mctl.ignTimer } ∧
        (t.supply = s.supply → t.mctl.highReport = s.mctl.highReport ∧
          t.mctl.lowMark = s.mctl.lowMark ∧ t.mctl.highMark = s.mctl.highMark ∧
          OnlyChanges [.now, .sched, .mctl] s t) ∧
        (t.supply ≠ s.supply → SupplyChange s t) ∧
        OnlyChanges [.now, .sched, .mctl, .hlm, .ndr, .pru, .dmn, .fmy, .cursor, .attention] s t) ∧
  (∀ (s : State) (mv v : Nat) (ign : Bool), s.heldInReset = false → s.mode ≠ .sleep →
    s.mctl.vb = some v →
    ∃ t, exec (.vbMeasurement mv ign) s = .next t ∧ t.mctl.vb = some mv ∧
      t.now = max s.now s.sched.vb ∧ t.sched.vb = t.now + 2000 ∧
      t.supply =
        (match s.supply with
         | .normal =>
           if mv < 15000 then .crank else if mv < 17500 then .low
           else if 32500 < mv ∧ 10000 ≤ s.mctl.highTimer.elapsed t.now then .high else .normal
         | .low => if mv < 15000 then .crank else if 18000 ≤ mv then .normal else .low
         | .high => if mv < 15000 then .crank else if mv ≤ 31500 then .normal else .high
         | .crank =>
           if 16000 ≤ mv ∧ 100000 ≤ s.mctl.recoveryTimer.elapsed t.now then .low else .crank) ∧
      t.mctl.highTimer =
        (if s.supply = .normal ∧ t.supply = .normal ∧ 32500 < mv then
           (if s.mctl.highTimer = .stopped then .running t.now else s.mctl.highTimer)
         else .stopped) ∧
      t.mctl.recoveryTimer =
        (if s.supply = .crank ∧ t.supply = .crank ∧ 16000 ≤ mv then
           (if s.mctl.recoveryTimer = .stopped then .running t.now else s.mctl.recoveryTimer)
         else .stopped) ∧
      t.lif.attention.supply = (s.lif.attention.supply || decide (t.supply ≠ s.supply)) ∧
      t.mctl = { s.mctl with
        vb := some mv, supply := t.supply, highTimer := t.mctl.highTimer,
        recoveryTimer := t.mctl.recoveryTimer, lowReport := t.mctl.lowReport,
        highReport := t.mctl.highReport, lowMark := t.mctl.lowMark, highMark := t.mctl.highMark,
        ignTimer := t.mctl.ignTimer } ∧
      (t.supply = s.supply → t.mctl.lowReport = s.mctl.lowReport ∧
        t.mctl.highReport = s.mctl.highReport ∧ t.mctl.lowMark = s.mctl.lowMark ∧
        t.mctl.highMark = s.mctl.highMark ∧ OnlyChanges [.now, .sched, .mctl] s t) ∧
      (t.supply ≠ s.supply → SupplyChange s t) ∧
      OnlyChanges [.now, .sched, .mctl, .hlm, .ndr, .pru, .dmn, .fmy, .cursor, .attention] s t) ∧
  ∀ (s : State) (mv : Nat) (ign : Bool), s.mode = .sleep → exec (.vbMeasurement mv ign) s = .next s

/-- R3, R11: the report timers of LOW (10 s) and HIGH (1 s) report the supply faults and set their
marks; each full minute of an ignition cycle adds one to the operating-minutes counter, and the timer
goes on from that minute. The moments are the model's (assumption 2). -/
def Obligations.SupplyReportsAndMinutesFallDue : Prop :=
  ((∀ (s : State) (since : Int), s.heldInReset = false → s.mctl.lowReport = .running since →
    ∃ t, exec .supplyLowReportExpiry s = .next t ∧ t.now = max s.now (since + 10000000).toNat ∧
      t.mctl = { s.mctl with lowMark := true, lowReport := .stopped } ∧
      t.fmy = (s.reportActive (.supply .low)).fmy ∧
      OnlyChanges [.now, .mctl, .fmy, .cursor, .attention] s t) ∧
  (∀ (s : State) (since : Int), s.heldInReset = false → s.mctl.highReport = .running since →
    ∃ t, exec .supplyHighReportExpiry s = .next t ∧ t.now = max s.now (since + 1000000).toNat ∧
      t.mctl = { s.mctl with highMark := true, highReport := .stopped } ∧
      t.fmy = (s.reportActive (.supply .high)).fmy ∧
      OnlyChanges [.now, .mctl, .fmy, .cursor, .attention] s t)) ∧
  (∀ (s : State) (since : Int), s.heldInReset = false → s.mctl.minute = .running since →
    ∃ t, exec .operatingMinuteElapsed s = .next t ∧
      t.now = max s.now (since + 60000000).toNat ∧
      t.mctl = { s.mctl with minute := .running (since + 60000000) } ∧
      t.counter minutePlace = min (s.counter minutePlace + 1) counterMax ∧
      (∀ c, c ≠ minutePlace → t.counter c = s.counter c) ∧
      t.fmy = { s.fmy with counters := t.fmy.counters } ∧ OnlyChanges [.now, .mctl, .fmy] s t)

/-- R5, R10, R11, R103, R161: an IGN sample runs or clears the debounce timer of its level; a level held for
20 ms is accepted, and moves the part between STANDBY and the ignition-on modes with what ignition-on and
ignition-off do to the counters, grants and forcing. Ignition-on ends every LATCHED_ACK rule and touches
no other, homes needles (R71, R79) and starts the lamp check (R123); that a needle in phase WAITING homes even
in CRANK, that a SUSPENDED one loses its position at once and that a suspended homing goes on are the
model's readings (assumptions 22, 29 and 44). Ignition-off ages the INACTIVE entries by one, removes those that reach the aging limit and makes
an ACTIVE SLOT_LOST entry INACTIVE with aging 0. The moment of the acceptance is the model's
(assumption 2). -/
def Obligations.AcceptedIgnitionMovesTheMode : Prop :=
  (∀ (s : State) (mv : Nat) (ign : Bool), s.heldInReset = false → s.mode ≠ .sleep →
    ∃ t, exec (.vbMeasurement mv ign) s = .next t ∧
      (s.supply = .crank ∨ t.supply ≠ .crank → t.mctl.ignTimer =
        if s.mctl.ign = (if ign then .active else .inactive) ∨ (ign = false ∧ s.supply = .crank)
        then none
        else match s.mctl.ignTimer with
          | some (level, x) => some (if level = ign then (level, x) else (ign, .running (t.now : Int)))
          | none => some (ign, .running (t.now : Int))) ∧
      (s.supply ≠ .crank → t.supply = .crank → ∀ x, t.mctl.ignTimer ≠ some (false, x))) ∧
  ∀ (s : State) (level : Bool) (since : Int), s.heldInReset = false →
    s.mctl.ignTimer = some (level, .running since) →
    ∃ t, exec .ignDebounceExpiry s = .next t ∧ t.now = max s.now (since + 20000).toNat ∧
      t.mctl.ign = (if level then .active else .inactive) ∧ t.mctl.ignTimer = none ∧
      t.mode =
        (match s.mode, level with
         | .standby, true => .run
         | .run, false => .standby
         | .workshop, false => .standby
         | m, _ => m) ∧
      t.mctl = { s.mctl with
        mode := t.mode, ign := t.mctl.ign, ignTimer := none, cycle := t.mctl.cycle,
        minute := t.mctl.minute, sleepPending := t.mctl.sleepPending } ∧
      t.lif.attention.mode = (s.lif.attention.mode || decide (t.mode ≠ s.mode)) ∧
      (s.mode = .standby → level = true → t.mctl.cycle = true ∧ t.mctl.minute.isRunning = true ∧
        t.counter ignitionPlace = min (s.counter ignitionPlace + 1) counterMax ∧
        (∀ m, t.rule m = if (s.rule m).st = .latchedAck then { (s.rule m).toOff with mark := false }
          else s.rule m) ∧
        IgnitionOn s t) ∧
      (s.mode.isRunning = true → level = false → t.mctl.cycle = false ∧
        t.mctl.minute = s.mctl.minute.pause t.now ∧ t.fmy.counterDue = true ∧
        t.fmy.table = ((s.fmy.table.map fun e =>
            if e.active then e else { e with aging := e.aging + 1 }).filter fun e =>
              e.active || decide (e.aging < s.tables.general.agingLimit)).map (fun e =>
            if e.active && e.code.isSlotLost then { e with active := false, aging := 0 } else e) ∧
        (∀ e ∈ s.fmy.table, e.active = false → s.tables.general.agingLimit ≤ e.aging + 1 →
          (e.slot ∈ t.fmy.writes ∨ (t.fmy.write.slotNo = some e.slot ∧ t.fmy.reappend = true)) ∧
          ((s.fmy.table.map (·.slot)).Nodup → t.fmy.formers[e.slot] = some e.code)) ∧
        (∀ d, (t.door d).grant = false ∧ (t.door d).output = false)) ∧
      (s.mode = .workshop → level = false → t.wsv.records = 0) ∧
      (t.mode = s.mode → OnlyChanges [.now, .mctl, .pru] s t) ∧
      OnlyChanges [.now, .mctl, .ndr, .wev, .pru, .dmn, .fmy, .cursor, .forcing, .attention] s t

/-! ### SLEEP -/

/-- R14, R15, R38, R81, R151, R207: SLEEP entry switches the outputs off and de-energises the needle drives,
with the needles left where they stand; a 50 ms sample that reads IGN ACTIVE or changes the logical value
of a line of a configured door set wakes the part into STANDBY, and one that reads IGN INACTIVE and
changes no such value leaves it asleep. The moments are the model's (assumption 2), and so is that IGN is
sampled after the lines (assumption 16). -/
def Obligations.SleepIsEnteredAndLeft : Prop :=
  (∀ s : State, s.heldInReset = false → s.mctl.sleepPending = true → s.mode = .standby →
    s.lif.tx = none → s.lif.queue = [] → (s.supply = .normal ∨ s.supply = .low) →
    ∃ t, exec .sleepEntry s = .next t ∧ t.mode = .sleep ∧ t.mctl.sleepPending = false ∧
      t.dmn.interlock = .forced ∧ t.ilk = true ∧ (∀ d, (t.door d).output = false) ∧
      (∀ n, (t.lamp n).published = .off ∧ t.driverOn n = false) ∧ t.pru.winner = none ∧
      t.fmy.counterDue = true ∧ t.lif.hold = false ∧ t.lif.spent = false ∧
      t.lif.silenceTimer = .stopped ∧ t.mctl.lowReport = .stopped ∧ t.mctl.highReport = .stopped ∧
      t.mctl.highTimer = .stopped ∧ t.mctl.recoveryTimer = .stopped ∧ t.sched.sleep = s.now + 50000 ∧
      (∀ k, t.driveEnergised k = false ∧
        (t.needle k).published =
          (if s.lif.hold then (s.needle k).latest else (s.needle k).published) ∧
        t.needle k = { (match (s.needle k).st with
            | .parked => { s.needle k with speed := 0 }
            | .homingDriving => { s.needle k with st := .homingWaiting, count := 0 }
            | _ => s.needle k) with published := (t.needle k).published }) ∧
      OnlyChanges [.sched, .mctl, .hlm, .gve, .ndr, .pru, .dmn, .fmy, .cursor, .attention, .link] s t) ∧
  ((∀ (s : State) (mv : Vector Nat 32), s.heldInReset = false → s.mode = .sleep →
    ∃ t, exec (.sleepSample true mv) s = .next t ∧ t.mode = .standby ∧
      t.now = max s.now s.sched.sleep ∧ t.sched.vb = t.now + 2000 ∧
      t.lif.attention.mode = true ∧ t.mctl.ign = s.mctl.ign ∧ t.dmn.interlock ≠ .forced) ∧
  (∀ (s : State) (mv : Vector Nat 32), s.heldInReset = false → s.mode = .sleep →
    s.tables.doorLines = [] →
    ∃ t, exec (.sleepSample false mv) s = .next t ∧ t.mode = .sleep ∧
      t.now = max s.now s.sched.sleep ∧ t.sched.sleep = t.now + 50000 ∧
      OnlyChanges [.now, .sched, .mctl] s t) ∧
  (∀ (s : State) (mv : Vector Nat 32) (ign : Bool) (n : Fin 32) (k : LineClass),
    s.heldInReset = false → s.mode = .sleep → n ∈ s.tables.doorLines →
    s.AcceptsClass n mv[n] k → s.logical n ≠ logicalOf (some k) →
    ∃ t, exec (.sleepSample ign mv) s = .next t ∧ t.mode = .standby ∧
      t.now = max s.now s.sched.sleep ∧ t.sched.vb = t.now + 2000 ∧
      t.logical n = logicalOf (some k) ∧
      t.lif.attention.mode = true ∧ t.mctl.ign = s.mctl.ign ∧ t.dmn.interlock ≠ .forced) ∧
  (∀ (s : State) (mv : Vector Nat 32), s.heldInReset = false → s.mode = .sleep →
    (∀ n ∈ s.tables.doorLines, (s.lineCfg n).fn.classified = true → ∃ k, s.ReadsClass n mv[n] k ∧
      (s.countWith n k < (s.lineCfg n).debounce ∨ s.logical n = logicalOf (some k))) →
    ∃ t, exec (.sleepSample false mv) s = .next t ∧ t.mode = .sleep ∧
      t.now = max s.now s.sched.sleep ∧ t.sched.sleep = t.now + 50000 ∧
      (∀ n, t.logical n = s.logical n) ∧
      (∀ n, n ∉ s.tables.doorLines → t.line n = s.line n) ∧
      t.mctl = { s.mctl with ignTimer := t.mctl.ignTimer } ∧
      OnlyChanges [.now, .sched, .mctl, .hlm, .fmy, .cursor, .attention] s t))

/-! ### The link -/

/-- R192, R209 and R15: the start of reception stops the gap timer and starts the timing of a break, a
latched break takes no bytes, and a sleeping part wakes to STANDBY (its first VB measurement 2 ms later, a
moment of the model's, assumption 2). -/
def Obligations.ReceptionStarts : Prop :=
  ∀ (s : State) (idle : Bool), s.heldInReset = false →
    (s.lif.breakLatched = true → exec (.startOfReception idle) s = .next s) ∧
    (s.lif.breakLatched = false → ∃ t, exec (.startOfReception idle) s = .next t ∧
      t.lif.link = { s.lif.link with
        gap := .stopped, lowTimer := .running s.now, waitIdle := s.lif.waitIdle && !idle,
        silenceTimer := t.lif.silenceTimer, hold := t.lif.hold, holdTimer := t.lif.holdTimer } ∧
      (s.mode ≠ .sleep → t.mode = s.mode ∧ t.lif.silenceTimer = s.lif.silenceTimer ∧
        t.lif.hold = s.lif.hold ∧ t.lif.holdTimer = s.lif.holdTimer ∧
        OnlyChanges [.link] s t) ∧
      (s.mode = .sleep → t.mode = .standby ∧ t.lif.attention.mode = true ∧
        t.mctl.ign = s.mctl.ign ∧ t.sched.vb = s.now + 2000 ∧
        t.lif.hold = (s.lif.hold || s.pins.holdAsserted) ∧
        t.lif.silenceTimer = (if s.lif.silence then .stopped else .running s.now) ∧
        t.dmn.interlock ≠ .forced ∧
        OnlyChanges [.sched, .mctl, .hlm, .gve, .pru, .dmn, .fmy, .cursor, .attention, .link] s t))

/-- R192: the table of the receiver for a byte whose stop bit reads high, up to the check: the byte
advances the receiver and restarts the gap timer, or is a link error that leaves it in HUNT. A byte with
a low stop bit is discarded and abandons the frame, with one link error in all, inside a frame as in HUNT,
and the gap timer stopped (the model's count, assumption 34). A byte during a latched break changes nothing
(R209); one before the line has been idle, after a stop-bit error, is not taken; a byte that reaches a sleeping
part finds it awake (R15). Whether it is taken or not, a byte ends the period in which the line is low with its
high stop bit, and begins it anew where a bit above a low stop bit was high (R209; the moment is the model's,
assumption 56). -/
def Obligations.ReceiverFollowsItsTable : Prop :=
  (∀ (s : State) (b : Byte), s.heldInReset = false → s.mode ≠ .sleep → s.takesBytes = true →
    (∀ f high, s.lif.rx ≠ .checkLow f high) →
    exec (.byteReceived b true) s = .next { s with lif :=
      match (match s.lif.rx with
        | .hunt => if b = 0x5A then some Rx.length else none
        | .length => if b.toNat ≤ 48 then some (.kind b.toNat) else none
        | .kind n => some (.tag n b)
        | .tag n kind => if 0 < n then some (.payload n kind b []) else some (.checkHigh ⟨kind, b, []⟩)
        | .payload n kind tag got =>
          if got.length + 1 < n then some (.payload n kind tag (got ++ [b]))
          else some (.checkHigh ⟨kind, tag, got ++ [b]⟩)
        | .checkHigh f => some (.checkLow f b)
        | .checkLow _ _ => none) with
      | some r => { s.lif with rx := r, gap := .running s.now, lowTimer := .stopped }
      | none => { s.lif with
          rx := .hunt, gap := (if s.lif.rx = .hunt then s.lif.gap else .stopped), lowTimer := .stopped,
          errors := min (s.lif.errors + 1) 65535, attention := s.lif.attention.raise .link } }) ∧
  ((∀ (s : State) (b : Byte), s.heldInReset = false → s.mode ≠ .sleep → s.takesBytes = true →
    exec (.byteReceived b false) s = .next { s with lif := { s.lif with
      rx := .hunt, gap := .stopped, waitIdle := true, errors := min (s.lif.errors + 1) 65535,
      lowTimer := (if b = 0 ∧ s.lif.lowTimer ≠ .stopped then s.lif.lowTimer else .running s.now),
      attention := s.lif.attention.raise .link } }) ∧
  (∀ (s : State) (b : Byte) (h : Bool), s.lif.breakLatched = true →
    exec (.byteReceived b h) s = .next s) ∧
  (∀ (s : State) (b : Byte) (h : Bool), s.heldInReset = false → s.mode ≠ .sleep →
    s.lif.breakLatched = false → s.lif.waitIdle = true →
    exec (.byteReceived b h) s = .next { s with lif := { s.lif with
      lowTimer := if h = true then .stopped
        else if b = 0 ∧ s.lif.lowTimer ≠ .stopped then s.lif.lowTimer else .running s.now } }) ∧
  (∀ (s : State) (b : Byte) (h : Bool), s.heldInReset = false → s.mode = .sleep →
    s.lif.breakLatched = false →
    s.wake.mode = .standby ∧ exec (.byteReceived b h) s = exec (.byteReceived b h) s.wake))

/-- R193, R194, R202, R204: at the last byte of the check a frame that fails it is a link error; one that
passes arrives, ends host silence or restarts its timer, and is queued, dropped or a link error. -/
def Obligations.FrameArrivesAfterItsCheck : Prop :=
  ∀ (s : State) (b high : Byte) (f : Frame), s.heldInReset = false → s.mode ≠ .sleep →
    s.takesBytes = true → s.lif.rx = .checkLow f high →
    (high ++ b ≠ f.check → exec (.byteReceived b true) s = .next { s with lif := { s.lif with
      rx := .hunt, gap := .stopped, lowTimer := .stopped, errors := min (s.lif.errors + 1) 65535,
      attention := s.lif.attention.raise .link } }) ∧
    (high ++ b = f.check → ∃ t, exec (.byteReceived b true) s = .next t ∧
      t.lif.rx = .hunt ∧ t.lif.gap = .stopped ∧ t.lif.lowTimer = .stopped ∧
      t.lif.silence = false ∧ t.lif.startupSilence = (s.lif.startupSilence && !s.lif.silence) ∧
      t.lif.silenceTimer = (if s.mode.isTimed then .running s.now else s.lif.silenceTimer) ∧
      t.lif.queue = (if s.mctl.restart = .idle ∧ f.kind.toNat < 0x80 ∧ s.lif.queue.length < 2
        then s.lif.queue ++ [f] else s.lif.queue) ∧
      t.lif.errors = (if s.mctl.restart = .idle ∧ (0x80 ≤ f.kind.toNat ∨ 2 ≤ s.lif.queue.length)
        then min (s.lif.errors + 1) 65535 else s.lif.errors) ∧
      t.lif.attention.link = (s.lif.attention.link ||
        decide (s.mctl.restart = .idle ∧ (0x80 ≤ f.kind.toNat ∨ 2 ≤ s.lif.queue.length))) ∧
      t.fmy = (if s.lif.silence = true ∧ s.lif.startupSilence = false
        then (s.reportCleared .hostSilent).fmy else s.fmy) ∧
      t.lif.link = { s.lif.link with
        rx := .hunt, gap := .stopped, lowTimer := .stopped, silence := false,
        startupSilence := t.lif.startupSilence, silenceTimer := t.lif.silenceTimer,
        linkMark := s.lif.linkMark && (!s.lif.silence || s.lif.startupSilence),
        queue := t.lif.queue, errors := t.lif.errors } ∧
      (s.lif.silence = false → OnlyChanges [.attention, .link] s t) ∧
      OnlyChanges [.fmy, .cursor, .attention, .link, .pru] s t)

/-- R192 to R195, R210: a request frame sent byte by byte, marker first and check last, is received as it
was sent: it stands last in the queue, with no link error. -/
def Obligations.FrameSurvivesTheLink : Prop :=
  ∀ (s : State) (f : Frame), s.heldInReset = false → s.mode ≠ .sleep → s.takesBytes = true →
    s.lif.rx = .hunt → s.mctl.restart = .idle → s.lif.queue.length < 2 → f.kind.toNat < 0x80 →
    f.payload.length ≤ 48 →
    ∃ t, runAll (f.bytes.map fun b => .byteReceived b true) s = some t ∧
      t.lif.queue = s.lif.queue ++ [f] ∧ t.lif.rx = .hunt ∧ t.lif.errors = s.lif.errors

/-- R192: 1 ms without a further start bit abandons the frame. R195: a reply that has left the part
takes its frame out of the queue. R209: a line low for 20 ms latches the break (that the gap timer then
runs anew is the model's choice, assumption 15). The moments are the model's (assumption 2). -/
def Obligations.FramesAreAbandonedAndAnswered : Prop :=
  (∀ (s : State) (since : Int), s.heldInReset = false → s.lif.gap = .running since →
    exec .gapTimerExpiry s = .next { s with
      now := max s.now (since + 1000).toNat,
      lif := { s.lif with rx := .hunt, gap := .stopped, errors := min (s.lif.errors + 1) 65535,
                          attention := s.lif.attention.raise .link } }) ∧
  ((∀ (s : State) (r f : Frame) (rest : List Frame), s.heldInReset = false → s.lif.tx = some r →
    s.lif.queue = f :: rest →
    exec .replySent s = .next { s with lif := { s.lif with tx := none, queue := rest } }) ∧
  (∀ (s : State) (since : Int), s.heldInReset = false → s.lif.lowTimer = .running since →
    exec .breakLatch s = .next { s with
      now := max s.now (since + 20000).toNat,
      lif := { s.lif with
        breakLatched := true, lowTimer := .stopped,
        gap := if s.lif.rx = .hunt then .stopped
               else .running (max s.now (since + 20000).toNat : Nat) } }))

/-- R203: host silence begins: attention, report, counter, and WORKSHOP is left for RUN without any forcing
record. The moment is the model's (assumption 2). -/
def Obligations.HostSilenceBegins : Prop :=
  ∀ (s : State) (since : Int), s.heldInReset = false → s.lif.silenceTimer = .running since →
    ∃ t, exec .hostSilenceBegins s = .next t ∧
      t.now = max s.now (since + 1000 * s.tables.general.hostSilence).toNat ∧
      t.lif.link = { s.lif.link with
        silence := true, startupSilence := false, silenceTimer := .stopped, linkMark := true } ∧
      t.lif.attention.hostsil = true ∧
      t.fmy = ((s.reportActive .hostSilent).bump silencePlace).fmy ∧
      (∀ m, t.demand m = if (s.rule m).st.isUnacked = true ∧ (s.ruleCfg m).popup = true
        then (s.ruleCfg m).lampNew.max .flashSlow else s.demand m) ∧
      t.mode = (if s.mode = .workshop then .run else s.mode) ∧
      t.mctl = { s.mctl with mode := t.mode, sleepPending := t.mctl.sleepPending } ∧
      (s.mode = .workshop → t.wsv.records = 0 ∧ t.lif.attention.mode = true) ∧
      (s.mode ≠ .workshop → OnlyChanges [.now, .pru, .fmy, .cursor, .attention, .link] s t) ∧
      OnlyChanges [.now, .mctl, .ndr, .pru, .fmy, .cursor, .forcing, .attention, .link] s t

/-- R206: the table of the hold: changes of the HOLD line outside STARTUP and SLEEP (R207), and the
limit timer at 2000 ms, which ends the hold, spent, with attention cause HOLD. An end of the hold
publishes the presentation list, the targets and, where CRANK does not still freeze them, the telltale
levels (R67, R116, R124). The moment of the limit is the model's (assumption 2). -/
def Obligations.HoldFollowsItsTable : Prop :=
  (∀ (s : State) (a : Bool), s.heldInReset = false → s.pins.holdAsserted = !a →
    ∃ t, exec (.holdLineChange a) s = .next t ∧ t.pins = { s.pins with holdAsserted := a } ∧
      (s.mode = .startup ∨ s.mode = .sleep → OnlyChanges [.pins] s t) ∧
      (s.mode ≠ .startup → s.mode ≠ .sleep →
        t.lif = (match a, s.lif.hold, s.lif.spent with
          | true, false, false => { s.lif with hold := true, holdTimer := .running s.now }
          | true, _, _ => s.lif
          | false, true, _ => { s.lif with hold := false, holdTimer := .stopped }
          | false, false, _ => { s.lif with spent := false }) ∧
        (a = false → s.lif.hold = true →
          t.pru.list = s.pru.list ∧ t.pru.shown = s.pru.list ∧
          (∀ k, t.needle k = { s.needle k with published := (s.needle k).latest }) ∧
          ∀ n, (t.lamp n).published = (if s.mode.isRunning = true ∧ s.supply = .crank
            then (s.lamp n).published else t.presentedLevel n)) ∧
        (a = true ∨ s.lif.hold = false → OnlyChanges [.pins, .link] s t) ∧
        OnlyChanges [.pins, .ndr, .pru, .link] s t)) ∧
  (∀ (s : State) (since : Int), s.heldInReset = false → s.lif.holdTimer = .running since →
    ∃ t, exec .holdLimitExpiry s = .next t ∧ t.now = max s.now (since + 2000000).toNat ∧
      t.lif = { s.lif with hold := false, holdTimer := .stopped, spent := true,
                           attention := s.lif.attention.raise .hold } ∧
      t.pru.list = s.pru.list ∧ t.pru.shown = s.pru.list ∧
      (∀ k, t.needle k = { s.needle k with published := (s.needle k).latest }) ∧
      (∀ n, (t.lamp n).published = (if s.mode.isRunning = true ∧ s.supply = .crank
        then (s.lamp n).published else t.presentedLevel n)) ∧
      OnlyChanges [.now, .ndr, .pru, .attention, .link] s t)

/-- R67, R116, R124: from a state in which the hold is in force to one in which it still is, no command
changes the presentation list, a needle's target or (in RUN and WORKSHOP) a telltale as published. Only the
exit from SETUP by SET_MODE, which resets the three blocks, is left out. That a telltale stays frozen at a
return from WORKSHOP to RUN is the model's reading of 'an entry to RUN from another mode'
(assumption 28). -/
def Obligations.HoldFreezesWhatIsPublished : Prop :=
  ∀ (c : Instr) (s t : State), (s.mode = .setup → ∀ tag p, c ≠ .setMode tag p) →
    s.lif.hold = true → exec c s = .next t → t.lif.hold = true →
    t.pru.shown = s.pru.shown ∧
    (∀ k, (t.needle k).published = (s.needle k).published) ∧
    (s.mode.isRunning = true → t.mode.isRunning = true →
      ∀ n, (t.lamp n).published = (s.lamp n).published)

/-! ### Requests: what is common to all -/

/-- R194, R195 and assumption 1: a request command whose frame is not at the head of the queue first brings
the frame in, if the line is free for it, which ends the period in which the line is low (R209; assumption 56),
and serves it if it then stands at the head; otherwise it waits or, on a line in use, nothing happens. -/
def Obligations.RequestsComeInOverTheLink : Prop :=
  ∀ (c : Instr) (f : Frame) (s : State), requestFrame c = some f → s.heldInReset = false →
    ¬ Ready f s →
    (s.lineFree = false → exec c s = .next s) ∧
    (s.lineFree = true → s.mode = .sleep → exec c s = exec c s.wake) ∧
    (s.lineFree = true → s.mode ≠ .sleep → ∀ u : State,
      u = State.frameArrives f { s with lif := { s.lif with lowTimer := .stopped } } →
      (Ready f u → exec c s = exec c u) ∧ (¬ Ready f u → exec c s = .next u) ∧
      (s.lif.queue = [] → s.lif.tx = none → s.mctl.restart = .idle → Ready f u))

/-- R198, R211, R177: the handling of a served frame by its kind, the mode and its length, before any
field is looked at: the kinds answered OK, the unassigned kinds, the modes in which an assigned kind is
refused, the lengths that a kind does not allow, and the readout requests outside STANDBY, RUN and
WORKSHOP. That a WRITE_TABLE whose length fits no record is REFUSED_ARG in every mode is the model's reading
(assumption 17). NO_EFFECT_KIND and UNKNOWN_KIND in particular answer OK and UNKNOWN_KIND with no effect. -/
def Obligations.ServedFramesAreHandledByKind : Prop :=
  (∀ (c : Instr) (f : Frame) (s : State), requestFrame c = some f → Ready f s →
    (0x60 ≤ f.kind.toNat → f.kind.toNat ≤ 0x6F → exec c s = .next (s.replying f .ok [])) ∧
    (0x70 ≤ f.kind.toNat → s.mode ≠ .workshop → exec c s = .next (s.replying f .refusedMode [])) ∧
    (0x70 ≤ f.kind.toNat → s.mode = .workshop → f.kind.toNat ∉ assignedKinds →
      exec c s = .next (s.replying f .unknownKind [])) ∧
    (f.kind.toNat < 0x60 → f.kind.toNat ∉ assignedKinds →
      exec c s = .next (s.replying f .unknownKind [])) ∧
    (f.kind.toNat < 0x60 → f.kind.toNat ∈ assignedKinds → s.mode = .startup →
      f.kind ≠ 0x01 → f.kind ≠ 0x02 → f.kind ≠ 0x03 →
      exec c s = .next (s.replying f .refusedMode []))) ∧
  (∀ (c : Instr) (f : Frame) (s : State), requestFrame c = some f → Ready f s →
    f.kind.toNat ∈ assignedKinds → lengthAllowed f.kind f.payload.length = false →
    (0x70 ≤ f.kind.toNat → s.mode = .workshop) →
    (s.mode = .startup → f.kind = 0x01 ∨ f.kind = 0x02 ∨ f.kind = 0x03) →
    exec c s = .next (s.replying f .refusedArg [])) ∧
  (∀ (c : Instr) (f : Frame) (s : State), requestFrame c = some f → Ready f s →
    f.kind = 0x20 ∨ f.kind = 0x21 ∨ f.kind = 0x22 → lengthAllowed f.kind f.payload.length = true →
    s.mode ≠ .standby → s.mode ≠ .run → s.mode ≠ .workshop →
    exec c s = .next (s.replying f .refusedMode [])) ∧
  (∀ (kind tag : Byte) (p : List Byte) (s : State), Ready ⟨kind, tag, p⟩ s →
    (0x60 ≤ kind.toNat → kind.toNat ≤ 0x6F →
      exec (.noEffectKind kind tag p) s = .next (s.replying ⟨kind, tag, p⟩ .ok [])) ∧
    (kind.toNat < 0x80 → ¬ (0x60 ≤ kind.toNat ∧ kind.toNat ≤ 0x6F) → kind.toNat ∉ assignedKinds →
      (0x70 ≤ kind.toNat → s.mode = .workshop) →
      exec (.unknownKind kind tag p) s = .next (s.replying ⟨kind, tag, p⟩ .unknownKind [])))

/-! ### Requests that read -/

/-- R199, R200, R212: PING returns its payload of up to 47 bytes, READ_STATUS the part's state,
READ_TABLE a record as it would be written. R40, R61, R82, R110, R119, R153, R175, R190: the readings of
lines, gauges, rules, presentation, doors and counters reply with the state as it stands. None changes
anything; a span that does not fit and a line above 31 are refused. What the items hold is stated in
`RepliesHaveTheirLengths`. -/
def Obligations.ReadingsChangeNothing : Prop :=
  ((∀ (s : State) (tag : Byte) (p : List Byte), Ready ⟨0x01, tag, p⟩ s →
    exec (.ping tag p) s = .next (if p.length ≤ 47 then s.replying ⟨0x01, tag, p⟩ .ok p
      else s.replying ⟨0x01, tag, p⟩ .refusedArg [])) ∧
  (∀ (s : State) (tag : Byte), Ready ⟨0x02, tag, []⟩ s →
    exec (.readStatus tag []) s = .next (s.replying ⟨0x02, tag, []⟩ .ok
      (u8 s.mode.code ++ u8 s.supply.code ++ u16 (s.mctl.vb.getD 0) ++ u8 s.mctl.ign.code
        ++ u8 s.mctl.cause.code ++ u32 (s.counter ignitionPlace) ++ u16 s.lif.errors
        ++ u8 ((if s.lif.silence then 1 else 0) + (if s.lif.startupSilence then 2 else 0)
          + (if s.lif.hold then 4 else 0) + (if s.lif.spent then 8 else 0)
          + (if s.pins.holdAsserted then 16 else 0)
          + (if s.fmy.storeRequested = true ∨ s.fmy.write.isImage = true then 32 else 0)
          + (if s.ndr.sweep then 64 else 0) + (if s.fmy.clear.isSome then 128 else 0))))) ∧
  (∀ (s : State) (tag a i : Byte), Ready ⟨0x09, tag, [a, i]⟩ s → s.mode ≠ .startup →
    exec (.readTable tag [a, i]) s =
      .next (if namesRecord a.toNat i.toNat = true then
          s.replying ⟨0x09, tag, [a, i]⟩ .ok (a :: i ::
            (if s.mode = .setup then s.written.getD s.tables else s.tables).recordBytes a.toNat i.toNat)
        else s.replying ⟨0x09, tag, [a, i]⟩ .refusedArg []))) ∧
  ((∀ (s : State) (tag a n : Byte), Ready ⟨0x11, tag, [a, n]⟩ s → s.mode ≠ .startup →
    exec (.readLineDetail tag [a, n]) s =
      .next (if 1 ≤ n.toNat ∧ n.toNat ≤ 8 ∧ a.toNat + n.toNat ≤ 32 then
          s.replying ⟨0x11, tag, [a, n]⟩ .ok (s.hlm.detailItems a.toNat n.toNat)
        else s.replying ⟨0x11, tag, [a, n]⟩ .refusedArg [])) ∧
  (∀ (s : State) (tag : Byte), Ready ⟨0x15, tag, []⟩ s → s.mode ≠ .startup →
    exec (.readGauges tag []) s = .next (s.replying ⟨0x15, tag, []⟩ .ok s.gaugesItems)) ∧
  (∀ (s : State) (tag a n : Byte), Ready ⟨0x18, tag, [a, n]⟩ s → s.mode ≠ .startup →
    exec (.readRules tag [a, n]) s =
      .next (if 1 ≤ n.toNat ∧ n.toNat ≤ 8 ∧ a.toNat + n.toNat ≤ 64 then
          s.replying ⟨0x18, tag, [a, n]⟩ .ok (s.rulesItems a.toNat n.toNat)
        else s.replying ⟨0x18, tag, [a, n]⟩ .refusedArg [])) ∧
  (∀ (s : State) (tag : Byte), Ready ⟨0x19, tag, []⟩ s → s.mode ≠ .startup →
    exec (.readPresentation tag []) s = .next (s.replying ⟨0x19, tag, []⟩ .ok s.presentationItems)) ∧
  (∀ (s : State) (tag : Byte), Ready ⟨0x1C, tag, []⟩ s → s.mode ≠ .startup →
    exec (.readDoors tag []) s = .next (s.replying ⟨0x1C, tag, []⟩ .ok s.doorsItems)) ∧
  (∀ (s : State) (tag : Byte), Ready ⟨0x23, tag, []⟩ s → s.mode ≠ .startup →
    exec (.readCounters tag []) s = .next (s.replying ⟨0x23, tag, []⟩ .ok s.countersItems)) ∧
  (∀ (s : State) (tag : Byte) (n : Fin 32), Ready ⟨0x76, tag, [BitVec.ofNat 8 n.val]⟩ s →
    s.mode = .workshop →
    exec (.readRawLine tag [BitVec.ofNat 8 n.val]) s =
      .next (s.replying ⟨0x76, tag, [BitVec.ofNat 8 n.val]⟩ .ok (s.rawLineItems n))) ∧
  (∀ (s : State) (tag x : Byte), Ready ⟨0x76, tag, [x]⟩ s → s.mode = .workshop → 32 ≤ x.toNat →
    exec (.readRawLine tag [x]) s = .next (s.replying ⟨0x76, tag, [x]⟩ .refusedArg [])))

/-- R210, R211, 11.4: the lengths of the replies' items, whatever the state, and where each item of READ_LINES,
READ_LINE_DETAIL, READ_GAUGES, READ_RULES, READ_PRESENTATION, READ_DOORS, READ_COUNTERS, READ_FAULT_DETAIL and
READ_RAW_LINE and of a fault entry stands, as R211 and 11.4 lay them out; and the codes of R210: that of each
mnemonic, of each class, index and symptom of a fault code (8.1), of a reply's status and of the set of
attention causes. Chosen by the model: the bits that show a comparator
for a line that is not PULSE or a fresh one, and the bias NONE (assumptions 30 and 49), the fault timer's elapsed
time in whole ms, rounded down (assumption 58), the order of the
timers and flags in a door set's bytes (assumption 33), and that a channel of source NONE shows no SPEED
role (assumption 13). -/
def Obligations.RepliesHaveTheirLengths : Prop :=
  (∀ s : State, s.statusItems.length = 13 ∧ (∀ n, (s.summaryItems n).length = 14) ∧
    s.gaugesItems.length = 2 + 6 * 8 + 6 * 11 ∧
    (∀ first count, first + count ≤ 64 → (s.rulesItems first count).length = 4 + 7 * count) ∧
    s.presentationItems.length = 5 + 7 * s.pru.shown.length + 24 * 2 ∧
    s.doorsItems.length = 4 * 5 + 4 ∧ s.countersItems.length = 12 * 4 + 11 ∧
    (∀ n, (s.rawLineItems n).length = 21) ∧
    ∀ (e : FaultEntry) (i : Nat), (e.bytes i).length = 24) ∧
  (∀ (s : State) (no : Nat), (s.summaryItems no).drop 12 = u16 no ∧ ∀ n : Fin 32,
    ((s.summaryItems no).getD (n.val / 4) 0).toNat / 4 ^ (3 - n.val % 4) % 4 = (s.logical n).code ∧
    ((s.summaryItems no).getD (8 + n.val / 8) 0).getLsbD (7 - n.val % 8) = (s.line n).flag) ∧
  (∀ (e : FaultEntry) (i : Nat), e.bytes i =
    u8 i ++ u8 e.code.sourceClass.code ++ u8 e.code.index ++ u8 e.code.symptom ++ u8 e.priority
      ++ u8 (weigh e.active 1 + weigh e.snapshot.isSome 2) ++ u8 e.occurrences ++ u8 e.aging
      ++ u32 e.first.minutes ++ u32 e.first.cycles ++ u32 e.last.minutes ++ u32 e.last.cycles) ∧
  (∀ (m : Fmy) (c : FaultCode),
    ((∀ e ∈ m.table, e.code ≠ c) → m.detailItems c = [0]) ∧
    ∀ (i : Nat) (e : FaultEntry), m.table[i]? = some e → e.code = c →
      (∀ (j : Nat) (x : FaultEntry), m.table[j]? = some x → x.code = c → i ≤ j) →
      m.detailItems c = u8 1 ++ e.bytes i ++ u32 e.created ++ u8 e.slot.val
        ++ u8 (if m.write.slotNo = some e.slot then 2 else if e.slot ∈ m.writes then 1 else 0)
        ++ match e.snapshot with
          | none => []
          | some x =>
            u16 x.vb ++ u8 x.mode.code ++ u8 (weigh x.speed.isSome 1) ++ i16 (x.speed.getD 0)
              ++ u8 x.values.length ++ x.values.flatMap (fun v => u8 v.1.val ++ i16 v.2)
              ++ u8 (x.doors[0]).code ++ u8 (x.doors[1]).code ++ u8 (x.doors[2]).code
              ++ u8 (x.doors[3]).code ++ u8 (weigh x.ilk 1)) ∧
  (∀ (h : Hlm) (first count : Nat), (h.detail = none → h.detailItems first count = [0, 0]) ∧
    ∀ no v, h.detail = some (no, v) → first + count ≤ 32 →
      (h.detailItems first count).length = 2 + 5 * count ∧
      (h.detailItems first count).take 2 = u16 no ∧
      ∀ (i : Nat) (n : Fin 32), i < count → n.val = first + i →
        ((h.detailItems first count).drop (2 + 5 * i)).take 5 =
          u8 (v[n].status.code + 4 * (match v[n].accepted with
              | some k => k.code
              | none => 6) + weigh v[n].measured.isNone 128)
            ++ (match v[n].measured with
              | some m => u16 m.1 ++ u16 m.2
              | none => [0, 0, 0, 0])) ∧
  (∀ s : State,
    s.gaugesItems.take 2 =
      u8 (weigh s.speed.isSome 1 + weigh s.standing 2 + weigh s.moving 4 + weigh s.ndr.sweep 8
        + weigh s.lif.hold 16) ++ u8 (maskOf s.isMember) ∧
    (∀ k : Fin 6, (s.gaugesItems.drop (2 + 8 * k.val)).take 8 =
      u8 (s.channelCfg k).source.code
        ++ u8 (if (s.wsv.needles[k]).isSome then 5 else (s.channel k).st.code)
        ++ u8 (s.channel k).st.code
        ++ u8 (weigh ((s.channelCfg k).source != .unused && (s.channelCfg k).speedRole) 1
          + weigh (s.channel k).standstill 2 + weigh (s.knownE k).isSome 4
          + weigh (s.knownF k).isSome 8)
        ++ i16 ((s.knownE k).getD 0) ++ i16 ((s.knownF k).getD 0)) ∧
    (∀ k : Fin 6, (s.gaugesItems.drop (50 + 11 * k.val)).take 11 =
      u8 (s.needle k).st.code
        ++ u8 (weigh (s.needle k).pos.isSome 1 + weigh ((s.needle k).dir == .down) 2
          + weigh (s.wsv.needles[k]).isSome 4)
        ++ u16 ((s.needle k).pos.getD 0) ++ u8 (s.needle k).speed ++ u16 (s.needle k).latest
        ++ u16 (s.needle k).published ++ u16 ((s.wsv.needles[k]).getD 0)) ∧
    (∀ first count, first + count ≤ 64 → (s.rulesItems first count).take 4 = u32 s.wev.seq ∧
      ∀ (i : Nat) (m : Fin 64), i < count → m.val = first + i →
        ((s.rulesItems first count).drop (4 + 7 * i)).take 7 =
          u8 (s.rule m).st.code
            ++ u8 (weigh (s.rule m).cond 1 + weigh (s.rule m).qualHeld 2 + weigh (s.rule m).frozen 4
              + weigh (s.rule m).seq.isSome 8)
            ++ u32 ((s.rule m).seq.getD 0)
            ++ u8 ((s.rule m).raw.code
              + 4 * (if (s.ruleCfg m).slot0 = none then 3 else (s.rule m).res0.code)
              + 16 * (if (s.ruleCfg m).slot1 = none then 3 else (s.rule m).res1.code)
              + 64 * (if (s.ruleCfg m).slot2 = none then 3 else (s.rule m).res2.code)))) ∧
  (∀ s : State,
    s.presentationItems.take 5 =
      u8 (weigh s.lif.hold 1 + weigh s.pru.lampCheck.isRunning 2 + weigh s.wsv.chime.isSome 4)
        ++ u8 s.pru.shown.length ++ u8 s.waiting.length
        ++ u8 (match s.pru.winner with
          | some m => m.val
          | none => 0xFF)
        ++ u8 (match s.pru.winner.bind fun m => (s.ruleCfg m).chime with
          | none => 0
          | some .single => 1
          | some .repeatSlow => 2
          | some .repeatFast => 3
          | some .continuous => 4) ∧
    (∀ (i : Nat) (e : ListEntry), s.pru.shown[i]? = some e →
      (s.presentationItems.drop (5 + 7 * i)).take 7 =
        u8 e.rule.val ++ u8 e.priority ++ u32 e.seq ++ u8 (weigh e.latched 1)) ∧
    (∀ n : Fin 24,
      (s.presentationItems.drop (5 + 7 * s.pru.shown.length + 2 * n.val)).take 2 =
        u8 ((s.lampLevel n).code + 4 * (s.lamp n).published.code + weigh (s.driverOn n) 16)
          ++ u8 ((s.lamp n).openStatus.code + 4 * (s.lamp n).shortStatus.code)) ∧
    (∀ d : Fin 4, (s.doorsItems.drop (5 * d.val)).take 5 =
      u8 (weigh (s.doorCfg d).configured 1 + weigh (s.door d).grant 2 + weigh (s.door d).output 4
          + weigh (s.door d).openWhileMoving 16 + weigh (s.door d).repeatedObstruction 32
          + weigh (s.door d).closeTimeout 64 + weigh (s.door d).notLocked 128)
        ++ u8 (s.door d).st.code ++ u8 (s.door d).obstructions
        ++ u8 ((s.door d).openTimer.code + 4 * (s.door d).closeTimer.code
          + 16 * (s.door d).lockTimer.code + 64 * (s.door d).inconTimer.code)
        ++ u8 0) ∧
    s.doorsItems.drop 20 =
      u8 (maskOf fun d => (s.doorCfg d).configured && (s.doorCfg d).inMask)
        ++ u8 (weigh s.ilk 1 + 2 * s.dmn.interlock.code + weigh (s.dmn.interlock == .overridden) 16)
        ++ u8 (weigh s.condDoors 1 + weigh s.condRamps 2 + weigh s.condKneel 4
          + weigh s.condGrants 8)
        ++ u8 (weigh s.speed.isSome 1 + weigh s.aboveWithdraw 2 + weigh s.standing 4)) ∧
  (∀ s : State,
    (∀ c : Fin 12, (s.countersItems.drop (4 * c.val)).take 4 = u32 (s.counter c)) ∧
    s.countersItems.drop 48 =
      u32 s.fmy.saveNo.toNat
        ++ u8 (weigh s.fmy.counterDue 1 + weigh s.fmy.storeRequested 2
          + weigh s.fmy.clear.isSome 4)
        ++ u16 s.fmy.lost ++ u8 s.fmy.table.length ++ u8 (s.fmy.table.filter (·.active)).length
        ++ u8 s.fmy.writes.length
        ++ u8 (match s.fmy.write with
          | .slot n _ _ => n.val
          | .counters _ => 0xFD
          | .image _ => 0xFE
          | .idle => 0xFF)) ∧
  (∀ (s : State) (n : Fin 32), s.rawLineItems n =
    u8 (s.lineCfg n).fn.code
      ++ u8 (weigh (s.biasConnected n) 1 + weigh (s.line n).measured.isNone 2
        + weigh (s.line n).usable.isNone 4 + weigh ((s.line n).comparator == .stopped) 8
        + weigh ((s.line n).comparator == .high) 16)
      ++ (match (s.line n).measured with
        | some m => u16 m.1 ++ u16 m.2 ++ u8 ((s.lineCfg n).band ((s.lineCfg n).compared m))
            ++ u8 ((s.lineCfg n).classAt ((s.lineCfg n).compared m)).code
        | none => [0, 0, 0, 0, 0, 0])
      ++ (match (s.line n).usable with
        | some m => u16 m.1 ++ u16 m.2
        | none => [0, 0, 0, 0])
      ++ u8 (match (s.line n).candidate with
        | some k => k.code
        | none => 0xFF)
      ++ u8 (s.line n).count
      ++ u8 (match (s.line n).accepted with
        | some k => k.code
        | none => 6)
      ++ u8 (s.logical n).code ++ u8 (s.line n).status.code ++ u8 (s.line n).timer.code
      ++ u16 ((s.line n).timer.elapsed s.now / 1000) ++ u8 (s.line n).symptom.code) ∧
  (Mode.code .startup = 0 ∧ Mode.code .unconfigured = 1 ∧ Mode.code .setup = 2 ∧ Mode.code
      .standby = 3 ∧ Mode.code .run = 4 ∧ Mode.code .workshop = 5 ∧ Mode.code .sleep = 6 ∧
    Supply.code .normal = 0 ∧ Supply.code .low = 1 ∧ Supply.code .crank = 2 ∧ Supply.code
      .high = 3 ∧
    ResetCause.code .powerOn = 0 ∧ ResetCause.code .brownOut = 1 ∧ ResetCause.code .pin = 2
      ∧ ResetCause.code .linkBreak = 3 ∧ ResetCause.code .restart = 4 ∧
    IgnState.code .unknown = 0 ∧ IgnState.code .inactive = 1 ∧ IgnState.code .active = 2 ∧
    LineFn.code .off = 0 ∧ LineFn.code .switchGnd = 1 ∧ LineFn.code .switchBat = 2 ∧
      LineFn.code .switchCoded = 3 ∧ LineFn.code .analogRatio = 4 ∧ LineFn.code .analogVolt
      = 5 ∧ LineFn.code .pulse = 6 ∧
    Bias.code .unbiased = 0 ∧ Bias.code .pullUp = 1 ∧ Bias.code .pullDown = 2 ∧
    LineClass.code .active = 0 ∧ LineClass.code .inactive = 1 ∧ LineClass.code .invalid = 2
      ∧ LineClass.code .faultOpen = 3 ∧ LineClass.code .faultShortGnd = 4 ∧ LineClass.code
      .faultShortBat = 5 ∧
    Logical.code .active = 0 ∧ Logical.code .inactive = 1 ∧ Logical.code .invalid = 2 ∧
    FaultStatus.code .clear = 0 ∧ FaultStatus.code .pending = 1 ∧ FaultStatus.code
      .confirmed = 2 ∧ FaultStatus.code .healing = 3 ∧
    Source.code .unused = 0 ∧ Source.code .line = 1 ∧ Source.code .pulse = 2 ∧ Source.code
      .host = 3 ∧
    ChannelState.code .init = 0 ∧ ChannelState.code .valid = 1 ∧ ChannelState.code .stale =
      2 ∧ ChannelState.code .lost = 3 ∧ ChannelState.code .fault = 4 ∧
    NeedleState.code .homingWaiting = 0 ∧ NeedleState.code .homingDriving = 1 ∧
      NeedleState.code .tracking = 2 ∧ NeedleState.code .sweepUp = 3 ∧ NeedleState.code
      .sweepReturn = 4 ∧ NeedleState.code .parked = 5 ∧ NeedleState.code .forced = 6 ∧
      NeedleState.code .suspended = 7 ∧
    RuleState.code .off = 0 ∧ RuleState.code .pending = 1 ∧ RuleState.code .activeNew = 2 ∧
      RuleState.code .activeAck = 3 ∧ RuleState.code .latchedNew = 4 ∧ RuleState.code
      .latchedAck = 5 ∧
    TermResult.code .no = 0 ∧ TermResult.code .yes = 1 ∧ TermResult.code .invalid = 2 ∧
    Combine.code .all = 0 ∧ Combine.code .any = 1 ∧ Combine.code .firstNotRest = 2 ∧
      Combine.code .twoOfThree = 3 ∧
    OnInvalid.code .no = 0 ∧ OnInvalid.code .yes = 1 ∧ OnInvalid.code .hold = 2 ∧
    Qualifier.code .always = 0 ∧ Qualifier.code .ignOn = 1 ∧ Qualifier.code .moving = 2 ∧
      Qualifier.code .standing = 3 ∧ Qualifier.code .notCrank = 4 ∧
    Latch.code .unlatched = 0 ∧ Latch.code .untilAck = 1 ∧ Latch.code .untilIgnition = 2 ∧
    DoorState.code .closedLocked = 0 ∧ DoorState.code .closed = 1 ∧ DoorState.code .opening
      = 2 ∧ DoorState.code .opened = 3 ∧ DoorState.code .closing = 4 ∧ DoorState.code
      .obstructed = 5 ∧ DoorState.code .emergency = 6 ∧ DoorState.code .unknown = 7 ∧
    Interlock.code .forced = 0 ∧ Interlock.code .held = 1 ∧ Interlock.code .delay = 2 ∧
      Interlock.code .free = 3 ∧ Interlock.code .overridden = 4 ∧
    Level.code .off = 0 ∧ Level.code .on = 1 ∧ Level.code .flashSlow = 2 ∧ Level.code
      .flashFast = 3 ∧
    LampStatus.code .unsettled = 0 ∧ LampStatus.code .good = 1 ∧ LampStatus.code .confirmed
      = 2 ∧
    SourceClass.code .line = 0 ∧ SourceClass.code .gauge = 1 ∧ SourceClass.code .lamp = 2 ∧
      SourceClass.code .door = 3 ∧ SourceClass.code .rule = 4 ∧ SourceClass.code .supply = 5
      ∧ SourceClass.code .link = 6 ∧ SourceClass.code .store = 7 ∧
    Status.code .ok = 0 ∧ Status.code .accepted = 1 ∧ Status.code .busy = 2 ∧ Status.code
      .refusedMode = 3 ∧ Status.code .refusedArg = 4 ∧ Status.code .unknownKind = 5 ∧
      Status.code .denied = 6 ∧
    LineTest.code .active = 0 ∧ LineTest.code .inactive = 1 ∧ LineTest.code .faulted = 2 ∧
    DoorTest.code .stateMask = 0 ∧ DoorTest.code .flag = 1 ∧ DoorTest.code .interlock = 2 ∧
    RepSym.code .nothing = 0 ∧ RepSym.code (.sym .openWire) = 1 ∧ RepSym.code (.sym
      .shortGnd) = 2 ∧ RepSym.code (.sym .shortBat) = 3 ∧ RepSym.code .any = 4 ∧
    patternCode none = 0 ∧ patternCode (some .single) = 1 ∧ patternCode (some .repeatSlow) =
      2 ∧ patternCode (some .repeatFast) = 3 ∧ patternCode (some .continuous) = 4 ∧
    Timer.code .stopped = 0 ∧ (∀ x, Timer.code (.running x) = 1) ∧ (∀ x, Timer.code (.paused
      x) = 2) ∧
    (∀ x : Status, x.byte.toNat = x.code) ∧
    (∀ a : Attention, a.set = weigh a.reset 1 + weigh a.supply 2 + weigh a.line 4 + weigh
      a.warn 8 + weigh a.door 16 + weigh a.fault 32 + weigh a.lost 64 + weigh a.link 128 +
      weigh a.opdone 256 + weigh a.hold 512 + weigh a.hostsil 1024 + weigh a.mode 2048) ∧
    (∀ n, (FaultCode.line n .openWire).symptom = 0 ∧ (FaultCode.line n .shortGnd).symptom = 1 ∧
      (FaultCode.line n .shortBat).symptom = 2 ∧ ∀ y, (FaultCode.line n y).index = n.val ∧
      (FaultCode.line n y).sourceClass = .line) ∧
    (∀ k, (FaultCode.gauge k .lost).symptom = 0 ∧ (FaultCode.gauge k .pulseNoise).symptom = 1 ∧
      ∀ y, (FaultCode.gauge k y).index = k.val ∧ (FaultCode.gauge k y).sourceClass = .gauge) ∧
    (∀ n, (FaultCode.lamp n .openWire).symptom = 0 ∧ (FaultCode.lamp n .short).symptom = 1 ∧
      ∀ y, (FaultCode.lamp n y).index = n.val ∧ (FaultCode.lamp n y).sourceClass = .lamp) ∧
    (∀ d, (FaultCode.door d .inconsistent).symptom = 0 ∧ (FaultCode.door d .notLocked).symptom = 1 ∧
      (FaultCode.door d .openEndMissing).symptom = 2 ∧
      (FaultCode.door d .closeTimeout).symptom = 3 ∧
      (FaultCode.door d .repeatedObstruction).symptom = 4 ∧
      (FaultCode.door d .openWhileMoving).symptom = 5 ∧
      ∀ y, (FaultCode.door d y).index = d.val + 1 ∧ (FaultCode.door d y).sourceClass = .door) ∧
    (FaultCode.override.symptom = 6 ∧ FaultCode.override.index = 0 ∧
      FaultCode.override.sourceClass = .door) ∧
    (∀ m, (FaultCode.rule m).symptom = 0 ∧ (FaultCode.rule m).index = m.val ∧
      (FaultCode.rule m).sourceClass = .rule) ∧
    ((FaultCode.supply .high).symptom = 0 ∧ (FaultCode.supply .low).symptom = 1 ∧
      ∀ y, (FaultCode.supply y).index = 0 ∧ (FaultCode.supply y).sourceClass = .supply) ∧
    (FaultCode.hostSilent.symptom = 0 ∧ FaultCode.hostSilent.index = 0 ∧
      FaultCode.hostSilent.sourceClass = .link) ∧
    (FaultCode.imageBad.symptom = 0 ∧ FaultCode.imageBad.index = 0 ∧
      FaultCode.imageBad.sourceClass = .store) ∧
    (∀ n, (FaultCode.slotLost n).symptom = 1 ∧ (FaultCode.slotLost n).index = n.val ∧
      (FaultCode.slotLost n).sourceClass = .store))

/-- R39: READ_LINES numbers the summary, takes the detail snapshot and drops the flags of the lines that are
neither PENDING nor CONFIRMED. -/
def Obligations.ReadLinesTakesASnapshot : Prop :=
  ∀ (s : State) (tag : Byte), Ready ⟨0x10, tag, []⟩ s → s.mode ≠ .startup →
    ∃ t, exec (.readLines tag []) s = .next t ∧
      t.hlm.summaryNo = (if s.hlm.summaryNo = 65535 then 1 else s.hlm.summaryNo + 1) ∧
      (∃ v : Vector LineSnap 32, t.hlm.detail = some (t.hlm.summaryNo, v) ∧
        ∀ n : Fin 32, v[n] = ⟨(s.line n).status, (s.line n).accepted, (s.line n).measured⟩) ∧
      (∀ n, t.line n = { s.line n with flag := (s.line n).flag &&
        ((s.line n).status == .pending || (s.line n).status == .confirmed) }) ∧
      t.lif.tx = some ((⟨0x10, tag, []⟩ : Frame).reply .ok (s.summaryItems t.hlm.summaryNo)) ∧
      t.lif = { s.lif with tx := t.lif.tx } ∧
      OnlyChanges [.hlm, .link] s t

/-- R201: READ_ATTENTION returns the causes present and removes them, but for SUPPLY outside NORMAL and
HOSTSIL during host silence; ATTN stays asserted exactly for those. -/
def Obligations.ReadAttentionClearsTheCauses : Prop :=
  ∀ (s : State) (tag : Byte), Ready ⟨0x03, tag, []⟩ s →
    ∃ t, exec (.readAttention tag []) s = .next t ∧
      t.lif.tx = some ((⟨0x03, tag, []⟩ : Frame).reply .ok (u16 s.lif.attention.set)) ∧
      (∀ c, t.lif.attention.has c = (s.lif.attention.has c &&
        ((c == .supply && s.supply != .normal) || (c == .hostsil && s.lif.silence)))) ∧
      t.attn = ((s.lif.attention.supply && s.supply != .normal) ||
        (s.lif.attention.hostsil && s.lif.silence)) ∧
      t.lif.link = { s.lif.link with tx := t.lif.tx } ∧
      OnlyChanges [.link, .attention] s t

/-! ### SET_MODE, RESTART and the configuration -/

/-- R12 to R14: the answers of SET_MODE that change nothing but the mode, and its refusals, by target
and mode; STARTUP and UNCONFIGURED are no targets. SET_MODE RUN in WORKSHOP goes back to RUN, ends every
forcing record and sets no attention cause (R13, R183, R184). -/
def Obligations.SetModeFollowsItsTable : Prop :=
  (∀ (s : State) (tag x : Byte), Ready ⟨0x04, tag, [x]⟩ s → s.mode ≠ .startup →
    (x = 0x05 → s.mode = .run → exec (.setMode tag [x]) s = .next (
      if s.standing then
        { s with mctl := { s.mctl with mode := .workshop, sleepPending := false } }.replying
          ⟨0x04, tag, [x]⟩ .ok []
      else s.replying ⟨0x04, tag, [x]⟩ .denied [])) ∧
    (x = 0x06 → s.mode = .standby → exec (.setMode tag [x]) s = .next (
      if s.supply = .normal ∨ s.supply = .low then
        { s with mctl := { s.mctl with sleepPending := true } }.replying ⟨0x04, tag, [x]⟩ .ok []
      else s.replying ⟨0x04, tag, [x]⟩ .denied [])) ∧
    ((x = 0x02 ∧ s.mode ≠ .standby ∧ s.mode ≠ .unconfigured) ∨ (x = 0x03 ∧ s.mode ≠ .setup) ∨
        (x = 0x04 ∧ s.mode ≠ .setup ∧ s.mode ≠ .workshop) ∨ (x = 0x05 ∧ s.mode ≠ .run) ∨
        (x = 0x06 ∧ s.mode ≠ .standby) →
      exec (.setMode tag [x]) s = .next (s.replying ⟨0x04, tag, [x]⟩ .refusedMode [])) ∧
    (x = 0x00 ∨ x = 0x01 ∨ 7 ≤ x.toNat →
      exec (.setMode tag [x]) s = .next (s.replying ⟨0x04, tag, [x]⟩ .refusedArg []))) ∧
  (∀ (s : State) (tag : Byte), Ready ⟨0x04, tag, [0x04]⟩ s → s.mode = .workshop →
    ∃ t, exec (.setMode tag [0x04]) s = .next t ∧
      t.mctl = { s.mctl with mode := .run, sleepPending := false } ∧ t.wsv.records = 0 ∧
      t.lif.link = { s.lif.link with
        tx := some ((⟨0x04, tag, [0x04]⟩ : Frame).reply .ok []) } ∧
      (∀ k, t.needle k = if (s.needle k).effective = .forced then (s.needle k).become .tracking
        else s.needle k) ∧
      OnlyChanges [.mctl, .ndr, .pru, .forcing, .link] s t)

/-- R12, R79, R109, R151, R202, R212: the entry to SETUP. A SLEEP entry still to come is dropped, which is the
model's reading (assumption 14). -/
def Obligations.SetupIsEntered : Prop :=
  ∀ (s : State) (tag : Byte), Ready ⟨0x04, tag, [0x02]⟩ s →
    s.mode = .standby ∨ s.mode = .unconfigured →
    ∃ t, exec (.setMode tag [0x02]) s = .next t ∧ t.mode = .setup ∧ t.written = some s.tables ∧
      t.lif.tx = some ((⟨0x04, tag, [0x02]⟩ : Frame).reply .ok []) ∧
      t.lif.silenceTimer = .stopped ∧ (∀ m, (t.rule m).st = .off) ∧ t.dmn.interlock = .forced ∧
      (∀ k, (t.needle k).effective = match (s.needle k).effective with
        | .tracking | .sweepUp | .sweepReturn | .forced => .parked
        | x => x) ∧
      t.mctl = { s.mctl with mode := .setup, sleepPending := false } ∧
      OnlyChanges [.mctl, .ndr, .wev, .pru, .dmn, .fmy, .cursor, .attention, .link, .written] s t

/-- R12, R214: SETUP is left for RUN or STANDBY by the accepted IGN, whichever of the two is named, if the
written tables pass the cross-table checks. The blocks take up the tables with their records reset (R41, R63,
R83, R111, R131, R154) and with what each can never report again settled (R33, R60, R107, R127, R142), an exit to RUN starts the
lamp check (R123), and the
entries that the new aging limit makes too old are removed, and no other (R162). That a PULSE comparator
starts fresh is the model's choice (assumption 43); a homing begins even in CRANK (assumption 22). The cross-table
checks fail exactly for the seven findings of R214 (a channel of source NONE has no SPEED role, the model's
reading, assumption 13). -/
def Obligations.SetupIsLeft : Prop :=
  (∀ (s : State) (tag x : Byte) (w : Tables), Ready ⟨0x04, tag, [x]⟩ s → x = 0x03 ∨ x = 0x04 →
    s.mode = .setup → s.written = some w →
    (w.crossOk = false →
      exec (.setMode tag [x]) s = .next (s.replying ⟨0x04, tag, [x]⟩ .refusedArg [])) ∧
    (w.crossOk = true → ∃ t, exec (.setMode tag [x]) s = .next t ∧
      t.tables = w ∧ t.written = none ∧
      t.lif.tx = some ((⟨0x04, tag, [x]⟩ : Frame).reply .ok []) ∧
      t.mode = (if s.mctl.ign = .active then .run else .standby) ∧
      (t.mode = .run → t.counter ignitionPlace = min (s.counter ignitionPlace + 1) counterMax) ∧
      (∀ n, t.line n =
        { measured := none, usable := none, candidate := none, count := 0, accepted := none,
          status := .clear, timer := .stopped, flag := false,
          symptom := if (w.lines[n]).fn = .off ∨ (w.lines[n]).fn = .pulse ∨
              (w.lines[n]).suppressed = true then .nothing else .any,
          comparator := if (w.lines[n]).fn = .pulse then .fresh else .stopped }) ∧
      t.hlm.detail = none ∧ t.hlm.summaryNo = s.hlm.summaryNo ∧
      (∀ k, t.channel k =
        { st := .init, e := none, f256 := 0, f := none, standstill := false, pLast := none,
          start := none, fed := none, newFeed := false, feedTimer := .stopped, expiries := 0,
          lostMark := (w.channels[k]).source == .host,
          noiseMark := (w.channels[k]).source == .pulse }) ∧
      (∀ u, t.unit u =
        { base := (s.unit u).base, tRef := none, tLast := none, edges := 0, glitches := 0 }) ∧
      (∀ k, t.needle k = if t.mode = .run
        then { st := .homingDriving, count := (w.channels[k]).pmax + 64, pos := none, speed := 0,
               dir := .down, latest := 0, published := 0, resume := none }
        else { st := .homingWaiting, count := 0, pos := none, speed := 0, dir := .up, latest := 0,
               published := 0, resume := none }) ∧
      t.ndr.sweep = false ∧
      (∀ m, t.rule m =
        { st := .off, cond := false, raw := .no, res0 := .no, res1 := .no, res2 := .no,
          hyst0 := false, hyst1 := false, hyst2 := false, onset := 0, release := none,
          reminder := 0, seq := none, mark := (w.rules[m]).enabled && (w.rules[m]).record,
          qualHeld := false, frozen := false }) ∧ t.wev.seq = 0 ∧
      t.pru.list = [] ∧ t.pru.shown = [] ∧ t.pru.phase = 0 ∧ t.pru.winner = none ∧
      t.pru.tone = false ∧ (∀ m : Fin 64, t.pru.singleMarks[m] = false) ∧
      (∀ n, (t.lamp n).openStatus = (if (w.lamps[n]).suppressed then .good else .unsettled) ∧
        (t.lamp n).shortStatus = (t.lamp n).openStatus ∧ (t.lamp n).openCount = 0 ∧
        (t.lamp n).retry = .stopped ∧ (t.lamp n).trips = 0 ∧
        (t.lamp n).success = (if t.driverOn n then .running s.now else .stopped) ∧
        (t.lamp n).published = t.presentedLevel n) ∧
      t.pru.lampCheck = (if t.mode = .run ∧ w.general.lampCheck ≠ 0 then .running s.now
        else .stopped) ∧
      (∀ d, t.door d =
        { st := .unknown, openTimer := .stopped, closeTimer := .stopped, lockTimer := .stopped,
          inconTimer := .stopped, inconMark := false, openWhileMoving := false,
          repeatedObstruction := false, closeTimeout := false, notLocked := false,
          obstructions := 0, cycle := false, grant := false, output := false,
          marks := if (w.doors[d]).configured then doorSyms else [] }) ∧
      (∀ e ∈ t.fmy.table, e.aging < w.general.agingLimit) ∧
      (∀ e ∈ s.fmy.table, e.aging < w.general.agingLimit →
        ∃ x ∈ t.fmy.table, x.code = e.code ∧ x.aging = e.aging ∧ x.created = e.created) ∧
      t.dmn.interlock = (if w.doors.toList.any (·.configured) ∨ w.roles.kneel.isSome = true
        then .held else .delay) ∧
      t.lif.silenceTimer = (if s.lif.silence then .stopped else .running s.now) ∧
      OnlyChanges [.sched, .mctl, .hlm, .gve, .ndr, .wev, .pru, .dmn, .fmy, .cursor, .attention,
        .link, .tables, .written] s t)) ∧
  ∀ w : Tables, w.crossOk = false ↔
    ((∃ (d e : Fin 4) (j k : DoorSlot) (n : Fin 32), (d, j) ≠ (e, k) ∧
        (w.doors[d]).configured = true ∧ (w.doors[e]).configured = true ∧
        (w.doors[d]).line j = some n ∧ (w.doors[e]).line k = some n) ∨
      ∃ (d : Fin 4) (j : DoorSlot) (n : Fin 32), (w.doors[d]).configured = true ∧
        (w.doors[d]).line j = some n ∧ (w.lines[n]).fn = .pulse) ∨
    ((∃ (r : Role) (n : Fin 32), w.roles.of r = some n ∧ (w.lines[n]).fn = .pulse) ∨
      ∃ (q r : Role) (n : Fin 32), q ≠ r ∧ w.roles.of q = some n ∧ w.roles.of r = some n) ∨
    (∃ (m : Fin 64) (n : Fin 32) (x : LineTest), ((w.rules[m]).slot0 = some (.line n x) ∨
        (w.rules[m]).slot1 = some (.line n x) ∨ (w.rules[m]).slot2 = some (.line n x)) ∧
      (w.lines[n]).fn = .pulse) ∨
    (∃ j k : Fin 6, j ≠ k ∧ (w.channels[j]).source ≠ .unused ∧ (w.channels[j]).speedRole = true ∧
      (w.channels[k]).source ≠ .unused ∧ (w.channels[k]).speedRole = true) ∨
    (∃ k : Fin 6, (w.channels[k]).source = .line ∧ (w.sensors[k] = [] ∨
      ∀ n : Fin 32, (w.channels[k]).input = n.val →
        (w.lines[n]).fn ≠ .analogRatio ∧ (w.lines[n]).fn ≠ .analogVolt)) ∨
    ((∃ j k : Fin 6, j ≠ k ∧ (w.channels[j]).source = .pulse ∧ (w.channels[k]).source = .pulse ∧
        (w.channels[j]).input = (w.channels[k]).input) ∨
      ∃ m n : Fin 32, m ≠ n ∧ (w.lines[m]).fn = .pulse ∧ (w.lines[n]).fn = .pulse ∧
        (w.lines[m]).unitC1 = (w.lines[n]).unitC1) ∨
    ∃ k : Fin 6, (w.channels[k]).source ≠ .unused ∧ (w.dials[k] = [] ∨
      ∃ q ∈ w.dials[k], ((w.channels[k]).pmax : Int) < q.2)

/-- R17, R171, R195, R213, R215: RESTART waits for a counter save and discards the frame behind it;
STORE_CONFIG requests one store; WRITE_TABLE replaces a record of the written copy in SETUP. -/
def Obligations.RestartAndConfigurationRequests : Prop :=
  (∀ (s : State) (tag : Byte), Ready ⟨0x05, tag, []⟩ s → s.mode ≠ .startup →
    exec (.restart tag []) s = .next ({ s with
      mctl := { s.mctl with restart := .waiting }, fmy := { s.fmy with counterDue := true },
      lif := { s.lif with queue := [⟨0x05, tag, []⟩] } }.replying ⟨0x05, tag, []⟩ .ok [])) ∧
  (∀ (s : State) (tag : Byte), Ready ⟨0x0A, tag, []⟩ s → s.mode ≠ .startup →
    exec (.storeConfig tag []) s = .next (
      if s.mode = .setup then s.replying ⟨0x0A, tag, []⟩ .refusedMode []
      else if s.fmy.storeRequested = true ∨ s.fmy.write.isImage = true then
        s.replying ⟨0x0A, tag, []⟩ .busy []
      else { s with fmy := { s.fmy with storeRequested := true } }.replying
        ⟨0x0A, tag, []⟩ .accepted [])) ∧
  (∀ (s : State) (tag a i : Byte) (r : List Byte) (w : Tables), Ready ⟨0x08, tag, a :: i :: r⟩ s →
    s.mode ≠ .startup → lengthAllowed 0x08 (r.length + 2) = true →
    (s.mode ≠ .setup → exec (.writeTable tag (a :: i :: r)) s =
      .next (s.replying ⟨0x08, tag, a :: i :: r⟩ .refusedMode [])) ∧
    (s.mode = .setup → s.written = some w → exec (.writeTable tag (a :: i :: r)) s = .next (
      match w.write a.toNat i.toNat r with
      | some w' => { s with written := some w' }.replying ⟨0x08, tag, a :: i :: r⟩ .ok []
      | none => s.replying ⟨0x08, tag, a :: i :: r⟩ .refusedArg [])))

/-- R212, R213 and the layouts of 11.3: a record that WRITE_TABLE takes passes the field checks of its table,
reads back byte for byte, and no other record changes. The field checks are those of R20, R22, R42, R64, R84,
R132, R213 and the lamp record: ranges, strictly rising thresholds and points, dial positions within Pmax, lines
that are not PULSE, what a function or a missing lamp wants zero. Which fields of an OFF and a PULSE line record
and of a channel or door term stand unchecked is the model's reading (assumptions 12 and 13). -/
def Obligations.WrittenRecordReadsBack : Prop :=
  (∀ (t w : Tables) (a i : Nat) (r : List Byte), t.write a i r = some w →
    namesRecord a i = true ∧ r.length = recordSize a ∧ w.recordBytes a i = r ∧
    w.recordOk a i = true ∧
    ∀ b j, namesRecord b j = true → (b, j) ≠ (a, i) → w.recordBytes b j = t.recordBytes b j) ∧
  ∀ w : Tables,
    (w.recordOk 0 0 = true ↔
      w.general.releaseSpeed ≤ 200 ∧ 1 ≤ w.general.withdrawSpeed ∧ w.general.withdrawSpeed ≤ 400 ∧
      w.general.releaseSpeed ≤ w.general.withdrawSpeed ∧
      100 ≤ w.general.inconsistency ∧ w.general.inconsistency ≤ 2000 ∧
      w.general.inconsistency % 100 = 0 ∧
      1 ≤ w.general.agingLimit ∧ w.general.agingLimit ≤ 100 ∧
      100 ≤ w.general.hostSilence ∧ w.general.hostSilence ≤ 2000 ∧ w.general.lampCheck ≤ 5000) ∧
    (∀ (n : Fin 32) (c : LineCfg), c = w.lines[n] → (w.recordOk 1 n.val = true ↔
      (c.fn = .off → c.bias = .unbiased ∧ c.w1 = 0 ∧ c.w2 = 0 ∧ c.w3 = 0 ∧ c.w4 = 0 ∧ c.w5 = 0 ∧
        (∀ x ∈ [c.b0, c.b1, c.b2, c.b3, c.b4, c.b5], x.code = 0) ∧ c.debounce = 0 ∧
        c.qualify = 0 ∧ c.heal = 0 ∧ c.suppressed = false ∧ c.unitC1 = false ∧
        c.falling = false) ∧
      (c.fn = .switchGnd → c.bias = .pullUp) ∧ (c.fn = .switchBat → c.bias = .pullDown) ∧
      (c.fn = .pulse → c.w1 < c.w2 ∧ c.w2 ≤ 10000 ∧ c.w3 = 0 ∧ c.w4 = 0 ∧ c.w5 = 0 ∧
        (∀ x ∈ [c.b0, c.b1, c.b2, c.b3, c.b4, c.b5], x.code = 0) ∧ c.qualify = 0 ∧ c.heal = 0 ∧
        c.suppressed = false) ∧
      (c.fn ≠ .off → c.fn ≠ .pulse → c.w1 < c.w2 ∧ c.w2 < c.w3 ∧ c.w3 < c.w4 ∧ c.w4 < c.w5 ∧
        c.w5 ≤ (if c.fn = .analogVolt then 40000 else 10000) ∧
        1 ≤ c.debounce ∧ c.debounce ≤ 32 ∧ 20 ≤ c.qualify ∧ c.qualify ≤ 2000 ∧
        20 ≤ c.heal ∧ c.heal ≤ 5000))) ∧
    (w.recordOk 2 0 = true ↔
      (∀ (r : Role) (n : Fin 32), w.roles.of r = some n → (w.lines[n]).fn ≠ .pulse) ∧
      ∀ (q r : Role) (n : Fin 32), w.roles.of q = some n → w.roles.of r = some n → q = r) ∧
    (∀ (k : Fin 6) (c : ChannelCfg), c = w.channels[k] → (w.recordOk 3 k.val = true ↔
      (c.source ≠ .unused → c.emin < c.emax ∧ c.shift ≤ 7) ∧
      (c.source = .line → c.input < 32) ∧
      (c.source = .pulse → c.emin ≤ 0 ∧ 0 < c.emax ∧ c.input < 2 ∧ 1 ≤ c.k ∧ 50 ≤ c.pMin ∧
        c.pMin ≤ 5000 ∧ 500 ≤ c.standstill ∧ c.standstill ≤ 4000) ∧
      (c.source = .host → 100 ≤ c.feedTimeout ∧ c.feedTimeout ≤ 2000) ∧
      240 ≤ c.pmax ∧ c.pmax ≤ 3840 ∧ 1 ≤ c.smax ∧ c.smax ≤ 24 ∧
      ∀ q ∈ w.dials[k], q.2 ≤ (c.pmax : Int))) ∧
    (∀ k : Fin 6, w.recordOk 4 k.val = true ↔ (w.sensors[k]).Pairwise fun a b => a.1 < b.1) ∧
    (∀ k : Fin 6, w.recordOk 5 k.val = true ↔ ((w.dials[k]).Pairwise fun a b => a.1 < b.1) ∧
      ∀ q ∈ w.dials[k], q.2 ≤ ((w.channels[k]).pmax : Int)) ∧
    (∀ (m : Fin 64) (c : RuleCfg), c = w.rules[m] → (w.recordOk 6 m.val = true ↔
      c.priority ≤ 15 ∧ (c.lamp = none → c.lampNew = .off ∧ c.lampAcked = .off) ∧
      ∀ x, c.slot0 = some x ∨ c.slot1 = some x ∨ c.slot2 = some x →
        (match x with
          | .line n _ => (w.lines[n]).fn ≠ .pulse
          | .value _ _ _ _ h => h ≤ 1000
          | .door d test _ flag => (test ≠ .interlock → 1 ≤ d ∧ d ≤ 4) ∧ (test = .flag → flag ≤ 3)
          | .rule _ | .fault _ | .supply _ => True))) ∧
    (∀ n : Fin 24, w.recordOk 7 n.val = true ↔ (w.lamps[n]).fallback ≠ some n) ∧
    (∀ (d : Fin 4) (c : DoorCfg), c = w.doors[d] → (w.recordOk 8 d.val = true ↔
      (c.configured = true → c.closed ≠ none ∧ c.emergency ≠ none ∧
        (∀ (j k : DoorSlot) (n : Fin 32), c.line j = some n → c.line k = some n → j = k) ∧
        (∀ (k : DoorSlot) (n : Fin 32), c.line k = some n → (w.lines[n]).fn ≠ .pulse) ∧
        500 ≤ c.openTimeout ∧ c.openTimeout ≤ 30000 ∧ c.openTimeout % 100 = 0 ∧
        500 ≤ c.closeTimeout ∧ c.closeTimeout ≤ 30000 ∧ c.closeTimeout % 100 = 0 ∧
        100 ≤ c.lockTimeout ∧ c.lockTimeout ≤ 10000 ∧ c.lockTimeout % 100 = 0) ∧
      (c.configured = false → (∀ k, c.line k = none) ∧ c.inMask = false ∧
        c.openTimeout = 5000 ∧ c.closeTimeout = 8000 ∧ c.lockTimeout = 2000)))

/-- R215: the image that a store makes of tables built of written records loads as those tables, if they
pass the checks that the load makes. -/
def Obligations.StoredImageLoads : Prop :=
  ∀ t : Tables, (∀ q ∈ recordNames, t.setRecord q.1 q.2 (t.recordBytes q.1 q.2) = some t ∧
      t.recordOk q.1 q.2 = true) → t.crossOk = true →
    tablesOfImage (.bytes t.image) = some t

/-! ### Requests to the blocks -/

/-- R52: FEED_VALUE hands a HOST channel a signed value and restarts its feed timer; a channel that is not a
HOST channel is refused. -/
def Obligations.FeedValueFeedsHostChannels : Prop :=
  ∀ (s : State) (tag a hi lo : Byte), Ready ⟨0x14, tag, [a, hi, lo]⟩ s →
    (s.mode = .startup → exec (.feedValue tag [a, hi, lo]) s =
      .next (s.replying ⟨0x14, tag, [a, hi, lo]⟩ .refusedMode [])) ∧
    (∀ k : Fin 6, s.mode ≠ .startup → a.toNat = k.val → (s.channelCfg k).source = .host →
      ∃ t, exec (.feedValue tag [a, hi, lo]) s = .next t ∧
        t.channel k = { s.channel k with
          fed := some (hi ++ lo).toInt, newFeed := true, feedTimer := .running s.now,
          expiries := 0 } ∧
        (∀ j, j ≠ k → t.channel j = s.channel j) ∧ t.gve.units = s.gve.units ∧
        t.lif = { s.lif with tx := some ((⟨0x14, tag, [a, hi, lo]⟩ : Frame).reply .ok []) } ∧
        OnlyChanges [.gve, .link] s t) ∧
    (s.mode ≠ .startup → (∀ k : Fin 6, a.toNat = k.val → (s.channelCfg k).source ≠ .host) →
      exec (.feedValue tag [a, hi, lo]) s =
        .next (s.replying ⟨0x14, tag, [a, hi, lo]⟩ .refusedArg []))

/-- R74: SWEEP is refused by mode, mask, a sweep in flight and a needle that is homing, in this order, and
otherwise puts every named needle that is not FORCED on its leg UP. -/
def Obligations.SweepStartsOrIsRefused : Prop :=
  ∀ (s : State) (tag mask : Byte), Ready ⟨0x16, tag, [mask]⟩ s →
    (s.mode.isRunning = false →
      exec (.sweep tag [mask]) s = .next (s.replying ⟨0x16, tag, [mask]⟩ .refusedMode [])) ∧
    (s.mode.isRunning = true → mask = 0 ∨ 64 ≤ mask.toNat →
      exec (.sweep tag [mask]) s = .next (s.replying ⟨0x16, tag, [mask]⟩ .refusedArg [])) ∧
    (s.mode.isRunning = true → mask ≠ 0 → mask.toNat < 64 →
      s.ndr.sweep = true ∨
        (∃ k : Fin 6, mask.getLsbD k.val = true ∧ (s.needle k).effective.isHoming = true) →
      exec (.sweep tag [mask]) s = .next (s.replying ⟨0x16, tag, [mask]⟩ .busy [])) ∧
    (s.mode.isRunning = true → mask ≠ 0 → mask.toNat < 64 → s.ndr.sweep = false →
      (∀ k : Fin 6, mask.getLsbD k.val = true → (s.needle k).effective.isHoming = false) →
      ∃ t, exec (.sweep tag [mask]) s = .next t ∧
        (∀ k : Fin 6, t.needle k =
          if mask.getLsbD k.val = true ∧ (s.needle k).effective ≠ .forced
          then (s.needle k).become .sweepUp else s.needle k) ∧
        (t.ndr.sweep = true ↔ ∃ k, (t.needle k).effective.isSweeping = true) ∧
        t.lif.attention = (if t.ndr.sweep then s.lif.attention
          else s.lif.attention.raise .opdone) ∧
        t.lif.link = { s.lif.link with
          tx := some ((⟨0x16, tag, [mask]⟩ : Frame).reply .accepted []) } ∧
        OnlyChanges [.ndr, .attention, .link] s t)

/-- R104, R118: ACKNOWLEDGE of a rule by its index, taken in ACTIVE_NEW and (with a latch) in LATCHED_NEW
and DENIED in every other state; TOP names the top of the internal list. -/
def Obligations.AcknowledgeIsTakenOrDenied : Prop :=
  ∀ (s : State) (tag x : Byte), Ready ⟨0x1A, tag, [x]⟩ s →
    (s.mode = .startup →
      exec (.acknowledge tag [x]) s = .next (s.replying ⟨0x1A, tag, [x]⟩ .refusedMode [])) ∧
    (∀ m : Fin 64, s.mode ≠ .startup → x.toNat = m.val ∨ (x = 0xFF ∧ s.topRule = some m) →
      (s.rule m).st = .activeNew ∨
        ((s.rule m).st = .latchedNew ∧ (s.ruleCfg m).latch ≠ .unlatched) →
      ∃ t, exec (.acknowledge tag [x]) s = .next t ∧
        t.rule m = (match (s.rule m).st, (s.ruleCfg m).latch with
          | .activeNew, _ => { s.rule m with st := .activeAck, reminder := 0 }
          | _, .untilIgnition => { s.rule m with st := .latchedAck }
          | _, _ => { (s.rule m).toOff with mark := false }) ∧
        (∀ j, j ≠ m → t.rule j = s.rule j) ∧ t.wev.seq = s.wev.seq ∧
        ((s.ruleCfg m).popup = true → listed t.pru.list m = false) ∧
        t.lif.attention.warn = true ∧
        t.lif.link = { s.lif.link with
          tx := some ((⟨0x1A, tag, [x]⟩ : Frame).reply .ok [BitVec.ofNat 8 m.val]) } ∧
        OnlyChanges [.wev, .pru, .fmy, .cursor, .attention, .link] s t) ∧
    (∀ m : Fin 64, s.mode ≠ .startup → (s.rule m).st ≠ .activeNew →
      (s.rule m).st ≠ .latchedNew ∨ (s.ruleCfg m).latch = .unlatched →
      (x.toNat = m.val →
        exec (.acknowledge tag [x]) s = .next (s.replying ⟨0x1A, tag, [x]⟩ .denied [])) ∧
      (x = 0xFF → s.topRule = some m → exec (.acknowledge tag [x]) s =
        .next (s.replying ⟨0x1A, tag, [x]⟩ .ok [BitVec.ofNat 8 m.val]))) ∧
    (s.mode ≠ .startup → x = 0xFF → s.pru.list = [] →
      exec (.acknowledge tag [x]) s = .next (s.replying ⟨0x1A, tag, [x]⟩ .denied [])) ∧
    (s.mode ≠ .startup → 64 ≤ x.toNat → x ≠ 0xFF →
      exec (.acknowledge tag [x]) s = .next (s.replying ⟨0x1A, tag, [x]⟩ .refusedArg []))

/-- R145, R148, R149: RELEASE_DOORS is refused by mask, mode, STANDING, speed and EMERGENCY; otherwise
every set of the mask holds a grant, a new one with its output energised, and the interlock is HELD.
R147: WITHDRAW_RELEASE takes the grants of its mask away, and the interlock conditions are evaluated
again. -/
def Obligations.ReleaseIsGrantedAndWithdrawn : Prop :=
  (∀ (s : State) (tag mask : Byte), Ready ⟨0x1D, tag, [mask]⟩ s →
    (s.mode = .startup →
      exec (.releaseDoors tag [mask]) s = .next (s.replying ⟨0x1D, tag, [mask]⟩ .refusedMode [])) ∧
    (s.mode ≠ .startup → ¬ s.NamesDoorSets mask →
      exec (.releaseDoors tag [mask]) s = .next (s.replying ⟨0x1D, tag, [mask]⟩ .refusedArg [])) ∧
    (s.mode ≠ .startup → s.NamesDoorSets mask → s.mode.isRunning = false →
      exec (.releaseDoors tag [mask]) s = .next (s.replying ⟨0x1D, tag, [mask]⟩ .refusedMode [])) ∧
    (s.NamesDoorSets mask → s.mode.isRunning = true →
      s.standing = false ∨ s.aboveWithdraw = true ∨
        (∃ d : Fin 4, mask.getLsbD d.val = true ∧ (s.door d).st = .emergency) →
      exec (.releaseDoors tag [mask]) s = .next (s.replying ⟨0x1D, tag, [mask]⟩ .denied [])) ∧
    (s.NamesDoorSets mask → s.mode.isRunning = true → s.standing = true →
      s.aboveWithdraw = false →
      (∀ d : Fin 4, mask.getLsbD d.val = true → (s.door d).st ≠ .emergency) →
      ∃ t, exec (.releaseDoors tag [mask]) s = .next t ∧
        (∀ d : Fin 4, t.door d =
          if mask.getLsbD d.val = true ∧ (s.door d).grant = false
          then { s.door d with grant := true, output := true } else s.door d) ∧
        ((∃ d : Fin 4, mask.getLsbD d.val = true ∧ (s.door d).grant = false) →
          t.lif.attention.door = true ∧
          t.dmn.interlock = match s.dmn.interlock with
            | .delay | .free => .held
            | x => x) ∧
        t.lif.link = { s.lif.link with
          tx := some ((⟨0x1D, tag, [mask]⟩ : Frame).reply .ok []) } ∧
        OnlyChanges [.dmn, .attention, .link] s t)) ∧
  (∀ (s : State) (tag mask : Byte), Ready ⟨0x1E, tag, [mask]⟩ s →
    (s.mode = .startup → exec (.withdrawRelease tag [mask]) s =
      .next (s.replying ⟨0x1E, tag, [mask]⟩ .refusedMode [])) ∧
    (s.mode ≠ .startup → ¬ s.NamesDoorSets mask →
      exec (.withdrawRelease tag [mask]) s =
        .next (s.replying ⟨0x1E, tag, [mask]⟩ .refusedArg [])) ∧
    (s.mode ≠ .startup → s.NamesDoorSets mask →
      ∃ t, exec (.withdrawRelease tag [mask]) s = .next t ∧
        (∀ d : Fin 4, t.door d =
          if mask.getLsbD d.val = true ∧ (s.door d).grant = true
          then { s.door d with grant := false, output := false } else s.door d) ∧
        ((∃ d : Fin 4, mask.getLsbD d.val = true ∧ (s.door d).grant = true) →
          t.lif.attention.door = true ∧
          (s.dmn.interlock = .held →
            t.dmn.interlock = (if t.anyCondition then .held else .delay))) ∧
        t.lif.link = { s.lif.link with
          tx := some ((⟨0x1E, tag, [mask]⟩ : Frame).reply .ok []) } ∧
        OnlyChanges [.dmn, .attention, .link] s t))

/-- R185 to R187: the readout of the fault table: four entries from the cursor on, which moves past them
or back to 0, the cursor set to a position of the table, and the detail of a code of the code space. The
wire form of a fault code names that code and no other (8.1). -/
def Obligations.FaultsAreReadOut : Prop :=
  ((∀ (s : State) (tag : Byte), Ready ⟨0x20, tag, []⟩ s → s.mode.isTimed = true →
    s.wsv.cursor ≤ s.fmy.table.length →
    ∃ t n c, exec (.readFaults tag []) s = .next t ∧
      n = min 4 (s.fmy.table.length - s.wsv.cursor) ∧
      c = (if s.wsv.cursor + n = s.fmy.table.length then 0 else s.wsv.cursor + n) ∧
      t.wsv = { s.wsv with cursor := c } ∧
      t.lif = { s.lif with tx := some ((⟨0x20, tag, []⟩ : Frame).reply .ok
        (u8 s.fmy.table.length ++ u8 c ++ u8 (if s.wsv.cursor + n = s.fmy.table.length then 1 else 0)
          ++ u8 n ++ (((s.fmy.table.drop s.wsv.cursor).take n).zipIdx s.wsv.cursor).flatMap
            fun q => FaultEntry.bytes q.2 q.1)) } ∧
      OnlyChanges [.cursor, .link] s t) ∧
  (∀ (s : State) (tag x : Byte), Ready ⟨0x21, tag, [x]⟩ s → s.mode.isTimed = true →
    exec (.setFaultCursor tag [x]) s = .next (
      if x.toNat ≤ s.fmy.table.length then
        { s with wsv := { s.wsv with cursor := x.toNat } }.replying ⟨0x21, tag, [x]⟩ .ok
          (u8 s.fmy.table.length)
      else s.replying ⟨0x21, tag, [x]⟩ .refusedArg [])) ∧
  (∀ (s : State) (tag a i y : Byte), Ready ⟨0x22, tag, [a, i, y]⟩ s → s.mode.isTimed = true →
    exec (.readFaultDetail tag [a, i, y]) s = .next (
      match FaultCode.ofWire a.toNat i.toNat y.toNat with
      | some code => s.replying ⟨0x22, tag, [a, i, y]⟩ .ok (s.fmy.detailItems code)
      | none => s.replying ⟨0x22, tag, [a, i, y]⟩ .refusedArg []))) ∧
  ((∀ c : FaultCode, FaultCode.ofWire c.sourceClass.code c.index c.symptom = some c) ∧
  ∀ (a i y : Nat) (c : FaultCode), FaultCode.ofWire a i y = some c →
    a = c.sourceClass.code ∧ i = c.index ∧ y = c.symptom)

/-! ### WORKSHOP -/

/-- R178, R181, R182: the three forcing requests in WORKSHOP create a record with its time running anew, and
the lamp, the needle and the sounder follow it; a field out of its range is refused. The lamp shows the
record once no freeze (R124) and no lamp check holds its published level. A SUSPENDED needle takes FORCED
as its resume state whatever it was (R77, R181); that a suspended homing is then over with its count
cleared is the model's reading (assumption 23). -/
def Obligations.ForcingCreatesRecords : Prop :=
  (∀ (s : State) (tag a x hi lo : Byte), Ready ⟨0x70, tag, [a, x, hi, lo]⟩ s → s.mode = .workshop →
    (∀ (n : Fin 24) (l : Level), a.toNat = n.val → x.toNat = l.code →
      100 ≤ (hi ++ lo).toNat → (hi ++ lo).toNat ≤ 30000 → (hi ++ lo).toNat % 100 = 0 →
      ∃ t, exec (.forceLamp tag [a, x, hi, lo]) s = .next t ∧
        t.wsv = { s.wsv with
          lamps := s.wsv.lamps.set n (some ⟨l, (hi ++ lo).toNat, .running s.now⟩) } ∧
        t.lif = { s.lif with tx := some ((⟨0x70, tag, [a, x, hi, lo]⟩ : Frame).reply .ok []) } ∧
        (s.lampsFrozen = true → (t.lamp n).published = (s.lamp n).published) ∧
        (s.lampsFrozen = false → (t.lamp n).published =
          if s.pru.lampCheck.isRunning = true ∧ (s.lampCfg n).participates = true then .on
          else l.max (s.criticalDemand n)) ∧
        OnlyChanges [.pru, .forcing, .link] s t) ∧
    (24 ≤ a.toNat ∨ 4 ≤ x.toNat ∨ (hi ++ lo).toNat < 100 ∨ 30000 < (hi ++ lo).toNat ∨
        (hi ++ lo).toNat % 100 ≠ 0 →
      exec (.forceLamp tag [a, x, hi, lo]) s =
        .next (s.replying ⟨0x70, tag, [a, x, hi, lo]⟩ .refusedArg []))) ∧
  (∀ (s : State) (tag a hi lo : Byte), Ready ⟨0x71, tag, [a, hi, lo]⟩ s → s.mode = .workshop →
    (∀ k : Fin 6, a.toNat = k.val → (hi ++ lo).toNat ≤ (s.channelCfg k).pmax →
      ∃ t, exec (.forceNeedle tag [a, hi, lo]) s = .next t ∧
        t.wsv = { s.wsv with needles := s.wsv.needles.set k (some (hi ++ lo).toNat) } ∧
        t.needle k = (match (s.needle k).st with
          | .tracking | .sweepUp | .sweepReturn => { s.needle k with st := .forced }
          | .suspended => { s.needle k with resume := some .forced, count := 0 }
          | _ => s.needle k) ∧
        (∀ j, j ≠ k → t.needle j = s.needle j) ∧
        t.lif.tx = some ((⟨0x71, tag, [a, hi, lo]⟩ : Frame).reply .ok []) ∧
        t.lif.link = { s.lif.link with tx := t.lif.tx } ∧
        OnlyChanges [.ndr, .forcing, .attention, .link] s t) ∧
    (6 ≤ a.toNat ∨ (∃ k : Fin 6, a.toNat = k.val ∧ (s.channelCfg k).pmax < (hi ++ lo).toNat) →
      exec (.forceNeedle tag [a, hi, lo]) s =
        .next (s.replying ⟨0x71, tag, [a, hi, lo]⟩ .refusedArg []))) ∧
  (∀ (s : State) (tag x hi lo : Byte), Ready ⟨0x72, tag, [x, hi, lo]⟩ s → s.mode = .workshop →
    (∀ p : Pattern, x.toNat = patternCode (some p) →
      100 ≤ (hi ++ lo).toNat → (hi ++ lo).toNat ≤ 10000 → (hi ++ lo).toNat % 100 = 0 →
      ∃ t, exec (.forceChime tag [x, hi, lo]) s = .next t ∧
        t.wsv = { s.wsv with chime := some ⟨p, (hi ++ lo).toNat, .running s.now⟩ } ∧
        t.pru = { s.pru with winner := none, tone := true, patternStart := s.now } ∧
        t.pattern = some p ∧
        t.lif = { s.lif with tx := some ((⟨0x72, tag, [x, hi, lo]⟩ : Frame).reply .ok []) } ∧
        OnlyChanges [.pru, .forcing, .link] s t) ∧
    (x = 0 ∨ 5 ≤ x.toNat ∨ (hi ++ lo).toNat < 100 ∨ 10000 < (hi ++ lo).toNat ∨
        (hi ++ lo).toNat % 100 ≠ 0 →
      exec (.forceChime tag [x, hi, lo]) s =
        .next (s.replying ⟨0x72, tag, [x, hi, lo]⟩ .refusedArg [])))

/-- R178, R182, R183: forcing ends by END_FORCING, which counts the records that it ended, and by the time
of a lamp's and the chime's record.
The moments are the model's (assumption 2). -/
def Obligations.ForcingEnds : Prop :=
  (∀ (s : State) (tag : Byte), Ready ⟨0x73, tag, [0]⟩ s → s.mode = .workshop →
    ∃ t, exec (.endForcing tag [0]) s = .next t ∧ t.wsv.records = 0 ∧
      t.lif = { s.lif with
        tx := some ((⟨0x73, tag, [0]⟩ : Frame).reply .ok [BitVec.ofNat 8 s.wsv.records]) } ∧
      OnlyChanges [.ndr, .pru, .forcing, .link] s t) ∧
  (∀ (s : State) (tag x : Byte) (n : Fin 24), Ready ⟨0x73, tag, [x]⟩ s → s.mode = .workshop →
    x.toNat = 0x20 + n.val →
    ∃ t, exec (.endForcing tag [x]) s = .next t ∧
      t.wsv = { s.wsv with lamps := s.wsv.lamps.set n none } ∧
      t.lif = { s.lif with tx := some ((⟨0x73, tag, [x]⟩ : Frame).reply .ok
        [if (s.wsv.lamps[n]).isSome then 1 else 0]) } ∧
      OnlyChanges [.pru, .forcing, .link] s t) ∧
  (∀ (s : State) (tag x : Byte) (k : Fin 6), Ready ⟨0x73, tag, [x]⟩ s → s.mode = .workshop →
    x.toNat = 0x40 + k.val →
    ∃ t, exec (.endForcing tag [x]) s = .next t ∧
      t.wsv = { s.wsv with needles := s.wsv.needles.set k none } ∧
      ((s.wsv.needles[k]).isSome = true → t.needle k =
        if (s.needle k).effective = .forced then (s.needle k).become .tracking
        else s.needle k) ∧
      (∀ j, j ≠ k → t.needle j = s.needle j) ∧
      t.lif = { s.lif with tx := some ((⟨0x73, tag, [x]⟩ : Frame).reply .ok
        [if (s.wsv.needles[k]).isSome then 1 else 0]) } ∧
      OnlyChanges [.ndr, .forcing, .link] s t) ∧
  (∀ (s : State) (tag : Byte), Ready ⟨0x73, tag, [0x60]⟩ s → s.mode = .workshop →
    ∃ t, exec (.endForcing tag [0x60]) s = .next t ∧
      t.wsv = { s.wsv with chime := none } ∧
      t.lif = { s.lif with tx := some ((⟨0x73, tag, [0x60]⟩ : Frame).reply .ok
        [if s.wsv.chime.isSome then 1 else 0]) } ∧
      OnlyChanges [.pru, .forcing, .link] s t) ∧
  (∀ (s : State) (tag x : Byte), Ready ⟨0x73, tag, [x]⟩ s → s.mode = .workshop → x ≠ 0 →
    x ≠ 0x60 → ¬ (0x20 ≤ x.toNat ∧ x.toNat < 0x38) → ¬ (0x40 ≤ x.toNat ∧ x.toNat < 0x46) →
    exec (.endForcing tag [x]) s = .next (s.replying ⟨0x73, tag, [x]⟩ .refusedArg [])) ∧
  (∀ (s : State) (n : Fin 24) (r : LampForce) (since : Int), s.heldInReset = false →
    s.wsv.lamps[n] = some r → r.timer = .running since →
    ∃ t, exec (.lampForcingExpiry n) s = .next t ∧
      t.now = max s.now (since + 1000 * r.duration).toNat ∧
      t.wsv = { s.wsv with lamps := s.wsv.lamps.set n none } ∧
      OnlyChanges [.now, .pru, .forcing] s t) ∧
  (∀ (s : State) (r : ChimeForce) (since : Int), s.heldInReset = false →
    s.wsv.chime = some r → r.timer = .running since →
    ∃ t, exec .chimeForcingExpiry s = .next t ∧
      t.now = max s.now (since + 1000 * r.duration).toNat ∧
      t.wsv = { s.wsv with chime := none } ∧ t.pru.winner = t.dueWinner ∧
      (t.pru.winner = none → t.pru.tone = false) ∧
      OnlyChanges [.now, .pru, .forcing] s t)

/-- R188: CLEAR_FAULTS removes the entries of the classes of its mask and waits for the erasure of their
slots; with none it is done at once; an empty mask is refused and a clear in flight is BUSY. R173, R189:
RESET_COUNTER replies with a counter's value, sets it to 0 and makes the save due; the ignition cycles,
the operating minutes and the places above 11 are refused. -/
def Obligations.FaultsAndCountersAreCleared : Prop :=
  (∀ (s : State) (tag hi lo : Byte), Ready ⟨0x74, tag, [hi, lo]⟩ s → s.mode = .workshop →
    (lo = 0 ∨ hi ≠ 0 →
      exec (.clearFaults tag [hi, lo]) s =
        .next (s.replying ⟨0x74, tag, [hi, lo]⟩ .refusedArg [])) ∧
    (lo ≠ 0 → hi = 0 → s.fmy.clear.isSome = true →
      exec (.clearFaults tag [hi, lo]) s = .next (s.replying ⟨0x74, tag, [hi, lo]⟩ .busy [])) ∧
    (lo ≠ 0 → hi = 0 → s.fmy.clear = none →
      ∃ t, exec (.clearFaults tag [hi, lo]) s = .next t ∧
        t.fmy.table = s.fmy.table.filter (fun e => !lo.getLsbD e.code.sourceClass.code) ∧
        t.fmy.clear = (match (s.fmy.table.filter fun e => lo.getLsbD e.code.sourceClass.code).map
            (·.slot) with
          | [] => none
          | l => some l) ∧
        (∀ e ∈ s.fmy.table, lo.getLsbD e.code.sourceClass.code = true →
          (e.slot ∈ t.fmy.writes ∨ (t.fmy.write.slotNo = some e.slot ∧ t.fmy.reappend = true)) ∧
          ((s.fmy.table.map (·.slot)).Nodup → t.fmy.formers[e.slot] = some e.code)) ∧
        t.wsv.cursor = s.wsv.cursor -
          ((s.fmy.table.take s.wsv.cursor).filter fun e =>
            lo.getLsbD e.code.sourceClass.code).length ∧
        (t.fmy.clear = none → t.lif.attention.opdone = true) ∧
        t.lif.link = { s.lif.link with
          tx := some ((⟨0x74, tag, [hi, lo]⟩ : Frame).reply .accepted []) } ∧
        OnlyChanges [.fmy, .cursor, .attention, .link] s t)) ∧
  (∀ (s : State) (tag x : Byte), Ready ⟨0x75, tag, [x]⟩ s → s.mode = .workshop →
    (∀ c : Fin 12, x.toNat = c.val → c ≠ ignitionPlace → c ≠ minutePlace →
      exec (.resetCounter tag [x]) s = .next ({ s with fmy := { s.fmy with
        counters := s.fmy.counters.set c 0, counterDue := true } }.replying ⟨0x75, tag, [x]⟩ .ok
          (u32 (s.counter c)))) ∧
    (x = 9 ∨ x = 10 ∨ 12 ≤ x.toNat →
      exec (.resetCounter tag [x]) s = .next (s.replying ⟨0x75, tag, [x]⟩ .refusedArg [])))

/-! ### Sense lines -/

/-- R23 to R27, R29 to R34: a scan sample of a classified line, with VB measured: the measured and
usable value, the candidate and its count, the accepted class, and the fault status that walks at an
acceptance with the reported symptom, the summary flag, attention cause LINE and the reports that it makes;
a line that no door set and no role names, or whose logical value stays, changes nothing else (what a
changed value does to its consumers is stated in `LineChangesReachTheirConsumers`). R20, R35, R37, R38: in STARTUP a sample is measured only, in CRANK it is discarded, and a
line that is not scanned has none; the ratio without a VB measurement is free (assumption 5). The moments
are the model's (assumption 2). -/
def Obligations.LineSamplesAreDebounced : Prop :=
  (∀ (s : State) (n : Fin 32) (mv vb : Nat), s.heldInReset = false → s.mode ≠ .startup →
    s.mode ≠ .sleep → s.supply ≠ .crank → (s.lineCfg n).fn.classified = true →
    s.mctl.vb = some vb → 0 < vb →
    ∃ t m k, exec (.lineSample n mv) s = .next t ∧
      m = (min mv 40000, min ((min mv 40000 * 10000 + vb / 2) / vb) 10000) ∧
      k = (s.lineCfg n).classAt (if (s.lineCfg n).fn = .analogVolt then m.1 else m.2) ∧
      t.now = max s.now s.sched.lines[n] ∧
      (t.line n).measured = some m ∧
      (t.line n).usable = (if k.isFault then (s.line n).usable else some m) ∧
      (t.line n).candidate = some k ∧
      (t.line n).count = (if (s.line n).candidate = some k
        then min ((s.line n).count + 1) (s.lineCfg n).debounce else 1) ∧
      (t.line n).accepted = (if (s.lineCfg n).debounce ≤ (t.line n).count then some k
        else (s.line n).accepted) ∧
      (t.line n).comparator = (s.line n).comparator ∧
      (t.line n).status = (if (t.line n).accepted = (s.line n).accepted then (s.line n).status
        else match (s.line n).status, k.isFault with
          | .clear, true => .pending
          | .pending, false => .clear
          | .confirmed, false => .healing
          | .healing, true => .confirmed
          | x, _ => x) ∧
      (t.line n).timer = (if (t.line n).status = (s.line n).status then
          (if (t.line n).accepted ≠ (s.line n).accepted ∧ (s.line n).status = .confirmed ∧
              (s.line n).symptom ≠ (t.line n).symptom then .stopped else (s.line n).timer)
        else match (t.line n).status with
          | .pending | .healing =>
            if s.supply = .high then .paused 0 else .running (t.now : Int)
          | _ => .stopped) ∧
      (∀ j, j ≠ n → t.line j = s.line j) ∧
      t.hlm.detail = s.hlm.detail ∧ t.hlm.summaryNo = s.hlm.summaryNo ∧
      ((t.line n).accepted ≠ (s.line n).accepted →
        (t.line n).symptom = (match (s.line n).status, k.symptom with
          | .clear, none | .pending, none =>
            if (s.line n).symptom = .any then .nothing else (s.line n).symptom
          | .confirmed, some y | .healing, some y => .sym y
          | _, _ => (s.line n).symptom) ∧
        (t.line n).flag = ((s.line n).flag || (match (s.line n).status, k.symptom with
          | .clear, some _ | .healing, some _ => true
          | .confirmed, some y => (s.line n).symptom != .sym y
          | _, _ => false)) ∧
        t.lif.attention.line = (s.lif.attention.line || (match (s.line n).status, k.symptom with
          | .pending, none | .healing, some _ => true
          | .confirmed, some y => (s.line n).symptom != .sym y
          | _, _ => false)) ∧
        ((t.logical n = s.logical n ∨ (s.NoDoorNames n ∧ s.RolesAmong n [])) →
          t.fmy = (match (s.line n).status, k.symptom with
            | .clear, none | .pending, none =>
              if (s.line n).symptom = RepSym.any then s.reportAllCleared (lineSyms.map (.line n)) else s
            | .confirmed, some y | .healing, some y =>
              if (s.line n).symptom = RepSym.sym y then s
              else (match (s.line n).symptom with
                | .any => s.reportAllCleared ((lineSyms.filter (· ≠ y)).map (.line n))
                | .sym x => s.reportCleared (.line n x)
                | .nothing => s).reportActive (.line n y)
            | _, _ => s).fmy ∧
          OnlyChanges [.now, .sched, .hlm, .fmy, .cursor, .attention] s t)) ∧
      ((t.line n).accepted = (s.line n).accepted →
        (t.line n).symptom = (s.line n).symptom ∧ (t.line n).flag = (s.line n).flag ∧
        OnlyChanges [.now, .sched, .hlm] s t) ∧
      OnlyChanges [.now, .sched, .mctl, .hlm, .ndr, .wev, .pru, .dmn, .fmy, .cursor, .forcing,
        .attention] s t) ∧
  (∀ (s : State) (n : Fin 32) (mv : Nat), s.heldInReset = false →
    (s.mode = .startup → s.supply ≠ .crank →
      ∃ t r, exec (.lineSample n mv) s = .next t ∧ r ≤ 10000 ∧
        (∀ vb, s.mctl.vb = some vb → 0 < vb →
          r = min ((min mv 40000 * 10000 + vb / 2) / vb) 10000) ∧
        t.line n = { s.line n with measured := some (min mv 40000, r) } ∧
        (∀ j, j ≠ n → t.line j = s.line j) ∧ OnlyChanges [.now, .free, .sched, .hlm] s t) ∧
    (s.supply = .crank → ∃ t, exec (.lineSample n mv) s = .next t ∧
      OnlyChanges [.now, .sched] s t) ∧
    (s.mode ≠ .startup → s.mode = .sleep ∨ (s.lineCfg n).fn.classified = false →
      exec (.lineSample n mv) s = .next s))

/-- R30, R31: the fault timer confirms a PENDING line with the symptom of its accepted class, and ends the
healing of a HEALING one with CLEARED for its symptom; both set attention cause LINE (R34).
The moments are the model's (assumption 2). -/
def Obligations.LineFaultsAreConfirmedAndHealed : Prop :=
  (∀ (s : State) (n : Fin 32) (y : LineSym) (since : Int), s.heldInReset = false →
    (s.line n).status = .pending → (s.line n).timer = .running since →
    (s.line n).acceptedSym = some y →
    ∃ t, exec (.qualifyTimerExpiry n) s = .next t ∧
      t.now = max s.now (since + 1000 * (s.lineCfg n).qualify).toNat ∧
      t.line n = { s.line n with
        status := .confirmed, timer := .stopped, symptom := .sym y, flag := true } ∧
      t.fmy = ((match (s.line n).symptom with
        | .any => s.reportAllCleared ((lineSyms.filter (· ≠ y)).map (.line n))
        | .sym x => s.reportCleared (.line n x)
        | .nothing => s).reportActive (.line n y)).fmy ∧
      (∀ j, j ≠ n → t.line j = s.line j) ∧ t.lif.attention.line = true ∧
      OnlyChanges [.now, .hlm, .fmy, .cursor, .attention] s t) ∧
  (∀ (s : State) (n : Fin 32) (since : Int), s.heldInReset = false →
    (s.line n).status = .healing → (s.line n).timer = .running since →
    ∃ t, exec (.healTimerExpiry n) s = .next t ∧
      t.now = max s.now (since + 1000 * (s.lineCfg n).heal).toNat ∧
      t.line n = { s.line n with status := .clear, timer := .stopped, symptom := .nothing } ∧
      t.fmy = (match (s.line n).symptom with
        | .sym y => (s.reportCleared (.line n y)).fmy
        | _ => s.fmy) ∧
      (∀ j, j ≠ n → t.line j = s.line j) ∧ t.lif.attention.line = true ∧
      OnlyChanges [.now, .hlm, .fmy, .cursor, .attention] s t)

/-- R27 with R134 to R141, R144, R147, R149, R150, R104, R117, R146 and R13: what the changed logical value of a
line does, where one consumer takes it. A door set derives its state anew from its lines (trust first,
then EMERGENCY, then the position rules), with its timers, flags, counts and grants; the interlock follows
its conditions; an override episode begins and ends; a press edge of the RELEASE_BUTTON withdraws or grants
the sets of its mask, one of the ACK_BUTTON acknowledges the top of the list; and the parking brake ends
WORKSHOP when MOVING holds. The moment of the sample is the model's (assumption 2), and so is the order in which
one change does these things (assumptions 27 and 42). -/
def Obligations.LineChangesReachTheirConsumers : Prop :=
  (∀ (s : State) (n : Fin 32) (mv : Nat) (v : Logical) (d : Fin 4) (k : DoorSlot),
    s.ChangesTo n mv v → (s.doorCfg d).configured = true → (s.doorCfg d).line k = some n →
    (∀ e j, (s.doorCfg e).configured = true → (s.doorCfg e).line j = some n → e = d ∧ j = k) →
    s.RolesAmong n [] →
    ∃ (t : State) (both bad : Bool) (new : DoorState),
      exec (.lineSample n mv) s = .next t ∧ t.logical n = v ∧
      (bad = true ↔ ∃ j, t.doorLine d j = some .invalid) ∧
      (both = true ↔ t.doorLine d .closed = some .active ∧ t.doorLine d .openEnd = some .active) ∧
      (t.door d).inconMark = ((s.door d).inconMark && ((s.doorCfg d).openEnd.isNone || both)) ∧
      (t.door d).inconTimer = (if (s.doorCfg d).openEnd = none then (s.door d).inconTimer
        else if both = true then
          (if (s.door d).inconTimer = .stopped ∧ (s.door d).inconMark = false
            then .running (t.now : Int) else (s.door d).inconTimer)
        else .stopped) ∧
      new = (t.door d).st ∧
      new = (
        if (t.door d).inconMark = true ∨ bad = true then .unknown
        else if t.doorLine d .emergency = some .active then .emergency
        else if t.doorLine d .closed = some .active then
          (if t.doorLine d .locked = some .active ∨ (s.doorCfg d).locked = none
            then .closedLocked else .closed)
        else match (s.door d).st with
          | .unknown | .emergency | .closed | .closedLocked | .opening =>
            if t.doorLine d .openEnd = some .active then .opened else .opening
          | .opened =>
            if k = .openEnd ∧ v = .inactive then
              (if t.doorLine d .edge = some .active then .obstructed else .closing)
            else .opened
          | .closing =>
            if k = .edge ∧ v = .active then .obstructed
            else if k = .openEnd ∧ v = .active then .opened else .closing
          | .obstructed =>
            if k = .edge ∧ v = .inactive then
              (if t.doorLine d .openEnd = some .active then .opened else .closing)
            else .obstructed) ∧
      (new = (s.door d).st →
        t.door d = { s.door d with
          inconMark := (t.door d).inconMark, inconTimer := (t.door d).inconTimer } ∧
        ∀ e, e ≠ d → t.door e = s.door e) ∧
      (new ≠ (s.door d).st → t.lif.attention.door = true ∧
        (t.door d).openTimer = (if new = .opening then .running (t.now : Int) else .stopped) ∧
        (t.door d).closeTimer = (if new = .closing then .running (t.now : Int) else .stopped) ∧
        (t.door d).lockTimer = (if new = .closed then .running (t.now : Int) else .stopped) ∧
        (∀ e, (t.door e).grant = ((s.door e).grant && new != .emergency)) ∧
        (t.door d).output = ((t.door d).grant && !t.aboveWithdraw && t.mode.isRunning) ∧
        (t.door d).obstructions = (if new = .closedLocked then 0
          else if new = .obstructed then min ((s.door d).obstructions + 1) 255
          else (s.door d).obstructions) ∧
        (t.door d).repeatedObstruction = (new != .closedLocked &&
          ((s.door d).repeatedObstruction ||
            (new == .obstructed && 3 ≤ (t.door d).obstructions))) ∧
        (t.door d).openWhileMoving = (new != .closedLocked &&
          ((s.door d).openWhileMoving ||
            ((s.door d).st == .closedLocked && new != .unknown && t.aboveWithdraw))) ∧
        (new = .closedLocked → (t.door d).closeTimeout = false ∧ (t.door d).notLocked = false ∧
          (t.door d).marks = []) ∧
        (t.door d).cycle = (new == .closedLocked ||
          ((s.door d).cycle && (new == .emergency || new == .unknown || new == .closed))) ∧
        t.counter (cyclePlace d) = (if (s.door d).cycle = true ∧ (new = .opening ∨ new = .opened ∨
            new = .closing ∨ new = .obstructed)
          then min (s.counter (cyclePlace d) + 1) counterMax else s.counter (cyclePlace d)) ∧
        t.counter (obstructionPlace d) = (if new = .obstructed
          then min (s.counter (obstructionPlace d) + 1) counterMax
          else s.counter (obstructionPlace d))) ∧
      t.dmn.interlock = (if new ≠ (s.door d).st ∨ k = .ramp then
          (match s.dmn.interlock with
            | .held => if t.anyCondition then .held else .delay
            | .delay => if t.anyCondition then .held else .delay
            | .free => if t.anyCondition then .held else .free
            | x => x)
        else s.dmn.interlock) ∧
      OnlyChanges [.now, .sched, .hlm, .dmn, .fmy, .cursor, .attention] s t) ∧
  (∀ (s : State) (n : Fin 32) (mv : Nat) (v : Logical), s.ChangesTo n mv v → s.NoDoorNames n →
    (s.tables.roles.kneel = some n → s.RolesAmong n [.kneel] →
      ∃ t, exec (.lineSample n mv) s = .next t ∧ t.dmn.doors = s.dmn.doors ∧
        t.dmn.interlock = (match s.dmn.interlock with
          | .held => if t.anyCondition then .held else .delay
          | .delay => if t.anyCondition then .held else .delay
          | .free => if t.anyCondition then .held else .free
          | x => x) ∧
        OnlyChanges [.now, .sched, .hlm, .dmn, .fmy, .cursor, .attention] s t) ∧
    (s.tables.roles.override = some n → s.RolesAmong n [.override] →
      ∃ t, exec (.lineSample n mv) s = .next t ∧ t.dmn.doors = s.dmn.doors ∧
        (v = .active → s.dmn.interlock = .held ∨ s.dmn.interlock = .delay ∨
            s.dmn.interlock = .free →
          t.dmn.interlock = .overridden ∧ t.dmn.delay = .stopped ∧ t.ilk = false ∧
          t.counter overridePlace = min (s.counter overridePlace + 1) counterMax ∧
          t.lif.attention.door = true ∧
          (s.fmy.loading = false → s.fmy.table.length < 48 →
            ∃ e ∈ t.fmy.table, e.code = .override ∧ e.active = true)) ∧
        (v ≠ .active → s.dmn.interlock = .overridden →
          t.dmn.interlock = (if t.anyCondition then .held else .free) ∧ t.dmn.delay = .stopped ∧
          t.counter overridePlace = s.counter overridePlace ∧ t.lif.attention.door = true ∧
          (s.fmy.loading = false → (s.fmy.table.map (·.code)).Nodup →
            ∀ e ∈ t.fmy.table, e.code = .override → e.active = false)) ∧
        (s.dmn.interlock = .forced ∨ (v = .active ↔ s.dmn.interlock = .overridden) →
          t.dmn = s.dmn) ∧
        OnlyChanges [.now, .sched, .hlm, .dmn, .fmy, .cursor, .attention] s t) ∧
    (s.tables.roles.releaseButton = some n → s.RolesAmong n [.releaseButton] →
      ∃ t, exec (.lineSample n mv) s = .next t ∧
        (v ≠ .active ∨ s.logical n ≠ .inactive ∨
            (∀ d, (s.doorCfg d).configured = true → (s.doorCfg d).inMask = false) →
          t.dmn = s.dmn) ∧
        (v = .active → s.logical n = .inactive →
          (∃ d, (s.doorCfg d).configured = true ∧ (s.doorCfg d).inMask = true) →
          t.lif.attention.door = true ∧
          ((∃ d, (s.doorCfg d).configured = true ∧ (s.doorCfg d).inMask = true ∧
              (s.door d).grant = true) →
            (∀ d, (t.door d).grant = ((s.door d).grant &&
                !((s.doorCfg d).configured && (s.doorCfg d).inMask)) ∧
              ((s.door d).grant = true → (t.door d).grant = false →
                (t.door d).output = false))) ∧
          ((∀ d, (s.doorCfg d).configured = true → (s.doorCfg d).inMask = true →
              (s.door d).grant = false) →
            (s.mode.isRunning = true ∧ s.standing = true ∧ s.aboveWithdraw = false ∧
              (∀ d, (s.doorCfg d).configured = true → (s.doorCfg d).inMask = true →
                (s.door d).st ≠ .emergency) →
              (∀ d, (t.door d).grant = ((s.door d).grant ||
                  ((s.doorCfg d).configured && (s.doorCfg d).inMask)) ∧
                ((s.door d).grant = false → (t.door d).grant = true →
                  (t.door d).output = true)) ∧
              t.dmn.interlock = (match s.dmn.interlock with
                | .delay | .free => .held
                | x => x)) ∧
            (s.mode.isRunning = false ∨ s.standing = false ∨ s.aboveWithdraw = true ∨
              (∃ d, (s.doorCfg d).configured = true ∧ (s.doorCfg d).inMask = true ∧
                (s.door d).st = .emergency) → t.dmn = s.dmn))) ∧
        OnlyChanges [.now, .sched, .hlm, .dmn, .fmy, .cursor, .attention] s t) ∧
    (s.tables.roles.ackButton = some n → s.RolesAmong n [.ackButton] →
      ∃ t, exec (.lineSample n mv) s = .next t ∧
        (v ≠ .active ∨ s.logical n ≠ .inactive ∨ s.pru.list = [] →
          t.wev = s.wev ∧ t.pru = s.pru) ∧
        (∀ m, v = .active → s.logical n = .inactive → s.topRule = some m →
          t.rule m = (match (s.rule m).st, (s.ruleCfg m).latch with
            | .activeNew, _ => { s.rule m with st := .activeAck, reminder := 0 }
            | .latchedNew, .untilIgnition => { s.rule m with st := .latchedAck }
            | .latchedNew, .untilAck => { (s.rule m).toOff with mark := false }
            | _, _ => s.rule m) ∧
          (∀ j, j ≠ m → t.rule j = s.rule j) ∧ t.wev.seq = s.wev.seq ∧
          ((t.rule m).st ≠ (s.rule m).st → t.lif.attention.warn = true ∧
            ((s.ruleCfg m).popup = true → listed t.pru.list m = false))) ∧
        OnlyChanges [.now, .sched, .hlm, .wev, .pru, .fmy, .cursor, .attention] s t) ∧
    (s.tables.roles.parkingBrake = some n → s.RolesAmong n [.parkingBrake] →
      ∃ t, exec (.lineSample n mv) s = .next t ∧
        (s.mode = .workshop → t.moving = true →
          t.mode = .run ∧ t.wsv.records = 0 ∧ t.lif.attention.mode = true) ∧
        (s.mode ≠ .workshop ∨ t.moving = false →
          OnlyChanges [.now, .sched, .hlm, .fmy, .cursor, .attention] s t) ∧
        OnlyChanges [.now, .sched, .mctl, .hlm, .ndr, .pru, .fmy, .cursor, .forcing, .attention]
          s t))

/-- R28, R44, R45: a PULSE line's comparator switches at w1 and w2, and an edge of the configured direction is
taken by the line's capture unit: as reference, as a glitch, or as an edge. The wait before the edge is an
operand that the model gives the command (assumption 2). -/
def Obligations.PulseEdgesReachTheCaptureUnit : Prop :=
  ∀ (s : State) (n : Fin 32) (mv wait vb r : Nat) (u : Fin 2) (x : BitVec 32), s.heldInReset = false →
    (s.lineCfg n).fn = .pulse → (s.line n).comparator ≠ .stopped → s.mctl.vb = some vb → 0 < vb →
    r = min ((min mv 40000 * 10000 + vb / 2) / vb) 10000 →
    u = (if (s.lineCfg n).unitC1 then 1 else 0) →
    x = BitVec.ofNat 32 ((s.unit u).base.elapsed (s.now + wait)) →
    ∃ t, exec (.pulseEdge n mv wait) s = .next t ∧ t.now = s.now + wait ∧
      t.line n = { s.line n with comparator := match (s.line n).comparator with
        | .high => if r < (s.lineCfg n).w1 then .low else .high
        | _ => if (s.lineCfg n).w2 ≤ r then .high else .low } ∧
      t.unit u = (
        if (s.line n).comparator = (if (s.lineCfg n).falling then .high else .low) ∧
            (t.line n).comparator = (if (s.lineCfg n).falling then .low else .high) then
          match (s.unit u).tRef, (s.unit u).tLast with
          | some _, some l =>
            if (x - l).toNat < s.unitPMin u then
              { s.unit u with glitches := min ((s.unit u).glitches + 1) 255 }
            else { s.unit u with tLast := some x, edges := min ((s.unit u).edges + 1) 65535 }
          | _, _ => { s.unit u with tRef := some x, tLast := some x, edges := 0 }
        else s.unit u) ∧
      (∀ j, j ≠ n → t.line j = s.line j) ∧ (∀ v, v ≠ u → t.unit v = s.unit v) ∧
      t.gve.channels = s.gve.channels ∧ OnlyChanges [.now, .hlm, .gve] s t

/-! ### Gauges and needles -/

/-- R42, R46 to R50, R54 to R56, R65, R66: a channel sample by source, as the acquired value E and the source
state that it leaves: the last feed clamped to the range, the trusted line through the sensor table, the
edges through K, and without a new edge the period still running, the standstill or the lone reference
edge; then the filtered value, with its snap at standstill, and the needle's target, kept or 0 in FAULT
and LOST and kept in INIT and STALE, with every other needle's. R13, R147: a sample of the SPEED channel withdraws every grant above the withdraw speed and
leaves WORKSHOP when MOVING holds. A channel without a source has no samples. The moments are the model's
(assumption 2), and so is the start of the INIT timeout of a channel with a reference edge
(assumption 45). -/
def Obligations.ChannelSamplesFollowTheirSource : Prop :=
  ∀ (s : State) (k : Fin 6), s.heldInReset = false → s.mode ≠ .startup → s.mode ≠ .sleep →
    ((s.channelCfg k).source = .unused → exec (.channelSample k) s = .next s) ∧
    ((s.channelCfg k).source ≠ .unused → ∃ t, exec (.channelSample k) s = .next t ∧
      t.now = max s.now s.sched.channels[k] ∧ t.sched.channels[k] = t.now + 10000 ∧
      (∀ j, j ≠ k → t.channel j = s.channel j) ∧
      ((s.channelCfg k).source = .host → t.gve.units = s.gve.units ∧
        (∀ v, (s.channel k).newFeed = true → (s.channel k).fed = some v →
          (t.channel k).st = .valid ∧ (t.channel k).newFeed = false ∧
          (t.channel k).e = some (max (s.channelCfg k).emin (min v (s.channelCfg k).emax))) ∧
        ((s.channel k).newFeed = false →
          (t.channel k).st = (s.channel k).st ∧ (t.channel k).e = (s.channel k).e)) ∧
      ((s.channelCfg k).source = .line → ∀ n : Fin 32, (s.channelCfg k).input = n.val →
        (∀ m x, s.logical n ≠ .invalid → (s.line n).usable = some m →
          curveAt s.tables.sensors[k] ((s.lineCfg n).compared m) = some x →
          (t.channel k).st = .valid ∧
          (t.channel k).e = some (max (s.channelCfg k).emin (min x (s.channelCfg k).emax))) ∧
        (s.logical n = .invalid →
          (t.channel k).e = (s.channel k).e ∧
          (t.channel k).st = (if (s.line n).accepted = none ∧ (s.channel k).st = .init then .init
            else .fault))) ∧
      ((s.channelCfg k).source = .pulse → ∀ (u : Fin 2) (ref last : BitVec 32),
        u = (s.channelCfg k).unit → 1 ≤ (s.unit u).edges → (s.unit u).tRef = some ref →
        (s.unit u).tLast = some last → 0 < (last - ref).toNat / (s.unit u).edges →
        (t.channel k).pLast = some ((last - ref).toNat / (s.unit u).edges) ∧
        (t.channel k).standstill = false ∧
        (∀ p, (t.channel k).pLast = some p → (t.channel k).e =
          some (min ((((s.channelCfg k).k + p / 2) / p : Nat) : Int) (s.channelCfg k).emax)) ∧
        (t.channel k).st = (if 16 ≤ (s.unit u).glitches then .fault
          else if (s.channel k).st = .init ∨ ((s.channel k).st = .fault ∧ (s.unit u).glitches = 0)
            then .valid else (s.channel k).st) ∧
        t.unit u = { s.unit u with tRef := some last, edges := 0, glitches := 0 }) ∧
      ((s.channelCfg k).source = .pulse → ∀ (u : Fin 2) (now : BitVec 32),
        u = (s.channelCfg k).unit → (s.unit u).edges = 0 →
        now = BitVec.ofNat 32 ((s.unit u).base.elapsed t.now) →
        (∀ p ref, (s.channel k).pLast = some p → (s.unit u).tRef = some ref → 0 < p →
          (t.channel k).st = (if 16 ≤ (s.unit u).glitches then .fault
            else if (s.channel k).st = .fault ∧ (s.unit u).glitches = 0 then .valid
            else (s.channel k).st) ∧
          ((now - ref).toNat < 1000 * (s.channelCfg k).standstill →
            (t.channel k).pLast = some p ∧ (t.channel k).standstill = false ∧
            (∀ q, q = max p (now - ref).toNat → (t.channel k).e =
              some (min ((((s.channelCfg k).k + q / 2) / q : Nat) : Int) (s.channelCfg k).emax)) ∧
            t.unit u = { s.unit u with glitches := 0 }) ∧
          (1000 * (s.channelCfg k).standstill ≤ (now - ref).toNat →
            (t.channel k).pLast = none ∧ (t.channel k).standstill = true ∧
            (t.channel k).e = some 0 ∧
            t.unit u = { s.unit u with tRef := none, tLast := none, glitches := 0 })) ∧
        (∀ since, (s.channel k).pLast = none →
          since = (now - ((s.unit u).tRef.getD ((s.channel k).start.getD now))).toNat →
          ((s.channel k).st = .init → since < 1000 * (s.channelCfg k).standstill →
            (t.channel k).e = none ∧ (t.channel k).standstill = (s.channel k).standstill ∧
            (t.channel k).st = (if 16 ≤ (s.unit u).glitches then .fault else .init) ∧
            t.unit u = { s.unit u with glitches := 0 }) ∧
          ((s.channel k).st = .init → 1000 * (s.channelCfg k).standstill ≤ since →
            (t.channel k).e = some 0 ∧ (t.channel k).standstill = true ∧
            (t.channel k).st = (if 16 ≤ (s.unit u).glitches then .fault else .valid) ∧
            t.unit u = { s.unit u with glitches := 0 }) ∧
          ((s.channel k).st = .valid ∨ (s.channel k).st = .fault →
            (t.channel k).e = some 0 ∧ (t.channel k).standstill = true ∧
            (t.channel k).st = (if 16 ≤ (s.unit u).glitches then .fault
              else if (s.unit u).glitches = 0 then .valid else (s.channel k).st) ∧
            t.unit u = (if (s.unit u).tRef ≠ none ∧ 1000 * (s.channelCfg k).standstill ≤ since
              then { s.unit u with tRef := none, tLast := none, glitches := 0 }
              else { s.unit u with glitches := 0 })))) ∧
      (∀ e, (t.channel k).e = some e → (t.channel k).st = .valid ∨ (t.channel k).st = .stale →
        (t.channel k).f256 = (
          if (s.channelCfg k).snap = true ∧ (t.channel k).standstill = true then 0
          else if (s.channel k).st = .valid ∨ (s.channel k).st = .stale then
            (s.channel k).f256 + (if Int.tdiv (256 * e - (s.channel k).f256)
                (2 ^ (s.channelCfg k).shift) = 0 then (256 * e - (s.channel k).f256).sign
              else Int.tdiv (256 * e - (s.channel k).f256) (2 ^ (s.channelCfg k).shift))
          else 256 * e) ∧
        (t.channel k).f = some (((t.channel k).f256 + 128) / 256)) ∧
      ((t.channel k).st ≠ .valid → (t.channel k).st ≠ .stale →
        (t.channel k).f256 = (s.channel k).f256 ∧ (t.channel k).f = (s.channel k).f) ∧
      ((t.channel k).st = .fault ∨ (t.channel k).st = .lost →
        (t.needle k).latest = (if (s.channelCfg k).holdLast then (s.needle k).latest else 0) ∧
        (t.needle k).published = (if (s.channelCfg k).holdLast ∨ s.lif.hold = true
          then (s.needle k).published else 0)) ∧
      ((t.channel k).st = .init ∨ (t.channel k).st = .stale →
        (t.needle k).latest = (s.needle k).latest ∧
        (t.needle k).published = (s.needle k).published) ∧
      (∀ j, j ≠ k → (t.needle j).latest = (s.needle j).latest ∧
        (t.needle j).published = (s.needle j).published) ∧
      (t.mode = s.mode → t.ndr.sweep = s.ndr.sweep ∧ ∀ j, t.needle j = { s.needle j with
        latest := (t.needle j).latest, published := (t.needle j).published }) ∧
      ((s.channelCfg k).speedRole = true →
        (t.aboveWithdraw = true → ∀ d, (t.door d).grant = false ∧ (t.door d).output = false) ∧
        (s.mode = .workshop → t.moving = true →
          t.mode = .run ∧ t.wsv.records = 0 ∧ t.lif.attention.mode = true)) ∧
      (s.mode ≠ .workshop ∨ (s.channelCfg k).speedRole = false ∨ t.moving = false →
        t.mctl = s.mctl) ∧
      ((t.channel k).st = .valid → ∀ f x, (t.channel k).f = some f →
        curveAt s.tables.dials[k] f = some x →
        (t.needle k).latest = x.toNat ∧
        (t.needle k).published = (if s.lif.hold then (s.needle k).published else x.toNat)) ∧
      OnlyChanges [.now, .free, .sched, .mctl, .gve, .ndr, .pru, .dmn, .fmy, .cursor, .forcing,
        .attention] s t)

/-- R53, R60, R66: the first expiry of a feed timer makes the channel STALE and runs the timer again, the second
makes it LOST, stops the timer and reports the loss; the needle of a STALE channel keeps its target, that of a
LOST channel goes to 0 unless it holds its last target, and the other needles are left alone.
The moments are the model's (assumption 2). -/
def Obligations.FeedTimersExpire : Prop :=
  ∀ (s : State) (k : Fin 6) (since : Int), s.heldInReset = false →
    (s.channel k).feedTimer = .running since →
    ∃ t, exec (.feedTimeout k) s = .next t ∧
      t.now = max s.now (since + 1000 * (s.channelCfg k).feedTimeout).toNat ∧
      t.channel k = (if (s.channel k).expiries = 0 then
          { s.channel k with st := .stale, expiries := 1, feedTimer := .running (t.now : Int) }
        else { s.channel k with st := .lost, expiries := 2, feedTimer := .stopped,
                                lostMark := true }) ∧
      (∀ j, j ≠ k → t.channel j = s.channel j) ∧ t.gve.units = s.gve.units ∧
      ((s.channel k).expiries ≠ 0 →
        t.fmy = (if (s.channel k).lostMark then s.fmy
          else (s.reportActive (.gauge k .lost)).fmy) ∧
        t.needle k = (if (s.channelCfg k).holdLast = true then s.needle k
          else { s.needle k with
            latest := 0,
            published := if s.lif.hold = true then (s.needle k).published else 0 }) ∧
        (∀ j, j ≠ k → t.needle j = s.needle j) ∧ t.ndr.sweep = s.ndr.sweep ∧
        OnlyChanges [.now, .gve, .ndr, .fmy, .cursor, .attention] s t) ∧
      ((s.channel k).expiries = 0 → t.fmy = s.fmy ∧ (t.mode = s.mode → t.ndr = s.ndr) ∧
        (∀ j, (t.needle j).latest = (s.needle j).latest ∧
          (t.needle j).published = (s.needle j).published) ∧
        OnlyChanges [.now, .mctl, .gve, .ndr, .pru, .dmn, .forcing, .attention] s t)

/-- R51, R65: the value read from a table of points with rising first coordinates: the second coordinate of
each point at that point, that of the end points beyond them, and between two points that of the left one
plus the quotient of the straight line, rounded to the nearest integer, and half away from zero: where the
remainder is exactly a half, what is added is greater in size than the quotient. -/
def Obligations.TablesAreReadBetweenTheirPoints : Prop :=
  ∀ c : Curve, increasing c = true →
    (∀ q ∈ c, curveAt c q.1 = some q.2) ∧
    (∀ q x, c.head? = some q → x ≤ q.1 → curveAt c x = some q.2) ∧
    (∀ q x, c.getLast? = some q → q.1 ≤ x → curveAt c x = some q.2) ∧
    ∀ l r q p x, c = l ++ q :: p :: r → q.1 ≤ x → x ≤ p.1 →
      ∃ y, curveAt c x = some y ∧ min q.2 p.2 ≤ y ∧ y ≤ max q.2 p.2 ∧
        2 * |(y - q.2) * (p.1 - q.1) - (x - q.1) * (p.2 - q.2)| ≤ p.1 - q.1 ∧
        (2 * |(y - q.2) * (p.1 - q.1) - (x - q.1) * (p.2 - q.2)| = p.1 - q.1 →
          |(x - q.1) * (p.2 - q.2)| < |(y - q.2) * (p.1 - q.1)|)

/-- R68 to R70, R72, R75: a motion interval. A needle with an established position and a target in use (the
published target when TRACKING or on the leg RETURN, Pmax on the leg UP, 0 when PARKED, the forced position
when FORCED) is idle where it stands at rest on the target. Otherwise it turns at rest only, towards the
target; its new speed is the largest of the three candidates from which it can still stop at the target,
or one less than the old speed where none is; and it moves by that speed in its direction, or to the end
of its scale with speed 0 where the move would pass it. So a target ahead at or beyond the braking distance is
never passed, in either direction, and the speed changes by at most one. A leg UP ends at Pmax, a leg
RETURN on its target or below it on the way down, and the last member to leave ends the sweep with OPDONE.
A needle without an established position or a target does not move; a HOMING one counts down to position 0
in the state due in the mode. That position, target and speed stand within Pmax and smax holds in every state that
`NeedleLaw` allows, which every step keeps (`StepKeepsDashLaws`). The moments are the model's (assumption 2). -/
def Obligations.NeedlesStopAtTheirTargets : Prop :=
  ∀ (s : State) (k : Fin 6), s.heldInReset = false → s.mode ≠ .startup → s.mode ≠ .sleep →
    ∃ t, exec (.motionInterval k) s = .next t ∧
      t.now = max s.now s.sched.needles[k] ∧ t.sched.needles[k] = t.now + 1000 ∧
      (∀ j, j ≠ k → t.needle j = s.needle j) ∧
      (t.needle k).latest = (s.needle k).latest ∧
      (t.needle k).published = (s.needle k).published ∧
      (∀ a target, (s.needle k).pos = some a →
        (match (s.needle k).st with
          | .tracking | .sweepReturn => some (s.needle k).published
          | .sweepUp => some (s.channelCfg k).pmax
          | .parked => some 0
          | .forced => s.wsv.needles[k]
          | _ => none) = some target →
        a ≤ (s.channelCfg k).pmax → target ≤ (s.channelCfg k).pmax →
        (s.needle k).speed ≤ (s.channelCfg k).smax →
        ∃ b, (t.needle k).pos = some b ∧ b ≤ (s.channelCfg k).pmax ∧
          (t.needle k).speed ≤ (s.channelCfg k).smax ∧
          (a = target → (s.needle k).speed = 0 →
            b = a ∧ (t.needle k).speed = 0 ∧ (t.needle k).dir = (s.needle k).dir) ∧
          (a ≠ target ∨ (s.needle k).speed ≠ 0 →
            (t.needle k).dir = (if (s.needle k).speed = 0 then (if a < target then .up else .down)
              else (s.needle k).dir) ∧
            ∃ (c : Nat) (rem : Int),
              rem = (if (t.needle k).dir = .up then (target : Int) - a else (a : Int) - target) ∧
              ((c * (c + 1) / 2 : Nat) ≤ rem ∧
                  (c = (s.needle k).speed - 1 ∨ c = (s.needle k).speed ∨
                    c = min ((s.needle k).speed + 1) (s.channelCfg k).smax) ∧
                  (∀ x : Nat, x = (s.needle k).speed ∨
                      x = min ((s.needle k).speed + 1) (s.channelCfg k).smax →
                    (x * (x + 1) / 2 : Nat) ≤ rem → x ≤ c) ∨
                (∀ x : Nat, x = (s.needle k).speed - 1 ∨ x = (s.needle k).speed ∨
                    x = min ((s.needle k).speed + 1) (s.channelCfg k).smax →
                  rem < (x * (x + 1) / 2 : Nat)) ∧ c = (s.needle k).speed - 1) ∧
              c ≤ (s.needle k).speed + 1 ∧ (s.needle k).speed ≤ c + 1 ∧
              ((t.needle k).dir = .up →
                (a + c ≤ (s.channelCfg k).pmax → b = a + c ∧ (t.needle k).speed = c) ∧
                ((s.channelCfg k).pmax < a + c →
                  b = (s.channelCfg k).pmax ∧ (t.needle k).speed = 0)) ∧
              ((t.needle k).dir = .down →
                (c ≤ a → b = a - c ∧ (t.needle k).speed = c) ∧
                (a < c → b = 0 ∧ (t.needle k).speed = 0))) ∧
          ((t.needle k).dir = .up → a < target →
            (s.needle k).speed * ((s.needle k).speed - 1) / 2 ≤ target - a →
            b = a + (t.needle k).speed ∧ b ≤ target ∧
            (t.needle k).speed * ((t.needle k).speed - 1) / 2 ≤ target - b) ∧
          ((t.needle k).dir = .down → target < a →
            (s.needle k).speed * ((s.needle k).speed - 1) / 2 ≤ a - target →
            a = b + (t.needle k).speed ∧ target ≤ b ∧
            (t.needle k).speed * ((t.needle k).speed - 1) / 2 ≤ b - target) ∧
          (t.needle k).st = (match (s.needle k).st with
            | .sweepUp =>
              if b = (s.channelCfg k).pmax then
                (if b = (s.needle k).published ∨
                    ((t.needle k).dir = .down ∧ b ≤ (s.needle k).published)
                  then .tracking else .sweepReturn)
              else .sweepUp
            | .sweepReturn =>
              if b = (s.needle k).published ∨
                  ((t.needle k).dir = .down ∧ b ≤ (s.needle k).published)
                then .tracking else .sweepReturn
            | x => x)) ∧
      ((s.needle k).pos = none → (s.needle k).st ≠ .homingDriving → t.needle k = s.needle k) ∧
      ((s.needle k).st = .homingWaiting ∨ (s.needle k).st = .suspended →
        t.needle k = s.needle k) ∧
      ((s.needle k).st ≠ .homingDriving →
        (t.ndr.sweep = true ↔
          s.ndr.sweep = true ∧ ∃ j, (t.needle j).effective.isSweeping = true) ∧
        t.lif.attention.opdone =
          (s.lif.attention.opdone || (s.ndr.sweep && !t.ndr.sweep))) ∧
      ((s.needle k).st = .homingDriving → t.ndr.sweep = s.ndr.sweep) ∧
      ((s.needle k).st = .homingDriving → 2 < (s.needle k).count →
        t.needle k = { s.needle k with count := (s.needle k).count - 2 }) ∧
      ((s.needle k).st = .homingDriving → (s.needle k).count = 1 ∨ (s.needle k).count = 2 →
        t.needle k = { s.needle k with
          count := 0, pos := some 0, speed := 0, dir := .up,
          st := if s.mode.isRunning then
              (if (s.wsv.needles[k]).isSome then .forced else .tracking) else .parked }) ∧
      OnlyChanges [.now, .sched, .ndr, .attention] s t

/-! ### Rules, telltales and chime -/

/-- R86 to R93: the result of a term of each kind (a line term by its test and the line's logical value; a value
term by its threshold, its hysteresis and its term state, INVALID while the value is not known; a door
term by state, flag or ILK, a door set without a record read as UNKNOWN; a term on another rule, on the
fault table and on the supply state), the combine codes, the table of the combined result by the raw
result and on_invalid, and the qualifiers. -/
def Obligations.TermsAndResultsFollowTheirTables : Prop :=
  (∀ (s : State) (h : Bool) (n : Fin 32) (x : LineTest), s.evalTerm h (.line n x) =
    (match x, s.logical n with
      | .active, .active => .yes
      | .active, .inactive => .no
      | .active, .invalid => .invalid
      | .inactive, .active => .no
      | .inactive, .inactive => .yes
      | .inactive, .invalid => .invalid
      | .faulted, .active => .no
      | .faulted, .inactive => .no
      | .faulted, .invalid => .yes, h)) ∧
  (∀ before : Bool,
    onInvalid .no before .yes = true ∧ onInvalid .yes before .yes = true ∧
    onInvalid .hold before .yes = true ∧ onInvalid .no before .no = false ∧
    onInvalid .yes before .no = false ∧ onInvalid .hold before .no = false ∧
    onInvalid .no before .invalid = false ∧ onInvalid .yes before .invalid = true ∧
    onInvalid .hold before .invalid = before) ∧
  (∀ (s : State) (h : Bool),
    (∀ (k : Fin 6) (filtered below : Bool) (threshold : Int) (hysteresis : Nat),
      ((s.channel k).st ≠ .valid → (s.channel k).st ≠ .stale →
        s.evalTerm h (.value k filtered below threshold hysteresis) = (.invalid, h)) ∧
      ∀ v : Int, (s.channel k).st = .valid ∨ (s.channel k).st = .stale →
        (if filtered then (s.channel k).f else (s.channel k).e) = some v →
        ∃ h', s.evalTerm h (.value k filtered below threshold hysteresis) =
            (if h' then .yes else .no, h') ∧
          h' = (if below then
              (if v ≤ threshold then true else if threshold + hysteresis < v then false else h)
            else (if threshold ≤ v then true
              else if v < threshold - hysteresis then false else h))) ∧
    (∀ (set : Nat) (d : Fin 4) (mask flag : Nat), set = d.val + 1 →
      ((s.doorCfg d).configured = true →
        s.evalTerm h (.door set .stateMask mask flag) =
          (if mask.testBit (s.door d).st.code then .yes
           else if (s.door d).st = .unknown then .invalid else .no, h) ∧
        s.evalTerm h (.door set .flag mask flag) =
          (if (match flag with
              | 0 => (s.door d).openWhileMoving
              | 1 => (s.door d).repeatedObstruction
              | 2 => (s.door d).closeTimeout
              | 3 => (s.door d).notLocked
              | _ => false) then .yes else .no, h)) ∧
      ((s.doorCfg d).configured = false →
        s.evalTerm h (.door set .stateMask mask flag) =
          (if mask.testBit 7 then .yes else .invalid, h) ∧
        s.evalTerm h (.door set .flag mask flag) = (.no, h)) ∧
      s.evalTerm h (.door set .interlock mask flag) = (if s.ilk then .yes else .no, h)) ∧
    (∀ m, s.evalTerm h (.rule m) =
      (if (s.rule m).st = .activeNew ∨ (s.rule m).st = .activeAck then .yes else .no, h)) ∧
    (∀ c, ((∃ e ∈ s.fmy.table, e.active = true ∧ e.code.sourceClass = c) →
        s.evalTerm h (.fault c) = (.yes, h)) ∧
      ((∀ e ∈ s.fmy.table, e.active = true → e.code.sourceClass ≠ c) →
        s.evalTerm h (.fault c) = (.no, h))) ∧
    ∀ mask, s.evalTerm h (.supply mask) =
      (if mask.testBit s.supply.code then .yes else .no, h)) ∧
  (∀ x y z : Option TermResult,
    (x = some .invalid ∨ y = some .invalid ∨ z = some .invalid →
      ∀ c, combine c x y z = .invalid) ∧
    (x ≠ some .invalid → y ≠ some .invalid → z ≠ some .invalid →
      combine .all x y z =
        (if x ≠ some .no ∧ y ≠ some .no ∧ z ≠ some .no then .yes else .no) ∧
      combine .any x y z =
        (if x = some .yes ∨ y = some .yes ∨ z = some .yes then .yes else .no) ∧
      combine .firstNotRest x y z =
        (if x = some .yes ∧ y ≠ some .yes ∧ z ≠ some .yes then .yes else .no) ∧
      combine .twoOfThree x y z =
        (if (x = some .yes ∧ y = some .yes) ∨ (x = some .yes ∧ z = some .yes) ∨
            (y = some .yes ∧ z = some .yes) then .yes else .no))) ∧
  (∀ s : State, s.qualifierHolds .always = true ∧
    (s.qualifierHolds .ignOn = true ↔ s.mode = .run ∨ s.mode = .workshop) ∧
    (s.qualifierHolds .moving = true ↔ (s.mode = .run ∨ s.mode = .workshop) ∧
      ∃ v, s.speed = some v ∧ s.tables.general.releaseSpeed < v ∧
        s.roleValue .parkingBrake ≠ some .active) ∧
    (s.qualifierHolds .standing = true ↔ (s.mode = .run ∨ s.mode = .workshop) ∧
      (s.roleValue .parkingBrake = some .active ∨
        ∃ v, s.speed = some v ∧ v ≤ s.tables.general.releaseSpeed)) ∧
    (s.qualifierHolds .notCrank = true ↔ s.supply ≠ .crank))

/-- R85, R91 to R102, R105 to R108: an evaluation pass, however many rules are enabled. It goes through the rules in
number order, so that each rule meets the state that the rules before it have left: a disabled rule is
not touched, and the turn of an enabled one (`RuleTurn`) settles its slots, raw result, qualifier,
condition, frozen mark, state, onset, release and reminder timers, sequence, fault report and mark. The
moment is the model's (assumption 2); that a marked rule which returns from PENDING to OFF reports CLEARED
is the model's choice (assumption 46). -/
def Obligations.PassStepsAnEnabledRule : Prop :=
  ∀ s : State, s.heldInReset = false → s.mode.hasPasses = true →
    ∃ turn : Nat → State, exec .evaluationPass s = .next (turn 64) ∧
      (turn 0).now = max s.now s.sched.pass ∧ (turn 0).sched.pass = (turn 0).now + 10000 ∧
      OnlyChanges [.now, .sched] s (turn 0) ∧
      (∀ m : Fin 64,
        ((s.ruleCfg m).enabled = false → turn (m.val + 1) = turn m.val) ∧
        ((s.ruleCfg m).enabled = true → RuleTurn m (turn m.val) (turn (m.val + 1))) ∧
        (turn m.val).rule m = s.rule m ∧ (turn 64).rule m = (turn (m.val + 1)).rule m) ∧
      OnlyChanges [.now, .sched, .wev, .pru, .fmy, .cursor, .attention] s (turn 64)

/-- R123, R125, R126, R127: the lamp check ends by its time; a tested millisecond moves the open counter, whose
figure 100 settles, confirms or clears an open, with its report ACTIVE or CLEARED at every change of the open
status and at no other tick; an overcurrent trips the driver and the third under test
confirms a short; the trip ends by its retry time; and 50 ms of on time without overcurrent settle the
short status.
The moments are the model's (assumption 2). -/
def Obligations.LampsAreDiagnosed : Prop :=
  (∀ (s : State) (since : Int), s.heldInReset = false → s.pru.lampCheck = .running since →
    ∃ t, exec .lampCheckEnd s = .next t ∧
      t.now = max s.now (since + 1000 * s.tables.general.lampCheck).toNat ∧
      t.pru.lampCheck = .stopped ∧ t.pru.list = s.pru.list ∧
      (s.lampsFrozen = false → ∀ n, (t.lamp n).published = t.presentedLevel n) ∧
      OnlyChanges [.now, .pru] s t) ∧
  (∀ (s : State) (n : Fin 24) (low : Bool), s.heldInReset = false →
    (s.tested n = false → exec (.lampDiagnosticTick n low) s = .next s) ∧
    (s.tested n = true → ∃ t c, exec (.lampDiagnosticTick n low) s = .next t ∧
      t.now = max s.now s.sched.lamps[n] ∧
      c = (match (s.lamp n).openStatus, low with
        | .unsettled, true => (s.lamp n).openCount - 1
        | .unsettled, false => (s.lamp n).openCount + 1
        | .good, true => (s.lamp n).openCount + 1
        | .good, false => max ((s.lamp n).openCount - 1) 0
        | .confirmed, true => max ((s.lamp n).openCount - 1) 0
        | .confirmed, false => (s.lamp n).openCount + 1) ∧
      (t.lamp n).openStatus = (match (s.lamp n).openStatus with
        | .unsettled => if 100 ≤ c then .good else if c ≤ -100 then .confirmed else .unsettled
        | .good => if 100 ≤ c then .confirmed else .good
        | .confirmed => if 100 ≤ c then .good else .confirmed) ∧
      (t.lamp n).openCount = (if (t.lamp n).openStatus = (s.lamp n).openStatus then c else 0) ∧
      ((t.lamp n).openStatus = (s.lamp n).openStatus → OnlyChanges [.now, .sched, .pru] s t) ∧
      ((t.lamp n).openStatus ≠ (s.lamp n).openStatus →
        t.fmy = (if (t.lamp n).openStatus = .confirmed then s.reportActive (.lamp n .openWire)
          else s.reportCleared (.lamp n .openWire)).fmy) ∧
      OnlyChanges [.now, .sched, .pru, .fmy, .cursor, .attention] s t)) ∧
  (∀ (s : State) (n : Fin 24), s.heldInReset = false →
    (s.driverOn n = false → exec (.lampOvercurrent n) s = .next s) ∧
    (s.driverOn n = true → ∃ t, exec (.lampOvercurrent n) s = .next t ∧
      (t.lamp n).retry = .running s.now ∧ t.driverOn n = false ∧
      (t.lamp n).trips = (if s.testable n then min ((s.lamp n).trips + 1) 255
        else (s.lamp n).trips) ∧
      (t.lamp n).shortStatus = (if s.testable n ∧ 3 ≤ (t.lamp n).trips then .confirmed
        else (s.lamp n).shortStatus) ∧
      t.fmy = (if (t.lamp n).shortStatus = (s.lamp n).shortStatus then s.fmy
        else (s.reportActive (.lamp n .short)).fmy) ∧
      OnlyChanges [.pru, .fmy, .cursor, .attention] s t)) ∧
  (∀ (s : State) (n : Fin 24) (since : Int), s.heldInReset = false →
    (s.lamp n).retry = .running since →
    ∃ t, exec (.lampRetryExpiry n) s = .next t ∧
      t.now = max s.now (since + (if (s.lamp n).shortStatus = .confirmed then 10000000
        else 1000000)).toNat ∧
      (t.lamp n).retry = .stopped ∧
      t.driverOn n = (s.lamp n).published.calls s.pru.phase ∧ OnlyChanges [.now, .pru] s t) ∧
  (∀ (s : State) (n : Fin 24) (since : Int), s.heldInReset = false →
    (s.lamp n).success = .running since →
    ∃ t, exec (.lampSuccessTimerExpiry n) s = .next t ∧
      t.now = max s.now (since + 50000).toNat ∧
      (t.lamp n).trips = 0 ∧ (t.lamp n).shortStatus = .good ∧
      t.fmy = (if (s.lamp n).shortStatus = .good then s.fmy
        else (s.reportCleared (.lamp n .short)).fmy) ∧
      OnlyChanges [.now, .pru, .fmy, .cursor, .attention] s t)

/-- R122, R129, R182: the flash phase counts milliseconds modulo 1000 and the drivers follow it, ON at every phase,
FLASH_SLOW at 0 to 499, FLASH_FAST at 0 to 124, 250 to 374, 500 to 624 and 750 to 874, OFF at none; a SINGLE tone
ends with its mark set and another winner sought, or with silence if it was forced; a repeating pattern
switches its tone off after its length and on again at its period. That SINGLE_TONE_COMPLETE and
CHIME_TONE_EDGE serve a forced pattern too is the model's choice (assumption 37), and so are the moments
(assumption 2). -/
def Obligations.FlashAndChimeKeepTheirTime : Prop :=
  (∀ phase : Nat, Level.off.calls phase = false ∧ Level.on.calls phase = true ∧
    (Level.flashSlow.calls phase = true ↔ phase < 500) ∧
    (Level.flashFast.calls phase = true ↔ phase < 125 ∨ (250 ≤ phase ∧ phase < 375) ∨
      (500 ≤ phase ∧ phase < 625) ∨ (750 ≤ phase ∧ phase < 875))) ∧
  (∀ s : State, s.heldInReset = false → s.mode ≠ .startup → s.mode ≠ .sleep →
    ∃ t, exec .flashPhaseAdvance s = .next t ∧
      t.now = max s.now s.sched.flash ∧ t.sched.flash = t.now + 1000 ∧
      t.pru.phase = (s.pru.phase + 1) % 1000 ∧
      (∀ n, (t.lamp n).published = (s.lamp n).published ∧
        t.driverOn n = ((s.lamp n).published.calls t.pru.phase && (s.lamp n).retry == .stopped)) ∧
      OnlyChanges [.now, .sched, .pru] s t) ∧
  (∀ s : State, s.heldInReset = false → s.pru.tone = true →
    (∀ r, s.wsv.chime = some r → r.pattern = .single →
      ∃ t, exec .singleToneComplete s = .next t ∧
        t.now = max s.now (s.pru.patternStart + 400000).toNat ∧
        t.pru = { s.pru with tone := false } ∧ OnlyChanges [.now, .pru] s t) ∧
    (∀ m, s.wsv.chime = none → s.pru.winner = some m → (s.ruleCfg m).chime = some .single →
      ∃ t, exec .singleToneComplete s = .next t ∧
        t.now = max s.now (s.pru.patternStart + 400000).toNat ∧
        t.pru.singleMarks = s.pru.singleMarks.set m true ∧
        t.pru.winner = t.dueWinner ∧ t.pru.winner ≠ some m ∧
        t.pru.tone = t.pru.winner.isSome ∧ OnlyChanges [.now, .pru] s t)) ∧
  (∀ (s : State) (tone period : Nat), s.heldInReset = false →
    (s.pattern = some .repeatSlow ∧ tone = 400 ∧ period = 2000) ∨
      (s.pattern = some .repeatFast ∧ tone = 200 ∧ period = 500) →
    ∃ t, exec .chimeToneEdge s = .next t ∧
      t.now = max s.now (s.pru.patternStart + 1000 * (if s.pru.tone then tone else period)).toNat ∧
      t.pru = { s.pru with
        tone := !s.pru.tone,
        patternStart := if s.pru.tone then s.pru.patternStart
          else s.pru.patternStart + 1000 * period } ∧
      OnlyChanges [.now, .pru] s t)

/-! ### Doors -/

/-- R135, R137 to R139, R149: the door timers: a door still OPENING is OPEN, a door still CLOSING or CLOSED has
its flag, two end stops make the set UNKNOWN, and an interlock without a condition for 500 ms is FREE.
The moments are the model's (assumption 2). -/
def Obligations.DoorTimersExpire : Prop :=
  (∀ (s : State) (d : Fin 4) (since : Int), s.heldInReset = false →
    (s.door d).openTimer = .running since → (s.door d).st = .opening → s.doorUntrusted d = false →
    s.doorLine d .emergency ≠ some .active → s.doorLine d .closed ≠ some .active →
    ∃ t, exec (.openTimerExpiry d) s = .next t ∧
      t.now = max s.now (since + 1000 * (s.doorCfg d).openTimeout).toNat ∧
      (t.door d).st = .opened ∧ (t.door d).openTimer = .stopped ∧
      ((s.doorCfg d).openEnd.isSome = true → DoorSym.openEndMissing ∈ (t.door d).marks) ∧
      (∀ e, e ≠ d → t.door e = s.door e) ∧ t.lif.attention.door = true ∧
      OnlyChanges [.now, .dmn, .fmy, .cursor, .attention] s t) ∧
  (∀ (s : State) (d : Fin 4) (since : Int), s.heldInReset = false →
    (s.door d).closeTimer = .running since → (s.door d).st = .closing →
    s.doorUntrusted d = false → s.doorLine d .emergency ≠ some .active →
    s.doorLine d .closed ≠ some .active →
    ∃ t, exec (.closeTimerExpiry d) s = .next t ∧
      t.now = max s.now (since + 1000 * (s.doorCfg d).closeTimeout).toNat ∧
      (t.door d).st = .closing ∧ (t.door d).closeTimer = .stopped ∧
      (t.door d).closeTimeout = true ∧ DoorSym.closeTimeout ∈ (t.door d).marks ∧
      (∀ e, e ≠ d → t.door e = s.door e) ∧ t.dmn.interlock = s.dmn.interlock ∧
      ((s.door d).closeTimeout = false → t.lif.attention.door = true) ∧
      OnlyChanges [.now, .dmn, .fmy, .cursor, .attention] s t) ∧
  (∀ (s : State) (d : Fin 4) (since : Int), s.heldInReset = false →
    (s.door d).lockTimer = .running since → (s.door d).st = .closed → s.doorUntrusted d = false →
    s.doorLine d .emergency ≠ some .active → s.doorLine d .closed = some .active →
    s.doorLocked d = false →
    s.doorLine d .openEnd ≠ some .active →
    ∃ t, exec (.lockTimerExpiry d) s = .next t ∧
      t.now = max s.now (since + 1000 * (s.doorCfg d).lockTimeout).toNat ∧
      (t.door d).st = .closed ∧ (t.door d).lockTimer = .stopped ∧
      (t.door d).notLocked = true ∧ DoorSym.notLocked ∈ (t.door d).marks ∧
      (∀ e, e ≠ d → t.door e = s.door e) ∧ t.dmn.interlock = s.dmn.interlock ∧
      ((s.door d).notLocked = false → t.lif.attention.door = true) ∧
      OnlyChanges [.now, .dmn, .fmy, .cursor, .attention] s t) ∧
  (∀ (s : State) (d : Fin 4) (since : Int), s.heldInReset = false →
    (s.door d).inconTimer = .running since → s.doorLine d .closed = some .active →
    s.doorLine d .openEnd = some .active →
    ∃ t, exec (.inconsistencyTimerExpiry d) s = .next t ∧
      t.now = max s.now (since + 1000 * s.tables.general.inconsistency).toNat ∧
      (t.door d).st = .unknown ∧ (t.door d).inconMark = true ∧
      (t.door d).inconTimer = .stopped ∧ DoorSym.inconsistent ∈ (t.door d).marks ∧
      (∀ e, e ≠ d → t.door e = s.door e) ∧
      OnlyChanges [.now, .dmn, .fmy, .cursor, .attention] s t) ∧
  (∀ (s : State) (since : Int), s.heldInReset = false → s.dmn.delay = .running since →
    ∃ t, exec .releaseDelayExpiry s = .next t ∧
      t.now = max s.now (since + 500000).toNat ∧
      t.dmn = { s.dmn with interlock := .free, delay := .stopped } ∧ t.ilk = false ∧
      (s.ilk = true → t.lif.attention.door = true) ∧ OnlyChanges [.now, .dmn, .attention] s t)

/-! ### Fault memory -/

/-- R165 to R168, R171, R174: the store starts a requested store, else the first item of the pending-write list,
else a due counter save, whose due mark is cleared at its start, one at a time in NORMAL and LOW; each completes
after its time, a save into the copy not written last, and a store of a part in UNCONFIGURED or whose
image check failed reports IMAGE_BAD CLEARED. A slot written leaves the clear in flight, which is complete when
none is left (R172), and an erasure that stands takes the slot from its former code (R164). A counter save that
completes in the wait of a restart ends it, or with an item listed or a store requested makes the block due again
and the restart wait on (R171). That writes start in STARTUP once the load is complete is the model's reading
(assumption 26), and so is which counter save ends the wait of a restart (assumption 18). The moments are
the model's (assumption 2). -/
def Obligations.StoreMakesItsWrites : Prop :=
  (∀ s : State, s.heldInReset = false →
    (s.fmy.write ≠ .idle ∨ s.fmy.loading = true ∨ s.supply = .crank ∨ s.supply = .high ∨
        (s.fmy.storeRequested = false ∧ s.fmy.writes = [] ∧ s.fmy.counterDue = false) →
      exec .writeStart s = .next s) ∧
    (s.fmy.write = .idle → s.fmy.loading = false → s.supply = .normal ∨ s.supply = .low →
      s.fmy.storeRequested = true ∨ s.fmy.writes ≠ [] ∨ s.fmy.counterDue = true →
      ∃ t, exec .writeStart s = .next t ∧ t.fmy.writeTimer = .running s.now ∧
        t.fmy.write = (match s.fmy.storeRequested, s.fmy.writes with
          | true, _ => .image s.tables.image
          | false, n :: _ => .slot n (match s.fmy.table.find? (·.slot == n) with
              | some e => .entry e
              | none => .empty) false
          | false, [] => .counters s.fmy.counters) ∧
        t.fmy.writes = (if s.fmy.storeRequested then s.fmy.writes else s.fmy.writes.drop 1) ∧
        t.fmy.storeRequested = false ∧
        (s.fmy.storeRequested = false → s.fmy.writes = [] → t.fmy.counterDue = false) ∧
        (s.fmy.storeRequested = true ∨ s.fmy.writes ≠ [] → t.fmy.counterDue =
          (s.fmy.counterDue || s.mctl.restart == .ready)) ∧
        (s.fmy.storeRequested = false → s.fmy.writes ≠ [] → t.fmy.reappend = false) ∧
        t.fmy = { s.fmy with
          write := t.fmy.write, writeTimer := t.fmy.writeTimer, writes := t.fmy.writes,
          storeRequested := t.fmy.storeRequested, counterDue := t.fmy.counterDue,
          reappend := t.fmy.reappend } ∧
        t.mctl = { s.mctl with restart := if s.mctl.restart = .idle then .idle
          else if s.fmy.storeRequested = false ∧ s.fmy.writes = [] then .saving else .waiting } ∧
        OnlyChanges [.mctl, .fmy] s t)) ∧
  (∀ (s : State) (n : Fin 48) (c : SlotContent) (stale : Bool) (since : Int),
    s.heldInReset = false → s.fmy.write = .slot n c stale → s.fmy.writeTimer = .running since →
    ∃ t, exec .slotWriteComplete s = .next t ∧ t.now = max s.now (since + 4000).toNat ∧
      t.nv = { s.nv with slots := s.nv.slots.set n c } ∧ t.fmy.write = .idle ∧
      t.fmy.table = s.fmy.table ∧
      t.fmy.writes = (if s.fmy.reappend = true ∧ n ∉ s.fmy.writes then s.fmy.writes ++ [n]
        else s.fmy.writes) ∧
      (∀ l, s.fmy.clear = some l → stale = false →
        ((∀ x ∈ l, x = n) → t.fmy.clear = none ∧ t.lif.attention.opdone = true) ∧
        ((∃ x ∈ l, x ≠ n) → t.fmy.clear = some (l.filter (· ≠ n)) ∧
          t.lif.attention = s.lif.attention)) ∧
      (s.fmy.clear = none ∨ stale = true →
        t.fmy.clear = s.fmy.clear ∧ t.lif.attention = s.lif.attention) ∧
      t.fmy = { s.fmy with
        write := .idle, writeTimer := .stopped, reappend := false, writes := t.fmy.writes,
        clear := t.fmy.clear,
        formers := if s.fmy.reappend = true ∨ (∃ e ∈ s.fmy.table, e.slot = n) then s.fmy.formers
          else s.fmy.formers.set n none } ∧
      OnlyChanges [.now, .fmy, .attention, .cursor, .nv] s t) ∧
  (∀ (s : State) (c : Vector Nat 12) (since : Int), s.heldInReset = false →
    s.fmy.write = .counters c → s.fmy.writeTimer = .running since →
    ∃ t, exec .counterSaveComplete s = .next t ∧ t.now = max s.now (since + 4000).toNat ∧
      t.nv = (if s.fmy.lastIsB then { s.nv with copyA := .good c (s.fmy.saveNo + 1) }
        else { s.nv with copyB := .good c (s.fmy.saveNo + 1) }) ∧
      t.fmy = { s.fmy with
        write := .idle, writeTimer := .stopped, saveNo := s.fmy.saveNo + 1,
        lastIsB := !s.fmy.lastIsB,
        counterDue := s.fmy.counterDue || (s.mctl.restart == .saving &&
          (s.fmy.writes != [] || s.fmy.storeRequested)) } ∧
      t.mctl = { s.mctl with restart := if s.mctl.restart = .saving then
        (if s.fmy.writes = [] ∧ s.fmy.storeRequested = false then .ready else .waiting)
        else s.mctl.restart } ∧
      OnlyChanges [.now, .mctl, .fmy, .nv] s t) ∧
  (∀ (s : State) (l : List Byte) (since : Int), s.heldInReset = false →
    s.fmy.write = .image l → s.fmy.writeTimer = .running since →
    ∃ t, exec .configStoreComplete s = .next t ∧ t.now = max s.now (since + 120000).toNat ∧
      t.nv = { s.nv with image := .bytes l } ∧ t.fmy.write = .idle ∧
      t.lif.attention.opdone = true ∧
      t.fmy = { (if s.mode = .unconfigured ∨ s.mctl.imageFailed = true
          then s.reportCleared .imageBad else s).fmy with write := .idle, writeTimer := .stopped } ∧
      OnlyChanges [.now, .fmy, .cursor, .attention, .nv] s t)

/-- R158 to R160: what a report makes of the fault table. An ACTIVE one: nothing for an ACTIVE entry, an INACTIVE
entry made ACTIVE again, a new entry behind the others, or, in a full table, the replacement of the
candidate or a lost report; the candidate is INACTIVE, of lowest priority, then of highest aging, then of
earliest position. A new entry takes the slot of the entry it replaces, else the slot from which its code was last
removed while no entry owns it and its erasure has not been written (`formers`), else the lowest slot that no
entry owns (R164). A removal makes the entry's code the former code of its slot, and a creation in the slot ends
that. A CLEARED one makes an ACTIVE entry INACTIVE and changes nothing else of it, and for an
INACTIVE entry or a code without one it changes nothing at all. -/
def Obligations.ReportsChangeTheFaultTable : Prop :=
  ((∀ (s : State) (c : FaultCode) (p i : Nat) (e : FaultEntry), s.fmy.position c = some i →
    s.fmy.table[i]? = some e →
    (e.active = true → s.activeReport c p = s) ∧
    (e.active = false → (s.activeReport c p).fmy.table = s.fmy.table.set i
      { e with active := true, occurrences := min (e.occurrences + 1) 255, last := s.stamp,
               aging := 0 } ∧ (s.activeReport c p).fmy.formers = s.fmy.formers)) ∧
  (∀ (s : State) (c : FaultCode) (p : Nat), (∀ e ∈ s.fmy.table, e.code ≠ c) →
    s.fmy.table.length < 48 →
    ∃ e, (s.activeReport c p).fmy.table = s.fmy.table ++ [e] ∧
      (s.activeReport c p).fmy.formers = s.fmy.formers.set e.slot none ∧ e.code = c ∧ e.priority = p ∧
      e.active = true ∧ e.occurrences = 1 ∧ e.aging = 0 ∧ e.first = s.stamp ∧ e.last = s.stamp ∧
      e.snapshot.isSome = c.sourceClass.hasSnapshot ∧ (∀ x ∈ s.fmy.table, x.slot ≠ e.slot) ∧
      (∀ n : Fin 48, s.fmy.formers[n] = some c → (∀ x ∈ s.fmy.table, x.slot ≠ n) →
        (∀ j : Fin 48, j ≠ n → s.fmy.formers[j] ≠ some c) → e.slot = n) ∧
      ((∀ n : Fin 48, s.fmy.formers[n] = some c → ∃ x ∈ s.fmy.table, x.slot = n) →
        ∀ n : Fin 48, n < e.slot → ∃ x ∈ s.fmy.table, x.slot = n)) ∧
  (∀ (s : State) (c : FaultCode) (p : Nat), (∀ e ∈ s.fmy.table, e.code ≠ c) →
    s.fmy.table.length = 48 →
    (∀ i x, s.fmy.table[i]? = some x → x.active = false → x.priority ≤ p →
      (∀ j y, s.fmy.table[j]? = some y → y.active = false → j ≠ i →
        x.priority < y.priority ∨ (x.priority = y.priority ∧
          (y.aging < x.aging ∨ (y.aging = x.aging ∧ i < j)))) →
      ∃ e, (s.activeReport c p).fmy.table = s.fmy.table.eraseIdx i ++ [e] ∧
        (s.activeReport c p).fmy.formers = s.fmy.formers.set x.slot none ∧ e.code = c ∧
        e.priority = p ∧ e.active = true ∧ e.occurrences = 1 ∧ e.aging = 0 ∧ e.first = s.stamp ∧
        e.last = s.stamp ∧ e.snapshot.isSome = c.sourceClass.hasSnapshot ∧ e.slot = x.slot) ∧
    ((∀ x ∈ s.fmy.table, x.active = true ∨ p < x.priority) →
      (s.activeReport c p).fmy = { s.fmy with lost := min (s.fmy.lost + 1) 65535 } ∧
      (s.activeReport c p).lif.attention.lost = true))) ∧
  (∀ (s : State) (c : FaultCode) (i : Nat) (e : FaultEntry), s.fmy.position c = some i →
    s.fmy.table[i]? = some e → e.active = true →
    (s.clearedReport c).fmy.table = s.fmy.table.set i { e with active := false } ∧
      (s.clearedReport c).fmy.formers = s.fmy.formers) ∧
  (∀ (s : State) (c : FaultCode), (∀ e ∈ s.fmy.table, e.code = c → e.active = false) →
    s.clearedReport c = s) ∧
  (∀ (s : State) (i : Nat) (e : FaultEntry), s.fmy.table[i]? = some e →
    (s.removeEntry i).fmy.table = s.fmy.table.eraseIdx i ∧
    (s.removeEntry i).fmy.formers = s.fmy.formers.set e.slot (some e.code) ∧
    (e.slot ∈ (s.removeEntry i).fmy.writes ∨
      ((s.removeEntry i).fmy.write.slotNo = some e.slot ∧ (s.removeEntry i).fmy.reappend = true)))

/-! ### Invariants -/

/-- R16, R167, R168, R171, R173, R174, R212: the tables in force change only at the end of STARTUP, at the exit from
SETUP by SET_MODE and at a reset; the nonvolatile store changes only at the completion of a write and at a
reset that cuts one off; and a service counter, within its range, never decreases but by RESET_COUNTER in
WORKSHOP, which sets the one it names to 0, and at a reset with the start-up load that follows it. -/
def Obligations.TablesAndStoreChangeOnlyWhereTheyMay : Prop :=
  ∀ (c : Instr) (s t : State), exec c s = .next t →
    (c ≠ .powerOnReset → c ≠ .brownOut → c ≠ .externalReset → c ≠ .breakRelease →
      (c ≠ .restartTakesEffect → c ≠ .startupEnd →
        (s.mode = .setup → ∀ tag p, c ≠ .setMode tag p) → t.tables = s.tables) ∧
      (c ≠ .slotWriteComplete → c ≠ .counterSaveComplete → c ≠ .configStoreComplete →
        t.nv = s.nv)) ∧
    (c ≠ .powerOnReset → c ≠ .brownOut → c ≠ .externalReset →
      (c = .breakRelease → s.lif.breakLatched = false) → c ≠ .restartTakesEffect →
      c ≠ .startupLoadComplete →
      ∀ i : Fin 12, s.counter i ≤ counterMax → s.counter i ≤ t.counter i ∨
        (s.mode = .workshop ∧ i ≠ ignitionPlace ∧ i ≠ minutePlace ∧ t.counter i = 0 ∧
          ∃ tag, c = .resetCounter tag [BitVec.ofNat 8 i.val]))

/-- The laws hold at the state after a power-on reset, which is as `AfterReset` says; the reset values that the
manual does not give and `AfterReset` names are the model's (assumption 7). -/
def Obligations.LawsHoldAtReset : Prop :=
  ReleaseLaw State.reset ∧ InterlockLaw State.reset ∧ LinkLaw State.reset ∧ TablesLaw State.reset ∧
    FaultLaw State.reset ∧ NeedleLaw State.reset ∧ ListLaw State.reset ∧ TelltaleLaw State.reset ∧
    ChimeLaw State.reset ∧
    AfterReset .powerOn State.reset State.reset

/-- R147, R148: every step keeps the law of the release outputs: energised exactly with a grant, at a speed not
above the withdraw speed, outside EMERGENCY, in RUN or WORKSHOP, and no grant held otherwise. -/
def Obligations.StepKeepsReleaseLaw : Prop :=
  ∀ s t : State, ReleaseLaw s → step s = .next t → ReleaseLaw t

/-- R149 to R151: every step keeps the law of the interlock: FORCED exactly in the modes that force it, HELD only
with a condition, DELAY and FREE only without one, OVERRIDDEN outside FORCED exactly while the OVERRIDE line is
ACTIVE, and the release delay running exactly in DELAY. -/
def Obligations.StepKeepsInterlockLaw : Prop :=
  ∀ s t : State, InterlockLaw s → step s = .next t → InterlockLaw t

/-- R195, R196: every step keeps the law of the link. -/
def Obligations.StepKeepsLinkLaw : Prop :=
  ∀ s t : State, LinkLaw s → step s = .next t → LinkLaw t

/-- R156, R158, R164, R165, R170, R173, R186 and R7, R212 to R215: every step keeps the law of the tables, that the
tables in force always pass the field checks and the cross-table checks, and with it the law of the fault memory:
the order and the ranges of the table, the store in step with it but for the slots listed or in flight, and the
counters in their range. That a saturated creation number lets equal numbers stand out of slot order is the
model's reading (assumption 25). -/
def Obligations.StepKeepsTablesAndFaultLaws : Prop :=
  (∀ s t : State, TablesLaw s → step s = .next t → TablesLaw t) ∧
  ∀ s t : State, TablesLaw s → FaultLaw s → step s = .next t → FaultLaw t

/-- R112 to R116: every step keeps the law of the presentation list: at most 16 entries, no rule twice, only
popup rules in ACTIVE_NEW or LATCHED_NEW, in the order of priority, sequence and index, every waiting rule
ranked below a full list, and the published copy equal to the list outside a hold. -/
def Obligations.StepKeepsListLaw : Prop :=
  ∀ s t : State, ListLaw s → step s = .next t → ListLaw t

/-- R120, R121, R124, R128 to R130, R179: every step keeps the law of the published telltale levels (by mode,
lamp check, forcing and, in RUN and WORKSHOP, the highest of the demands on the lamp and on the failed
lamps that fall back to it) and the law of the chime's winner (the candidate that ranks first, none while
the chime is silenced, and the sounder off without a pattern). The demand of a rule is that of its state,
raised for an unacknowledged popup rule during host silence. And (R64 to R66, R68, R69, R78, R183) every step keeps
the law of the needles: an established position, both targets and a forced position within the scale of the tables
in force, the speed within smax, and a forced position in WORKSHOP only. -/
def Obligations.StepKeepsDashLaws : Prop :=
  (∀ s t : State, TelltaleLaw s → ChimeLaw s → step s = .next t → TelltaleLaw t ∧ ChimeLaw t) ∧
  (∀ s t : State, TablesLaw s → NeedleLaw s → step s = .next t → NeedleLaw t) ∧
  ∀ (s : State) (m : Fin 64), s.demand m = (match (s.rule m).st with
    | .activeNew | .latchedNew =>
      if s.lif.silence = true ∧ (s.ruleCfg m).popup = true ∧ (s.ruleCfg m).lampNew.code < 2
        then .flashSlow else (s.ruleCfg m).lampNew
    | .activeAck | .latchedAck => (s.ruleCfg m).lampAcked
    | .off | .pending => .off)
end

