-- ==== Sys2Proof/Laws/State.lean ====
section
/-! SUPPORT. One lemma per field for each update of the state, so that no proof unfolds a record
update. -/

namespace Sys2Proof.Machine

variable (s : State)

/-! ### modMctl -/

@[simp] theorem State.modMctl_pending (f : Mctl → Mctl) : (s.modMctl f).pending = s.pending := rfl
@[simp] theorem State.modMctl_now (f : Mctl → Mctl) : (s.modMctl f).now = s.now := rfl
@[simp] theorem State.modMctl_freeCount (f : Mctl → Mctl) : (s.modMctl f).freeCount = s.freeCount := rfl
@[simp] theorem State.modMctl_sched (f : Mctl → Mctl) : (s.modMctl f).sched = s.sched := rfl
@[simp] theorem State.modMctl_pins (f : Mctl → Mctl) : (s.modMctl f).pins = s.pins := rfl
@[simp] theorem State.modMctl_mctl (f : Mctl → Mctl) : (s.modMctl f).mctl = f s.mctl := rfl
@[simp] theorem State.modMctl_hlm (f : Mctl → Mctl) : (s.modMctl f).hlm = s.hlm := rfl
@[simp] theorem State.modMctl_gve (f : Mctl → Mctl) : (s.modMctl f).gve = s.gve := rfl
@[simp] theorem State.modMctl_ndr (f : Mctl → Mctl) : (s.modMctl f).ndr = s.ndr := rfl
@[simp] theorem State.modMctl_wev (f : Mctl → Mctl) : (s.modMctl f).wev = s.wev := rfl
@[simp] theorem State.modMctl_pru (f : Mctl → Mctl) : (s.modMctl f).pru = s.pru := rfl
@[simp] theorem State.modMctl_dmn (f : Mctl → Mctl) : (s.modMctl f).dmn = s.dmn := rfl
@[simp] theorem State.modMctl_fmy (f : Mctl → Mctl) : (s.modMctl f).fmy = s.fmy := rfl
@[simp] theorem State.modMctl_wsv (f : Mctl → Mctl) : (s.modMctl f).wsv = s.wsv := rfl
@[simp] theorem State.modMctl_lif (f : Mctl → Mctl) : (s.modMctl f).lif = s.lif := rfl
@[simp] theorem State.modMctl_tables (f : Mctl → Mctl) : (s.modMctl f).tables = s.tables := rfl
@[simp] theorem State.modMctl_written (f : Mctl → Mctl) : (s.modMctl f).written = s.written := rfl
@[simp] theorem State.modMctl_nv (f : Mctl → Mctl) : (s.modMctl f).nv = s.nv := rfl

/-! ### modHlm -/

@[simp] theorem State.modHlm_pending (f : Hlm → Hlm) : (s.modHlm f).pending = s.pending := rfl
@[simp] theorem State.modHlm_now (f : Hlm → Hlm) : (s.modHlm f).now = s.now := rfl
@[simp] theorem State.modHlm_freeCount (f : Hlm → Hlm) : (s.modHlm f).freeCount = s.freeCount := rfl
@[simp] theorem State.modHlm_sched (f : Hlm → Hlm) : (s.modHlm f).sched = s.sched := rfl
@[simp] theorem State.modHlm_pins (f : Hlm → Hlm) : (s.modHlm f).pins = s.pins := rfl
@[simp] theorem State.modHlm_mctl (f : Hlm → Hlm) : (s.modHlm f).mctl = s.mctl := rfl
@[simp] theorem State.modHlm_hlm (f : Hlm → Hlm) : (s.modHlm f).hlm = f s.hlm := rfl
@[simp] theorem State.modHlm_gve (f : Hlm → Hlm) : (s.modHlm f).gve = s.gve := rfl
@[simp] theorem State.modHlm_ndr (f : Hlm → Hlm) : (s.modHlm f).ndr = s.ndr := rfl
@[simp] theorem State.modHlm_wev (f : Hlm → Hlm) : (s.modHlm f).wev = s.wev := rfl
@[simp] theorem State.modHlm_pru (f : Hlm → Hlm) : (s.modHlm f).pru = s.pru := rfl
@[simp] theorem State.modHlm_dmn (f : Hlm → Hlm) : (s.modHlm f).dmn = s.dmn := rfl
@[simp] theorem State.modHlm_fmy (f : Hlm → Hlm) : (s.modHlm f).fmy = s.fmy := rfl
@[simp] theorem State.modHlm_wsv (f : Hlm → Hlm) : (s.modHlm f).wsv = s.wsv := rfl
@[simp] theorem State.modHlm_lif (f : Hlm → Hlm) : (s.modHlm f).lif = s.lif := rfl
@[simp] theorem State.modHlm_tables (f : Hlm → Hlm) : (s.modHlm f).tables = s.tables := rfl
@[simp] theorem State.modHlm_written (f : Hlm → Hlm) : (s.modHlm f).written = s.written := rfl
@[simp] theorem State.modHlm_nv (f : Hlm → Hlm) : (s.modHlm f).nv = s.nv := rfl

/-! ### modGve -/

@[simp] theorem State.modGve_pending (f : Gve → Gve) : (s.modGve f).pending = s.pending := rfl
@[simp] theorem State.modGve_now (f : Gve → Gve) : (s.modGve f).now = s.now := rfl
@[simp] theorem State.modGve_freeCount (f : Gve → Gve) : (s.modGve f).freeCount = s.freeCount := rfl
@[simp] theorem State.modGve_sched (f : Gve → Gve) : (s.modGve f).sched = s.sched := rfl
@[simp] theorem State.modGve_pins (f : Gve → Gve) : (s.modGve f).pins = s.pins := rfl
@[simp] theorem State.modGve_mctl (f : Gve → Gve) : (s.modGve f).mctl = s.mctl := rfl
@[simp] theorem State.modGve_hlm (f : Gve → Gve) : (s.modGve f).hlm = s.hlm := rfl
@[simp] theorem State.modGve_gve (f : Gve → Gve) : (s.modGve f).gve = f s.gve := rfl
@[simp] theorem State.modGve_ndr (f : Gve → Gve) : (s.modGve f).ndr = s.ndr := rfl
@[simp] theorem State.modGve_wev (f : Gve → Gve) : (s.modGve f).wev = s.wev := rfl
@[simp] theorem State.modGve_pru (f : Gve → Gve) : (s.modGve f).pru = s.pru := rfl
@[simp] theorem State.modGve_dmn (f : Gve → Gve) : (s.modGve f).dmn = s.dmn := rfl
@[simp] theorem State.modGve_fmy (f : Gve → Gve) : (s.modGve f).fmy = s.fmy := rfl
@[simp] theorem State.modGve_wsv (f : Gve → Gve) : (s.modGve f).wsv = s.wsv := rfl
@[simp] theorem State.modGve_lif (f : Gve → Gve) : (s.modGve f).lif = s.lif := rfl
@[simp] theorem State.modGve_tables (f : Gve → Gve) : (s.modGve f).tables = s.tables := rfl
@[simp] theorem State.modGve_written (f : Gve → Gve) : (s.modGve f).written = s.written := rfl
@[simp] theorem State.modGve_nv (f : Gve → Gve) : (s.modGve f).nv = s.nv := rfl

/-! ### modNdr -/

@[simp] theorem State.modNdr_pending (f : Ndr → Ndr) : (s.modNdr f).pending = s.pending := rfl
@[simp] theorem State.modNdr_now (f : Ndr → Ndr) : (s.modNdr f).now = s.now := rfl
@[simp] theorem State.modNdr_freeCount (f : Ndr → Ndr) : (s.modNdr f).freeCount = s.freeCount := rfl
@[simp] theorem State.modNdr_sched (f : Ndr → Ndr) : (s.modNdr f).sched = s.sched := rfl
@[simp] theorem State.modNdr_pins (f : Ndr → Ndr) : (s.modNdr f).pins = s.pins := rfl
@[simp] theorem State.modNdr_mctl (f : Ndr → Ndr) : (s.modNdr f).mctl = s.mctl := rfl
@[simp] theorem State.modNdr_hlm (f : Ndr → Ndr) : (s.modNdr f).hlm = s.hlm := rfl
@[simp] theorem State.modNdr_gve (f : Ndr → Ndr) : (s.modNdr f).gve = s.gve := rfl
@[simp] theorem State.modNdr_ndr (f : Ndr → Ndr) : (s.modNdr f).ndr = f s.ndr := rfl
@[simp] theorem State.modNdr_wev (f : Ndr → Ndr) : (s.modNdr f).wev = s.wev := rfl
@[simp] theorem State.modNdr_pru (f : Ndr → Ndr) : (s.modNdr f).pru = s.pru := rfl
@[simp] theorem State.modNdr_dmn (f : Ndr → Ndr) : (s.modNdr f).dmn = s.dmn := rfl
@[simp] theorem State.modNdr_fmy (f : Ndr → Ndr) : (s.modNdr f).fmy = s.fmy := rfl
@[simp] theorem State.modNdr_wsv (f : Ndr → Ndr) : (s.modNdr f).wsv = s.wsv := rfl
@[simp] theorem State.modNdr_lif (f : Ndr → Ndr) : (s.modNdr f).lif = s.lif := rfl
@[simp] theorem State.modNdr_tables (f : Ndr → Ndr) : (s.modNdr f).tables = s.tables := rfl
@[simp] theorem State.modNdr_written (f : Ndr → Ndr) : (s.modNdr f).written = s.written := rfl
@[simp] theorem State.modNdr_nv (f : Ndr → Ndr) : (s.modNdr f).nv = s.nv := rfl

/-! ### modWev -/

@[simp] theorem State.modWev_pending (f : Wev → Wev) : (s.modWev f).pending = s.pending := rfl
@[simp] theorem State.modWev_now (f : Wev → Wev) : (s.modWev f).now = s.now := rfl
@[simp] theorem State.modWev_freeCount (f : Wev → Wev) : (s.modWev f).freeCount = s.freeCount := rfl
@[simp] theorem State.modWev_sched (f : Wev → Wev) : (s.modWev f).sched = s.sched := rfl
@[simp] theorem State.modWev_pins (f : Wev → Wev) : (s.modWev f).pins = s.pins := rfl
@[simp] theorem State.modWev_mctl (f : Wev → Wev) : (s.modWev f).mctl = s.mctl := rfl
@[simp] theorem State.modWev_hlm (f : Wev → Wev) : (s.modWev f).hlm = s.hlm := rfl
@[simp] theorem State.modWev_gve (f : Wev → Wev) : (s.modWev f).gve = s.gve := rfl
@[simp] theorem State.modWev_ndr (f : Wev → Wev) : (s.modWev f).ndr = s.ndr := rfl
@[simp] theorem State.modWev_wev (f : Wev → Wev) : (s.modWev f).wev = f s.wev := rfl
@[simp] theorem State.modWev_pru (f : Wev → Wev) : (s.modWev f).pru = s.pru := rfl
@[simp] theorem State.modWev_dmn (f : Wev → Wev) : (s.modWev f).dmn = s.dmn := rfl
@[simp] theorem State.modWev_fmy (f : Wev → Wev) : (s.modWev f).fmy = s.fmy := rfl
@[simp] theorem State.modWev_wsv (f : Wev → Wev) : (s.modWev f).wsv = s.wsv := rfl
@[simp] theorem State.modWev_lif (f : Wev → Wev) : (s.modWev f).lif = s.lif := rfl
@[simp] theorem State.modWev_tables (f : Wev → Wev) : (s.modWev f).tables = s.tables := rfl
@[simp] theorem State.modWev_written (f : Wev → Wev) : (s.modWev f).written = s.written := rfl
@[simp] theorem State.modWev_nv (f : Wev → Wev) : (s.modWev f).nv = s.nv := rfl

/-! ### modPru -/

@[simp] theorem State.modPru_pending (f : Pru → Pru) : (s.modPru f).pending = s.pending := rfl
@[simp] theorem State.modPru_now (f : Pru → Pru) : (s.modPru f).now = s.now := rfl
@[simp] theorem State.modPru_freeCount (f : Pru → Pru) : (s.modPru f).freeCount = s.freeCount := rfl
@[simp] theorem State.modPru_sched (f : Pru → Pru) : (s.modPru f).sched = s.sched := rfl
@[simp] theorem State.modPru_pins (f : Pru → Pru) : (s.modPru f).pins = s.pins := rfl
@[simp] theorem State.modPru_mctl (f : Pru → Pru) : (s.modPru f).mctl = s.mctl := rfl
@[simp] theorem State.modPru_hlm (f : Pru → Pru) : (s.modPru f).hlm = s.hlm := rfl
@[simp] theorem State.modPru_gve (f : Pru → Pru) : (s.modPru f).gve = s.gve := rfl
@[simp] theorem State.modPru_ndr (f : Pru → Pru) : (s.modPru f).ndr = s.ndr := rfl
@[simp] theorem State.modPru_wev (f : Pru → Pru) : (s.modPru f).wev = s.wev := rfl
@[simp] theorem State.modPru_pru (f : Pru → Pru) : (s.modPru f).pru = f s.pru := rfl
@[simp] theorem State.modPru_dmn (f : Pru → Pru) : (s.modPru f).dmn = s.dmn := rfl
@[simp] theorem State.modPru_fmy (f : Pru → Pru) : (s.modPru f).fmy = s.fmy := rfl
@[simp] theorem State.modPru_wsv (f : Pru → Pru) : (s.modPru f).wsv = s.wsv := rfl
@[simp] theorem State.modPru_lif (f : Pru → Pru) : (s.modPru f).lif = s.lif := rfl
@[simp] theorem State.modPru_tables (f : Pru → Pru) : (s.modPru f).tables = s.tables := rfl
@[simp] theorem State.modPru_written (f : Pru → Pru) : (s.modPru f).written = s.written := rfl
@[simp] theorem State.modPru_nv (f : Pru → Pru) : (s.modPru f).nv = s.nv := rfl

/-! ### modDmn -/

@[simp] theorem State.modDmn_pending (f : Dmn → Dmn) : (s.modDmn f).pending = s.pending := rfl
@[simp] theorem State.modDmn_now (f : Dmn → Dmn) : (s.modDmn f).now = s.now := rfl
@[simp] theorem State.modDmn_freeCount (f : Dmn → Dmn) : (s.modDmn f).freeCount = s.freeCount := rfl
@[simp] theorem State.modDmn_sched (f : Dmn → Dmn) : (s.modDmn f).sched = s.sched := rfl
@[simp] theorem State.modDmn_pins (f : Dmn → Dmn) : (s.modDmn f).pins = s.pins := rfl
@[simp] theorem State.modDmn_mctl (f : Dmn → Dmn) : (s.modDmn f).mctl = s.mctl := rfl
@[simp] theorem State.modDmn_hlm (f : Dmn → Dmn) : (s.modDmn f).hlm = s.hlm := rfl
@[simp] theorem State.modDmn_gve (f : Dmn → Dmn) : (s.modDmn f).gve = s.gve := rfl
@[simp] theorem State.modDmn_ndr (f : Dmn → Dmn) : (s.modDmn f).ndr = s.ndr := rfl
@[simp] theorem State.modDmn_wev (f : Dmn → Dmn) : (s.modDmn f).wev = s.wev := rfl
@[simp] theorem State.modDmn_pru (f : Dmn → Dmn) : (s.modDmn f).pru = s.pru := rfl
@[simp] theorem State.modDmn_dmn (f : Dmn → Dmn) : (s.modDmn f).dmn = f s.dmn := rfl
@[simp] theorem State.modDmn_fmy (f : Dmn → Dmn) : (s.modDmn f).fmy = s.fmy := rfl
@[simp] theorem State.modDmn_wsv (f : Dmn → Dmn) : (s.modDmn f).wsv = s.wsv := rfl
@[simp] theorem State.modDmn_lif (f : Dmn → Dmn) : (s.modDmn f).lif = s.lif := rfl
@[simp] theorem State.modDmn_tables (f : Dmn → Dmn) : (s.modDmn f).tables = s.tables := rfl
@[simp] theorem State.modDmn_written (f : Dmn → Dmn) : (s.modDmn f).written = s.written := rfl
@[simp] theorem State.modDmn_nv (f : Dmn → Dmn) : (s.modDmn f).nv = s.nv := rfl

/-! ### modFmy -/

@[simp] theorem State.modFmy_pending (f : Fmy → Fmy) : (s.modFmy f).pending = s.pending := rfl
@[simp] theorem State.modFmy_now (f : Fmy → Fmy) : (s.modFmy f).now = s.now := rfl
@[simp] theorem State.modFmy_freeCount (f : Fmy → Fmy) : (s.modFmy f).freeCount = s.freeCount := rfl
@[simp] theorem State.modFmy_sched (f : Fmy → Fmy) : (s.modFmy f).sched = s.sched := rfl
@[simp] theorem State.modFmy_pins (f : Fmy → Fmy) : (s.modFmy f).pins = s.pins := rfl
@[simp] theorem State.modFmy_mctl (f : Fmy → Fmy) : (s.modFmy f).mctl = s.mctl := rfl
@[simp] theorem State.modFmy_hlm (f : Fmy → Fmy) : (s.modFmy f).hlm = s.hlm := rfl
@[simp] theorem State.modFmy_gve (f : Fmy → Fmy) : (s.modFmy f).gve = s.gve := rfl
@[simp] theorem State.modFmy_ndr (f : Fmy → Fmy) : (s.modFmy f).ndr = s.ndr := rfl
@[simp] theorem State.modFmy_wev (f : Fmy → Fmy) : (s.modFmy f).wev = s.wev := rfl
@[simp] theorem State.modFmy_pru (f : Fmy → Fmy) : (s.modFmy f).pru = s.pru := rfl
@[simp] theorem State.modFmy_dmn (f : Fmy → Fmy) : (s.modFmy f).dmn = s.dmn := rfl
@[simp] theorem State.modFmy_fmy (f : Fmy → Fmy) : (s.modFmy f).fmy = f s.fmy := rfl
@[simp] theorem State.modFmy_wsv (f : Fmy → Fmy) : (s.modFmy f).wsv = s.wsv := rfl
@[simp] theorem State.modFmy_lif (f : Fmy → Fmy) : (s.modFmy f).lif = s.lif := rfl
@[simp] theorem State.modFmy_tables (f : Fmy → Fmy) : (s.modFmy f).tables = s.tables := rfl
@[simp] theorem State.modFmy_written (f : Fmy → Fmy) : (s.modFmy f).written = s.written := rfl
@[simp] theorem State.modFmy_nv (f : Fmy → Fmy) : (s.modFmy f).nv = s.nv := rfl

/-! ### modWsv -/

@[simp] theorem State.modWsv_pending (f : Wsv → Wsv) : (s.modWsv f).pending = s.pending := rfl
@[simp] theorem State.modWsv_now (f : Wsv → Wsv) : (s.modWsv f).now = s.now := rfl
@[simp] theorem State.modWsv_freeCount (f : Wsv → Wsv) : (s.modWsv f).freeCount = s.freeCount := rfl
@[simp] theorem State.modWsv_sched (f : Wsv → Wsv) : (s.modWsv f).sched = s.sched := rfl
@[simp] theorem State.modWsv_pins (f : Wsv → Wsv) : (s.modWsv f).pins = s.pins := rfl
@[simp] theorem State.modWsv_mctl (f : Wsv → Wsv) : (s.modWsv f).mctl = s.mctl := rfl
@[simp] theorem State.modWsv_hlm (f : Wsv → Wsv) : (s.modWsv f).hlm = s.hlm := rfl
@[simp] theorem State.modWsv_gve (f : Wsv → Wsv) : (s.modWsv f).gve = s.gve := rfl
@[simp] theorem State.modWsv_ndr (f : Wsv → Wsv) : (s.modWsv f).ndr = s.ndr := rfl
@[simp] theorem State.modWsv_wev (f : Wsv → Wsv) : (s.modWsv f).wev = s.wev := rfl
@[simp] theorem State.modWsv_pru (f : Wsv → Wsv) : (s.modWsv f).pru = s.pru := rfl
@[simp] theorem State.modWsv_dmn (f : Wsv → Wsv) : (s.modWsv f).dmn = s.dmn := rfl
@[simp] theorem State.modWsv_fmy (f : Wsv → Wsv) : (s.modWsv f).fmy = s.fmy := rfl
@[simp] theorem State.modWsv_wsv (f : Wsv → Wsv) : (s.modWsv f).wsv = f s.wsv := rfl
@[simp] theorem State.modWsv_lif (f : Wsv → Wsv) : (s.modWsv f).lif = s.lif := rfl
@[simp] theorem State.modWsv_tables (f : Wsv → Wsv) : (s.modWsv f).tables = s.tables := rfl
@[simp] theorem State.modWsv_written (f : Wsv → Wsv) : (s.modWsv f).written = s.written := rfl
@[simp] theorem State.modWsv_nv (f : Wsv → Wsv) : (s.modWsv f).nv = s.nv := rfl

/-! ### modLif -/

@[simp] theorem State.modLif_pending (f : Lif → Lif) : (s.modLif f).pending = s.pending := rfl
@[simp] theorem State.modLif_now (f : Lif → Lif) : (s.modLif f).now = s.now := rfl
@[simp] theorem State.modLif_freeCount (f : Lif → Lif) : (s.modLif f).freeCount = s.freeCount := rfl
@[simp] theorem State.modLif_sched (f : Lif → Lif) : (s.modLif f).sched = s.sched := rfl
@[simp] theorem State.modLif_pins (f : Lif → Lif) : (s.modLif f).pins = s.pins := rfl
@[simp] theorem State.modLif_mctl (f : Lif → Lif) : (s.modLif f).mctl = s.mctl := rfl
@[simp] theorem State.modLif_hlm (f : Lif → Lif) : (s.modLif f).hlm = s.hlm := rfl
@[simp] theorem State.modLif_gve (f : Lif → Lif) : (s.modLif f).gve = s.gve := rfl
@[simp] theorem State.modLif_ndr (f : Lif → Lif) : (s.modLif f).ndr = s.ndr := rfl
@[simp] theorem State.modLif_wev (f : Lif → Lif) : (s.modLif f).wev = s.wev := rfl
@[simp] theorem State.modLif_pru (f : Lif → Lif) : (s.modLif f).pru = s.pru := rfl
@[simp] theorem State.modLif_dmn (f : Lif → Lif) : (s.modLif f).dmn = s.dmn := rfl
@[simp] theorem State.modLif_fmy (f : Lif → Lif) : (s.modLif f).fmy = s.fmy := rfl
@[simp] theorem State.modLif_wsv (f : Lif → Lif) : (s.modLif f).wsv = s.wsv := rfl
@[simp] theorem State.modLif_lif (f : Lif → Lif) : (s.modLif f).lif = f s.lif := rfl
@[simp] theorem State.modLif_tables (f : Lif → Lif) : (s.modLif f).tables = s.tables := rfl
@[simp] theorem State.modLif_written (f : Lif → Lif) : (s.modLif f).written = s.written := rfl
@[simp] theorem State.modLif_nv (f : Lif → Lif) : (s.modLif f).nv = s.nv := rfl

/-! ### modSched -/

@[simp] theorem State.modSched_pending (f : Sched → Sched) : (s.modSched f).pending = s.pending := rfl
@[simp] theorem State.modSched_now (f : Sched → Sched) : (s.modSched f).now = s.now := rfl
@[simp] theorem State.modSched_freeCount (f : Sched → Sched) : (s.modSched f).freeCount = s.freeCount := rfl
@[simp] theorem State.modSched_sched (f : Sched → Sched) : (s.modSched f).sched = f s.sched := rfl
@[simp] theorem State.modSched_pins (f : Sched → Sched) : (s.modSched f).pins = s.pins := rfl
@[simp] theorem State.modSched_mctl (f : Sched → Sched) : (s.modSched f).mctl = s.mctl := rfl
@[simp] theorem State.modSched_hlm (f : Sched → Sched) : (s.modSched f).hlm = s.hlm := rfl
@[simp] theorem State.modSched_gve (f : Sched → Sched) : (s.modSched f).gve = s.gve := rfl
@[simp] theorem State.modSched_ndr (f : Sched → Sched) : (s.modSched f).ndr = s.ndr := rfl
@[simp] theorem State.modSched_wev (f : Sched → Sched) : (s.modSched f).wev = s.wev := rfl
@[simp] theorem State.modSched_pru (f : Sched → Sched) : (s.modSched f).pru = s.pru := rfl
@[simp] theorem State.modSched_dmn (f : Sched → Sched) : (s.modSched f).dmn = s.dmn := rfl
@[simp] theorem State.modSched_fmy (f : Sched → Sched) : (s.modSched f).fmy = s.fmy := rfl
@[simp] theorem State.modSched_wsv (f : Sched → Sched) : (s.modSched f).wsv = s.wsv := rfl
@[simp] theorem State.modSched_lif (f : Sched → Sched) : (s.modSched f).lif = s.lif := rfl
@[simp] theorem State.modSched_tables (f : Sched → Sched) : (s.modSched f).tables = s.tables := rfl
@[simp] theorem State.modSched_written (f : Sched → Sched) : (s.modSched f).written = s.written := rfl
@[simp] theorem State.modSched_nv (f : Sched → Sched) : (s.modSched f).nv = s.nv := rfl

/-! ### modPins -/

@[simp] theorem State.modPins_pending (f : Pins → Pins) : (s.modPins f).pending = s.pending := rfl
@[simp] theorem State.modPins_now (f : Pins → Pins) : (s.modPins f).now = s.now := rfl
@[simp] theorem State.modPins_freeCount (f : Pins → Pins) : (s.modPins f).freeCount = s.freeCount := rfl
@[simp] theorem State.modPins_sched (f : Pins → Pins) : (s.modPins f).sched = s.sched := rfl
@[simp] theorem State.modPins_pins (f : Pins → Pins) : (s.modPins f).pins = f s.pins := rfl
@[simp] theorem State.modPins_mctl (f : Pins → Pins) : (s.modPins f).mctl = s.mctl := rfl
@[simp] theorem State.modPins_hlm (f : Pins → Pins) : (s.modPins f).hlm = s.hlm := rfl
@[simp] theorem State.modPins_gve (f : Pins → Pins) : (s.modPins f).gve = s.gve := rfl
@[simp] theorem State.modPins_ndr (f : Pins → Pins) : (s.modPins f).ndr = s.ndr := rfl
@[simp] theorem State.modPins_wev (f : Pins → Pins) : (s.modPins f).wev = s.wev := rfl
@[simp] theorem State.modPins_pru (f : Pins → Pins) : (s.modPins f).pru = s.pru := rfl
@[simp] theorem State.modPins_dmn (f : Pins → Pins) : (s.modPins f).dmn = s.dmn := rfl
@[simp] theorem State.modPins_fmy (f : Pins → Pins) : (s.modPins f).fmy = s.fmy := rfl
@[simp] theorem State.modPins_wsv (f : Pins → Pins) : (s.modPins f).wsv = s.wsv := rfl
@[simp] theorem State.modPins_lif (f : Pins → Pins) : (s.modPins f).lif = s.lif := rfl
@[simp] theorem State.modPins_tables (f : Pins → Pins) : (s.modPins f).tables = s.tables := rfl
@[simp] theorem State.modPins_written (f : Pins → Pins) : (s.modPins f).written = s.written := rfl
@[simp] theorem State.modPins_nv (f : Pins → Pins) : (s.modPins f).nv = s.nv := rfl

/-! ### Records of a fixed number -/

@[simp] theorem updAt_same {α : Type} {n : Nat} (v : Vector α n) (i : Fin n) (f : α → α) :
    (updAt v i f)[i] = f v[i] := by simp [updAt]

theorem updAt_other {α : Type} {n : Nat} (v : Vector α n) (i j : Fin n) (f : α → α) (h : i ≠ j) :
    (updAt v i f)[j] = v[j] := by
  have h' : i.val ≠ j.val := fun e => h (Fin.ext e)
  simp [updAt, h']

@[simp] theorem updAll_get {α : Type} {n : Nat} (v : Vector α n) (f : Fin n → α → α) (i : Fin n) :
    (updAll v f)[i] = f i v[i] := by simp [updAll]

/-! ### modLine -/

@[simp] theorem State.modLine_pending (n : Fin 32) (f : LineRec → LineRec) : (s.modLine n f).pending = s.pending := rfl
@[simp] theorem State.modLine_now (n : Fin 32) (f : LineRec → LineRec) : (s.modLine n f).now = s.now := rfl
@[simp] theorem State.modLine_freeCount (n : Fin 32) (f : LineRec → LineRec) : (s.modLine n f).freeCount = s.freeCount := rfl
@[simp] theorem State.modLine_sched (n : Fin 32) (f : LineRec → LineRec) : (s.modLine n f).sched = s.sched := rfl
@[simp] theorem State.modLine_pins (n : Fin 32) (f : LineRec → LineRec) : (s.modLine n f).pins = s.pins := rfl
@[simp] theorem State.modLine_mctl (n : Fin 32) (f : LineRec → LineRec) : (s.modLine n f).mctl = s.mctl := rfl
@[simp] theorem State.modLine_gve (n : Fin 32) (f : LineRec → LineRec) : (s.modLine n f).gve = s.gve := rfl
@[simp] theorem State.modLine_ndr (n : Fin 32) (f : LineRec → LineRec) : (s.modLine n f).ndr = s.ndr := rfl
@[simp] theorem State.modLine_wev (n : Fin 32) (f : LineRec → LineRec) : (s.modLine n f).wev = s.wev := rfl
@[simp] theorem State.modLine_pru (n : Fin 32) (f : LineRec → LineRec) : (s.modLine n f).pru = s.pru := rfl
@[simp] theorem State.modLine_dmn (n : Fin 32) (f : LineRec → LineRec) : (s.modLine n f).dmn = s.dmn := rfl
@[simp] theorem State.modLine_fmy (n : Fin 32) (f : LineRec → LineRec) : (s.modLine n f).fmy = s.fmy := rfl
@[simp] theorem State.modLine_wsv (n : Fin 32) (f : LineRec → LineRec) : (s.modLine n f).wsv = s.wsv := rfl
@[simp] theorem State.modLine_lif (n : Fin 32) (f : LineRec → LineRec) : (s.modLine n f).lif = s.lif := rfl
@[simp] theorem State.modLine_tables (n : Fin 32) (f : LineRec → LineRec) : (s.modLine n f).tables = s.tables := rfl
@[simp] theorem State.modLine_written (n : Fin 32) (f : LineRec → LineRec) : (s.modLine n f).written = s.written := rfl
@[simp] theorem State.modLine_nv (n : Fin 32) (f : LineRec → LineRec) : (s.modLine n f).nv = s.nv := rfl
@[simp] theorem State.modLine_same (n : Fin 32) (f : LineRec → LineRec) : (s.modLine n f).line n = f (s.line n) :=
  updAt_same ..
theorem State.modLine_other (n j : Fin 32) (f : LineRec → LineRec) (h : n ≠ j) :
    (s.modLine n f).line j = s.line j := updAt_other _ _ _ _ h

/-! ### modUnit -/

@[simp] theorem State.modUnit_pending (u : Fin 2) (f : Capture → Capture) : (s.modUnit u f).pending = s.pending := rfl
@[simp] theorem State.modUnit_now (u : Fin 2) (f : Capture → Capture) : (s.modUnit u f).now = s.now := rfl
@[simp] theorem State.modUnit_freeCount (u : Fin 2) (f : Capture → Capture) : (s.modUnit u f).freeCount = s.freeCount := rfl
@[simp] theorem State.modUnit_sched (u : Fin 2) (f : Capture → Capture) : (s.modUnit u f).sched = s.sched := rfl
@[simp] theorem State.modUnit_pins (u : Fin 2) (f : Capture → Capture) : (s.modUnit u f).pins = s.pins := rfl
@[simp] theorem State.modUnit_mctl (u : Fin 2) (f : Capture → Capture) : (s.modUnit u f).mctl = s.mctl := rfl
@[simp] theorem State.modUnit_hlm (u : Fin 2) (f : Capture → Capture) : (s.modUnit u f).hlm = s.hlm := rfl
@[simp] theorem State.modUnit_ndr (u : Fin 2) (f : Capture → Capture) : (s.modUnit u f).ndr = s.ndr := rfl
@[simp] theorem State.modUnit_wev (u : Fin 2) (f : Capture → Capture) : (s.modUnit u f).wev = s.wev := rfl
@[simp] theorem State.modUnit_pru (u : Fin 2) (f : Capture → Capture) : (s.modUnit u f).pru = s.pru := rfl
@[simp] theorem State.modUnit_dmn (u : Fin 2) (f : Capture → Capture) : (s.modUnit u f).dmn = s.dmn := rfl
@[simp] theorem State.modUnit_fmy (u : Fin 2) (f : Capture → Capture) : (s.modUnit u f).fmy = s.fmy := rfl
@[simp] theorem State.modUnit_wsv (u : Fin 2) (f : Capture → Capture) : (s.modUnit u f).wsv = s.wsv := rfl
@[simp] theorem State.modUnit_lif (u : Fin 2) (f : Capture → Capture) : (s.modUnit u f).lif = s.lif := rfl
@[simp] theorem State.modUnit_tables (u : Fin 2) (f : Capture → Capture) : (s.modUnit u f).tables = s.tables := rfl
@[simp] theorem State.modUnit_written (u : Fin 2) (f : Capture → Capture) : (s.modUnit u f).written = s.written := rfl
@[simp] theorem State.modUnit_nv (u : Fin 2) (f : Capture → Capture) : (s.modUnit u f).nv = s.nv := rfl
@[simp] theorem State.modUnit_same (u : Fin 2) (f : Capture → Capture) : (s.modUnit u f).unit u = f (s.unit u) :=
  updAt_same ..
theorem State.modUnit_other (u j : Fin 2) (f : Capture → Capture) (h : u ≠ j) :
    (s.modUnit u f).unit j = s.unit j := updAt_other _ _ _ _ h

/-! ### modChannel -/

@[simp] theorem State.modChannel_pending (k : Fin 6) (f : Channel → Channel) : (s.modChannel k f).pending = s.pending := rfl
@[simp] theorem State.modChannel_now (k : Fin 6) (f : Channel → Channel) : (s.modChannel k f).now = s.now := rfl
@[simp] theorem State.modChannel_freeCount (k : Fin 6) (f : Channel → Channel) : (s.modChannel k f).freeCount = s.freeCount := rfl
@[simp] theorem State.modChannel_sched (k : Fin 6) (f : Channel → Channel) : (s.modChannel k f).sched = s.sched := rfl
@[simp] theorem State.modChannel_pins (k : Fin 6) (f : Channel → Channel) : (s.modChannel k f).pins = s.pins := rfl
@[simp] theorem State.modChannel_mctl (k : Fin 6) (f : Channel → Channel) : (s.modChannel k f).mctl = s.mctl := rfl
@[simp] theorem State.modChannel_hlm (k : Fin 6) (f : Channel → Channel) : (s.modChannel k f).hlm = s.hlm := rfl
@[simp] theorem State.modChannel_ndr (k : Fin 6) (f : Channel → Channel) : (s.modChannel k f).ndr = s.ndr := rfl
@[simp] theorem State.modChannel_wev (k : Fin 6) (f : Channel → Channel) : (s.modChannel k f).wev = s.wev := rfl
@[simp] theorem State.modChannel_pru (k : Fin 6) (f : Channel → Channel) : (s.modChannel k f).pru = s.pru := rfl
@[simp] theorem State.modChannel_dmn (k : Fin 6) (f : Channel → Channel) : (s.modChannel k f).dmn = s.dmn := rfl
@[simp] theorem State.modChannel_fmy (k : Fin 6) (f : Channel → Channel) : (s.modChannel k f).fmy = s.fmy := rfl
@[simp] theorem State.modChannel_wsv (k : Fin 6) (f : Channel → Channel) : (s.modChannel k f).wsv = s.wsv := rfl
@[simp] theorem State.modChannel_lif (k : Fin 6) (f : Channel → Channel) : (s.modChannel k f).lif = s.lif := rfl
@[simp] theorem State.modChannel_tables (k : Fin 6) (f : Channel → Channel) : (s.modChannel k f).tables = s.tables := rfl
@[simp] theorem State.modChannel_written (k : Fin 6) (f : Channel → Channel) : (s.modChannel k f).written = s.written := rfl
@[simp] theorem State.modChannel_nv (k : Fin 6) (f : Channel → Channel) : (s.modChannel k f).nv = s.nv := rfl
@[simp] theorem State.modChannel_same (k : Fin 6) (f : Channel → Channel) : (s.modChannel k f).channel k = f (s.channel k) :=
  updAt_same ..
theorem State.modChannel_other (k j : Fin 6) (f : Channel → Channel) (h : k ≠ j) :
    (s.modChannel k f).channel j = s.channel j := updAt_other _ _ _ _ h

/-! ### modNeedle -/

@[simp] theorem State.modNeedle_pending (k : Fin 6) (f : Needle → Needle) : (s.modNeedle k f).pending = s.pending := rfl
@[simp] theorem State.modNeedle_now (k : Fin 6) (f : Needle → Needle) : (s.modNeedle k f).now = s.now := rfl
@[simp] theorem State.modNeedle_freeCount (k : Fin 6) (f : Needle → Needle) : (s.modNeedle k f).freeCount = s.freeCount := rfl
@[simp] theorem State.modNeedle_sched (k : Fin 6) (f : Needle → Needle) : (s.modNeedle k f).sched = s.sched := rfl
@[simp] theorem State.modNeedle_pins (k : Fin 6) (f : Needle → Needle) : (s.modNeedle k f).pins = s.pins := rfl
@[simp] theorem State.modNeedle_mctl (k : Fin 6) (f : Needle → Needle) : (s.modNeedle k f).mctl = s.mctl := rfl
@[simp] theorem State.modNeedle_hlm (k : Fin 6) (f : Needle → Needle) : (s.modNeedle k f).hlm = s.hlm := rfl
@[simp] theorem State.modNeedle_gve (k : Fin 6) (f : Needle → Needle) : (s.modNeedle k f).gve = s.gve := rfl
@[simp] theorem State.modNeedle_wev (k : Fin 6) (f : Needle → Needle) : (s.modNeedle k f).wev = s.wev := rfl
@[simp] theorem State.modNeedle_pru (k : Fin 6) (f : Needle → Needle) : (s.modNeedle k f).pru = s.pru := rfl
@[simp] theorem State.modNeedle_dmn (k : Fin 6) (f : Needle → Needle) : (s.modNeedle k f).dmn = s.dmn := rfl
@[simp] theorem State.modNeedle_fmy (k : Fin 6) (f : Needle → Needle) : (s.modNeedle k f).fmy = s.fmy := rfl
@[simp] theorem State.modNeedle_wsv (k : Fin 6) (f : Needle → Needle) : (s.modNeedle k f).wsv = s.wsv := rfl
@[simp] theorem State.modNeedle_lif (k : Fin 6) (f : Needle → Needle) : (s.modNeedle k f).lif = s.lif := rfl
@[simp] theorem State.modNeedle_tables (k : Fin 6) (f : Needle → Needle) : (s.modNeedle k f).tables = s.tables := rfl
@[simp] theorem State.modNeedle_written (k : Fin 6) (f : Needle → Needle) : (s.modNeedle k f).written = s.written := rfl
@[simp] theorem State.modNeedle_nv (k : Fin 6) (f : Needle → Needle) : (s.modNeedle k f).nv = s.nv := rfl
@[simp] theorem State.modNeedle_same (k : Fin 6) (f : Needle → Needle) : (s.modNeedle k f).needle k = f (s.needle k) :=
  updAt_same ..
theorem State.modNeedle_other (k j : Fin 6) (f : Needle → Needle) (h : k ≠ j) :
    (s.modNeedle k f).needle j = s.needle j := updAt_other _ _ _ _ h

/-! ### modRule -/

@[simp] theorem State.modRule_pending (m : Fin 64) (f : RuleRec → RuleRec) : (s.modRule m f).pending = s.pending := rfl
@[simp] theorem State.modRule_now (m : Fin 64) (f : RuleRec → RuleRec) : (s.modRule m f).now = s.now := rfl
@[simp] theorem State.modRule_freeCount (m : Fin 64) (f : RuleRec → RuleRec) : (s.modRule m f).freeCount = s.freeCount := rfl
@[simp] theorem State.modRule_sched (m : Fin 64) (f : RuleRec → RuleRec) : (s.modRule m f).sched = s.sched := rfl
@[simp] theorem State.modRule_pins (m : Fin 64) (f : RuleRec → RuleRec) : (s.modRule m f).pins = s.pins := rfl
@[simp] theorem State.modRule_mctl (m : Fin 64) (f : RuleRec → RuleRec) : (s.modRule m f).mctl = s.mctl := rfl
@[simp] theorem State.modRule_hlm (m : Fin 64) (f : RuleRec → RuleRec) : (s.modRule m f).hlm = s.hlm := rfl
@[simp] theorem State.modRule_gve (m : Fin 64) (f : RuleRec → RuleRec) : (s.modRule m f).gve = s.gve := rfl
@[simp] theorem State.modRule_ndr (m : Fin 64) (f : RuleRec → RuleRec) : (s.modRule m f).ndr = s.ndr := rfl
@[simp] theorem State.modRule_pru (m : Fin 64) (f : RuleRec → RuleRec) : (s.modRule m f).pru = s.pru := rfl
@[simp] theorem State.modRule_dmn (m : Fin 64) (f : RuleRec → RuleRec) : (s.modRule m f).dmn = s.dmn := rfl
@[simp] theorem State.modRule_fmy (m : Fin 64) (f : RuleRec → RuleRec) : (s.modRule m f).fmy = s.fmy := rfl
@[simp] theorem State.modRule_wsv (m : Fin 64) (f : RuleRec → RuleRec) : (s.modRule m f).wsv = s.wsv := rfl
@[simp] theorem State.modRule_lif (m : Fin 64) (f : RuleRec → RuleRec) : (s.modRule m f).lif = s.lif := rfl
@[simp] theorem State.modRule_tables (m : Fin 64) (f : RuleRec → RuleRec) : (s.modRule m f).tables = s.tables := rfl
@[simp] theorem State.modRule_written (m : Fin 64) (f : RuleRec → RuleRec) : (s.modRule m f).written = s.written := rfl
@[simp] theorem State.modRule_nv (m : Fin 64) (f : RuleRec → RuleRec) : (s.modRule m f).nv = s.nv := rfl
@[simp] theorem State.modRule_same (m : Fin 64) (f : RuleRec → RuleRec) : (s.modRule m f).rule m = f (s.rule m) :=
  updAt_same ..
theorem State.modRule_other (m j : Fin 64) (f : RuleRec → RuleRec) (h : m ≠ j) :
    (s.modRule m f).rule j = s.rule j := updAt_other _ _ _ _ h

/-! ### modLamp -/

@[simp] theorem State.modLamp_pending (n : Fin 24) (f : Lamp → Lamp) : (s.modLamp n f).pending = s.pending := rfl
@[simp] theorem State.modLamp_now (n : Fin 24) (f : Lamp → Lamp) : (s.modLamp n f).now = s.now := rfl
@[simp] theorem State.modLamp_freeCount (n : Fin 24) (f : Lamp → Lamp) : (s.modLamp n f).freeCount = s.freeCount := rfl
@[simp] theorem State.modLamp_sched (n : Fin 24) (f : Lamp → Lamp) : (s.modLamp n f).sched = s.sched := rfl
@[simp] theorem State.modLamp_pins (n : Fin 24) (f : Lamp → Lamp) : (s.modLamp n f).pins = s.pins := rfl
@[simp] theorem State.modLamp_mctl (n : Fin 24) (f : Lamp → Lamp) : (s.modLamp n f).mctl = s.mctl := rfl
@[simp] theorem State.modLamp_hlm (n : Fin 24) (f : Lamp → Lamp) : (s.modLamp n f).hlm = s.hlm := rfl
@[simp] theorem State.modLamp_gve (n : Fin 24) (f : Lamp → Lamp) : (s.modLamp n f).gve = s.gve := rfl
@[simp] theorem State.modLamp_ndr (n : Fin 24) (f : Lamp → Lamp) : (s.modLamp n f).ndr = s.ndr := rfl
@[simp] theorem State.modLamp_wev (n : Fin 24) (f : Lamp → Lamp) : (s.modLamp n f).wev = s.wev := rfl
@[simp] theorem State.modLamp_dmn (n : Fin 24) (f : Lamp → Lamp) : (s.modLamp n f).dmn = s.dmn := rfl
@[simp] theorem State.modLamp_fmy (n : Fin 24) (f : Lamp → Lamp) : (s.modLamp n f).fmy = s.fmy := rfl
@[simp] theorem State.modLamp_wsv (n : Fin 24) (f : Lamp → Lamp) : (s.modLamp n f).wsv = s.wsv := rfl
@[simp] theorem State.modLamp_lif (n : Fin 24) (f : Lamp → Lamp) : (s.modLamp n f).lif = s.lif := rfl
@[simp] theorem State.modLamp_tables (n : Fin 24) (f : Lamp → Lamp) : (s.modLamp n f).tables = s.tables := rfl
@[simp] theorem State.modLamp_written (n : Fin 24) (f : Lamp → Lamp) : (s.modLamp n f).written = s.written := rfl
@[simp] theorem State.modLamp_nv (n : Fin 24) (f : Lamp → Lamp) : (s.modLamp n f).nv = s.nv := rfl
@[simp] theorem State.modLamp_same (n : Fin 24) (f : Lamp → Lamp) : (s.modLamp n f).lamp n = f (s.lamp n) :=
  updAt_same ..
theorem State.modLamp_other (n j : Fin 24) (f : Lamp → Lamp) (h : n ≠ j) :
    (s.modLamp n f).lamp j = s.lamp j := updAt_other _ _ _ _ h

/-! ### modDoor -/

@[simp] theorem State.modDoor_pending (d : Fin 4) (f : Door → Door) : (s.modDoor d f).pending = s.pending := rfl
@[simp] theorem State.modDoor_now (d : Fin 4) (f : Door → Door) : (s.modDoor d f).now = s.now := rfl
@[simp] theorem State.modDoor_freeCount (d : Fin 4) (f : Door → Door) : (s.modDoor d f).freeCount = s.freeCount := rfl
@[simp] theorem State.modDoor_sched (d : Fin 4) (f : Door → Door) : (s.modDoor d f).sched = s.sched := rfl
@[simp] theorem State.modDoor_pins (d : Fin 4) (f : Door → Door) : (s.modDoor d f).pins = s.pins := rfl
@[simp] theorem State.modDoor_mctl (d : Fin 4) (f : Door → Door) : (s.modDoor d f).mctl = s.mctl := rfl
@[simp] theorem State.modDoor_hlm (d : Fin 4) (f : Door → Door) : (s.modDoor d f).hlm = s.hlm := rfl
@[simp] theorem State.modDoor_gve (d : Fin 4) (f : Door → Door) : (s.modDoor d f).gve = s.gve := rfl
@[simp] theorem State.modDoor_ndr (d : Fin 4) (f : Door → Door) : (s.modDoor d f).ndr = s.ndr := rfl
@[simp] theorem State.modDoor_wev (d : Fin 4) (f : Door → Door) : (s.modDoor d f).wev = s.wev := rfl
@[simp] theorem State.modDoor_pru (d : Fin 4) (f : Door → Door) : (s.modDoor d f).pru = s.pru := rfl
@[simp] theorem State.modDoor_fmy (d : Fin 4) (f : Door → Door) : (s.modDoor d f).fmy = s.fmy := rfl
@[simp] theorem State.modDoor_wsv (d : Fin 4) (f : Door → Door) : (s.modDoor d f).wsv = s.wsv := rfl
@[simp] theorem State.modDoor_lif (d : Fin 4) (f : Door → Door) : (s.modDoor d f).lif = s.lif := rfl
@[simp] theorem State.modDoor_tables (d : Fin 4) (f : Door → Door) : (s.modDoor d f).tables = s.tables := rfl
@[simp] theorem State.modDoor_written (d : Fin 4) (f : Door → Door) : (s.modDoor d f).written = s.written := rfl
@[simp] theorem State.modDoor_nv (d : Fin 4) (f : Door → Door) : (s.modDoor d f).nv = s.nv := rfl
@[simp] theorem State.modDoor_same (d : Fin 4) (f : Door → Door) : (s.modDoor d f).door d = f (s.door d) :=
  updAt_same ..
theorem State.modDoor_other (d j : Fin 4) (f : Door → Door) (h : d ≠ j) :
    (s.modDoor d f).door j = s.door j := updAt_other _ _ _ _ h

/-! ### Attention, time, counters -/

@[simp] theorem State.attend_lif (c : Cause) :
    (s.attend c).lif = { s.lif with attention := s.lif.attention.raise c } := rfl
@[simp] theorem State.attend_fmy (c : Cause) : (s.attend c).fmy = s.fmy := rfl
@[simp] theorem State.attend_mctl (c : Cause) : (s.attend c).mctl = s.mctl := rfl
@[simp] theorem State.attend_dmn (c : Cause) : (s.attend c).dmn = s.dmn := rfl
@[simp] theorem State.attend_tables (c : Cause) : (s.attend c).tables = s.tables := rfl
@[simp] theorem State.attend_now (c : Cause) : (s.attend c).now = s.now := rfl
@[simp] theorem Attention.has_raise (a : Attention) (c : Cause) : (a.raise c).has c = true := by
  cases c <;> rfl

/-- Raising a cause leaves every cause that is present present (R201). -/
theorem Attention.raise_keeps (a : Attention) (c d : Cause) (h : a.has d = true) :
    (a.raise c).has d = true := by
  cases c <;> cases d <;> first | rfl | exact h

/-- Raising a cause sets no other (R201). -/
theorem Attention.raise_only (a : Attention) (c d : Cause) (h : c ≠ d) :
    (a.raise c).has d = a.has d := by
  cases c <;> cases d <;> first | rfl | exact absurd rfl h

theorem State.reach_now (t : Int) : (s.reach t).now = max s.now t.toNat := rfl

end Sys2Proof.Machine
end

