-- ==== Sys2Proof/Laws/Frames.lean ====
section
/-! SUPPORT. What each shared operation leaves alone: one lemma per operation, so that a frame is proved by
citing it. -/

namespace Sys2Proof.Machine

set_option Elab.async false

/-! ### The calculus of frames -/

theorem OnlyChanges.refl (l : List Part) (s : State) : OnlyChanges l s s := by
  intro p _; cases p <;> rfl

theorem OnlyChanges.trans {l : List Part} {s t u : State} (h : OnlyChanges l s t)
    (k : OnlyChanges l t u) : OnlyChanges l s u := by
  intro p hp
  have a := h p hp
  have b := k p hp
  cases p <;> exact Eq.trans b a

/-- Whether a list of parts is contained in another, by evaluation. -/
def partsIn (l m : List Part) : Bool := l.all fun p => m.any (p == ·)

theorem mem_of_partsIn {l m : List Part} (h : partsIn l m = true) {p : Part} (hp : p ∈ l) :
    p ∈ m := by
  have := List.all_eq_true.mp h p hp
  simpa using this

theorem OnlyChanges.mono {l m : List Part} {s t : State} (h : OnlyChanges l s t)
    (k : partsIn l m = true := by with_unfolding_all rfl) : OnlyChanges m s t :=
  fun p hp => h p fun e => hp (mem_of_partsIn k e)

/-- Two changes one after the other, each within a list that is part of a third. -/
theorem OnlyChanges.andThen {l m n : List Part} {s t u : State} (h : OnlyChanges l s t)
    (k : OnlyChanges m t u) (hl : partsIn l n = true := by with_unfolding_all rfl)
    (hm : partsIn m n = true := by with_unfolding_all rfl) : OnlyChanges n s u :=
  (h.mono hl).trans (k.mono hm)

theorem OnlyChanges.ite {l : List Part} {s t u : State} {c : Prop} [Decidable c]
    (h : OnlyChanges l s t) (k : OnlyChanges l s u) : OnlyChanges l s (if c then t else u) := by
  split <;> assumption

theorem OnlyChanges.foldl {α : Type} {l : List Part} (f : State → α → State)
    (h : ∀ s a, OnlyChanges l s (f s a)) (xs : List α) (s : State) :
    OnlyChanges l s (xs.foldl f s) := by
  induction xs generalizing s with
  | nil => exact .refl l s
  | cons a xs ih => exact (h s a).trans (ih (f s a))

theorem OnlyChanges.forEach {n : Nat} {l : List Part} (f : Fin n → State → State)
    (h : ∀ i s, OnlyChanges l s (f i s)) (s : State) :
    OnlyChanges l s (Machine.forEach f s) := .foldl _ (fun s i => h i s) _ s

variable (s : State)

/-! ### Updates of one block -/

theorem State.modMctl_only (f : Mctl → Mctl) : OnlyChanges [.mctl] s (s.modMctl f) := by
  intro p hp; cases p <;> first | rfl | exact absurd (by simp) hp
theorem State.modHlm_only (f : Hlm → Hlm) : OnlyChanges [.hlm] s (s.modHlm f) := by
  intro p hp; cases p <;> first | rfl | exact absurd (by simp) hp
theorem State.modGve_only (f : Gve → Gve) : OnlyChanges [.gve] s (s.modGve f) := by
  intro p hp; cases p <;> first | rfl | exact absurd (by simp) hp
theorem State.modNdr_only (f : Ndr → Ndr) : OnlyChanges [.ndr] s (s.modNdr f) := by
  intro p hp; cases p <;> first | rfl | exact absurd (by simp) hp
theorem State.modWev_only (f : Wev → Wev) : OnlyChanges [.wev] s (s.modWev f) := by
  intro p hp; cases p <;> first | rfl | exact absurd (by simp) hp
theorem State.modPru_only (f : Pru → Pru) : OnlyChanges [.pru] s (s.modPru f) := by
  intro p hp; cases p <;> first | rfl | exact absurd (by simp) hp
theorem State.modDmn_only (f : Dmn → Dmn) : OnlyChanges [.dmn] s (s.modDmn f) := by
  intro p hp; cases p <;> first | rfl | exact absurd (by simp) hp
theorem State.modFmy_only (f : Fmy → Fmy) : OnlyChanges [.fmy] s (s.modFmy f) := by
  intro p hp; cases p <;> first | rfl | exact absurd (by simp) hp
theorem State.modSched_only (f : Sched → Sched) : OnlyChanges [.sched] s (s.modSched f) := by
  intro p hp; cases p <;> first | rfl | exact absurd (by simp) hp
theorem State.modPins_only (f : Pins → Pins) : OnlyChanges [.pins] s (s.modPins f) := by
  intro p hp; cases p <;> first | rfl | exact absurd (by simp) hp
theorem State.modLine_only (n : Fin 32) (f : LineRec → LineRec) :
    OnlyChanges [.hlm] s (s.modLine n f) := s.modHlm_only _
theorem State.modUnit_only (u : Fin 2) (f : Capture → Capture) :
    OnlyChanges [.gve] s (s.modUnit u f) := s.modGve_only _
theorem State.modChannel_only (k : Fin 6) (f : Channel → Channel) :
    OnlyChanges [.gve] s (s.modChannel k f) := s.modGve_only _
theorem State.modNeedle_only (k : Fin 6) (f : Needle → Needle) :
    OnlyChanges [.ndr] s (s.modNeedle k f) := s.modNdr_only _
theorem State.modRule_only (m : Fin 64) (f : RuleRec → RuleRec) :
    OnlyChanges [.wev] s (s.modRule m f) := s.modWev_only _
theorem State.modLamp_only (n : Fin 24) (f : Lamp → Lamp) :
    OnlyChanges [.pru] s (s.modLamp n f) := s.modPru_only _
theorem State.modDoor_only (d : Fin 4) (f : Door → Door) :
    OnlyChanges [.dmn] s (s.modDoor d f) := s.modDmn_only _

theorem State.modLif_only (f : Lif → Lif) (h : ∀ l, (f l).attention = l.attention) :
    OnlyChanges [.link] s (s.modLif f) := by
  intro p hp; cases p <;> first | rfl | exact h _ | exact absurd (by simp) hp
theorem State.modWsv_forcing (f : Wsv → Wsv) (h : ∀ w, (f w).cursor = w.cursor) :
    OnlyChanges [.forcing] s (s.modWsv f) := by
  intro p hp; cases p <;> first | rfl | exact h _ | exact absurd (by simp) hp
theorem State.modWsv_cursor (f : Wsv → Wsv) (h : ∀ w, (f w).forcing = w.forcing) :
    OnlyChanges [.cursor] s (s.modWsv f) := by
  intro p hp; cases p <;> first | rfl | exact h _ | exact absurd (by simp) hp
theorem State.attend_only (c : Cause) : OnlyChanges [.attention] s (s.attend c) := by
  intro p hp; cases p <;> first | rfl | exact absurd (by simp) hp
theorem State.reach_only (t : Int) : OnlyChanges [.now] s (s.reach t) := by
  intro p hp; cases p <;> first | rfl | exact absurd (by simp) hp
theorem State.fresh_only : OnlyChanges [.free] s s.fresh.1 := by
  intro p hp; cases p <;> first | rfl | exact absurd (by simp) hp
theorem State.bump_only (c : Fin 12) : OnlyChanges [.fmy] s (s.bump c) := s.modFmy_only _
theorem State.makeCounterDue_only : OnlyChanges [.fmy] s s.makeCounterDue := s.modFmy_only _

/-! ### FMY: a report changes the fault memory, the cursor and attention, and nothing else -/

/-- What a report can change. -/
abbrev faultParts : List Part := [.fmy, .cursor, .attention]

theorem Wsv.entryRemoved_forcing (i : Nat) (w : Wsv) : (w.entryRemoved i).forcing = w.forcing := by
  unfold Wsv.entryRemoved; split <;> rfl

theorem State.tableChanged_only (n : Fin 48) : OnlyChanges faultParts s (s.tableChanged n) :=
  (s.modFmy_only _).andThen (State.attend_only _ _)
theorem State.createEntry_only (c : FaultCode) (p : Nat) (n : Fin 48) :
    OnlyChanges faultParts s (s.createEntry c p n) :=
  (s.modFmy_only _).andThen (State.tableChanged_only _ _)
theorem State.removeEntry_only (i : Nat) : OnlyChanges faultParts s (s.removeEntry i) := by
  unfold State.removeEntry; split
  · exact .refl _ _
  · exact ((s.modFmy_only _).andThen (State.tableChanged_only _ _) (n := faultParts)).andThen
      (State.modWsv_cursor _ _ fun w => w.entryRemoved_forcing _)
theorem State.changeEntry_only (i : Nat) (f : FaultEntry → FaultEntry) :
    OnlyChanges faultParts s (s.changeEntry i f) := by
  unfold State.changeEntry; split
  · exact .refl _ _
  · exact (s.modFmy_only _).andThen (State.tableChanged_only _ _)
theorem State.reportLost_only : OnlyChanges faultParts s s.reportLost :=
  (s.modFmy_only _).andThen (State.attend_only _ _)
theorem State.activeReport_only (c : FaultCode) (p : Nat) :
    OnlyChanges faultParts s (s.activeReport c p) := by
  unfold State.activeReport
  repeat' split
  all_goals first
    | with_reducible exact .refl _ _
    | with_reducible exact s.changeEntry_only _ _
    | with_reducible exact s.createEntry_only _ _ _
    | with_reducible exact s.reportLost_only
    | with_reducible exact (s.removeEntry_only _).trans (State.createEntry_only _ _ _ _)
theorem State.clearedReport_only (c : FaultCode) :
    OnlyChanges faultParts s (s.clearedReport c) := by
  unfold State.clearedReport
  repeat' split
  all_goals first | with_reducible exact .refl _ _ | with_reducible exact s.changeEntry_only _ _
theorem State.handleReport_only (c : FaultCode) (p : Nat) (a : Bool) :
    OnlyChanges faultParts s (s.handleReport c p a) :=
  .ite (s.activeReport_only c p) (s.clearedReport_only c)
theorem State.report_only (c : FaultCode) (a : Bool) : OnlyChanges faultParts s (s.report c a) :=
  .ite ((s.modFmy_only _).mono) (s.handleReport_only _ _ _)
theorem State.reportActive_only (c : FaultCode) : OnlyChanges faultParts s (s.reportActive c) :=
  s.report_only c true
theorem State.reportCleared_only (c : FaultCode) : OnlyChanges faultParts s (s.reportCleared c) :=
  s.report_only c false
theorem State.reportAllCleared_only (l : List FaultCode) :
    OnlyChanges faultParts s (s.reportAllCleared l) :=
  .foldl _ (fun s c => s.reportCleared_only c) l s

theorem removeWhere_only (f : FaultEntry → Bool) (k i : Nat) :
    OnlyChanges faultParts s (removeWhere f k i s) := by
  induction k generalizing i s with
  | zero => exact .refl _ _
  | succ k ih =>
    unfold removeWhere; split
    · exact .refl _ _
    · exact .ite ((s.removeEntry_only i).trans (ih _ _)) (ih _ _)
theorem State.removeEntries_only (f : FaultEntry → Bool) :
    OnlyChanges faultParts s (s.removeEntries f) := removeWhere_only s f _ _
theorem State.removeOverAged_only (n : Nat) : OnlyChanges faultParts s (s.removeOverAged n) :=
  s.removeEntries_only _
theorem State.changeEntries_only (f : FaultEntry → Bool) (g : FaultEntry → FaultEntry) :
    OnlyChanges faultParts s (s.changeEntries f g) :=
  .foldl _ (fun s i => .ite (s.changeEntry_only i g) (.refl _ _)) _ s
theorem State.ageFaults_only : OnlyChanges faultParts s s.ageFaults :=
  (((s.changeEntries_only _ _).trans (State.removeEntries_only _ _)).trans
    (State.changeEntries_only _ _ _)).trans ((State.makeCounterDue_only _).mono)
theorem State.clearDone_only : OnlyChanges faultParts s s.clearDone :=
  (s.modFmy_only _).andThen (State.attend_only _ _)
theorem State.clearClasses_only (f : SourceClass → Bool) :
    OnlyChanges faultParts s (s.clearClasses f) :=
  (s.removeEntries_only _).trans
    (.ite (State.clearDone_only _) ((State.modFmy_only _ _).mono))
theorem State.leaveClear_only (n : Fin 48) : OnlyChanges faultParts s (s.leaveClear n) := by
  unfold State.leaveClear; split
  · exact .refl _ _
  · exact .ite s.clearDone_only ((s.modFmy_only _).mono)

/-! ### The store -/

theorem State.setNv_only (v : Nv) : OnlyChanges [.nv] s { s with nv := v } := by
  intro p hp; cases p <;> first | rfl | exact absurd (by simp) hp
theorem State.restartAtWrite_only (b : Bool) :
    OnlyChanges [.mctl, .fmy] s (s.restartAtWrite b) :=
  (s.modMctl_only _).andThen (State.modFmy_only _ _)
theorem State.startWrite_only : OnlyChanges [.mctl, .fmy] s s.startWrite := by
  unfold State.startWrite
  repeat' split
  all_goals first
    | with_reducible exact .refl _ _
    | with_reducible exact (s.modFmy_only _).andThen (State.restartAtWrite_only _ _)
theorem State.completeSlotWrite_only (n : Fin 48) (c : SlotContent) (old : Bool) :
    OnlyChanges (.nv :: faultParts) s (s.completeSlotWrite n c old) :=
  ((s.setNv_only _).andThen (State.modFmy_only _ _) (n := .nv :: faultParts)).trans
    (.ite (.refl _ _) ((State.leaveClear_only _ n).mono))
theorem State.completeCounterSave_only (c : Vector Nat 12) :
    OnlyChanges [.nv, .fmy] s (s.completeCounterSave c) :=
  (s.setNv_only _).andThen (State.modFmy_only _ _)
theorem State.restartAfterSave_only : OnlyChanges [.mctl, .fmy] s s.restartAfterSave :=
  .ite (.refl _ _) (.ite ((s.modMctl_only _).mono)
    ((s.modMctl_only _).andThen (State.makeCounterDue_only _)))
theorem State.completeStore_only (l : List Byte) :
    OnlyChanges (.nv :: faultParts) s (s.completeStore l) :=
  (((s.setNv_only _).andThen (State.modFmy_only _ _) (n := .nv :: faultParts)).andThen
    (State.attend_only _ _)).trans
    (.ite ((State.reportCleared_only _ _).mono) (.refl _ _))

/-! ### PRU -/

theorem State.delist_only (m : Fin 64) : OnlyChanges [.pru] s (s.delist m) := by
  unfold State.delist; split
  · dsimp only; split
    · exact (s.modPru_only _).trans (State.modPru_only _ _)
    · exact s.modPru_only _
  · exact .refl _ _
theorem State.reflag_only (m : Fin 64) : OnlyChanges [.pru] s (s.reflag m) := s.modPru_only _
theorem State.publishList_only : OnlyChanges [.pru] s s.publishList :=
  .ite (.refl _ _) (s.modPru_only _)
theorem State.listChange_only (m : Fin 64) (x : RuleState) :
    OnlyChanges [.pru] s (s.listChange m x) := by
  unfold State.listChange
  dsimp only
  repeat' split
  all_goals first
    | with_reducible exact .refl _ _
    | with_reducible exact (s.reflag_only m).trans (State.publishList_only _)
    | with_reducible exact (s.delist_only m).trans (State.publishList_only _)
    | with_reducible exact (s.modPru_only _).trans (State.publishList_only _)
theorem State.followCalls_only : OnlyChanges [.pru] s s.followCalls := s.modPru_only _
theorem State.publishLamps_only : OnlyChanges [.pru] s s.publishLamps :=
  (s.modPru_only _).trans (State.followCalls_only _)
theorem State.refreshLamps_only : OnlyChanges [.pru] s s.refreshLamps :=
  .ite (.refl _ _) s.publishLamps_only
theorem State.startPattern_only : OnlyChanges [.pru] s s.startPattern := s.modPru_only _
theorem State.soundOff_only : OnlyChanges [.pru] s s.soundOff := s.modPru_only _
theorem State.refreshChime_only : OnlyChanges [.pru] s s.refreshChime :=
  .ite (.refl _ _) ((s.modPru_only _).trans
    (.ite (State.startPattern_only _) (State.soundOff_only _)))
theorem State.refreshPru_only : OnlyChanges [.pru] s s.refreshPru :=
  s.refreshLamps_only.trans (State.refreshChime_only _)
theorem State.clearSingleMark_only (m : Fin 64) : OnlyChanges [.pru] s (s.clearSingleMark m) :=
  s.modPru_only _
theorem State.startLampCheck_only : OnlyChanges [.pru] s s.startLampCheck := s.modPru_only _
theorem State.endLampCheck_only : OnlyChanges [.pru] s s.endLampCheck := s.modPru_only _

/-- What PRU can change by itself: its records and, by reports, the fault memory. -/
abbrev pruParts : List Part := .pru :: faultParts

theorem State.openBecomes_only (n : Fin 24) (b : Bool) :
    OnlyChanges pruParts s (s.openBecomes n b) :=
  ((s.modLamp_only n _).andThen (State.report_only _ _ _) (n := pruParts)).andThen
    (State.refreshPru_only _)
theorem State.openTest_only (n : Fin 24) (b : Bool) : OnlyChanges pruParts s (s.openTest n b) := by
  unfold State.openTest
  dsimp only
  repeat' split
  all_goals first
    | with_reducible exact s.openBecomes_only _ _
    | with_reducible exact (s.modLamp_only _ _).mono
theorem State.overcurrent_only (n : Fin 24) : OnlyChanges pruParts s (s.overcurrent n) := by
  delta State.overcurrent
  extract_lets trip count s1
  have h1 : OnlyChanges pruParts s trip := (s.modLamp_only n _).mono
  have h2 : OnlyChanges pruParts trip s1 := (trip.modLamp_only n _).mono
  refine .ite (h1.trans (h2.trans (.ite ?_ s1.followCalls_only.mono)))
    (h1.trans trip.followCalls_only.mono)
  exact (((s1.modLamp_only n _).andThen (State.reportActive_only _ _) (n := pruParts)).andThen
    (State.followCalls_only _) (n := pruParts)).andThen (State.refreshPru_only _)
theorem State.onPeriodGood_only (n : Fin 24) : OnlyChanges pruParts s (s.onPeriodGood n) := by
  delta State.onPeriodGood
  extract_lets status s1
  have h1 : OnlyChanges pruParts s s1 := (s.modLamp_only n _).mono
  exact h1.trans (.ite (.refl _ _) (((s1.modLamp_only n _).andThen (State.reportCleared_only _ _)
    (n := pruParts)).andThen (State.refreshPru_only _)))
theorem State.settleLamps_only : OnlyChanges pruParts s s.settleLamps :=
  .forEach _ (fun n s => .ite ((s.reportAllCleared_only _).andThen (State.modLamp_only _ n _))
    (.refl _ _)) s

/-! ### WEV -/

/-- What a rule's change of state can change. -/
abbrev ruleParts : List Part := [.wev, .pru, .fmy, .cursor, .attention]

theorem State.settleRule_only (m : Fin 64) : OnlyChanges ruleParts s (s.settleRule m) :=
  .ite ((s.reportCleared_only _).andThen (State.modRule_only _ m _)) (.refl _ _)
theorem State.changeRule_only (m : Fin 64) (f : RuleRec → RuleRec) :
    OnlyChanges ruleParts s (s.changeRule m f) := by
  delta State.changeRule
  extract_lets old s1 new s2 s3 s4
  have h1 : OnlyChanges ruleParts s s1 := (s.modRule_only m f).mono
  have h2 : OnlyChanges ruleParts s1 s2 := (s1.attend_only _).mono
  have h3 : OnlyChanges ruleParts s2 s3 := .ite (s2.clearSingleMark_only m).mono (.refl _ _)
  have h4 : OnlyChanges ruleParts s3 s4 := .ite (s3.settleRule_only m) (.refl _ _)
  exact h1.trans (.ite (.refl _ _) (h2.trans (h3.trans (h4.trans
    ((s4.listChange_only m _).andThen (State.refreshPru_only _))))))
theorem State.activate_only (m : Fin 64) : OnlyChanges ruleParts s (s.activate m) := by
  delta State.activate
  extract_lets n s1 s2
  have h1 : OnlyChanges ruleParts s s1 := (s.modWev_only _).mono
  have h2 : OnlyChanges ruleParts s1 s2 :=
    .ite ((s1.reportActive_only _).andThen (State.modRule_only _ m _)) (.refl _ _)
  exact h1.trans (h2.trans (s2.changeRule_only m _))
theorem State.releaseRule_only (m : Fin 64) : OnlyChanges ruleParts s (s.releaseRule m) :=
  s.changeRule_only m _
theorem State.remind_only (m : Fin 64) : OnlyChanges ruleParts s (s.remind m) :=
  .ite (.ite (s.changeRule_only m _) ((s.modRule_only m _).mono)) (.refl _ _)
theorem State.stepActive_only (m : Fin 64) : OnlyChanges ruleParts s (s.stepActive m) := by
  unfold State.stepActive
  dsimp only
  repeat' split
  all_goals first
    | with_reducible exact s.releaseRule_only m
    | with_reducible exact ((s.modRule_only m _).mono (m := ruleParts)).trans (State.remind_only _ m)
theorem State.stepRule_only (m : Fin 64) : OnlyChanges ruleParts s (s.stepRule m) := by
  unfold State.stepRule
  dsimp only
  repeat' split
  all_goals first
    | with_reducible exact .refl _ _
    | with_reducible exact s.activate_only m
    | with_reducible exact s.changeRule_only m _
    | with_reducible exact s.stepActive_only m
    | with_reducible exact (s.modRule_only m _).mono
theorem State.clearRule_only (m : Fin 64) : OnlyChanges ruleParts s (s.clearRule m) := by
  unfold State.clearRule; split <;> first | with_reducible exact .refl _ _ | with_reducible exact s.changeRule_only m _
theorem State.settleIfOff_only (m : Fin 64) : OnlyChanges ruleParts s (s.settleIfOff m) :=
  .ite (s.settleRule_only m) (.refl _ _)
theorem State.evaluateRule_only (m : Fin 64) : OnlyChanges ruleParts s (s.evaluateRule m) := by
  delta State.evaluateRule
  extract_lets c r holds
  split; split; split
  extract_lets raw s1
  have h1 : OnlyChanges ruleParts s s1 := (s.modRule_only m _).mono
  exact h1.trans (.ite ((s1.stepRule_only m).trans (State.settleIfOff_only _ m))
    (.ite ((s1.clearRule_only m).trans (State.settleIfOff_only _ m)) (.refl _ _)))
theorem State.pass_only : OnlyChanges ruleParts s s.pass :=
  .forEach _ (fun m s => .ite (s.evaluateRule_only m) (.refl _ _)) s
theorem State.ackRule_only (m : Fin 64) : OnlyChanges ruleParts s (s.ackRule m) := by
  unfold State.ackRule
  repeat' split
  all_goals first | with_reducible exact .refl _ _ | with_reducible exact s.changeRule_only m _
theorem State.ackButton_only : OnlyChanges ruleParts s s.ackButton := by
  unfold State.ackButton; split
  · exact s.ackRule_only _
  · exact .refl _ _
theorem State.endIgnitionLatches_only : OnlyChanges ruleParts s s.endIgnitionLatches :=
  .forEach _ (fun m s => .ite (s.changeRule_only m _) (.refl _ _)) s
theorem State.allRulesOff_only : OnlyChanges ruleParts s s.allRulesOff :=
  .forEach _ (fun m s => .ite (.refl _ _) (s.changeRule_only m _)) s
theorem State.settleRules_only : OnlyChanges ruleParts s s.settleRules :=
  .forEach _ (fun m s => .ite (.refl _ _)
    ((s.reportCleared_only _).andThen (State.modRule_only _ m _))) s

/-! ### DMN -/

/-- What the grants and the interlock can change. -/
abbrev grantParts : List Part := [.dmn, .attention]

/-- What a change of a door's state can change. -/
abbrev doorParts : List Part := [.dmn, .fmy, .cursor, .attention]

theorem State.setInterlock_only (i : Interlock) (t : Timer) :
    OnlyChanges grantParts s (s.setInterlock i t) := by
  delta State.setInterlock
  extract_lets before s1
  have h1 : OnlyChanges grantParts s s1 := (s.modDmn_only _).mono
  exact h1.trans (.ite (.refl _ _) (s1.attend_only _).mono)
theorem State.evalInterlock_only : OnlyChanges grantParts s s.evalInterlock := by
  unfold State.evalInterlock
  repeat' split
  all_goals first | with_reducible exact .refl _ _ | with_reducible exact s.setInterlock_only _ _
theorem State.refreshOutput_only (d : Fin 4) : OnlyChanges [.dmn] s (s.refreshOutput d) :=
  s.modDoor_only d _
theorem State.refreshOutputs_only : OnlyChanges [.dmn] s s.refreshOutputs :=
  .forEach _ (fun d s => s.refreshOutput_only d) s
theorem State.setGrant_only (g : Bool) (d : Fin 4) : OnlyChanges grantParts s (s.setGrant g d) :=
  .ite (.refl _ _) ((((s.modDoor_only d _).andThen (State.attend_only _ _) (n := grantParts)).trans
    (State.evalInterlock_only _)).andThen (State.refreshOutput_only _ d))
theorem State.grantAll_only (l : List (Fin 4)) (g : Bool) :
    OnlyChanges grantParts s (s.grantAll l g) := .foldl _ (fun s d => s.setGrant_only g d) l s
theorem State.withdrawAll_only : OnlyChanges grantParts s s.withdrawAll := s.grantAll_only _ _
theorem State.releaseButton_only : OnlyChanges grantParts s s.releaseButton :=
  .ite (.refl _ _) (.ite (s.grantAll_only _ _) (.ite (s.grantAll_only _ _)
    ((s.attend_only _).mono)))
theorem State.doorSpeedUpdate_only : OnlyChanges grantParts s s.doorSpeedUpdate :=
  .trans (t := if s.aboveWithdraw then s.withdrawAll else s)
    (.ite s.withdrawAll_only (.refl _ _)) (State.refreshOutputs_only _).mono
theorem State.doorReport_only (y : DoorSym) (d : Fin 4) :
    OnlyChanges doorParts s (s.doorReport y d) :=
  .ite (.refl _ _) ((s.modDoor_only d _).andThen (State.reportActive_only _ _))
theorem State.shutAndLocked_only (d : Fin 4) : OnlyChanges doorParts s (s.shutAndLocked d) :=
  (s.reportAllCleared_only _).andThen (State.modDoor_only _ d _)
theorem State.flagOpening_only (d : Fin 4) : OnlyChanges doorParts s (s.flagOpening d) :=
  .ite ((s.modDoor_only d _).andThen (State.doorReport_only _ _ d)) (.refl _ _)
theorem State.countCycle_only (d : Fin 4) : OnlyChanges doorParts s (s.countCycle d) :=
  .ite ((s.bump_only _).andThen (State.modDoor_only _ d _)) (.refl _ _)
theorem State.countObstruction_only (d : Fin 4) : OnlyChanges doorParts s (s.countObstruction d) := by
  delta State.countObstruction
  extract_lets s1 s2
  have h1 : OnlyChanges doorParts s s1 := (s.modDoor_only d _).mono
  have h2 : OnlyChanges doorParts s1 s2 := (s1.bump_only _).mono
  exact h1.trans (h2.trans (.ite ((s2.modDoor_only d _).andThen (State.doorReport_only _ _ d))
    (.refl _ _)))
theorem State.enterDoorState_only (d : Fin 4) (x : DoorState) :
    OnlyChanges doorParts s (s.enterDoorState d x) := by
  delta State.enterDoorState
  extract_lets old start s1 s2 s3 s4 s5 s6 s7
  have h1 : OnlyChanges doorParts s s1 := (s.modDoor_only d _).mono
  have h2 : OnlyChanges doorParts s1 s2 := (s1.attend_only _).mono
  have h3 : OnlyChanges doorParts s2 s3 := .ite s2.withdrawAll_only.mono (.refl _ _)
  have h4 : OnlyChanges doorParts s3 s4 := s3.evalInterlock_only.andThen (State.refreshOutput_only _ d)
  have h5 : OnlyChanges doorParts s4 s5 := .ite (s4.flagOpening_only d) (.refl _ _)
  have h6 : OnlyChanges doorParts s5 s6 := .ite (s5.shutAndLocked_only d) (.refl _ _)
  have h7 : OnlyChanges doorParts s6 s7 := .ite (s6.countCycle_only d) (.refl _ _)
  exact .ite (.refl _ _) (h1.trans (h2.trans (h3.trans (h4.trans (h5.trans (h6.trans (h7.trans
    (.ite (s7.countObstruction_only d) (.refl _ _)))))))))
theorem State.raiseFlag_only (p : Door → Bool) (f : Door → Door) (d : Fin 4) :
    OnlyChanges doorParts s (s.raiseFlag p f d) :=
  .ite (.refl _ _) ((s.modDoor_only d f).andThen (State.attend_only _ _))
theorem State.expiryReport_only (d : Fin 4) (ev : DoorEvent) (x : DoorState) :
    OnlyChanges doorParts s (s.expiryReport d ev x) := by
  unfold State.expiryReport
  dsimp only
  repeat' split
  all_goals first
    | with_reducible exact .refl _ _
    | with_reducible exact s.doorReport_only _ d
    | with_reducible exact (((s.modDoor_only d _).mono (m := doorParts)).trans
        (State.raiseFlag_only _ _ _ d)).trans (State.doorReport_only _ _ d)
theorem State.testEndStops_only (d : Fin 4) : OnlyChanges doorParts s (s.testEndStops d) := by
  unfold State.testEndStops
  repeat' split
  all_goals first | with_reducible exact .refl _ _ | with_reducible exact (s.modDoor_only d _).mono
theorem State.rederive_only (d : Fin 4) (ev : DoorEvent) :
    OnlyChanges doorParts s (s.rederive d ev) := by
  delta State.rederive
  extract_lets before s1
  have h1 : OnlyChanges doorParts s s1 := s.testEndStops_only d
  exact h1.trans ((s1.enterDoorState_only d _).trans (State.expiryReport_only _ d ev _))
theorem State.inconsistent_only (d : Fin 4) : OnlyChanges doorParts s (s.inconsistent d) :=
  (s.modDoor_only d _).andThen (State.rederive_only _ d _)
theorem State.beginOverride_only : OnlyChanges doorParts s s.beginOverride :=
  (((s.setInterlock_only _ _).andThen (State.bump_only _ _) (n := doorParts)).andThen
    (State.attend_only _ _) (n := doorParts)).andThen (State.reportActive_only _ _)
theorem State.endOverride_only : OnlyChanges doorParts s s.endOverride := by
  delta State.endOverride
  extract_lets s1
  have h1 : OnlyChanges doorParts s s1 := (s.reportCleared_only _).andThen (State.attend_only _ _)
  exact h1.trans (.ite (s1.setInterlock_only _ _).mono (s1.setInterlock_only _ _).mono)
theorem State.overrideChange_only (x : Logical) : OnlyChanges doorParts s (s.overrideChange x) := by
  unfold State.overrideChange
  repeat' split
  all_goals first | with_reducible exact .refl _ _ | with_reducible exact s.beginOverride_only | with_reducible exact s.endOverride_only
theorem State.doorSlotChange_only (d : Fin 4) (v : Logical) (k : DoorSlot) :
    OnlyChanges doorParts s (s.doorSlotChange d v k) := by
  delta State.doorSlotChange
  extract_lets s1
  have h1 : OnlyChanges doorParts s s1 := s.rederive_only d _
  exact h1.trans (.ite s1.evalInterlock_only.mono (.refl _ _))
theorem State.doorLineChange_only (n : Fin 32) (v : Logical) :
    OnlyChanges doorParts s (s.doorLineChange n v) :=
  .forEach _ (fun d s => .foldl _ (fun s k => s.doorSlotChange_only d v k) _ s) s
theorem State.gateDoorTimers_only : OnlyChanges [.dmn] s s.gateDoorTimers := s.modDmn_only _
theorem State.forceInterlock_only : OnlyChanges doorParts s s.forceInterlock := by
  delta State.forceInterlock
  extract_lets s1
  have h1 : OnlyChanges doorParts s s1 :=
    .ite ((s.reportCleared_only _).andThen (State.attend_only _ _)) (.refl _ _)
  exact h1.trans (s1.setInterlock_only _ _).mono
theorem State.freeInterlock_only : OnlyChanges doorParts s s.freeInterlock :=
  .ite s.beginOverride_only (.ite ((s.setInterlock_only _ _).mono)
    ((s.setInterlock_only _ _).mono))
theorem State.settleDoors_only : OnlyChanges doorParts s s.settleDoors := by
  refine .trans (.forEach _ (fun d s => ?_) s) (State.reportCleared_only _ _).mono
  exact .ite (.refl _ _) ((s.reportAllCleared_only _).andThen (State.modDoor_only _ d _))

/-! ### NDR -/

theorem State.setLatest_only (k : Fin 6) (t : Nat) : OnlyChanges [.ndr] s (s.setLatest k t) :=
  s.modNeedle_only k _
theorem State.needleInput_only (k : Fin 6) : OnlyChanges [.ndr] s (s.needleInput k) := by
  unfold State.needleInput
  repeat' split
  all_goals first | with_reducible exact .refl _ _ | with_reducible exact s.setLatest_only k _
theorem forNeedles_only (f : Fin 6 → Needle → Needle) : OnlyChanges [.ndr] s (forNeedles f s) :=
  s.modNdr_only _
theorem State.publishTargets_only : OnlyChanges [.ndr] s s.publishTargets := forNeedles_only s _
theorem State.endSweep_only : OnlyChanges [.ndr, .attention] s s.endSweep :=
  .ite ((s.modNdr_only _).andThen (State.attend_only _ _)) (.refl _ _)
theorem State.motion_only (k : Fin 6) : OnlyChanges [.ndr, .attention] s (s.motion k) :=
  .ite ((s.modNeedle_only k _).mono)
    ((s.modNeedle_only k _).andThen (State.endSweep_only _))
theorem State.startSweep_only (l : List (Fin 6)) :
    OnlyChanges [.ndr, .attention] s (s.startSweep l) :=
  ((s.modNdr_only _).andThen (forNeedles_only _ _) (n := [.ndr])).andThen (State.endSweep_only _)
theorem State.needleForced_only (k : Fin 6) :
    OnlyChanges [.ndr, .attention] s (s.needleForced k) :=
  (s.modNeedle_only k _).andThen (State.endSweep_only _)
theorem State.parkNeedles_only : OnlyChanges [.ndr, .attention] s s.parkNeedles :=
  (forNeedles_only s _).andThen (State.endSweep_only _)
theorem State.runNeedles_only : OnlyChanges [.ndr] s s.runNeedles := forNeedles_only s _
theorem State.homeAllNeedles_only : OnlyChanges [.ndr] s s.homeAllNeedles := forNeedles_only s _

/-! ### HLM -/

/-- What a line's fault status can change. -/
abbrev lineParts : List Part := [.hlm, .fmy, .cursor, .attention]

theorem State.measure_only (mv : Nat) : OnlyChanges [.free] s (s.measure mv).1 := by
  unfold State.measure
  dsimp only
  repeat' split
  all_goals first | with_reducible exact .refl _ _ | with_reducible exact s.fresh_only
theorem State.settleLine_only (n : Fin 32) : OnlyChanges lineParts s (s.settleLine n) :=
  (s.reportAllCleared_only _).andThen (State.modLine_only _ n _)
theorem State.settleIfAny_only (n : Fin 32) : OnlyChanges lineParts s (s.settleIfAny n) :=
  .ite (s.settleLine_only n) (.refl _ _)
theorem State.reportSymptom_only (n : Fin 32) (y : LineSym) :
    OnlyChanges lineParts s (s.reportSymptom n y) := by
  delta State.reportSymptom
  extract_lets s1
  have h1 : OnlyChanges lineParts s s1 := by
    unfold s1
    split
    · exact (s.reportAllCleared_only _).mono
    · exact (s.reportCleared_only _).mono
    · exact .refl _ _
  exact h1.trans ((s1.reportActive_only _).andThen (State.modLine_only _ n _))
theorem State.enterConfirmed_only (n : Fin 32) : OnlyChanges lineParts s (s.enterConfirmed n) :=
  (s.modLine_only n _).andThen (State.attend_only _ _)
theorem State.returnToNone_only (n : Fin 32) : OnlyChanges lineParts s (s.returnToNone n) :=
  (s.modLine_only n _).andThen (State.attend_only _ _)
theorem State.walkStatus_only (n : Fin 32) (k : LineClass) :
    OnlyChanges lineParts s (s.walkStatus n k) := by
  unfold State.walkStatus
  dsimp only
  repeat' split
  all_goals first
    | with_reducible exact .refl _ _
    | with_reducible exact (s.modLine_only n _).mono
    | with_reducible exact s.settleIfAny_only n
    | with_reducible exact (s.returnToNone_only n).trans (State.settleIfAny_only _ n)
    | with_reducible exact (s.reportSymptom_only n _).trans (State.enterConfirmed_only _ n)
    | with_reducible exact s.enterConfirmed_only n
theorem State.confirmLine_only (n : Fin 32) : OnlyChanges lineParts s (s.confirmLine n) := by
  unfold State.confirmLine; split
  · exact (s.reportSymptom_only n _).trans (State.enterConfirmed_only _ n)
  · exact .refl _ _
theorem State.healLine_only (n : Fin 32) : OnlyChanges lineParts s (s.healLine n) := by
  delta State.healLine
  extract_lets s1
  have h1 : OnlyChanges lineParts s s1 := by
    unfold s1
    split
    · exact (s.reportCleared_only _).mono
    · exact .refl _ _
  exact h1.trans ((s1.modLine_only n _).andThen (State.returnToNone_only _ n))
theorem State.acceptIfDue_only (n : Fin 32) (k : LineClass) :
    OnlyChanges lineParts s (s.acceptIfDue n k) :=
  .ite (((s.modLine_only n _).mono).trans (State.walkStatus_only _ n k)) (.refl _ _)
theorem State.classify_only (n : Fin 32) (mv : Nat) :
    OnlyChanges (.free :: lineParts) s (s.classify n mv) :=
  ((((s.measure_only mv).andThen (State.modLine_only _ n _) (n := [.free, .hlm])).andThen
    (State.modLine_only _ n _) (n := [.free, .hlm]))).andThen (State.acceptIfDue_only _ n _)
theorem State.measureOnly_only (n : Fin 32) (mv : Nat) :
    OnlyChanges [.free, .hlm] s (s.measureOnly n mv) :=
  (s.measure_only mv).andThen (State.modLine_only _ n _)
theorem forLines_only (f : Fin 32 → LineRec → LineRec) : OnlyChanges [.hlm] s (forLines f s) :=
  s.modHlm_only _
theorem State.settleLines_only : OnlyChanges lineParts s s.settleLines :=
  .forEach _ (fun n s => .ite (s.settleLine_only n) (.refl _ _)) s

/-! ### GVE -/

/-- What a channel's sample can change. -/
abbrev gaugeParts : List Part := [.free, .gve, .ndr, .fmy, .cursor, .attention]

theorem State.useFree_only (b : Bool) : OnlyChanges [.free] s (s.useFree b) :=
  .ite s.fresh_only (.refl _ _)
theorem State.acquire_only (k : Fin 6) : OnlyChanges [.free, .gve] s (s.acquire k) := by
  unfold State.acquire State.pulseAcquire
  dsimp only
  repeat' split
  all_goals first
    | with_reducible exact .refl _ _
    | with_reducible exact (s.modUnit_only _ _).andThen (State.modChannel_only _ k _)
    | with_reducible exact (s.modChannel_only k _).andThen (State.useFree_only _ _)
    | with_reducible exact (s.modChannel_only k _).mono
theorem State.gaugeValid_only (k : Fin 6) :
    OnlyChanges (.gve :: faultParts) s (s.gaugeValid k) := by
  delta State.gaugeValid
  extract_lets s1 s2
  have h1 : OnlyChanges (.gve :: faultParts) s s1 := .ite (s.reportCleared_only _).mono (.refl _ _)
  have h2 : OnlyChanges (.gve :: faultParts) s1 s2 :=
    .ite (s1.reportCleared_only _).mono (.refl _ _)
  exact h1.trans (h2.trans (s2.modChannel_only k _).mono)
theorem State.noiseReport_only (k : Fin 6) :
    OnlyChanges (.gve :: faultParts) s (s.noiseReport k) :=
  .ite (.refl _ _) ((s.reportActive_only _).andThen (State.modChannel_only _ k _))
theorem State.gaugeReports_only (k : Fin 6) (x : ChannelState) :
    OnlyChanges (.gve :: faultParts) s (s.gaugeReports k x) :=
  .ite (.refl _ _) (.ite (s.gaugeValid_only k) (.ite (s.noiseReport_only k) (.refl _ _)))
theorem State.sampleChannel_only (k : Fin 6) : OnlyChanges gaugeParts s (s.sampleChannel k) := by
  delta State.sampleChannel
  extract_lets before s1 s2
  have h1 : OnlyChanges gaugeParts s s1 := (s.acquire_only k).mono
  have h2 : OnlyChanges gaugeParts s1 s2 := (s1.modChannel_only k _).mono
  exact h1.trans (h2.trans ((s2.gaugeReports_only k _).andThen (State.needleInput_only _ k)))
theorem State.feedExpired_only (k : Fin 6) : OnlyChanges gaugeParts s (s.feedExpired k) := by
  delta State.feedExpired
  extract_lets s1 s2
  have h1 : OnlyChanges gaugeParts s s1 := (s.modChannel_only k _).mono
  have h2 : OnlyChanges gaugeParts s1 s2 :=
    .ite (.refl _ _) ((s1.reportActive_only _).andThen (State.modChannel_only _ k _))
  exact .ite ((s.modChannel_only k _).andThen (State.needleInput_only _ k))
    (h1.trans (h2.trans (s2.needleInput_only k).mono))
theorem State.settleGauges_only : OnlyChanges (.gve :: faultParts) s s.settleGauges := by
  refine .forEach _ (fun k s => ?_) s
  split
  rename_i lost noise _
  extract_lets s1 s2
  have h1 : OnlyChanges (.gve :: faultParts) s s1 := .ite (s.reportCleared_only _).mono (.refl _ _)
  have h2 : OnlyChanges (.gve :: faultParts) s1 s2 :=
    .ite (s1.reportCleared_only _).mono (.refl _ _)
  exact h1.trans (h2.trans (s2.modChannel_only k _).mono)

end Sys2Proof.Machine
end

