-- ==== Sys2Proof/Laws/ModeFrames.lean ====
section
/-! SUPPORT. What the operations of the mode controller, the sense-line events and the link leave alone. -/

namespace Sys2Proof.Machine

set_option Elab.async false

variable (s : State)

/-! ### WSV -/

theorem State.endLampForce_only (n : Fin 24) :
    OnlyChanges [.forcing, .pru] s (s.endLampForce n) :=
  (s.modWsv_forcing _ (by intro; rfl)).andThen (State.refreshPru_only _)
theorem State.endNeedleForce_only (k : Fin 6) :
    OnlyChanges [.forcing, .ndr] s (s.endNeedleForce k) :=
  (s.modWsv_forcing _ (by intro; rfl)).andThen (State.modNeedle_only _ k _)
theorem State.endChimeForce_only : OnlyChanges [.forcing, .pru] s s.endChimeForce :=
  ((s.modWsv_forcing _ (by intro; rfl)).andThen (State.soundOff_only _) (n := [.forcing, .pru])).andThen
    (State.refreshChime_only _)
theorem State.endLampForces_only : OnlyChanges [.forcing, .pru] s s.endLampForces :=
  (s.modWsv_forcing _ (by intro; rfl)).andThen (State.refreshPru_only _)
theorem State.endNeedleForces_only : OnlyChanges [.forcing, .ndr] s s.endNeedleForces :=
  (s.modWsv_forcing _ (by intro; rfl)).andThen (forNeedles_only _ _)
theorem State.endChimeIfForced_only : OnlyChanges [.forcing, .pru] s s.endChimeIfForced :=
  .ite s.endChimeForce_only (.refl _ _)

/-- What the end of all forcing can change. -/
abbrev forcingParts : List Part := [.forcing, .pru, .ndr]

theorem State.endAllForcing_only : OnlyChanges forcingParts s s.endAllForcing :=
  (s.endLampForces_only.andThen (State.endNeedleForces_only _) (n := forcingParts)).andThen
    (State.endChimeIfForced_only _)

/-! ### Modes and the hold -/

theorem State.setMode_only (m : Mode) : OnlyChanges [.mctl] s (s.setMode m) := s.modMctl_only _
theorem State.beginHold_only : OnlyChanges [.link] s s.beginHold := s.modLif_only _ (by intro; rfl)
theorem State.holdIfAsserted_only : OnlyChanges [.link] s s.holdIfAsserted :=
  .ite s.beginHold_only (.refl _ _)
theorem State.endHold_only : OnlyChanges [.link, .pru, .ndr] s s.endHold :=
  (((s.modLif_only _ (by intro; rfl)).andThen (State.publishList_only _)
    (n := [.link, .pru, .ndr])).andThen (State.publishTargets_only _)
    (n := [.link, .pru, .ndr])).andThen (State.refreshPru_only _)
theorem State.startSilenceTimer_only : OnlyChanges [.link] s s.startSilenceTimer :=
  s.modLif_only _ (by intro; rfl)
theorem State.stopSilenceTimer_only : OnlyChanges [.link] s s.stopSilenceTimer :=
  s.modLif_only _ (by intro; rfl)
theorem State.startScans_only : OnlyChanges [.sched] s s.startScans := s.modSched_only _
theorem State.startServices_only : OnlyChanges [.sched] s s.startServices := s.modSched_only _

/-- What an ignition-on can change. -/
abbrev ignitionParts : List Part := [.mctl, .ndr, .wev, .pru, .fmy, .cursor, .attention]

theorem State.ignitionOn_only : OnlyChanges ignitionParts s s.ignitionOn := by
  delta State.ignitionOn
  extract_lets s1 s2 s3
  have h1 : OnlyChanges ignitionParts s s1 := (s.bump_only _).mono
  have h2 : OnlyChanges ignitionParts s1 s2 := (s1.modMctl_only _).mono
  have h3 : OnlyChanges ignitionParts s2 s3 :=
    (s2.startLampCheck_only.andThen (State.endIgnitionLatches_only _) (n := ignitionParts)).andThen
      (State.runNeedles_only _)
  exact h1.trans (h2.trans (h3.trans ((s3.publishLamps_only.trans
    (State.refreshChime_only _)).mono)))
theorem State.enterRun_only : OnlyChanges ignitionParts s s.enterRun :=
  (s.setMode_only _).andThen (State.ignitionOn_only _)
theorem State.endForcingOf_only (m : Mode) : OnlyChanges forcingParts s (s.endForcingOf m) :=
  .ite s.endAllForcing_only (.refl _ _)

/-- What an ignition-off can change. -/
abbrev ignitionOffParts : List Part :=
  [.mctl, .ndr, .pru, .dmn, .fmy, .cursor, .forcing, .attention]

theorem State.ignitionOff_only : OnlyChanges ignitionOffParts s s.ignitionOff := by
  delta State.ignitionOff
  extract_lets was s1 s2 s3
  have h1 : OnlyChanges ignitionOffParts s s1 := (s.setMode_only _).mono
  have h2 : OnlyChanges ignitionOffParts s1 s2 := (s1.modMctl_only _).mono
  have h3 : OnlyChanges ignitionOffParts s2 s3 :=
    ((s2.endLampCheck_only.andThen (State.ageFaults_only _) (n := ignitionOffParts)).andThen
      (State.withdrawAll_only _) (n := ignitionOffParts)).andThen (State.refreshOutputs_only _)
  exact h1.trans (h2.trans (h3.trans (((s3.endForcingOf_only was).andThen
    (State.parkNeedles_only _) (n := ignitionOffParts)).andThen (State.refreshPru_only _))))

/-- What an exit from WORKSHOP can change. -/
abbrev workshopParts : List Part := [.mctl, .forcing, .pru, .ndr, .attention]

theorem State.leaveWorkshop_only : OnlyChanges (.mctl :: forcingParts) s s.leaveWorkshop :=
  ((s.setMode_only _).andThen (State.endAllForcing_only _) (n := .mctl :: forcingParts)).andThen
    (State.refreshPru_only _)
theorem State.workshopToRun_only : OnlyChanges workshopParts s s.workshopToRun :=
  s.leaveWorkshop_only.andThen (State.attend_only _ _)
theorem State.leaveWorkshopIfMoving_only : OnlyChanges workshopParts s s.leaveWorkshopIfMoving :=
  .ite s.workshopToRun_only (.refl _ _)

/-- What the settling reports can change. -/
abbrev settleParts : List Part := [.hlm, .gve, .wev, .pru, .dmn, .fmy, .cursor, .attention]

theorem State.settleBlocks_only : OnlyChanges settleParts s s.settleBlocks :=
  (((s.settleLines_only.andThen (State.settleGauges_only _) (n := settleParts)).andThen
    (State.settleRules_only _) (n := settleParts)).andThen (State.settleLamps_only _)
    (n := settleParts)).andThen (State.settleDoors_only _)
theorem State.settleLink_only : OnlyChanges (.link :: faultParts) s s.settleLink :=
  (s.reportCleared_only _).andThen (State.modLif_only _ _ (by intro; rfl))
theorem State.mapRetries_only (f : Timer → Timer) : OnlyChanges [.pru] s (s.mapRetries f) :=
  s.modPru_only _
theorem State.endHoldForSleep_only : OnlyChanges [.link, .pru, .ndr] s s.endHoldForSleep :=
  .trans (t := if s.lif.hold then s.endHold else s) (.ite s.endHold_only (.refl _ _))
    (State.modLif_only _ _ (by intro; rfl)).mono
theorem State.startComparators_only : OnlyChanges [.hlm] s s.startComparators := forLines_only s _
theorem State.stopComparators_only : OnlyChanges [.hlm] s s.stopComparators := forLines_only s _
theorem State.gateFaultTimers_only : OnlyChanges [.hlm] s s.gateFaultTimers := forLines_only s _
theorem State.restartDebounces_only : OnlyChanges [.hlm] s s.restartDebounces := forLines_only s _
theorem State.dropUnclassified_only : OnlyChanges [.hlm] s s.dropUnclassified := forLines_only s _
theorem forUnits_only (f : Capture → Capture) : OnlyChanges [.gve] s (forUnits f s) :=
  s.modGve_only _
theorem forChannels_only (f : Fin 6 → Channel → Channel) :
    OnlyChanges [.gve] s (forChannels f s) := s.modGve_only _
theorem State.startUnits_only : OnlyChanges [.gve] s s.startUnits := forUnits_only s _
theorem State.stopGauges_only : OnlyChanges [.gve] s s.stopGauges :=
  (forUnits_only s _).trans (forChannels_only _ _)
theorem State.wakeGauges_only : OnlyChanges [.gve] s s.wakeGauges :=
  s.startUnits_only.trans (forChannels_only _ _)
theorem State.resetGauges_only : OnlyChanges [.gve] s s.resetGauges :=
  (forChannels_only s _).trans (forUnits_only _ _)
theorem State.wakeLines_only : OnlyChanges [.hlm] s s.wakeLines :=
  ((forLines_only s _).trans (State.gateFaultTimers_only _)).trans (State.startComparators_only _)
theorem State.restartPhase_only : OnlyChanges [.pru] s s.restartPhase :=
  (s.modPru_only _).trans (State.followCalls_only _)

/-- What SLEEP entry and the wake can change. -/
abbrev sleepParts : List Part :=
  [.sched, .mctl, .hlm, .gve, .ndr, .pru, .dmn, .fmy, .cursor, .attention, .link]

theorem State.enterSleep_only : OnlyChanges sleepParts s s.enterSleep := by
  delta State.enterSleep
  extract_lets s1 s2 s3 s4
  have h1 : OnlyChanges sleepParts s s1 :=
    (s.endHoldForSleep_only.andThen (State.setMode_only _ _) (n := sleepParts)).andThen
      (State.modMctl_only _ _)
  have h2 : OnlyChanges sleepParts s1 s2 :=
    ((s1.makeCounterDue_only.andThen (State.gateFaultTimers_only _) (n := sleepParts)).andThen
      (State.stopComparators_only _) (n := sleepParts)).andThen (State.stopGauges_only _)
  have h3 : OnlyChanges sleepParts s2 s3 :=
    (((forNeedles_only s2 _).andThen (State.gateDoorTimers_only _) (n := sleepParts)).andThen
      (State.forceInterlock_only _) (n := sleepParts)).andThen (State.refreshOutputs_only _)
  have h4 : OnlyChanges sleepParts s3 s4 :=
    ((s3.mapRetries_only _).andThen (State.stopSilenceTimer_only _) (n := sleepParts)).andThen
      (State.refreshPru_only _)
  exact h1.trans (h2.trans (h3.trans (h4.trans (s4.modSched_only _).mono)))
theorem State.wake_only : OnlyChanges sleepParts s s.wake := by
  delta State.wake
  extract_lets s1 s2 s3
  have h1 : OnlyChanges sleepParts s s1 :=
    ((s.setMode_only _).andThen (State.attend_only _ _) (n := sleepParts)).andThen
      (State.modMctl_only _ _)
  have h2 : OnlyChanges sleepParts s1 s2 :=
    ((s1.startScans_only.andThen (State.startServices_only _) (n := sleepParts)).andThen
      (State.wakeLines_only _) (n := sleepParts)).andThen (State.wakeGauges_only _)
  have h3 : OnlyChanges sleepParts s2 s3 :=
    (s2.gateDoorTimers_only.andThen (State.mapRetries_only _ _) (n := sleepParts)).andThen
      (State.restartPhase_only _)
  exact h1.trans (h2.trans (h3.trans (((s3.freeInterlock_only.andThen
    (State.startSilenceTimer_only _) (n := sleepParts)).andThen (State.holdIfAsserted_only _)
    (n := sleepParts)).andThen (State.refreshPru_only _))))

/-! ### Supply -/

/-- What a change of the supply state can change. -/
abbrev supplyParts : List Part := [.mctl, .hlm, .ndr, .pru, .dmn, .fmy, .cursor, .attention]

theorem State.clearSupplyMarks_only :
    OnlyChanges (.mctl :: faultParts) s s.clearSupplyMarks := by
  delta State.clearSupplyMarks
  extract_lets s1 s2
  have h1 : OnlyChanges (.mctl :: faultParts) s s1 :=
    .ite (s.reportCleared_only _).mono (.refl _ _)
  have h2 : OnlyChanges (.mctl :: faultParts) s1 s2 :=
    .ite (s1.reportCleared_only _).mono (.refl _ _)
  exact h1.trans (h2.trans (s2.modMctl_only _).mono)
theorem State.crankChange_only (x y : Supply) :
    OnlyChanges supplyParts s (s.crankChange x y) :=
  .ite (s.restartDebounces_only.andThen (forNeedles_only _ _))
    (.ite ((s.modMctl_only _).andThen (forNeedles_only _ _)) (.refl _ _))
theorem State.changeSupply_only (x : Supply) : OnlyChanges supplyParts s (s.changeSupply x) := by
  delta State.changeSupply
  extract_lets old s1 s2
  have h1 : OnlyChanges supplyParts s s1 := (s.modMctl_only _).andThen (State.attend_only _ _)
  have h2 : OnlyChanges supplyParts s1 s2 := .ite s1.clearSupplyMarks_only.mono (.refl _ _)
  exact .ite (.refl _ _) (h1.trans (h2.trans ((((s2.crankChange_only _ _).andThen
    (State.gateFaultTimers_only _) (n := supplyParts)).andThen (State.gateDoorTimers_only _)
    (n := supplyParts)).andThen (State.refreshPru_only _))))
theorem State.measureVb_only (mv : Nat) : OnlyChanges supplyParts s (s.measureVb mv) :=
  .ite ((s.modMctl_only _).andThen (State.changeSupply_only _ _))
    ((s.modMctl_only _).andThen (State.changeSupply_only _ _))

/-! ### Sense lines: what a changed logical value does -/

/-- What the consumers of a sense line can change. -/
abbrev consumerParts : List Part :=
  [.mctl, .ndr, .wev, .pru, .dmn, .fmy, .cursor, .forcing, .attention]

theorem State.interlockRoleChange_only (n : Fin 32) (x : Logical) :
    OnlyChanges doorParts s (s.interlockRoleChange n x) := by
  delta State.interlockRoleChange
  extract_lets c s1
  have h1 : OnlyChanges doorParts s s1 := .ite s.evalInterlock_only.mono (.refl _ _)
  exact h1.trans (.ite (s1.overrideChange_only x) (.refl _ _))
theorem State.buttonRoleChange_only (n : Fin 32) (b : Bool) :
    OnlyChanges consumerParts s (s.buttonRoleChange n b) := by
  delta State.buttonRoleChange
  extract_lets c s1 s2
  have h1 : OnlyChanges consumerParts s s1 := .ite s.releaseButton_only.mono (.refl _ _)
  have h2 : OnlyChanges consumerParts s1 s2 :=
    .ite s1.leaveWorkshopIfMoving_only.mono (.refl _ _)
  exact h1.trans (h2.trans (.ite s2.ackButton_only.mono (.refl _ _)))
theorem State.roleChange_only (n : Fin 32) (x y : Logical) :
    OnlyChanges consumerParts s (s.roleChange n x y) :=
  (s.interlockRoleChange_only n y).andThen (State.buttonRoleChange_only _ n _)
theorem State.handOn_only (n : Fin 32) (x : Logical) :
    OnlyChanges consumerParts s (s.handOn n x) :=
  .ite (.refl _ _) ((s.doorLineChange_only n _).andThen (State.roleChange_only _ n _ _))
theorem State.sampleLine_only (n : Fin 32) (mv : Nat) :
    OnlyChanges (.free :: .hlm :: consumerParts) s (s.sampleLine n mv) :=
  (s.classify_only n mv).andThen (State.handOn_only _ n _)

/-! ### The link -/

/-- What the arrival of a frame can change. -/
abbrev arrivalParts : List Part := [.fmy, .cursor, .attention, .link, .pru]

theorem State.linkError_only : OnlyChanges [.link, .attention] s s.linkError :=
  (s.modLif_only _ (by intro; rfl)).andThen (State.attend_only _ _)
theorem State.restartSilenceTimer_only : OnlyChanges [.link] s s.restartSilenceTimer :=
  .ite (s.modLif_only _ (by intro; rfl)) (.refl _ _)
theorem State.silenceReport_only : OnlyChanges arrivalParts s s.silenceReport :=
  .ite (.refl _ _) ((s.reportCleared_only _).andThen (State.modLif_only _ _ (by intro; rfl)))
theorem State.endSilence_only : OnlyChanges arrivalParts s s.endSilence :=
  ((s.silenceReport_only.andThen (State.modLif_only _ _ (by intro; rfl)) (n := arrivalParts)).andThen
    (State.restartSilenceTimer_only _) (n := arrivalParts)).andThen (State.refreshPru_only _)
theorem State.hearHost_only : OnlyChanges arrivalParts s s.hearHost :=
  .ite s.endSilence_only s.restartSilenceTimer_only.mono
theorem State.frameArrives_only (f : Frame) : OnlyChanges arrivalParts s (s.frameArrives f) := by
  delta State.frameArrives
  extract_lets s1
  have h1 : OnlyChanges arrivalParts s s1 := s.hearHost_only
  exact h1.trans (.ite (.refl _ _) (.ite s1.linkError_only.mono (.ite s1.linkError_only.mono
    (s1.modLif_only _ (by intro; rfl)).mono)))
theorem State.receiver_only (r : Rx) : OnlyChanges [.link] s (s.receiver r) :=
  s.modLif_only _ (by intro; rfl)
theorem State.abandon_only : OnlyChanges [.link, .attention] s s.abandon :=
  (s.receiver_only _).andThen (State.linkError_only _)
theorem State.takeByte_only (b : Byte) : OnlyChanges arrivalParts s (s.takeByte b) := by
  unfold State.takeByte
  dsimp only
  repeat' split
  all_goals first
    | with_reducible exact (s.receiver_only _).mono
    | with_reducible exact s.linkError_only.mono
    | with_reducible exact s.abandon_only.mono
    | with_reducible exact (s.receiver_only _).andThen (State.frameArrives_only _ _)
    | with_reducible exact (s.receiver_only _).andThen (State.linkError_only _)
theorem State.stopBitError_only : OnlyChanges [.link, .attention] s s.stopBitError :=
  s.abandon_only.andThen (State.modLif_only _ _ (by intro; rfl))
theorem State.wakeByLink_only : OnlyChanges sleepParts s s.wakeByLink :=
  .ite s.wake_only (.refl _ _)
theorem State.serve_only (f : Frame) (k : Service) (l : List Part)
    (h : OnlyChanges l s (k s).1) (hl : partsIn [.link] l = true := by with_unfolding_all rfl) :
    OnlyChanges l s (s.serve f k) :=
  h.trans ((State.modLif_only _ _ (by intro; rfl)).mono hl)

end Sys2Proof.Machine
end

