-- ==== Sys2Proof/Laws/Ops.lean ====
section
/-! SUPPORT. What the shared operations do, each said once: the reset that holds the part, timers at their
figure, requests at the head of the queue, the interlock, the outputs, the receive line and the fault table. -/

namespace Sys2Proof.Machine

variable (s : State)

/-! ### Commands in general -/

/-- A part held in reset is left as it is (R16). -/
theorem live_held (k : State → State) (h : s.heldInReset = true) : live k s = .next s := by
  simp [live, h]

theorem live_runs (k : State → State) (h : s.heldInReset = false) : live k s = .next (k s) := by
  simp [live, h]

/-- The events of a timer that is not running leave the state alone. -/
theorem atExpiry_still (t : Timer) (figure : Nat) (k : State → State) (h : t.isRunning = false) :
    atExpiry t figure k s = s := by
  cases t <;> first | rfl | exact absurd h (by simp [Timer.isRunning])

@[simp] theorem atExpiry_running (since : Int) (figure : Nat) (k : State → State) :
    atExpiry (.running since) figure k s = k (s.reach (since + figure)) := rfl

/-- An operation that runs at expiry or not at all keeps whatever the state without it has. -/
theorem atExpiry_cases (t : Timer) (figure : Nat) (k : State → State) (P : State → Prop)
    (still : P s) (runs : ∀ since, t = .running since → P (k (s.reach (since + figure)))) :
    P (atExpiry t figure k s) := by
  cases t with
  | running since => exact runs since rfl
  | stopped => exact still
  | paused e => exact still

/-! ### Requests (R195) -/

theorem Ready.atHead {f : Frame} {s : State} (h : Ready f s) : s.atHead f = true := by
  simp [State.atHead, h.head, h.quiet]

/-- A frame at the head of the queue with no reply in flight is served. -/
theorem State.request_ready (f : Frame) (k : Service) (h : Ready f s) :
    s.request f k = s.serve f k := by
  simp [State.request, h.atHead]

/-- A service that only answers leaves everything but the reply. -/
theorem State.serve_replying (f : Frame) (k : Service) (x : Status) (items : List Byte)
    (h : k s = (s, x, items)) : s.serve f k = s.replying f x items := by
  simp [State.serve, State.replying, h]

/-- The same for a whole request command. -/
theorem live_request_replying (f : Frame) (k : Service) (x : Status) (items : List Byte)
    (r : Ready f s) (h : k s = (s, x, items)) :
    live (State.request f k) s = .next (s.replying f x items) := by
  rw [live_runs s _ r.live, s.request_ready f k r, s.serve_replying f k x items h]

/-- R198: the checks of a request outside the workshop range, before its fields. -/
theorem served_ok (early : Bool) (ok : Nat → Bool) (p : List Byte) (k : Service)
    (m : s.mode ≠ .startup ∨ early = true) (l : ok p.length = true) : served early ok p k s = k s := by
  unfold served
  rw [if_neg (by rintro ⟨a, b⟩; rcases m with m | m; exacts [m a, b m]), if_pos l]

theorem servedInWorkshop_ok (ok : Nat → Bool) (p : List Byte) (k : Service)
    (m : s.mode = .workshop) (l : ok p.length = true) : servedInWorkshop ok p k s = k s := by
  unfold servedInWorkshop
  rw [if_neg (by simp [m]), if_pos l]

/-! ### The interlock and the outputs (R148, R149) -/

@[simp] theorem State.setInterlock_dmn (i : Interlock) (t : Timer) :
    (s.setInterlock i t).dmn = { s.dmn with interlock := i, delay := t } := by
  unfold State.setInterlock
  dsimp only
  split <;> rfl

/-- R149: a change of ILK, and nothing else, sets attention cause DOOR. -/
theorem State.setInterlock_attention (i : Interlock) (t : Timer) :
    (s.setInterlock i t).lif.attention =
      if i.ilk = s.ilk then s.lif.attention else s.lif.attention.raise .door := by
  have h : (s.modDmn fun m => { m with interlock := i, delay := t }).ilk = i.ilk := rfl
  unfold State.setInterlock
  dsimp only
  rw [h]
  split <;> rfl

/-- R149: the outcome of an evaluation of the conditions, in one line. -/
theorem State.evalInterlock_dmn :
    s.evalInterlock.dmn =
      (match s.dmn.interlock, s.anyCondition with
        | .held, false => { s.dmn with interlock := .delay, delay := .running s.now }
        | .delay, true | .free, true => { s.dmn with interlock := .held, delay := .stopped }
        | _, _ => s.dmn) := by
  unfold State.evalInterlock
  cases h : s.dmn.interlock <;> cases c : s.anyCondition <;> simp

@[simp] theorem State.refreshOutput_door (d : Fin 4) :
    (s.refreshOutput d).door d = { s.door d with output := s.outputDue d } :=
  s.modDoor_same d _

theorem State.refreshOutput_other (d e : Fin 4) (h : d ≠ e) :
    (s.refreshOutput d).door e = s.door e := s.modDoor_other d e _ h

/-! ### Needles (R77) -/

/-- A forcing record changes a needle's state, or the state it resumes, and nothing of its motion. -/
theorem Needle.takeForce_motion (n : Needle) :
    n.takeForce.pos = n.pos ∧ n.takeForce.speed = n.speed ∧ n.takeForce.dir = n.dir ∧
      n.takeForce.latest = n.latest ∧ n.takeForce.published = n.published := by
  cases h : n.st <;> simp [Needle.takeForce, h]

/-- R77: after a forcing record's start a needle is no member of a sweep. -/
theorem Needle.takeForce_not_sweeping (n : Needle) : n.takeForce.effective.isSweeping = false := by
  cases h : n.st <;> simp [Needle.takeForce, Needle.effective, h] <;> rfl

/-! ### The receive line (R209) -/

/-- A high stop bit ends the period in which the line is low. -/
@[simp] theorem State.byteEnds_high (b : Byte) : s.byteEnds b true = s.lineWentHigh := rfl

/-- Below a low stop bit a byte of zeros leaves a running period alone; any other byte begins a new one. -/
theorem State.byteEnds_low (b : Byte) : s.byteEnds b false = s.modLif fun l =>
    { l with lowTimer := if b = 0 ∧ l.lowTimer ≠ .stopped then l.lowTimer else .running s.now } := rfl

/-! ### The fault table (R158, R163 to R165) -/

@[simp] theorem Fmy.dirty_table (m : Fmy) (n : Fin 48) : (m.dirty n).table = m.table := by
  unfold Fmy.dirty; split <;> [rfl; (split <;> rfl)]

/-- R165: after a slot is dirtied it is in flight and marked, or on the list. -/
theorem Fmy.dirty_covers (m : Fmy) (n : Fin 48) :
    (m.write.slotNo = some n ∧ (m.dirty n).reappend = true) ∨ n ∈ (m.dirty n).writes := by
  unfold Fmy.dirty
  split
  · rename_i h; exact .inl ⟨h, rfl⟩
  · split
    · rename_i h; exact .inr h
    · exact .inr (by simp)

@[simp] theorem State.tableChanged_table (n : Fin 48) :
    (s.tableChanged n).fmy.table = s.fmy.table := Fmy.dirty_table _ n

@[simp] theorem Fmy.dirty_formers (m : Fmy) (n : Fin 48) : (m.dirty n).formers = m.formers := by
  unfold Fmy.dirty; split <;> [rfl; (split <;> rfl)]

@[simp] theorem State.tableChanged_formers (n : Fin 48) :
    (s.tableChanged n).fmy.formers = s.fmy.formers := Fmy.dirty_formers _ n

/-- R164: a creation in a slot ends the former code of the slot. -/
theorem State.createEntry_formers (c : FaultCode) (p : Nat) (n : Fin 48) :
    (s.createEntry c p n).fmy.formers = s.fmy.formers.set n none := by
  unfold State.createEntry
  rw [State.tableChanged_formers]
  rfl

/-- R164: a removal makes the entry's code the former code of its slot. -/
theorem State.removeEntry_formers (i : Nat) (e : FaultEntry) (h : s.fmy.table[i]? = some e) :
    (s.removeEntry i).fmy.formers = s.fmy.formers.set e.slot (some e.code) := by
  simp [State.removeEntry, h]

theorem State.createEntry_table (c : FaultCode) (p : Nat) (n : Fin 48) :
    ∃ e, (s.createEntry c p n).fmy.table = s.fmy.table ++ [e] ∧ e.code = c ∧ e.priority = p ∧
      e.active = true ∧ e.occurrences = 1 ∧ e.aging = 0 ∧ e.first = s.stamp ∧ e.last = s.stamp ∧
      e.slot = n ∧ e.snapshot = (if c.sourceClass.hasSnapshot then some s.takeSnapshot else none) ∧
      e.created = min (s.fmy.created + 1) counterMax := by
  refine ⟨{ code := c, priority := p, active := true, occurrences := 1, first := s.stamp,
            last := s.stamp, aging := 0,
            snapshot := if c.sourceClass.hasSnapshot then some s.takeSnapshot else none,
            slot := n, created := min (s.fmy.created + 1) counterMax },
    ?_, rfl, rfl, rfl, rfl, rfl, rfl, rfl, rfl, rfl, rfl⟩
  unfold State.createEntry
  rw [State.tableChanged_table]
  rfl

theorem State.removeEntry_table (i : Nat) :
    (s.removeEntry i).fmy.table = s.fmy.table.eraseIdx i := by
  unfold State.removeEntry
  cases h : s.fmy.table[i]? with
  | none => exact (List.eraseIdx_of_length_le (List.getElem?_eq_none_iff.mp h)).symm
  | some e => simp

theorem State.changeEntry_table (i : Nat) (f : FaultEntry → FaultEntry) :
    (s.changeEntry i f).fmy.table = s.fmy.table.modify i f := by
  unfold State.changeEntry
  cases h : s.fmy.table[i]? with
  | none => simp [List.modify_eq_set_getElem?, h]
  | some e => simp [List.modify_eq_set_getElem?, h]

end Sys2Proof.Machine
end

