-- ==== Sys2Proof/WellFormed.lean ====
section
/-! DEFINITION. Which commands can be sent at all: a payload that the receiver lets through (R192), a
kind that belongs to the row (R198), voltages and times that fit the quantities of 0.6. -/

namespace Sys2Proof

open Machine

/-- R192, R210: a request frame carries 0 to 48 payload bytes. -/
def payloadOk (p : List Byte) : Bool := p.length ≤ 48

/-- A voltage in mV fits the two bytes in which the part reports it (R211). -/
def voltageOk (mv : Nat) : Bool := mv < 65536

def wellFormed : Instr → Bool
  | .powerOnReset | .brownOut | .externalReset | .startupLoadComplete | .startupEnd => true
  | .vbMeasurement mv _ => voltageOk mv
  | .supplyLowReportExpiry | .supplyHighReportExpiry | .ignDebounceExpiry => true
  | .operatingMinuteElapsed | .sleepEntry => true
  | .sleepSample _ mv => mv.toList.all voltageOk
  | .startOfReception _ | .byteReceived _ _ | .gapTimerExpiry | .replySent => true
  | .breakLatch | .breakRelease | .hostSilenceBegins => true
  | .holdLineChange _ | .holdLimitExpiry => true
  | .ping _ p | .readStatus _ p | .readAttention _ p | .setMode _ p | .restart _ p => payloadOk p
  | .restartTakesEffect => true
  | .writeTable _ p | .readTable _ p | .storeConfig _ p | .readLines _ p => payloadOk p
  | .readLineDetail _ p | .feedValue _ p | .readGauges _ p | .sweep _ p => payloadOk p
  | .readRules _ p | .readPresentation _ p | .acknowledge _ p | .readDoors _ p => payloadOk p
  | .releaseDoors _ p | .withdrawRelease _ p | .readFaults _ p => payloadOk p
  | .setFaultCursor _ p | .readFaultDetail _ p | .readCounters _ p => payloadOk p
  | .forceLamp _ p | .forceNeedle _ p | .forceChime _ p | .endForcing _ p => payloadOk p
  | .clearFaults _ p | .resetCounter _ p | .readRawLine _ p => payloadOk p
  | .noEffectKind k _ p => isNoEffectKind k && payloadOk p
  | .unknownKind k _ p => isUnknownKind k && payloadOk p
  | .lineSample _ mv => voltageOk mv
  | .qualifyTimerExpiry _ | .healTimerExpiry _ => true
  | .pulseEdge _ mv wait => voltageOk mv && wait < 4294967296
  | .channelSample _ | .feedTimeout _ | .motionInterval _ => true
  | .evaluationPass | .lampCheckEnd | .lampDiagnosticTick _ _ | .lampOvercurrent _ => true
  | .lampRetryExpiry _ | .lampSuccessTimerExpiry _ | .singleToneComplete => true
  | .openTimerExpiry _ | .closeTimerExpiry _ | .lockTimerExpiry _ => true
  | .inconsistencyTimerExpiry _ | .releaseDelayExpiry => true
  | .writeStart | .slotWriteComplete | .counterSaveComplete | .configStoreComplete => true
  | .lampForcingExpiry _ | .chimeForcingExpiry | .nrstRelease | .brownOutEnd => true
  | .flashPhaseAdvance | .chimeToneEdge => true

end Sys2Proof
end

