-- ==== Sys2Proof/Tests/Slice0.lean ====
section
/-! SUPPORT. Tests. The expected values come from the manual's worked examples and tables, named at each
test, or are computed by hand from its rules. -/

namespace Sys2Proof.Tests

open Sys2Proof.Machine

set_option Elab.async false

/-! ### Helpers -/

/-- The part awake in a mode, with VB at 24 V, IGN ACTIVE and the start-up load done. -/
def awake (m : Mode) : State :=
  { mctl := { mode := m, supply := .normal, vb := some 24000, ign := .active }
    fmy := { loading := false } }

/-- A frame at the head of the queue. -/
def sent (f : Frame) (s : State) : State := s.modLif fun l => { l with queue := [f] }

/-- The state that an answer gives. -/
def after (a : Answer) : State :=
  match a with
  | .next t => t
  | _ => State.reset

/-- The reply that a request leaves in the transmitter. -/
def replyOf (a : Answer) : Option (List Byte) := (after a).lif.tx.map (·.payload)

def line (n : Fin 32) (c : LineCfg) (r : LineRec) (s : State) : State :=
  { s with tables := { s.tables with lines := s.tables.lines.set n c } }.modLine n fun _ => r

def channel (k : Fin 6) (c : ChannelCfg) (h : Channel) (s : State) : State :=
  { s with tables := { s.tables with channels := s.tables.channels.set k c } }.modChannel k fun _ => h

def rule (m : Fin 64) (c : RuleCfg) (r : RuleRec) (s : State) : State :=
  { s with tables := { s.tables with rules := s.tables.rules.set m c } }.modRule m fun _ => r

def lamp (n : Fin 24) (c : LampCfg) (r : Lamp) (s : State) : State :=
  { s with tables := { s.tables with lamps := s.tables.lamps.set n c } }.modLamp n fun _ => r

def door (d : Fin 4) (c : DoorCfg) (r : Door) (s : State) : State :=
  { s with tables := { s.tables with doors := s.tables.doors.set d c } }.modDoor d fun _ => r

def dial (k : Fin 6) (c : Curve) (s : State) : State :=
  { s with tables := { s.tables with dials := s.tables.dials.set k c } }

def roles (c : RoleCfg) (s : State) : State := { s with tables := { s.tables with roles := c } }

def entry (c : FaultCode) (p : Nat) (active : Bool) (slot : Fin 48) : FaultEntry :=
  { code := c, priority := p, active := active, occurrences := 1, first := ⟨0, 1⟩, last := ⟨0, 1⟩,
    aging := 0, snapshot := none, slot := slot, created := 1 }

def table (l : List FaultEntry) (s : State) : State := s.modFmy fun m => { m with table := l }

/-- The configuration of S05 in 2.7. -/
def s05 : LineCfg :=
  { fn := .switchCoded, bias := .pullUp, w1 := 300, w2 := 1500, w3 := 3500, w4 := 6500, w5 := 9200,
    b0 := .faultShortGnd, b1 := .invalid, b2 := .active, b3 := .inactive, b4 := .invalid,
    b5 := .faultOpen, debounce := 3, qualify := 200, heal := 1000 }

def at25600 (s : State) : State := s.modMctl fun c => { c with vb := some 25600 }

/-! ### Well-formed commands -/

theorem test_wellFormed_payload : wellFormed (.ping 1 (.replicate 48 0)) = true := by decide +kernel
theorem test_illFormed_payload : wellFormed (.ping 1 (.replicate 49 0)) = false := by decide +kernel
theorem test_illFormed_voltage : wellFormed (.vbMeasurement 65536 true) = false := by decide +kernel
theorem test_illFormed_line_voltage : wellFormed (.lineSample 0 65536) = false := by decide +kernel
theorem test_illFormed_sleep_voltage :
    wellFormed (.sleepSample true (.replicate 32 65536)) = false := by decide +kernel
theorem test_illFormed_edge_voltage : wellFormed (.pulseEdge 0 65536 0) = false := by decide +kernel
theorem test_illFormed_edge_wait : wellFormed (.pulseEdge 0 0 4294967296) = false := by decide +kernel
theorem test_illFormed_noEffect_kind : wellFormed (.noEffectKind 0x70 0 []) = false := by decide +kernel
theorem test_illFormed_noEffect_payload :
    wellFormed (.noEffectKind 0x60 0 (.replicate 49 0)) = false := by decide +kernel
theorem test_illFormed_unknown_kind : wellFormed (.unknownKind 0x01 0 []) = false := by decide +kernel
theorem test_illFormed_unknown_reply_kind : wellFormed (.unknownKind 0x80 0 []) = false := by decide +kernel
theorem test_illFormed_unknown_payload :
    wellFormed (.unknownKind 0x00 0 (.replicate 49 0)) = false := by decide +kernel

/-- The table of commands gives no row bits, so no word spells a command. -/
theorem test_no_word_spells_a_command : decodeTableWord 8 0x01 = none := rfl

/-- A word that spells nothing leaves the queue alone. -/
theorem test_withFetchWord : (State.reset.withFetchWord 8 1).pending = [] := by decide +kernel

/-! ### Arithmetic of the manual's examples -/

/-- The check of R193 over the nine digits 1 to 9 is 0x29B1 (the published value of this code with
start 0xFFFF and no inversion). -/
theorem test_check_of_digits :
    crc16 [0x31, 0x32, 0x33, 0x34, 0x35, 0x36, 0x37, 0x38, 0x39] = 0x29B1 := by decide +kernel

/-- 2.7: the three ratios at VB 25 600 mV. -/
theorem test_ratios : ratioOf 5120 25600 = 2000 ∧ ratioOf 14080 25600 = 5500 ∧
    ratioOf 25344 25600 = 9900 := by decide +kernel

/-- 3.13: K = 2 250 000, the speeds of steps 4, 6, 7 and 8. -/
theorem test_speeds : [6230, 6340, 15200, 25200].map (fun p => speedOf 2250000 p 1200) =
    [361, 355, 148, 89] := by decide +kernel

/-- 3.13: the filter steps of the four samples, shift 2. -/
theorem test_filter_steps : [2416, 276, -52785, -54693].map (fun d => filterStep d 2) =
    [604, 69, -13196, -13673] := by decide +kernel

/-- 3.14: the falling sensor table, with both roundings and both clamped ends. -/
theorem test_sensor_table :
    [3500, 1207, 9600, 600].map
      (fun x => curveAt [(1200, 1200), (2600, 900), (5200, 600), (8400, 300)] x) =
    [some 796, some 1198, some 300, some 1200] := by decide +kernel

/-- 4.10: the dial table at F = 354, 303 and 12. -/
theorem test_dial_table :
    [354, 303, 12].map (fun f => curveAt [(0, 0), (600, 1920), (1200, 3240)] f) =
    [some 1133, some 970, some 38] := by decide +kernel

def intervals (target : Nat) : Nat → Needle → List (Option Nat × Nat)
  | 0, _ => []
  | k + 1, n =>
    let n' := { n with published := target }.interval 3240 8 none
    (n'.pos, n'.speed) :: intervals target k n'

/-- 4.10: the seven microsteps from 1126 to 1133. -/
theorem test_needle_runs_up :
    intervals 1133 7 { st := .tracking, pos := some 1126 } =
    [(some 1127, 1), (some 1129, 2), (some 1131, 2), (some 1132, 1), (some 1133, 1), (some 1133, 0),
      (some 1133, 0)] := by decide +kernel

/-- 4.11: the reversal during motion. -/
theorem test_needle_reverses :
    intervals 1990 12 { st := .tracking, pos := some 2000, speed := 4 } =
    [(some 2003, 3), (some 2005, 2), (some 2006, 1), (some 2006, 0), (some 2005, 1), (some 2003, 2),
      (some 2000, 3), (some 1996, 4), (some 1993, 3), (some 1991, 2), (some 1990, 1),
      (some 1990, 0)] := by decide +kernel

/-- R210: numbers travel high byte first, signed ones in two's complement. -/
theorem test_numbers : u32 0x01020304 = [1, 2, 3, 4] ∧ i16 (-2) = [0xFF, 0xFE] ∧
    rdI16 [0xFF, 0xFE] 0 = -2 := by decide +kernel

/-- R210: a PING without payload, tag 7, as it travels: marker, length, kind, tag, check (the check is
that of the three bytes 0, 1, 7 by R193). -/
theorem test_frame_bytes : (⟨0x01, 7, []⟩ : Frame).bytes.take 4 = [0x5A, 0, 1, 7] ∧
    (⟨0x01, 7, []⟩ : Frame).bytes.length = 6 := by decide +kernel

/-- R122: FLASH_FAST carries current in the first half of each quarter. -/
theorem test_flash_fast : [0, 124, 125, 249, 250, 875].map Level.flashFast.calls =
    [true, true, false, false, true, false] := by decide +kernel

/-! ### Supply, ignition and modes -/

/-- 1.5, steps 2 and 3: the first measurement sets NORMAL, and IGN begins to debounce. -/
theorem test_first_measurement :
    let t := after (exec (.vbMeasurement 26400 true) State.reset)
    t.now = 2000 ∧ t.supply = .normal ∧ t.mctl.ignTimer = some (true, .running 2000) := by decide +kernel

/-- 1.6, step 1: a dip to 14 100 mV in NORMAL is CRANK, not LOW. -/
theorem test_crank : (after (exec (.vbMeasurement 14100 true) (awake .run))).supply = .crank := by
  decide +kernel

/-- 1.6, steps 5 and 6: 16 900 mV after 100 ms of recovery leaves CRANK for LOW. -/
theorem test_crank_ends :
    (after (exec (.vbMeasurement 16900 true)
      { awake .run with
        now := 800000
        mctl := { (awake .run).mctl with supply := .crank, recoveryTimer := .running 700000 } })).supply =
      .low := by decide +kernel

/-- 1.5, step 6: IGN held for 20 ms is accepted. -/
theorem test_ign_accepted :
    let t := after (exec .ignDebounceExpiry
      { State.reset with mctl := { ignTimer := some (true, .running 2000) } })
    t.now = 22000 ∧ t.mctl.ign = .active := by decide +kernel

/-- R7: without a good image STARTUP ends in UNCONFIGURED. -/
theorem test_startup_without_image :
    (after (exec .startupEnd (awake .startup))).mode = .unconfigured := by decide +kernel

/-- 1.5, step 7: with an image and IGN ACTIVE, RUN, with the ignition cycle counted. -/
theorem test_startup_with_image :
    let t := after (exec .startupEnd
      { awake .startup with mctl := { (awake .startup).mctl with loaded := some {} } })
    t.mode = .run ∧ t.counter ignitionPlace = 1 ∧ t.needle 0 =
      { st := .homingDriving, count := 3840 + 64, dir := .down } := by decide +kernel

/-- R169, R174: a blank store gives zero counters, a save due and STORE/48/SLOT_LOST. -/
theorem test_load_of_a_blank_store :
    let t := after (exec .startupLoadComplete State.reset)
    t.fmy.table.map (·.code) = [.slotLost 48] ∧ t.fmy.counterDue = true := by decide +kernel

/-- R169, R170: of two slots with one code the one created later stays, a bad slot and a bad counter block are
reported lost, an entry at the aging limit of 40 goes, and a report held during the load is applied last; the
slots are dirtied by the steps in their order. -/
theorem test_load_of_slots :
    let e (c : FaultCode) (created aging : Nat) : SlotContent :=
      .entry { entry c 5 true 0 with created := created, aging := aging }
    let t := after (exec .startupLoadComplete
      { State.reset with
        nv := { slots := (((((Vector.replicate 48 SlotContent.empty).set 0 (e (.lamp 0 .short) 5 0)).set 1
          (e (.lamp 0 .short) 7 0)).set 2 .bad).set 3 (e (.gauge 0 .lost) 9 40)) }
        fmy := { held := [(.gauge 4 .lost, 6, true)] } })
    t.fmy.table.map (·.code) = [.lamp 0 .short, .slotLost 2, .slotLost 48, .gauge 4 .lost] ∧
      t.fmy.table.map (·.created) = [7, 10, 11, 12] ∧
      t.fmy.writes = [2, 0, 3] := by decide +kernel

/-- R11: a minute is counted and the next one runs from it. -/
theorem test_minute :
    let t := after (exec .operatingMinuteElapsed
      { awake .run with mctl := { (awake .run).mctl with minute := .running 5 } })
    t.counter minutePlace = 1 ∧ t.mctl.minute = .running 60000005 := by decide +kernel

/-- R3: LOW for 10 s is reported. -/
theorem test_low_report :
    (after (exec .supplyLowReportExpiry
      { awake .run with mctl := { (awake .run).mctl with lowReport := .running 0 } })).fmy.table.map
      (·.code) = [.supply .low] := by decide +kernel

/-- R3: HIGH for 1 s is reported. -/
theorem test_high_report :
    (after (exec .supplyHighReportExpiry
      { awake .run with mctl := { (awake .run).mctl with highReport := .running 0 } })).now =
      1000000 := by decide +kernel

/-- R14: SLEEP is entered when the reply has left the part. -/
theorem test_sleep_entry :
    (after (exec .sleepEntry
      { awake .standby with mctl := { (awake .standby).mctl with sleepPending := true } })).mode =
      .sleep := by decide +kernel

/-- R15: IGN ACTIVE wakes the part into STANDBY. -/
theorem test_sleep_sample :
    (after (exec (.sleepSample true (.replicate 32 0)) (awake .sleep))).mode = .standby := by decide +kernel

/-! ### Resets -/

theorem test_external_reset :
    let t := after (exec .externalReset (awake .run))
    t.heldInReset = true ∧ t.mctl.cause = .pin := by decide +kernel
theorem test_nrst_release :
    (after (exec .nrstRelease { State.reset with pins := { nrstLow := true } })).heldInReset = false := by
  decide +kernel
theorem test_brown_out : (after (exec .brownOut (awake .run))).mctl.cause = .brownOut := by decide +kernel
theorem test_brown_out_end :
    (after (exec .brownOutEnd { State.reset with pins := { brownOut := true } })).heldInReset = false := by
  decide +kernel
theorem test_power_on : (after (exec .powerOnReset (awake .run))).mctl.cause = .powerOn := by decide +kernel
theorem test_restart_takes_effect :
    (after (exec .restartTakesEffect
      { awake .run with mctl := { (awake .run).mctl with restart := .ready } })).mctl.cause =
      .restart := by decide +kernel

/-- R171: an item listed after the save keeps the restart waiting. -/
theorem test_restart_waits_for_an_item :
    let s := ((awake .run).modMctl fun c => { c with restart := .ready }).modFmy fun m =>
      { m with writes := [3] }
    exec .restartTakesEffect s = .next s := rfl
theorem test_break_release :
    (after (exec .breakRelease ((awake .run).modLif fun l => { l with breakLatched := true }))).mctl.cause =
      .linkBreak := by decide +kernel

/-! ### The link -/

/-- R192: the marker begins a frame; another byte in HUNT is a link error. -/
theorem test_marker_and_stray :
    (after (exec (.byteReceived 0x5A true) (awake .run))).lif.rx = .length ∧
      (after (exec (.byteReceived 0x3C true) (awake .run))).lif.errors = 1 := by decide +kernel

/-- R209: before the line has been idle a byte is not taken, yet its high stop bit ends the low period. -/
theorem test_high_stop_bit_ends_the_low_period :
    (after (exec (.byteReceived 0 true) ((awake .run).modLif fun l =>
      { l with waitIdle := true, lowTimer := .running 5 }))).lif.lowTimer = .stopped := by decide +kernel

theorem test_start_of_reception :
    (after (exec (.startOfReception true) (awake .sleep))).mode = .standby := by decide +kernel
theorem test_gap :
    (after (exec .gapTimerExpiry ((awake .run).modLif fun l =>
      { l with rx := .length, gap := .running 0 }))).lif.rx = .hunt := by decide +kernel
theorem test_reply_sent :
    (after (exec .replySent ((sent ⟨0x01, 7, []⟩ (awake .run)).modLif fun l =>
      { l with tx := some ⟨0x81, 7, [0]⟩ }))).lif.queue = [] := by decide +kernel
theorem test_break_latch :
    (after (exec .breakLatch ((awake .run).modLif fun l => { l with lowTimer := .running 0 }))).now =
      20000 := by decide +kernel
theorem test_host_silence :
    (after (exec .hostSilenceBegins ((awake .workshop).modLif fun l =>
      { l with silence := false, silenceTimer := .running 0 }))).mode = .run := by decide +kernel
theorem test_hold : (after (exec (.holdLineChange true) (awake .run))).lif.hold = true := by decide +kernel
theorem test_hold_limit :
    (after (exec .holdLimitExpiry ((awake .run).modLif fun l =>
      { l with hold := true, holdTimer := .running 0 }))).lif.spent = true := by decide +kernel

/-! ### Requests -/

/-- A request on a free line comes in and is served at once. -/
theorem test_ping : replyOf (exec (.ping 7 [1, 2]) State.reset) = some [0, 1, 2] := by decide +kernel

/-- 1.5, step 4, by the layout of R211. -/
theorem test_read_status :
    replyOf (exec (.readStatus 7 [])
      { State.reset with mctl := { supply := .normal, vb := some 26400 }
                         lif := { silence := false, startupSilence := false } }) =
      some [0, 0, 0, 0x67, 0x20, 0, 0, 0, 0, 0, 0, 0, 0, 0] := by decide +kernel

/-- 10.3: after a reset the set holds RESET, SUPPLY and HOSTSIL; the arrival ends the silence. -/
theorem test_read_attention :
    let a := exec (.readAttention 7 []) State.reset
    replyOf a = some [0, 0x04, 0x03] ∧ (after a).lif.attention.set = 2 := by decide +kernel

/-- 1.5, step 5: WRITE_TABLE in STARTUP is REFUSED_MODE. -/
theorem test_write_table_in_startup :
    replyOf (exec (.writeTable 7 [0, 0]) State.reset) = some [3] := by decide +kernel
theorem test_write_table :
    replyOf (exec (.writeTable 7 [7, 3, 0, 0xFF, 1])
      { awake .setup with written := some {} }) = some [0] := by decide +kernel

/-- R197: OK carries the record as it would be written; the general defaults of 11.3. -/
theorem test_read_table :
    replyOf (exec (.readTable 7 [0, 0]) (awake .standby)) =
      some [0, 0, 0, 0, 30, 0, 50, 1, 0x2C, 40, 1, 0x2C, 0x0B, 0xB8] := by decide +kernel
theorem test_set_mode_setup :
    (after (exec (.setMode 7 [2]) (awake .standby))).mode = .setup := by decide +kernel
theorem test_set_mode_no_target : replyOf (exec (.setMode 7 [1]) (awake .standby)) = some [4] := by
  decide +kernel
theorem test_restart : (after (exec (.restart 7 []) (awake .run))).mctl.restart = .waiting := by decide +kernel
theorem test_store_config : replyOf (exec (.storeConfig 7 []) (awake .run)) = some [1] := by decide +kernel
theorem test_store_config_in_setup : replyOf (exec (.storeConfig 7 []) (awake .setup)) = some [3] := by
  decide +kernel

/-- 2.6: OFF lines read INVALID (2), no flag is set, and the first summary has number 1. -/
theorem test_read_lines :
    replyOf (exec (.readLines 7 []) (awake .run)) =
      some [0, 0xAA, 0xAA, 0xAA, 0xAA, 0xAA, 0xAA, 0xAA, 0xAA, 0, 0, 0, 0, 0, 1] := by decide +kernel

/-- R40: before the first READ_LINES the detail snapshot is empty, number 0. -/
theorem test_read_line_detail :
    replyOf (exec (.readLineDetail 7 [0, 1]) (awake .run)) = some [0, 0, 0] := by decide +kernel
theorem test_read_line_detail_beyond :
    replyOf (exec (.readLineDetail 7 [31, 2]) (awake .run)) = some [4] := by decide +kernel

/-- 3.15, step 1. -/
theorem test_feed_value :
    let t := after (exec (.feedValue 7 [4, 3, 0x34])
      (channel 4 { source := .host, feedTimeout := 300 } {} (awake .run)))
    (t.channel 4).fed = some 820 ∧ (t.channel 4).feedTimer = .running 0 := by decide +kernel
theorem test_read_gauges :
    (replyOf (exec (.readGauges 7 []) (awake .run))).map (·.length) = some 117 := by decide +kernel

/-- 4.12, steps 2 and 4. -/
theorem test_sweep_while_homing :
    replyOf (exec (.sweep 7 [0x3F]) (awake .run)) = some [2] := by decide +kernel
theorem test_sweep :
    (after (exec (.sweep 7 [0x01]) ((awake .run).modNeedle 0 fun n =>
      { n with st := .tracking, pos := some 0 }))).needle 0 = { st := .sweepUp, pos := some 0 } := by
  decide +kernel
theorem test_read_rules :
    replyOf (exec (.readRules 7 [0, 1]) (awake .run)) =
      some [0, 0, 0, 0, 0, 0, 0, 0, 0, 0, 0, 0xFC] := by decide +kernel
theorem test_read_presentation :
    (replyOf (exec (.readPresentation 7 []) (awake .run))).map (·.length) = some 54 := by decide +kernel

/-- 5.11, step 10: ACKNOWLEDGE of a LATCHED_NEW rule with latch UNTIL_ACK. -/
theorem test_acknowledge :
    let t := after (exec (.acknowledge 7 [12])
      (rule 12 { enabled := true, latch := .untilAck } { st := .latchedNew, seq := some 7 }
        (awake .run)))
    (t.rule 12).st = .off ∧ (t.rule 12).seq = none := by decide +kernel
theorem test_acknowledge_top_of_nothing :
    replyOf (exec (.acknowledge 7 [0xFF]) (awake .run)) = some [6] := by decide +kernel

/-- 7.5: with no door set configured every state byte is UNKNOWN. -/
theorem test_read_doors :
    replyOf (exec (.readDoors 7 []) (awake .run)) =
      some [0, 0, 7, 0, 0, 0, 0, 7, 0, 0, 0, 0, 7, 0, 0, 0, 0, 7, 0, 0, 0, 0, 1, 0, 0] := by decide +kernel

def parked : LineCfg × LineRec := ({ fn := .switchGnd }, { accepted := some .active })

/-- 7.7, steps 2 and 4: release is DENIED until the parking brake gives STANDING. -/
theorem test_release_denied :
    replyOf (exec (.releaseDoors 7 [1]) (door 0 { configured := true } {} (awake .run))) =
      some [6] := by decide +kernel
theorem test_release :
    let t := after (exec (.releaseDoors 7 [1])
      (door 0 { configured := true } { st := .opened }
        (roles { parkingBrake := some 3 } (line 3 parked.1 parked.2 (awake .run)))))
    (t.door 0).output = true ∧ (t.door 0).grant = true := by decide +kernel
theorem test_withdraw :
    (after (exec (.withdrawRelease 7 [1])
      (door 0 { configured := true } { st := .opened, grant := true, output := true }
        (awake .run)))).door 0 = { st := .opened } := by decide +kernel

/-- 9.7, step 1: four of seven entries are read, and the cursor stands at 4. -/
theorem test_read_faults :
    let t := after (exec (.readFaults 7 []) (table [entry (.supply .low) 8 true 3,
      entry (.line 14 .openWire) 6 true 5, entry (.lamp 9 .short) 7 true 4, entry (.rule 12) 9 true 0,
      entry (.gauge 4 .lost) 5 true 1] (awake .workshop)))
    t.wsv.cursor = 4 ∧ (t.lif.tx.map fun r => r.payload.take 5) = some [0, 5, 4, 0, 4] := by decide +kernel
theorem test_set_fault_cursor :
    replyOf (exec (.setFaultCursor 7 [1]) (awake .run)) = some [4] := by decide +kernel
theorem test_read_fault_detail :
    replyOf (exec (.readFaultDetail 7 [3, 0, 6]) (awake .run)) = some [0, 0] := by decide +kernel
theorem test_read_fault_detail_no_code :
    replyOf (exec (.readFaultDetail 7 [3, 0, 5]) (awake .run)) = some [4] := by decide +kernel
theorem test_read_counters :
    (replyOf (exec (.readCounters 7 []) (awake .run))).map (·.length) = some 60 := by decide +kernel

/-- 9.8, step 2: the forced level is presented. -/
theorem test_force_lamp :
    ((after (exec (.forceLamp 7 [6, 3, 0x07, 0xD0]) (awake .workshop))).lamp 6).published =
      .flashFast := by decide +kernel
theorem test_force_lamp_duration :
    replyOf (exec (.forceLamp 7 [6, 3, 0, 150]) (awake .workshop)) = some [4] := by decide +kernel
theorem test_force_needle :
    ((after (exec (.forceNeedle 7 [0, 0x01, 0x00]) ((awake .workshop).modNeedle 0 fun n =>
      { n with st := .tracking, pos := some 0 }))).needle 0).st = .forced := by decide +kernel

/-- R77, R181: a needle SUSPENDED while it homed takes FORCED as its resume state. -/
theorem test_force_suspended_needle :
    let s := ((awake .workshop).modMctl fun c => { c with supply := .crank }).modNeedle 0 fun n =>
      { n with st := .suspended, resume := some .homingDriving, count := 40 }
    (after (exec (.forceNeedle 7 [0, 0x01, 0x00]) s)).needle 0 =
      { st := .suspended, resume := some .forced } := by decide +kernel
theorem test_force_chime :
    (after (exec (.forceChime 7 [2, 0x03, 0xE8]) (awake .workshop))).pattern = some .repeatSlow := by
  decide +kernel
theorem test_end_forcing :
    replyOf (exec (.endForcing 7 [0x60]) ((awake .workshop).modWsv fun w =>
      { w with chime := some ⟨.single, 100, .running 0⟩ })) = some [0, 1] := by decide +kernel

/-- 9.7, step 2: B is removed below the cursor, F above it. -/
theorem test_clear_faults :
    let t := after (exec (.clearFaults 7 [0, 1]) ((table [entry (.supply .low) 8 true 3,
      entry (.line 14 .openWire) 6 true 5, entry (.line 5 .openWire) 6 true 6]
      (awake .workshop)).modWsv fun w => { w with cursor := 2 }))
    t.wsv.cursor = 1 ∧ t.fmy.clear = some [5, 6] := by decide +kernel
theorem test_reset_counter :
    replyOf (exec (.resetCounter 7 [8]) ((awake .workshop).bump overridePlace)) =
      some [0, 0, 0, 0, 1] := by decide +kernel
theorem test_reset_counter_refused :
    replyOf (exec (.resetCounter 7 [9]) (awake .workshop)) = some [4] := by decide +kernel
theorem test_read_raw_line :
    (replyOf (exec (.readRawLine 7 [31]) (awake .workshop))).map (·.length) = some 22 := by decide +kernel
theorem test_no_effect_kind : replyOf (exec (.noEffectKind 0x6F 7 [9]) State.reset) = some [0] := by
  decide +kernel
theorem test_unknown_kind : replyOf (exec (.unknownKind 0x40 7 []) (awake .run)) = some [5] := by decide +kernel
theorem test_unknown_workshop_kind :
    replyOf (exec (.unknownKind 0x7F 7 []) (awake .run)) = some [3] := by decide +kernel

/-! ### Sense lines -/

/-- 2.7, step 3: the third FAULT_OPEN sample is accepted, and the status is PENDING. -/
theorem test_line_sample :
    let t := after (exec (.lineSample 5 25344) (line 5 s05
      { candidate := some .faultOpen, count := 2, accepted := some .inactive,
        usable := some (14080, 5500) } (at25600 (awake .run))))
    (t.line 5).accepted = some .faultOpen ∧ (t.line 5).status = .pending ∧
      (t.line 5).usable = some (14080, 5500) := by decide +kernel

/-- 2.7, step 5: one sample of another class restarts the count and accepts nothing. -/
theorem test_line_sample_restarts :
    let t := after (exec (.lineSample 5 14080) (line 5 s05
      { candidate := some .faultOpen, count := 3, accepted := some .faultOpen } (at25600 (awake .run))))
    (t.line 5).candidate = some .inactive ∧ (t.line 5).count = 1 ∧
      (t.line 5).accepted = some .faultOpen := by decide +kernel

/-- 2.7, step 4. -/
theorem test_qualify :
    let t := after (exec (.qualifyTimerExpiry 5) (line 5 s05
      { accepted := some .faultOpen, status := .pending, timer := .running 12000, symptom := .nothing }
      (awake .run)))
    t.now = 212000 ∧ (t.line 5).status = .confirmed ∧
      t.fmy.table.map (·.code) = [.line 5 .openWire] := by decide +kernel

/-- 2.7, step 9. -/
theorem test_heal :
    let t := after (exec (.healTimerExpiry 5) (line 5 s05
      { accepted := some .inactive, status := .healing, timer := .running 408000,
        symptom := .sym .openWire } (awake .run)))
    t.now = 1408000 ∧ (t.line 5).status = .clear ∧ (t.line 5).symptom = .nothing := by decide +kernel

/-- 3.13, step 2: an edge 80 µs after the last is a glitch. -/
theorem test_glitch :
    let t := after (exec (.pulseEdge 1 20000 80)
      { line 1 { fn := .pulse, w1 := 4000, w2 := 6000 } { comparator := .low }
          (channel 0 { source := .pulse, input := 0, pMin := 200 } {} (at25600 (awake .run))) with
        now := 7230
        gve := { (channel 0 {} {} (awake .run)).gve with
          units := .replicate 2
            { base := .running 0, tRef := some 1000, tLast := some 7230, edges := 1 } } })
    (t.unit 0).glitches = 1 ∧ (t.unit 0).edges = 1 ∧ t.now = 7310 := by decide +kernel

/-! ### Gauges and needles -/

/-- 3.13, step 4. -/
theorem test_channel_sample :
    let s := channel 0
      { source := .pulse, input := 0, emax := 1200, k := 2250000, pMin := 200, standstill := 1000,
        shift := 2, snap := true, speedRole := true }
      { st := .valid, pLast := some 6200, f256 := 90000, f := some 352, start := some 0 } (awake .run)
    let t := after (exec (.channelSample 0)
      ({ s with now := 15000 }.modUnit 0 fun _ =>
        { base := .running 0, tRef := some 1000, tLast := some 13460, edges := 2, glitches := 1 }))
    (t.channel 0).e = some 361 ∧ (t.channel 0).f256 = 90604 ∧ (t.channel 0).f = some 354 ∧
      (t.unit 0).glitches = 0 := by decide +kernel

/-- R42, R213: the SPEED bit of channels without a source counts for nothing. -/
theorem test_unused_speed_role :
    ({ channels := .replicate 6 { speedRole := true } } : Tables).crossOk = true ∧
      ({ awake .run with tables := { channels := .replicate 6 { speedRole := true } } }).speedChannel =
        none := by decide +kernel

/-- 3.15, steps 5 and 6. -/
theorem test_feed_stale :
    let t := after (exec (.feedTimeout 4) (channel 4 { source := .host, feedTimeout := 300 }
      { st := .valid, e := some 815, feedTimer := .running 200000 } (awake .run)))
    t.now = 500000 ∧ (t.channel 4).st = .stale := by decide +kernel
theorem test_feed_lost :
    let t := after (exec (.feedTimeout 4) (channel 4 { source := .host, feedTimeout := 300 }
      { st := .stale, e := some 815, feedTimer := .running 500000, expiries := 1, lostMark := false }
      (awake .run)))
    (t.channel 4).st = .lost ∧ t.fmy.table.map (·.code) = [.gauge 4 .lost] := by decide +kernel

/-- R72: the homing drive ends at position 0. -/
theorem test_motion :
    (after (exec (.motionInterval 0) ((awake .run).modNeedle 0 fun n =>
      { n with st := .homingDriving, count := 2, dir := .down }))).needle 0 =
      { st := .tracking, pos := some 0 } := by decide +kernel

/-! ### Rules, telltales and chime -/

/-- 5.11, step 3: the 200th pass of the onset activates W12, with sequence 7. -/
theorem test_pass :
    let t := after (exec .evaluationPass
      ((rule 12 { enabled := true, slot0 := some (.supply 1), onset := 20, latch := .untilAck,
                  record := true }
          { st := .pending, cond := true, onset := 199, mark := false }
            (awake .run)).modWev fun w => { w with seq := 6 }))
    (t.rule 12).st = .activeNew ∧ (t.rule 12).seq = some 7 ∧
      t.fmy.table.map (·.code) = [.rule 12] := by decide +kernel

theorem test_lamp_check_end :
    (after (exec .lampCheckEnd ((awake .run).modPru fun p => { p with lampCheck := .running 0 }))).now =
      3000000 := by decide +kernel

def shorted : Lamp := { published := .on, trips := 2, shortStatus := .good }

/-- 6.7, step 3: the third overcurrent confirms the short. -/
theorem test_overcurrent :
    let t := after (exec (.lampOvercurrent 9) (lamp 9 { suppressed := false } shorted (awake .run)))
    (t.lamp 9).shortStatus = .confirmed ∧ (t.lamp 9).trips = 3 := by decide +kernel

/-- 6.7, step 5: with the short confirmed the retry comes after 10 s. -/
theorem test_retry :
    (after (exec (.lampRetryExpiry 9) (lamp 9 {}
      { shorted with shortStatus := .confirmed, retry := .running 2000000 } (awake .run)))).now =
      12000000 := by decide +kernel

/-- 6.7, step 6. -/
theorem test_success :
    let t := after (exec (.lampSuccessTimerExpiry 9) (lamp 9 {}
      { shorted with shortStatus := .confirmed, success := .running 12000000 } (awake .run)))
    t.now = 12050000 ∧ (t.lamp 9).trips = 0 ∧ (t.lamp 9).shortStatus = .good := by decide +kernel

/-- R125: the 100th low millisecond of an unsettled lamp confirms the open. -/
theorem test_tick :
    let t := after (exec (.lampDiagnosticTick 9 true)
      (lamp 9 { suppressed := false } { published := .on, openCount := -99 } (awake .run)))
    (t.lamp 9).openStatus = .confirmed ∧ (t.lamp 9).openCount = 0 := by decide +kernel

/-- 6.6, step 3: the winner's SINGLE mark is set after 400 ms. -/
theorem test_single_tone :
    let t := after (exec .singleToneComplete
      ((rule 3 { chime := some .single, priority := 13 } { st := .activeNew, seq := some 8 }
        (awake .run)).modPru fun p =>
          { p with winner := some 3, tone := true, patternStart := 3900000 }))
    t.now = 4300000 ∧ t.pru.singleMarks[3] = true ∧ t.pru.winner = none := by decide +kernel

/-- R122: the phase wraps after 999. -/
theorem test_flash_phase :
    (after (exec .flashPhaseAdvance ((awake .run).modPru fun p => { p with phase := 999 }))).pru.phase =
      0 := by decide +kernel

/-- 6.6, step 1: the tone of REPEAT_SLOW ends 400 ms after its start. -/
theorem test_tone_edge :
    let t := after (exec .chimeToneEdge ((awake .workshop).modPru (fun p =>
      { p with tone := true, patternStart := 3000000 }) |>.modWsv fun w =>
      { w with chime := some ⟨.repeatSlow, 10000, .running 3000000⟩ }))
    t.now = 3400000 ∧ t.pru.tone = false := by decide +kernel

/-! ### Doors -/

def d2 : DoorCfg := { configured := true, closed := some 5, emergency := some 9, openEnd := some 7 }

def healthy (s : State) : State :=
  line 5 s05 { accepted := some .inactive } (line 9 s05 { accepted := some .inactive }
    (line 7 s05 { accepted := some .inactive } s))

/-- R138: without an OPEN_END in time the door counts as OPEN, and the missing end stop is marked. -/
theorem test_open_timer :
    let t := after (exec (.openTimerExpiry 1) (door 1 d2
      { st := .opening, openTimer := .running 0, marks := [] } (healthy (awake .run))))
    t.now = 5000000 ∧ (t.door 1).st = .opened ∧ (t.door 1).marks = [.openEndMissing] := by decide +kernel

/-- R139. -/
theorem test_close_timer :
    let t := after (exec (.closeTimerExpiry 1) (door 1 d2
      { st := .closing, closeTimer := .running 0, marks := [] } (healthy (awake .run))))
    t.now = 8000000 ∧ (t.door 1).closeTimeout = true := by decide +kernel

/-- 7.6: the lock had not engaged within 2 000 ms. -/
theorem test_lock_timer :
    let t := after (exec (.lockTimerExpiry 1) (line 5 s05 { accepted := some .active }
      (line 6 s05 { accepted := some .inactive } (door 1 { d2 with locked := some 6 }
        { st := .closed, lockTimer := .running 0, marks := [] } (healthy (awake .run))))))
    (t.door 1).notLocked = true ∧ t.fmy.table.map (·.code) = [.door 1 .notLocked] := by decide +kernel

/-- R135. -/
theorem test_inconsistency :
    ((after (exec (.inconsistencyTimerExpiry 1) (line 5 s05 { accepted := some .active }
      (line 7 s05 { accepted := some .active } (door 1 d2
        { st := .closed, inconTimer := .running 0 } (awake .run)))))).door 1).st = .unknown := by decide +kernel

/-- 7.6, step 11. -/
theorem test_release_delay :
    let t := after (exec .releaseDelayExpiry ((awake .run).modDmn fun m =>
      { m with interlock := .delay, delay := .running 19400000 }))
    t.now = 19900000 ∧ t.ilk = false := by decide +kernel

/-! ### Fault memory -/

/-- 8.11, step 1, in small: of two INACTIVE candidates of equal priority and aging the earlier goes. -/
theorem test_candidate :
    (candidateFrom [entry (.gauge 4 .lost) 5 false 2, entry .hostSilent 4 false 17,
      entry (.line 3 .openWire) 6 false 40, entry (.rule 22) 4 false 25] 0).map (·.1) = some 1 := by
  decide +kernel

/-- 8.12, step 1: the write of slot 11 starts with the entry. -/
theorem test_write_start :
    (after (exec .writeStart ((table [entry (.rule 30) 4 true 11] (awake .run)).modFmy fun m =>
      { m with writes := [11] }))).fmy.write = .slot 11 (.entry (entry (.rule 30) 4 true 11)) false := by
  decide +kernel

/-- 8.12, step 4: a slot marked for re-append goes to the end of the list. -/
theorem test_slot_write :
    let t := after (exec .slotWriteComplete ((awake .run).modFmy fun m =>
      { m with write := .slot 11 .empty false, writeTimer := .running 0, reappend := true,
               writes := [12] }))
    t.now = 4000 ∧ t.fmy.writes = [12, 11] := by decide +kernel

/-- R174: the first save after both copies were bad goes into copy A with number 1. -/
theorem test_counter_save :
    (after (exec .counterSaveComplete ((awake .run).modFmy fun m =>
      { m with write := .counters (.replicate 12 5), writeTimer := .running 0 }))).nv.copyA =
      .good (.replicate 12 5) 1 := by decide +kernel
theorem test_config_store :
    (after (exec .configStoreComplete ((awake .run).modFmy fun m =>
      { m with write := .image [1], writeTimer := .running 0 }))).now = 120000 := by decide +kernel

/-- 9.8, step 6. -/
theorem test_lamp_forcing_ends :
    let t := after (exec (.lampForcingExpiry 6) ((awake .workshop).modWsv fun w =>
      { w with lamps := w.lamps.set 6 (some ⟨.flashFast, 2000, .running 6000000⟩) }))
    t.now = 8000000 ∧ t.wsv.records = 0 := by decide +kernel
theorem test_chime_forcing_ends :
    (after (exec .chimeForcingExpiry ((awake .workshop).modWsv fun w =>
      { w with chime := some ⟨.single, 100, .running 0⟩ }))).wsv.chime = none := by decide +kernel


/-! ### Witnesses: for each statement with hypotheses, states and operands that meet them together -/

/-- A part awake in a mode with a frame waiting at the head of the queue. -/
def asks (kind tag : Byte) (p : List Byte) (m : Mode) : State := sent ⟨kind, tag, p⟩ (awake m)

theorem ready_of {f : Frame} {s : State}
    (h : s.heldInReset = false ∧ s.lif.queue.head? = some f ∧ s.lif.tx = none) : Ready f s :=
  ⟨h.1, h.2.1, h.2.2⟩

theorem ready_asks (kind tag : Byte) (p : List Byte) (m : Mode) :
    Ready ⟨kind, tag, p⟩ (asks kind tag p m) := ⟨rfl, rfl, rfl⟩

theorem witness_StepRunsFrontCommand :
    ({ State.reset with pending := [.evaluationPass, .startupEnd] } : State).pending =
      .evaluationPass :: [.startupEnd] := rfl

theorem witness_EveryStepAnswersNext : State.reset.pending = [] := rfl

/-- A part held by either pin, one that runs, a latched break, and a restart that is ready, that is not, and
that an item keeps waiting. -/
theorem witness_ResetsLeaveTheResetState :
    let s : State := { State.reset with pins := { nrstLow := true } }
    let t : State := { State.reset with pins := { brownOut := true } }
    let broken := (awake .run).modLif fun l => { l with breakLatched := true }
    let ready := (awake .run).modMctl fun c => { c with restart := .ready }
    ((s.heldInReset = true ∧ s.pins.nrstLow = true ∧ s.pins.brownOut = false) ∧
      (t.heldInReset = true ∧ t.pins.brownOut = true ∧ t.pins.nrstLow = false)) ∧
    (∀ a, Instr.evaluationPass ≠ .holdLineChange a) ∧
    ((awake .run).pins.brownOut = false ∧ (awake .run).pins.nrstLow = false) ∧
    (broken.heldInReset = false ∧ broken.lif.breakLatched = true) ∧
    (awake .run).lif.breakLatched = false ∧
    (ready.heldInReset = false ∧ ready.mctl.restart = .ready ∧ ready.lif.tx = none ∧
      ready.fmy.write = .idle ∧ ready.fmy.writes = [] ∧ ready.fmy.storeRequested = false ∧
      ready.fmy.counterDue = false) ∧
    ((awake .run).mctl.restart ≠ .ready ∧ (ready.modFmy fun m => { m with writes := [3] }).fmy.writes ≠ []) :=
  ⟨by decide, fun _ h => (by cases h), by decide, by decide, by decide, by decide, by decide⟩

/-- The load, with two good copies whose save numbers are neighbours across the wrap, with two that are
apart, and with none; an entry in range with a snapshot at the ends of its ranges, and one beyond them. -/
theorem witness_StartupLoadTakesTheStore :
    let e (x : Snapshot) := { entry (.rule 3) 15 true 47 with occurrences := 255, aging := 99, snapshot := some x }
    let x : Snapshot :=
      { supply := .low, vb := 65535, mode := .run, speed := some (-32768), values := [(0, 32767), (5, -32768)],
        doors := .replicate 4 .unknown, ilk := true }
    ((e x).inRange = true ∧ (e { x with vb := 65536 }).inRange = false) ∧ State.reset.fmy.write = .idle ∧
    (State.reset.heldInReset = false ∧ State.reset.mode = .startup ∧ State.reset.fmy.loading = true) ∧
      chooseCopy State.reset.nv.copyA State.reset.nv.copyB = none ∧
      (0 : BitVec 32) = 0xFFFFFFFF + 1 ∧
      ((7 : BitVec 32) ≠ 3 + 1 ∧ (3 : BitVec 32) ≠ 7 + 1 ∧ (3 : BitVec 32) < 7) ∧
      (chooseCopy (.good (.replicate 12 1) 0) (.good (.replicate 12 2) 0xFFFFFFFF)).isSome = true := by
  decide

/-- A failed and a passed image, with entries that the end of STARTUP settles, a needle that homes at the
entry to RUN and a PARKED one that does not. -/
theorem witness_StartupEndsByImageAndIgnition :
    let s := (table [entry .imageBad 10 true 3, entry .override 12 true 4] (awake .startup)).modNeedle 0
      fun n => { n with st := .parked }
    let p := s.modMctl fun c => { c with loaded := some {} }
    (s.heldInReset = false ∧ s.mode = .startup ∧ s.fmy.loading = false ∧ s.mctl.ign ≠ .unknown) ∧
    ((∀ m, (s.rule m).st = .off) ∧ (∀ n, (s.line n).accepted = none) ∧
      (s.fmy.table.map (·.code)).Nodup) ∧
    (p.heldInReset = false ∧ p.mode = .startup ∧ p.fmy.loading = false ∧
      (after (exec .startupEnd p)).mode = .run ∧ (p.needle 5).st = .homingWaiting ∧
      (p.needle 0).st ≠ .homingWaiting ∧ (p.channelCfg 0).homing = false) ∧
    (after (exec .startupEnd s)).mode = .unconfigured ∧
    ((after (exec .startupEnd p)).fmy.table.map (·.active) = [false, false] ∧
      (after (exec .startupEnd s)).fmy.table.map (·.active) = [true, false]) := by
  decide +kernel

theorem witness_SupplyFollowsItsTable :
    (State.reset.heldInReset = false ∧ State.reset.mode ≠ .sleep ∧ State.reset.mctl.vb = none) ∧
    ((awake .run).heldInReset = false ∧ (awake .run).mode ≠ .sleep ∧
      (awake .run).mctl.vb = some 24000) ∧ (awake .sleep).mode = .sleep ∧
    ((after (exec (.vbMeasurement 14999 true) State.reset)).supply ≠ State.reset.supply ∧
      (after (exec (.vbMeasurement 15000 true) State.reset)).supply = State.reset.supply ∧
      (after (exec (.vbMeasurement 14999 true) (awake .run))).supply ≠ (awake .run).supply ∧
      (after (exec (.vbMeasurement 17500 true) (awake .run))).supply = (awake .run).supply) := by
  decide +kernel

theorem witness_SupplyReportsAndMinutesFallDue :
    let s := (awake .run).modMctl fun c =>
      { c with lowReport := .running 0, highReport := .running 5, minute := .running 7 }
    s.heldInReset = false ∧ s.mctl.lowReport = .running 0 ∧ s.mctl.highReport = .running 5 ∧
      s.mctl.minute = .running 7 := by decide

theorem witness_AcceptedIgnitionMovesTheMode :
    let s := (awake .standby).modMctl fun c =>
      { c with ign := .inactive, ignTimer := some (true, .running 2000) }
    let t := (awake .workshop).modMctl fun c => { c with ignTimer := some (false, .running 2000) }
    (s.heldInReset = false ∧ s.mode ≠ .sleep ∧ s.mctl.ignTimer = some (true, .running 2000)) ∧
      (t.heldInReset = false ∧ t.mode.isRunning = true ∧
        t.mctl.ignTimer = some (false, .running 2000)) ∧
      (s.mode = .standby ∧ (s.needle 5).st = .homingWaiting ∧
        (let u := s.modNeedle 5 fun n => { n with st := .parked }
         (u.needle 5).st ≠ .homingWaiting ∧ (u.channelCfg 5).homing = false)) ∧
      (let a := (table [{ entry (.gauge 0 .lost) 5 false 3 with aging := 39 }] t)
       a.tables.general.agingLimit = 40 ∧ (a.fmy.table.map (·.slot)).Nodup ∧
         ∀ e ∈ a.fmy.table, e.active = false ∧ 40 ≤ e.aging + 1) := by decide

theorem accepts_of {s : State} {n : Fin 32} {mv : Nat} {k : LineClass} (vb : Nat)
    (h : (s.lineCfg n).fn.classified = true ∧ s.mctl.vb = some vb ∧ 0 < vb ∧
      k = (s.lineCfg n).classAt (if (s.lineCfg n).fn = .analogVolt then min mv 40000
        else min ((min mv 40000 * 10000 + vb / 2) / vb) 10000) ∧
      (s.lineCfg n).debounce ≤ s.countWith n k ∧ (s.line n).accepted ≠ some k) : s.AcceptsClass n mv k :=
  ⟨⟨h.1, vb, h.2.1, h.2.2.1, h.2.2.2.1⟩, h.2.2.2.2.1, h.2.2.2.2.2⟩

/-- A sleeping part whose watched line 0, the CLOSED line of D1, is INACTIVE. -/
def watching (count : Nat) : State :=
  door 0 { configured := true, closed := some 0 } { st := .closed } (line 0 s05
    { accepted := some .inactive, candidate := some .active, count := count } (at25600 (awake .sleep)))

/-- SLEEP entry; a wake by IGN and by the third sample of a watched line that reads ACTIVE (5 120 mV); no
wake without watched lines and by the second such sample. -/
theorem witness_SleepIsEnteredAndLeft :
    (let s := (awake .standby).modMctl fun c => { c with sleepPending := true }
     s.heldInReset = false ∧ s.mctl.sleepPending = true ∧ s.mode = .standby ∧ s.lif.tx = none ∧
       s.lif.queue = [] ∧ s.supply = .normal) ∧
      ((awake .sleep).heldInReset = false ∧ (awake .sleep).mode = .sleep ∧
        (awake .sleep).tables.doorLines = []) ∧
      ((watching 2).heldInReset = false ∧ (watching 2).mode = .sleep ∧
        0 ∈ (watching 2).tables.doorLines ∧ (watching 2).logical 0 ≠ logicalOf (some .active) ∧
        (watching 2).AcceptsClass 0 5120 .active) ∧
      ((watching 1).mode = .sleep ∧ (watching 1).tables.doorLines = [0] ∧
        (watching 1).ReadsClass 0 5120 .active ∧
        (watching 1).countWith 0 .active < ((watching 1).lineCfg 0).debounce) :=
  ⟨by decide +kernel, by decide +kernel, ⟨by decide +kernel, by decide +kernel, by decide +kernel,
    by decide +kernel, accepts_of 25600 (by decide +kernel)⟩, by decide +kernel, by decide +kernel,
    ⟨by decide +kernel, 25600, by decide +kernel, by decide +kernel, by decide +kernel⟩,
    by decide +kernel⟩

theorem witness_ReceptionStarts :
    let s := (awake .run).modLif fun l => { l with breakLatched := true }
    (s.heldInReset = false ∧ s.lif.breakLatched = true) ∧
      ((awake .run).heldInReset = false ∧ (awake .run).lif.breakLatched = false ∧
        (awake .run).mode ≠ .sleep) ∧ (awake .sleep).mode = .sleep := by decide

theorem witness_ReceiverFollowsItsTable :
    let s := (awake .run).modLif fun l => { l with rx := .payload 48 0x01 7 (.replicate 47 0) }
    let t := (awake .run).modLif fun l => { l with waitIdle := true }
    let u := (awake .run).modLif fun l => { l with breakLatched := true }
    (s.heldInReset = false ∧ s.mode ≠ .sleep ∧ s.takesBytes = true) ∧
      (∀ f high, s.lif.rx ≠ .checkLow f high) ∧ u.lif.breakLatched = true ∧
      (t.heldInReset = false ∧ t.mode ≠ .sleep ∧ t.lif.breakLatched = false ∧ t.lif.waitIdle = true) ∧
      ((awake .sleep).heldInReset = false ∧ (awake .sleep).mode = .sleep ∧
        (awake .sleep).lif.breakLatched = false) :=
  ⟨by decide, fun _ _ h => (by cases h), by decide, by decide, by decide⟩

/-- A PING with a check that is right, and the same with a check that is wrong. -/
theorem witness_FrameArrivesAfterItsCheck :
    let f : Frame := ⟨0x01, 7, []⟩
    let high := f.check.extractLsb' 8 8
    let low := f.check.extractLsb' 0 8
    let s := (awake .run).modLif fun l => { l with rx := .checkLow f high }
    (s.heldInReset = false ∧ s.mode ≠ .sleep ∧ s.takesBytes = true ∧ s.lif.rx = .checkLow f high) ∧
      high ++ low = f.check ∧ high ++ (low + 1) ≠ f.check := by decide +kernel

theorem witness_FrameSurvivesTheLink :
    let f : Frame := ⟨0x01, 7, .replicate 48 0x5A⟩
    let s := awake .run
    s.heldInReset = false ∧ s.mode ≠ .sleep ∧ s.takesBytes = true ∧ s.lif.rx = .hunt ∧
      s.mctl.restart = .idle ∧ s.lif.queue.length < 2 ∧ f.kind.toNat < 0x80 ∧
      f.payload.length ≤ 48 := by decide

theorem witness_FramesAreAbandonedAndAnswered :
    let f : Frame := ⟨0x01, 7, []⟩
    let s := (awake .run).modLif fun l =>
      { l with gap := .running 5, lowTimer := .running 9, tx := some ⟨0x81, 7, [0]⟩, queue := [f] }
    s.heldInReset = false ∧ s.lif.gap = .running 5 ∧ s.lif.tx = some ⟨0x81, 7, [0]⟩ ∧
      s.lif.queue = [f] ∧ s.lif.lowTimer = .running 9 := by decide

theorem witness_HostSilenceBegins :
    let s := (awake .workshop).modLif fun l => { l with silence := false, silenceTimer := .running 3 }
    s.heldInReset = false ∧ s.lif.silenceTimer = .running 3 ∧ s.mode = .workshop := by decide

theorem witness_HoldFollowsItsTable :
    let s := { awake .run with pins := { holdAsserted := true } }.modLif fun l =>
      { l with hold := true, holdTimer := .running 3 }
    ((awake .run).heldInReset = false ∧ (awake .run).pins.holdAsserted = !true ∧
      (awake .run).mode ≠ .startup ∧ (awake .run).mode ≠ .sleep) ∧
      (s.heldInReset = false ∧ s.pins.holdAsserted = !false ∧ s.lif.hold = true ∧
        s.lif.holdTimer = .running 3 ∧ s.mode.isRunning = true ∧ s.supply ≠ .crank) := by decide

/-- A pass in RUN, and a PING in SETUP. -/
theorem witness_HoldFreezesWhatIsPublished :
    let s := (awake .run).modLif fun l => { l with hold := true }
    let t := after (exec .evaluationPass s)
    let u := (asks 0x01 7 [] .setup).modLif fun l => { l with hold := true }
    let v := after (exec (.ping 7 []) u)
    (s.mode ≠ .setup ∧ s.lif.hold = true ∧ exec .evaluationPass s = .next t ∧ t.lif.hold = true ∧
      s.mode.isRunning = true ∧ t.mode.isRunning = true) ∧
    (u.mode = .setup ∧ (∀ tag p, Instr.ping 7 [] ≠ .setMode tag p) ∧ u.lif.hold = true ∧
      exec (.ping 7 []) u = .next v ∧ v.lif.hold = true) :=
  ⟨⟨by decide, rfl, rfl, by decide +kernel, rfl, by decide +kernel⟩,
    ⟨rfl, fun _ _ h => (by cases h), rfl, rfl, by decide +kernel⟩⟩

/-- A free line in RUN with the queue empty and with a frame in it, and in SLEEP, and a line in use. -/
theorem witness_RequestsComeInOverTheLink :
    let f : Frame := ⟨0x01, 7, []⟩
    let busy := (awake .run).modLif fun l => { l with rx := .length }
    let next (s : State) := State.frameArrives f { s with lif := { s.lif with lowTimer := .stopped } }
    Ready f (next (awake .run)) ∧ ¬ Ready f (next (asks 0x02 7 [] .run)) ∧
    requestFrame (.ping 7 []) = some f ∧
      ((awake .run).heldInReset = false ∧ (awake .run).lineFree = true ∧ (awake .run).mode ≠ .sleep ∧
        (awake .run).lif.queue = [] ∧ (awake .run).lif.tx = none ∧
        (awake .run).mctl.restart = .idle) ∧
      ¬ Ready f (awake .run) ∧ (busy.heldInReset = false ∧ busy.lineFree = false) ∧ ¬ Ready f busy ∧
      ((awake .sleep).heldInReset = false ∧ (awake .sleep).lineFree = true ∧
        (awake .sleep).mode = .sleep) ∧ ¬ Ready f (awake .sleep) :=
  ⟨ready_of (by decide +kernel), fun h => absurd h.head (by decide +kernel), rfl, by decide,
    fun h => absurd h.head (by decide), by decide, fun h => absurd h.head (by decide),
    by decide, fun h => absurd h.head (by decide)⟩

/-- Kinds at the ends of the ranges: 0x60, 0x6F, 0x70 outside WORKSHOP, 0x77 in WORKSHOP, 0x00 and 0x5F
(no request), 0x04 in STARTUP; a PING of 48 bytes; a readout in SETUP. -/
theorem witness_ServedFramesAreHandledByKind :
    (requestFrame (.noEffectKind 0x60 7 []) = some ⟨0x60, 7, []⟩ ∧
      Ready ⟨0x60, 7, []⟩ (asks 0x60 7 [] .startup)) ∧
    (requestFrame (.noEffectKind 0x6F 7 []) = some ⟨0x6F, 7, []⟩ ∧
      Ready ⟨0x6F, 7, []⟩ (asks 0x6F 7 [] .run)) ∧
    (requestFrame (.forceLamp 7 []) = some ⟨0x70, 7, []⟩ ∧
      Ready ⟨0x70, 7, []⟩ (asks 0x70 7 [] .run) ∧ (asks 0x70 7 [] .run).mode ≠ .workshop) ∧
    (requestFrame (.unknownKind 0x77 7 []) = some ⟨0x77, 7, []⟩ ∧
      Ready ⟨0x77, 7, []⟩ (asks 0x77 7 [] .workshop) ∧ (0x77 : Byte).toNat ∉ assignedKinds) ∧
    (requestFrame (.unknownKind 0x00 7 []) = some ⟨0x00, 7, []⟩ ∧
      Ready ⟨0x00, 7, []⟩ (asks 0x00 7 [] .startup) ∧ (0x00 : Byte).toNat ∉ assignedKinds) ∧
    (requestFrame (.unknownKind 0x5F 7 []) = some ⟨0x5F, 7, []⟩ ∧ (0x5F : Byte).toNat ∉ assignedKinds) ∧
    (requestFrame (.setMode 7 [2]) = some ⟨0x04, 7, [2]⟩ ∧
      Ready ⟨0x04, 7, [2]⟩ (asks 0x04 7 [2] .startup) ∧ (0x04 : Byte).toNat ∈ assignedKinds ∧
      (asks 0x04 7 [2] .startup).mode = .startup) ∧
    (Ready ⟨0x01, 7, .replicate 48 0⟩ (asks 0x01 7 (.replicate 48 0) .startup) ∧
      (0x01 : Byte).toNat ∈ assignedKinds ∧ lengthAllowed 0x01 48 = false) ∧
    (Ready ⟨0x20, 7, []⟩ (asks 0x20 7 [] .setup) ∧ lengthAllowed 0x20 0 = true ∧
      (asks 0x20 7 [] .setup).mode = .setup) := by
  refine ⟨⟨rfl, ready_asks ..⟩, ⟨rfl, ready_asks ..⟩, ⟨rfl, ready_asks .., by decide⟩,
    ⟨rfl, ready_asks .., by decide⟩, ⟨rfl, ready_asks .., by decide⟩, ⟨rfl, by decide⟩,
    ⟨rfl, ready_asks .., by decide, rfl⟩, ⟨ready_asks .., by decide, by decide⟩,
    ⟨ready_asks .., by decide, rfl⟩⟩

/-- The spans of READ_LINE_DETAIL and READ_RULES at their ends: the last that fits and the first that
does not. -/
theorem witness_ReadingsChangeNothing :
    Ready ⟨0x01, 7, .replicate 47 0⟩ (asks 0x01 7 (.replicate 47 0) .startup) ∧
    Ready ⟨0x02, 7, []⟩ (asks 0x02 7 [] .startup) ∧
    (Ready ⟨0x09, 7, [8, 3]⟩ (asks 0x09 7 [8, 3] .setup) ∧ namesRecord 8 3 = true ∧
      namesRecord 8 4 = false ∧ (asks 0x09 7 [8, 3] .setup).mode ≠ .startup) ∧
    (Ready ⟨0x11, 7, [24, 8]⟩ (asks 0x11 7 [24, 8] .run) ∧ (asks 0x11 7 [24, 8] .run).mode ≠ .startup) ∧
    Ready ⟨0x11, 7, [25, 8]⟩ (asks 0x11 7 [25, 8] .run) ∧
    Ready ⟨0x15, 7, []⟩ (asks 0x15 7 [] .run) ∧ Ready ⟨0x18, 7, [56, 8]⟩ (asks 0x18 7 [56, 8] .run) ∧
    Ready ⟨0x18, 7, [0, 9]⟩ (asks 0x18 7 [0, 9] .run) ∧ Ready ⟨0x19, 7, []⟩ (asks 0x19 7 [] .run) ∧
    Ready ⟨0x1C, 7, []⟩ (asks 0x1C 7 [] .run) ∧ Ready ⟨0x23, 7, []⟩ (asks 0x23 7 [] .run) ∧
    (Ready ⟨0x76, 7, [BitVec.ofNat 8 31]⟩ (asks 0x76 7 [BitVec.ofNat 8 31] .workshop) ∧
      (asks 0x76 7 [BitVec.ofNat 8 31] .workshop).mode = .workshop) ∧
    (Ready ⟨0x76, 7, [32]⟩ (asks 0x76 7 [32] .workshop) ∧
      (asks 0x76 7 [32] .workshop).mode = .workshop ∧ 32 ≤ (32 : Byte).toNat) := by
  refine ⟨ready_asks .., ready_asks .., ⟨ready_asks .., by decide, by decide, by decide⟩,
    ⟨ready_asks .., by decide⟩, ready_asks .., ready_asks .., ready_asks .., ready_asks ..,
    ready_asks .., ready_asks .., ready_asks .., ⟨ready_asks .., by decide⟩, ⟨ready_asks .., rfl, by decide⟩⟩

/-- The last spans of lines and rules with their last items, no snapshot and one, and a list entry. -/
theorem witness_RepliesHaveTheirLengths :
    let h : Hlm := { detail := some (7, .replicate 32 {}) }
    let s := (awake .run).modPru fun p => { p with shown := [⟨63, 15, 2, true⟩] }
    (56 + 8 ≤ 64 ∧ 7 < 8 ∧ (63 : Fin 64).val = 56 + 7) ∧ State.reset.hlm.detail = none ∧
      (h.detail = some (7, .replicate 32 {}) ∧ 24 + 8 ≤ 32 ∧ (31 : Fin 32).val = 24 + 7) ∧
      s.pru.shown[0]? = some ⟨63, 15, 2, true⟩ ∧
    (let m := (table [entry .override 12 true 47] s).fmy
     (∀ e ∈ m.table, e.code ≠ .imageBad) ∧ m.table[0]? = some (entry .override 12 true 47) ∧
      ∀ (j : Nat) (x : FaultEntry), m.table[j]? = some x → x.code = .override → 0 ≤ j) :=
  ⟨by decide, by decide, by decide, by decide, by decide, by decide, fun _ _ _ _ => Nat.zero_le _⟩

theorem witness_ReadLinesTakesASnapshot :
    Ready ⟨0x10, 7, []⟩ (asks 0x10 7 [] .run) ∧ (asks 0x10 7 [] .run).mode ≠ .startup :=
  ⟨ready_asks .., by decide⟩

theorem witness_ReadAttentionClearsTheCauses :
    Ready ⟨0x03, 7, []⟩ (asks 0x03 7 [] .startup) := ready_asks ..

/-- WORKSHOP asked for while STANDING and while not, SLEEP in STANDBY, each target in a mode that refuses
it, and the first value above the targets. -/
theorem witness_SetModeFollowsItsTable :
    let w := roles { parkingBrake := some 3 } (line 3 parked.1 parked.2 (asks 0x04 7 [5] .run))
    (Ready ⟨0x04, 7, [5]⟩ w ∧ w.mode = .run ∧ w.standing = true) ∧
    (Ready ⟨0x04, 7, [5]⟩ (asks 0x04 7 [5] .run) ∧ (asks 0x04 7 [5] .run).standing = false) ∧
    (Ready ⟨0x04, 7, [6]⟩ (asks 0x04 7 [6] .standby) ∧ (asks 0x04 7 [6] .standby).mode = .standby) ∧
    (Ready ⟨0x04, 7, [2]⟩ (asks 0x04 7 [2] .run) ∧ (asks 0x04 7 [2] .run).mode ≠ .startup) ∧
    Ready ⟨0x04, 7, [3]⟩ (asks 0x04 7 [3] .unconfigured) ∧
    Ready ⟨0x04, 7, [4]⟩ (asks 0x04 7 [4] .standby) ∧ Ready ⟨0x04, 7, [5]⟩ (asks 0x04 7 [5] .setup) ∧
    Ready ⟨0x04, 7, [6]⟩ (asks 0x04 7 [6] .workshop) ∧ Ready ⟨0x04, 7, [0]⟩ (asks 0x04 7 [0] .run) ∧
    Ready ⟨0x04, 7, [7]⟩ (asks 0x04 7 [7] .run) ∧
    (Ready ⟨0x04, 7, [4]⟩ (asks 0x04 7 [4] .workshop) ∧
      (asks 0x04 7 [4] .workshop).mode = .workshop) := by
  refine ⟨⟨ready_of (by decide), by decide, by decide⟩, ⟨ready_asks .., by decide⟩,
    ⟨ready_asks .., rfl⟩, ⟨ready_asks .., by decide⟩, ready_asks .., ready_asks .., ready_asks ..,
    ready_asks .., ready_asks .., ready_asks .., ⟨ready_asks .., rfl⟩⟩

theorem witness_SetupIsEntered :
    Ready ⟨0x04, 7, [2]⟩ (asks 0x04 7 [2] .unconfigured) ∧
      (asks 0x04 7 [2] .unconfigured).mode = .unconfigured :=
  ⟨ready_asks .., rfl⟩

/-- Written tables that pass the cross-table checks, and tables with two SPEED channels, which do not; and one
set of tables for each finding of R214. -/
theorem witness_SetupIsLeft :
    let s (w : Tables) : State := { asks 0x04 7 [3] .setup with written := some w }
    let two : Tables :=
      { channels := .replicate 6 { source := .host, feedTimeout := 300, speedRole := true } }
    (Ready ⟨0x04, 7, [3]⟩ (s {}) ∧ (s {}).mode = .setup ∧ (s {}).written = some {} ∧
      ({} : Tables).crossOk = true) ∧
    (Ready ⟨0x04, 7, [3]⟩ (s two) ∧ (s two).mode = .setup ∧ (s two).written = some two ∧
      two.crossOk = false) ∧
    let dials (w : Tables) : Tables := { w with dials := .replicate 6 [(0, 0)] }
    let pulses (n : Nat) : Vector LineCfg 32 := .ofFn fun i =>
      if i.val < n then { fn := .pulse, unitC1 := false } else {}
    let set5 : DoorCfg := { configured := true, closed := some 5, emergency := some 6 }
    let capture (i : Nat) : ChannelCfg := { source := .pulse, input := i }
    let findings : List Tables := [
      { doors := .replicate 4 set5 },
      { roles := { kneel := some 0 }, lines := pulses 1 },
      { rules := .replicate 64 { slot0 := some (.line 0 .active) }, lines := pulses 1 },
      dials { channels := .replicate 6 { source := .host, speedRole := true } },
      dials { channels := (Vector.replicate 6 {}).set 0 { source := .line, input := 0 } },
      { lines := pulses 2 },
      { channels := (Vector.replicate 6 {}).set 0 { source := .host } }]
    (∀ w ∈ findings, w.crossOk = false) ∧
      (dials { doors := (Vector.replicate 4 {}).set 0 set5, lines := pulses 1, roles := { kneel := some 1 },
               channels := (Vector.replicate 6 {}).set 0 (capture 0) |>.set 1 (capture 1) }).crossOk =
        true := by
  refine ⟨⟨⟨rfl, rfl, rfl⟩, rfl, rfl, by decide +kernel⟩,
    ⟨⟨rfl, rfl, rfl⟩, rfl, rfl, by decide +kernel⟩, by decide +kernel, by decide +kernel⟩

theorem witness_RestartAndConfigurationRequests :
    let s : State := { asks 0x08 7 [7, 3, 0, 0xFF, 1] .setup with written := some {} }
    (Ready ⟨0x05, 7, []⟩ (asks 0x05 7 [] .run) ∧ (asks 0x05 7 [] .run).mode ≠ .startup) ∧
    (Ready ⟨0x0A, 7, []⟩ (asks 0x0A 7 [] .run) ∧ (asks 0x0A 7 [] .run).mode ≠ .startup) ∧
    (Ready ⟨0x08, 7, [7, 3, 0, 0xFF, 1]⟩ s ∧ s.mode = .setup ∧ s.written = some {} ∧
      lengthAllowed 0x08 5 = true) ∧
    (Ready ⟨0x08, 7, [7, 3, 0, 0xFF, 1]⟩ (asks 0x08 7 [7, 3, 0, 0xFF, 1] .run) ∧
      (asks 0x08 7 [7, 3, 0, 0xFF, 1] .run).mode ≠ .setup) := by
  refine ⟨⟨ready_asks .., by decide⟩, ⟨ready_asks .., by decide⟩,
    ⟨⟨rfl, rfl, rfl⟩, rfl, rfl, by decide⟩, ⟨ready_asks .., by decide⟩⟩

/-- A lamp record, and another record that is named; and of each table a record that passes its field checks
at the ends of its ranges and one just beyond them. -/
theorem witness_WrittenRecordReadsBack :
    (∃ w, ({} : Tables).write 7 23 [0, 0xFF, 1] = some w) ∧ namesRecord 0 0 = true ∧
      (0, 0) ≠ (7, 23) ∧
    let ok (a : Nat) (w : Tables) := w.recordOk a 0
    let g (r w : Nat) : Tables := { general := { releaseSpeed := r, withdrawSpeed := w } }
    let l (c : LineCfg) : Tables := { lines := .replicate 32 c }
    let c (c : ChannelCfg) : Tables := { channels := .replicate 6 c, dials := .replicate 6 [(0, 3840)] }
    let r (p : Nat) (x : Sys2Proof.Machine.Term) : Tables := { rules := .replicate 64 { priority := p, slot2 := some x } }
    let d (e : Option (Fin 32)) : Tables :=
      { doors := .replicate 4 { configured := true, closed := some 5, emergency := e, openTimeout := 30000 } }
    (ok 0 (g 200 200) = true ∧ ok 0 (g 200 199) = false) ∧
    (ok 1 (l { s05 with w5 := 10000 }) = true ∧ ok 1 (l { s05 with w2 := 300 }) = false ∧
      ok 1 (l { fn := .pulse, w1 := 0, w2 := 1 }) = true ∧ ok 1 (l { s05 with fn := .off }) = false) ∧
    (ok 2 { roles := { kneel := some 5, override := some 6 } } = true ∧
      ok 2 { roles := { kneel := some 5, override := some 5 } } = false) ∧
    (ok 3 (c { pmax := 3840 }) = true ∧ ok 3 (c { pmax := 3839 }) = false) ∧
    (ok 4 { sensors := .replicate 6 [(-5, 0), (0, 7)] } = true ∧
      ok 4 { sensors := .replicate 6 [(0, 0), (0, 7)] } = false) ∧
    (ok 5 (c { pmax := 3840 }) = true ∧ ok 5 (c { pmax := 3839 }) = false) ∧
    (ok 6 (r 15 (.door 4 .flag 0 3)) = true ∧ ok 6 (r 15 (.door 5 .flag 0 3)) = false) ∧
    (ok 7 { lamps := .replicate 24 { fallback := some 1 } } = true ∧
      ok 7 { lamps := .replicate 24 { fallback := some 0 } } = false) ∧
    (ok 8 (d (some 9)) = true ∧ ok 8 (d (some 5)) = false) := by
  refine ⟨Option.isSome_iff_exists.mp (by decide +kernel), by decide, by decide, by decide +kernel⟩

theorem default_records_stay : ∀ q ∈ recordNames,
    ({} : Tables).setRecord q.1 q.2 (({} : Tables).recordBytes q.1 q.2) = some {} := by
  have g : GeneralCfg.ofBytes ({} : GeneralCfg).toBytes = some {} := by decide
  have l : LineCfg.ofBytes ({} : LineCfg).toBytes = some {} := by decide
  have o : RoleCfg.ofBytes ({} : RoleCfg).toBytes = some {} := by decide
  have c : ChannelCfg.ofBytes ({} : ChannelCfg).toBytes = some {} := by decide +kernel
  have t : ∀ b, curveOfBytes b (curveToBytes []) = some [] := by decide
  have r : RuleCfg.ofBytes ({} : RuleCfg).toBytes = some {} := by decide +kernel
  have a : LampCfg.ofBytes ({} : LampCfg).toBytes = some {} := by decide
  have d : DoorCfg.ofBytes ({} : DoorCfg).toBytes = some {} := by decide
  rintro ⟨k, i⟩ h
  simp only [recordNames, List.mem_flatMap, List.mem_range, List.mem_map, Prod.mk.injEq] at h
  obtain ⟨k, hk, i, hi, rfl, rfl⟩ := h
  interval_cases k <;> simp only [recordCount, Option.getD_some] at hi <;>
    simp [Tables.setRecord, Tables.recordBytes, finOf, hi, g, l, o, c, t, r, a, d]
  all_goals omega

/-- The defaults. -/
theorem witness_StoredImageLoads :
    (∀ q ∈ recordNames, ({} : Tables).setRecord q.1 q.2 (({} : Tables).recordBytes q.1 q.2) = some {} ∧
      ({} : Tables).recordOk q.1 q.2 = true) ∧ ({} : Tables).crossOk = true :=
  have ok : ∀ q ∈ recordNames, ({} : Tables).recordOk q.1 q.2 = true := by decide +kernel
  ⟨fun q h => ⟨default_records_stay q h, ok q h⟩, by decide +kernel⟩

/-- Channel 5 fed as a HOST channel, channel 6 named, which is not there, and a refusal in STARTUP. -/
theorem witness_FeedValueFeedsHostChannels :
    let s := channel 5 { source := .host, feedTimeout := 300 } {} (asks 0x14 7 [5, 0x80, 0] .run)
    let t := asks 0x14 7 [6, 0, 0] .run
    (Ready ⟨0x14, 7, [5, 0x80, 0]⟩ s ∧ s.mode ≠ .startup ∧ (5 : Byte).toNat = (5 : Fin 6).val ∧
      (s.channelCfg 5).source = .host) ∧
    (Ready ⟨0x14, 7, [6, 0, 0]⟩ t ∧ t.mode ≠ .startup ∧ ∀ k : Fin 6, (6 : Byte).toNat ≠ k.val) ∧
    (Ready ⟨0x14, 7, [5, 0, 0]⟩ (asks 0x14 7 [5, 0, 0] .startup) ∧
      (asks 0x14 7 [5, 0, 0] .startup).mode = .startup) := by
  refine ⟨⟨ready_of (by decide), by decide, by decide, by decide⟩,
    ⟨ready_asks .., by decide, by decide⟩, ⟨ready_asks .., rfl⟩⟩

/-- The masks 0, 0x20 and 0x40; a needle that is homing, a sweep in flight, and needles that track. -/
theorem witness_SweepStartsOrIsRefused :
    let go := (asks 0x16 7 [0x20] .run).modNeedle 5 fun n => { n with st := .tracking, pos := some 0 }
    let busy := go.modNdr fun d => { d with sweep := true }
    (Ready ⟨0x16, 7, [0x20]⟩ go ∧ go.mode.isRunning = true ∧ go.ndr.sweep = false ∧
      ∀ k : Fin 6, (0x20 : Byte).getLsbD k.val = true → (go.needle k).effective.isHoming = false) ∧
    (Ready ⟨0x16, 7, [0x20]⟩ busy ∧ busy.mode.isRunning = true ∧ busy.ndr.sweep = true) ∧
    (Ready ⟨0x16, 7, [0x20]⟩ (asks 0x16 7 [0x20] .run) ∧
      ((asks 0x16 7 [0x20] .run).needle 5).effective.isHoming = true) ∧
    Ready ⟨0x16, 7, [0]⟩ (asks 0x16 7 [0] .run) ∧ Ready ⟨0x16, 7, [0x40]⟩ (asks 0x16 7 [0x40] .run) ∧
    (Ready ⟨0x16, 7, [0]⟩ (asks 0x16 7 [0] .standby) ∧
      (asks 0x16 7 [0] .standby).mode.isRunning = false) := by
  refine ⟨⟨ready_of (by decide), by decide, by decide, by decide⟩,
    ⟨ready_of (by decide), by decide, by decide⟩, ⟨ready_asks .., by decide⟩, ready_asks ..,
    ready_asks .., ⟨ready_asks .., by decide⟩⟩

/-- Rule 63 in each state that counts, TOP with and without a list, and the values 64 and 0xFE. -/
theorem witness_AcknowledgeIsTakenOrDenied :
    let s (x : Byte) (l : Latch) (r : RuleState) :=
      rule 63 { enabled := true, popup := true, latch := l } { st := r, seq := some 2 }
        (asks 0x1A 7 [x] .run)
    let top (l : Latch) (r : RuleState) := (s 0xFF l r).modPru fun p =>
      { p with list := [⟨63, 0, 2, false⟩] }
    (Ready ⟨0x1A, 7, [63]⟩ (s 63 .unlatched .activeNew) ∧
      ((s 63 .unlatched .activeNew).rule 63).st = .activeNew) ∧
    (Ready ⟨0x1A, 7, [63]⟩ (s 63 .untilIgnition .latchedNew) ∧
      ((s 63 .untilIgnition .latchedNew).rule 63).st = .latchedNew ∧
      ((s 63 .untilIgnition .latchedNew).ruleCfg 63).latch ≠ .unlatched) ∧
    (Ready ⟨0x1A, 7, [0xFF]⟩ (top .untilAck .activeNew) ∧
      (top .untilAck .activeNew).topRule = some 63 ∧
      ((top .untilAck .activeNew).rule 63).st = .activeNew) ∧
    (Ready ⟨0x1A, 7, [0xFF]⟩ (top .unlatched .activeAck) ∧
      (top .unlatched .activeAck).topRule = some 63 ∧
      ((top .unlatched .activeAck).rule 63).st = .activeAck) ∧
    (Ready ⟨0x1A, 7, [63]⟩ (s 63 .unlatched .latchedNew) ∧
      ((s 63 .unlatched .latchedNew).rule 63).st ≠ .activeNew ∧
      ((s 63 .unlatched .latchedNew).ruleCfg 63).latch = .unlatched) ∧
    (Ready ⟨0x1A, 7, [0xFF]⟩ (asks 0x1A 7 [0xFF] .run) ∧ (asks 0x1A 7 [0xFF] .run).pru.list = []) ∧
    Ready ⟨0x1A, 7, [64]⟩ (asks 0x1A 7 [64] .run) ∧ Ready ⟨0x1A, 7, [0xFE]⟩ (asks 0x1A 7 [0xFE] .run) ∧
    (Ready ⟨0x1A, 7, [63]⟩ (asks 0x1A 7 [63] .startup) ∧
      (asks 0x1A 7 [63] .startup).mode = .startup) := by
  refine ⟨⟨⟨rfl, rfl, rfl⟩, by decide +kernel⟩, ⟨⟨rfl, rfl, rfl⟩, by decide +kernel⟩,
    ⟨⟨rfl, rfl, rfl⟩, by decide +kernel⟩, ⟨⟨rfl, rfl, rfl⟩, by decide +kernel⟩,
    ⟨⟨rfl, rfl, rfl⟩, by decide +kernel⟩, ⟨ready_asks .., rfl⟩, ready_asks .., ready_asks ..,
    ⟨ready_asks .., rfl⟩⟩

/-- Door set D4 released while STANDING, denied while not and in EMERGENCY; the masks 0, 0x10 and one
that names a set that is not configured; D4 withdrawn. -/
theorem witness_ReleaseIsGrantedAndWithdrawn :
    let s (kind : Byte) (st : DoorState) (grant : Bool) :=
      door 3 { configured := true } { st := st, grant := grant, output := grant }
        (roles { parkingBrake := some 3 } (line 3 parked.1 parked.2 (asks kind 7 [8] .run)))
    let loose := door 3 { configured := true } {} (asks 0x1D 7 [8] .run)
    (Ready ⟨0x1D, 7, [8]⟩ (s 0x1D .opened false) ∧ (s 0x1D .opened false).NamesDoorSets 8 ∧
      ((s 0x1D .opened false).mode.isRunning = true ∧ (s 0x1D .opened false).standing = true ∧
        (s 0x1D .opened false).aboveWithdraw = false ∧
        ((s 0x1D .opened false).door 3).grant = false ∧
        ∀ d : Fin 4, (8 : Byte).getLsbD d.val = true →
          ((s 0x1D .opened false).door d).st ≠ .emergency)) ∧
    (Ready ⟨0x1D, 7, [8]⟩ (s 0x1D .emergency false) ∧ (s 0x1D .emergency false).NamesDoorSets 8 ∧
      ((s 0x1D .emergency false).door 3).st = .emergency) ∧
    (Ready ⟨0x1D, 7, [8]⟩ loose ∧ loose.NamesDoorSets 8 ∧ loose.standing = false) ∧
    (¬ (asks 0x1D 7 [0] .run).NamesDoorSets 0 ∧ ¬ (asks 0x1D 7 [0x10] .run).NamesDoorSets 0x10 ∧
      ¬ (asks 0x1D 7 [8] .run).NamesDoorSets 8) ∧
    (Ready ⟨0x1E, 7, [8]⟩ (s 0x1E .opened true) ∧ (s 0x1E .opened true).NamesDoorSets 8 ∧
      ((s 0x1E .opened true).door 3).grant = true ∧ (s 0x1E .opened true).mode ≠ .startup) := by
  refine ⟨⟨⟨rfl, rfl, rfl⟩, ⟨by decide, by decide, by decide +kernel⟩, by decide +kernel⟩,
    ⟨⟨rfl, rfl, rfl⟩, ⟨by decide, by decide, by decide +kernel⟩, by decide +kernel⟩,
    ⟨⟨rfl, rfl, rfl⟩, ⟨by decide, by decide, by decide +kernel⟩, by decide +kernel⟩,
    ⟨fun h => absurd h.1 (by decide), fun h => absurd h.2.1 (by decide),
      fun h => absurd (h.2.2 3 (by decide)) (by decide)⟩,
    ⟨⟨rfl, rfl, rfl⟩, ⟨by decide, by decide, by decide +kernel⟩, by decide +kernel⟩⟩

theorem witness_FaultsAreReadOut :
    let s := (table (.replicate 5 (entry (.supply .low) 8 true 3)) (asks 0x20 7 [] .run)).modWsv
      fun w => { w with cursor := 5 }
    (Ready ⟨0x20, 7, []⟩ s ∧ s.mode.isTimed = true ∧ s.wsv.cursor ≤ s.fmy.table.length) ∧
    (Ready ⟨0x21, 7, [0]⟩ (asks 0x21 7 [0] .standby) ∧ (asks 0x21 7 [0] .standby).mode.isTimed = true) ∧
    (Ready ⟨0x22, 7, [7, 48, 1]⟩ (asks 0x22 7 [7, 48, 1] .workshop) ∧
      (asks 0x22 7 [7, 48, 1] .workshop).mode.isTimed = true) ∧
    (FaultCode.ofWire 7 48 1).isSome = true := by
  refine ⟨⟨⟨rfl, rfl, rfl⟩, rfl, by decide⟩, ⟨ready_asks .., rfl⟩, ⟨ready_asks .., rfl⟩, by decide⟩

/-- The three forcing requests at the ends of their ranges, and just beyond them. -/
theorem witness_ForcingCreatesRecords :
    let s (kind : Byte) (p : List Byte) := asks kind 7 p .workshop
    (Ready ⟨0x70, 7, [23, 3, 0, 100]⟩ (s 0x70 [23, 3, 0, 100]) ∧
      (s 0x70 [23, 3, 0, 100]).mode = .workshop ∧ (23 : Byte).toNat = (23 : Fin 24).val ∧
      (3 : Byte).toNat = Level.flashFast.code ∧ ((0 : Byte) ++ (100 : Byte)).toNat = 100 ∧
      (s 0x70 [23, 3, 0, 100]).lampsFrozen = false ∧
      (s 0x70 [23, 3, 0, 100]).pru.lampCheck.isRunning = false) ∧
    (Ready ⟨0x70, 7, [23, 3, 0x75, 0x94]⟩ (s 0x70 [23, 3, 0x75, 0x94]) ∧
      30000 < ((0x75 : Byte) ++ (0x94 : Byte)).toNat) ∧
    (Ready ⟨0x71, 7, [5, 0x0F, 0]⟩ (s 0x71 [5, 0x0F, 0]) ∧
      (s 0x71 [5, 0x0F, 0]).mode = .workshop ∧ (5 : Byte).toNat = (5 : Fin 6).val ∧
      ((0x0F : Byte) ++ (0 : Byte)).toNat ≤ ((s 0x71 [5, 0x0F, 0]).channelCfg 5).pmax) ∧
    (Ready ⟨0x71, 7, [5, 0x0F, 1]⟩ (s 0x71 [5, 0x0F, 1]) ∧
      ((s 0x71 [5, 0x0F, 1]).channelCfg 5).pmax < ((0x0F : Byte) ++ (1 : Byte)).toNat) ∧
    ((((s 0x70 [0, 0, 0, 100]).modLif fun l => { l with hold := true }).lampsFrozen = true) ∧
      ((s 0x70 [0, 0, 0, 100]).modPru fun p => { p with lampCheck := .running 0 }).pru.lampCheck.isRunning =
        true) ∧
    (Ready ⟨0x72, 7, [4, 0x27, 0x10]⟩ (s 0x72 [4, 0x27, 0x10]) ∧
      (4 : Byte).toNat = patternCode (some .continuous) ∧
      ((0x27 : Byte) ++ (0x10 : Byte)).toNat = 10000) ∧
    Ready ⟨0x72, 7, [5, 0x27, 0x10]⟩ (s 0x72 [5, 0x27, 0x10]) := by
  refine ⟨⟨ready_asks .., by decide +kernel⟩, ⟨ready_asks .., by decide⟩,
    ⟨ready_asks .., by decide +kernel⟩, ⟨ready_asks .., by decide +kernel⟩,
    ⟨by decide +kernel, by decide +kernel⟩, ⟨ready_asks .., by decide⟩, ready_asks ..⟩

theorem witness_ForcingEnds :
    let r : LampForce := ⟨.on, 100, .running 4⟩
    let c : ChimeForce := ⟨.single, 100, .running 4⟩
    let s := (awake .workshop).modWsv fun w =>
      { w with lamps := w.lamps.set 23 (some r), chime := some c }
    (Ready ⟨0x73, 7, [0]⟩ (asks 0x73 7 [0] .workshop) ∧ (asks 0x73 7 [0] .workshop).mode = .workshop) ∧
    (Ready ⟨0x73, 7, [0x37]⟩ (asks 0x73 7 [0x37] .workshop) ∧
      (0x37 : Byte).toNat = 0x20 + (23 : Fin 24).val) ∧
    (Ready ⟨0x73, 7, [0x45]⟩ (asks 0x73 7 [0x45] .workshop) ∧
      (0x45 : Byte).toNat = 0x40 + (5 : Fin 6).val) ∧
    Ready ⟨0x73, 7, [0x60]⟩ (asks 0x73 7 [0x60] .workshop) ∧
    Ready ⟨0x73, 7, [0x38]⟩ (asks 0x73 7 [0x38] .workshop) ∧
    Ready ⟨0x73, 7, [0x46]⟩ (asks 0x73 7 [0x46] .workshop) ∧
    (s.heldInReset = false ∧ s.wsv.lamps[(23 : Fin 24)] = some r ∧ r.timer = .running 4 ∧
      s.wsv.chime = some c ∧ c.timer = .running 4) := by
  refine ⟨⟨ready_asks .., rfl⟩, ⟨ready_asks .., by decide⟩, ⟨ready_asks .., by decide⟩, ready_asks ..,
    ready_asks .., ready_asks .., by decide +kernel⟩

/-- CLEAR_FAULTS of all classes, of none, and during a clear; RESET_COUNTER of 11, 9, 10 and 12. -/
theorem witness_FaultsAndCountersAreCleared :
    let s (p : List Byte) := asks 0x74 7 p .workshop
    let busy := (s [0, 0xFF]).modFmy fun m => { m with clear := some [3] }
    let r (x : Byte) := asks 0x75 7 [x] .workshop
    (Ready ⟨0x74, 7, [0, 0xFF]⟩ (s [0, 0xFF]) ∧ (s [0, 0xFF]).mode = .workshop ∧
      (s [0, 0xFF]).fmy.clear = none) ∧
    (let one := table [entry .override 12 true 4] (s [0, 0xFF])
     Ready ⟨0x74, 7, [0, 0xFF]⟩ one ∧ one.mode = .workshop ∧ one.fmy.clear = none ∧
      (one.fmy.table.map (·.slot)).Nodup) ∧
    Ready ⟨0x74, 7, [0, 0]⟩ (s [0, 0]) ∧ Ready ⟨0x74, 7, [1, 1]⟩ (s [1, 1]) ∧
    (Ready ⟨0x74, 7, [0, 0xFF]⟩ busy ∧ busy.mode = .workshop ∧ busy.fmy.clear.isSome = true) ∧
    (Ready ⟨0x75, 7, [11]⟩ (r 11) ∧ (r 11).mode = .workshop ∧ (11 : Byte).toNat = (11 : Fin 12).val ∧
      (11 : Fin 12) ≠ ignitionPlace ∧ (11 : Fin 12) ≠ minutePlace) ∧
    Ready ⟨0x75, 7, [9]⟩ (r 9) ∧ Ready ⟨0x75, 7, [10]⟩ (r 10) ∧ Ready ⟨0x75, 7, [12]⟩ (r 12) := by
  refine ⟨⟨ready_asks .., rfl, rfl⟩, ⟨⟨rfl, rfl, rfl⟩, rfl, rfl, by decide⟩, ready_asks .., ready_asks ..,
    ⟨⟨rfl, rfl, rfl⟩, rfl, rfl⟩, ⟨ready_asks .., rfl, by decide, by decide, by decide⟩, ready_asks .., ready_asks .., ready_asks ..⟩

/-- A first sample, which is not accepted; one that is, of a fault class by a line in each fault status, with
no consumer; and the samples that are measured only, discarded or not scanned. -/
theorem witness_LineSamplesAreDebounced :
    let at_ (y : FaultStatus) (r : RepSym) := line 31 { s05 with debounce := 1 }
      { accepted := some .inactive, status := y, symptom := r } (at25600 (awake .run))
    (∀ y : Fin 4, let u := at_ ([.clear, .pending, .confirmed, .healing].getD y.val .clear) (.sym .shortGnd)
      let t := after (exec (.lineSample 31 25344) u)
      u.heldInReset = false ∧ (t.line 31).accepted ≠ (u.line 31).accepted ∧
        ∀ r ∈ [Role.ackButton, .releaseButton, .override, .parkingBrake, .kneel],
          u.tables.roles.of r ≠ some 31) ∧
    (let t := after (exec (.lineSample 31 25344) (line 31 s05 {} (at25600 (awake .run))))
     (t.line 31).accepted = ((line 31 s05 {} (at25600 (awake .run))).line 31).accepted) ∧
    let s := line 31 s05 {} (at25600 (awake .run))
    let crank := (awake .run).modMctl fun c => { c with supply := .crank }
    (s.heldInReset = false ∧ s.mode ≠ .startup ∧ s.mode ≠ .sleep ∧ s.supply ≠ .crank ∧
      (s.lineCfg 31).fn.classified = true ∧ s.mctl.vb = some 25600 ∧ 0 < 25600) ∧
    ((awake .startup).heldInReset = false ∧ (awake .startup).mode = .startup ∧
      (awake .startup).supply ≠ .crank) ∧
    (crank.heldInReset = false ∧ crank.supply = .crank) ∧
    ((awake .run).mode ≠ .startup ∧ ((awake .run).lineCfg 31).fn.classified = false) := by
  decide +kernel

theorem witness_LineFaultsAreConfirmedAndHealed :
    let s := line 5 s05 { accepted := some .faultOpen, status := .pending, timer := .running 3 }
      (awake .run)
    let t := line 5 s05 { accepted := some .active, status := .healing, timer := .running 3,
                          symptom := .sym .openWire } (awake .run)
    (s.heldInReset = false ∧ (s.line 5).status = .pending ∧ (s.line 5).timer = .running 3 ∧
      (s.line 5).acceptedSym = some .openWire ∧ (s.line 5).symptom = .any) ∧
    (t.heldInReset = false ∧ (t.line 5).status = .healing ∧ (t.line 5).timer = .running 3) := by
  decide +kernel

theorem changes_of {s : State} {n : Fin 32} {mv : Nat} (k : LineClass) (vb : Nat)
    (h : s.heldInReset = false ∧ (s.mode ≠ .startup ∧ s.mode ≠ .sleep ∧ s.supply ≠ .crank) ∧
      s.logical n ≠ logicalOf (some k))
    (a : (s.lineCfg n).fn.classified = true ∧ s.mctl.vb = some vb ∧ 0 < vb ∧
      k = (s.lineCfg n).classAt (if (s.lineCfg n).fn = .analogVolt then min mv 40000
        else min ((min mv 40000 * 10000 + vb / 2) / vb) 10000) ∧
      (s.lineCfg n).debounce ≤ s.countWith n k ∧ (s.line n).accepted ≠ some k) :
    s.ChangesTo n mv (logicalOf (some k)) :=
  ⟨h.1, h.2.1, ⟨k, accepts_of vb a, rfl⟩, h.2.2⟩

/-- Line 20 with a debounce of one sample and a class accepted. -/
def line20 (c : LineClass) (s : State) : State :=
  line 20 { s05 with debounce := 1 } { accepted := some c } (at25600 s)

/-- D4, whose OPEN_END line is 20, OPENING, OPEN and in CLOSING, as the line turns ACTIVE and INACTIVE. -/
theorem witness_LineChangesReachTheirConsumers :
    let s (c : LineClass) (st : DoorState) :=
      line20 c (door 3 { configured := true, closed := some 5, openEnd := some 20 } { st := st }
        (line 5 s05 { accepted := some .inactive } (awake .run)))
    ((s .inactive .opening).ChangesTo 20 5120 .active ∧ (s .inactive .closing).ChangesTo 20 5120 .active ∧
      (s .active .opened).ChangesTo 20 14080 .inactive ∧ (s .inactive .closed).ChangesTo 20 25344 .invalid) ∧
    (((s .inactive .opening).doorCfg 3).configured = true ∧
      ((s .inactive .opening).doorCfg 3).line .openEnd = some 20) ∧
    (∀ e j, ((s .inactive .opening).doorCfg e).configured = true →
      ((s .inactive .opening).doorCfg e).line j = some 20 → e = 3 ∧ j = .openEnd) ∧
    (s .inactive .opening).RolesAmong 20 [] := by
  refine ⟨⟨changes_of .active 25600 (by decide +kernel) (by decide +kernel),
    changes_of .active 25600 (by decide +kernel) (by decide +kernel),
    changes_of .inactive 25600 (by decide +kernel) (by decide +kernel),
    changes_of .faultOpen 25600 (by decide +kernel) (by decide +kernel)⟩, by decide +kernel, ?_, ?_⟩
  · intro e j
    cases j <;> revert e <;> decide +kernel
  · intro r
    cases r <;> decide +kernel

/-- Line 20 in each of the five roles and in no door set: KNEEL and OVERRIDE in both directions, a press edge
of the RELEASE_BUTTON (a grant to take away, one to give, and one refused), one of the ACK_BUTTON with a list,
and the PARKING_BRAKE released in WORKSHOP above the release speed. -/
theorem witness_LineChangesOfRoles :
    let s (c : LineClass) (r : RoleCfg) (m : Mode) := line20 c (roles r (awake m))
    let button (st : DoorState) (grant : Bool) := line 3 parked.1 parked.2
      (door 3 { configured := true, closed := some 5, inMask := true } { st := st, grant := grant }
        (s .inactive { releaseButton := some 20, parkingBrake := some 3 } .run))
    let ack := (rule 63 { enabled := true, popup := true } { st := .activeNew, seq := some 2 }
      (s .inactive { ackButton := some 20 } .run)).modPru fun p => { p with list := [⟨63, 0, 2, false⟩] }
    let brake := channel 0 { source := .host, speedRole := true } { st := .valid, e := some 90, f := some 90 }
      (s .active { parkingBrake := some 20 } .workshop)
    ((s .inactive { kneel := some 20 } .run).ChangesTo 20 5120 .active ∧
      (s .inactive { kneel := some 20 } .run).NoDoorNames 20 ∧
      (s .inactive { kneel := some 20 } .run).RolesAmong 20 [.kneel]) ∧
    (((s .inactive { override := some 20 } .run).modDmn fun m => { m with interlock := .held }).ChangesTo
        20 5120 .active ∧
      ((s .active { override := some 20 } .run).modDmn fun m =>
        { m with interlock := .overridden }).ChangesTo 20 14080 .inactive ∧
      (s .inactive { override := some 20 } .run).NoDoorNames 20 ∧
      (s .inactive { override := some 20 } .run).RolesAmong 20 [.override]) ∧
    ((button .opened true).ChangesTo 20 5120 .active ∧ (button .opened false).ChangesTo 20 5120 .active ∧
      (button .emergency false).ChangesTo 20 5120 .active ∧ (button .opened false).NoDoorNames 20 ∧
      (button .opened false).RolesAmong 20 [.releaseButton] ∧
      (button .opened false).logical 20 = .inactive ∧ (button .opened false).standing = true ∧
      (button .opened false).aboveWithdraw = false) ∧
    (ack.ChangesTo 20 5120 .active ∧ ack.NoDoorNames 20 ∧ ack.RolesAmong 20 [.ackButton] ∧
      ack.logical 20 = .inactive ∧ ack.topRule = some 63) ∧
    (brake.ChangesTo 20 14080 .inactive ∧ brake.NoDoorNames 20 ∧ brake.RolesAmong 20 [.parkingBrake] ∧
      brake.mode = .workshop ∧ (after (exec (.lineSample 20 14080) brake)).moving = true) := by
  refine ⟨⟨changes_of .active 25600 (by decide +kernel) (by decide +kernel), ?_, ?_⟩,
    ⟨changes_of .active 25600 (by decide +kernel) (by decide +kernel),
      changes_of .inactive 25600 (by decide +kernel) (by decide +kernel), ?_, ?_⟩,
    ⟨changes_of .active 25600 (by decide +kernel) (by decide +kernel),
      changes_of .active 25600 (by decide +kernel) (by decide +kernel),
      changes_of .active 25600 (by decide +kernel) (by decide +kernel), ?_, ?_, by decide +kernel⟩,
    ⟨changes_of .active 25600 (by decide +kernel) (by decide +kernel), ?_, ?_, by decide +kernel⟩,
    ⟨changes_of .inactive 25600 (by decide +kernel) (by decide +kernel), ?_, ?_, by decide +kernel⟩⟩
  all_goals first
    | (intro d k; cases k <;> revert d <;> decide +kernel)
    | (intro r; cases r <;> decide +kernel)

theorem witness_PulseEdgesReachTheCaptureUnit :
    let s := line 31 { fn := .pulse, w1 := 4000, w2 := 6000, unitC1 := true } { comparator := .low }
      (at25600 (awake .run))
    s.heldInReset = false ∧ (s.lineCfg 31).fn = .pulse ∧ (s.line 31).comparator ≠ .stopped ∧
      s.mctl.vb = some 25600 ∧ 0 < 25600 ∧ (s.lineCfg 31).unitC1 = true := by decide +kernel

/-- An unused channel; one of each source, with what each clause asks of it. -/
theorem witness_ChannelSamplesFollowTheirSource :
    let host := channel 5 { source := .host, emax := 100, feedTimeout := 300 }
      { fed := some 150, newFeed := true } (awake .run)
    let curve : Curve := [(0, 0), (10000, 100)]
    let onLine := channel 5 { source := .line, input := 5, emax := 100 } {}
      (line 5 { s05 with fn := .analogRatio } { accepted := some .active, usable := some (14080, 5500) }
        { awake .run with tables := { (awake .run).tables with
          sensors := (awake .run).tables.sensors.set 5 curve } })
    let pulse := (channel 5 { source := .pulse, input := 1, emax := 1200, k := 2250000 } {}
      (awake .run)).modUnit 1 fun _ =>
        { base := .running 0, tRef := some 0xFFFFFFFF, tLast := some 999, edges := 1, glitches := 16 }
    let quiet (c : Channel) (ref : Option (BitVec 32)) :=
      (channel 5 { source := .pulse, input := 1, emax := 1200, k := 2250000, standstill := 1000 } c
        { awake .run with now := 1500000 }).modUnit 1 fun _ =>
          { base := .running 0, tRef := ref, tLast := ref, edges := 0 }
    let fast := channel 5 { source := .host, emax := 100, feedTimeout := 300, speedRole := true }
      { fed := some 90, newFeed := true } (awake .workshop)
    ((∀ c ∈ [quiet { st := .valid, pLast := some 6200 } (some 900000),
        quiet { st := .valid, pLast := some 6200 } (some 500000), quiet {} (some 900000), quiet {} (some 500000),
        quiet { st := .valid } none, quiet { st := .valid } (some 500000)],
      c.heldInReset = false ∧ c.mode = .run ∧ (c.channelCfg 5).source = .pulse ∧
        1 = (c.channelCfg 5).unit ∧ (c.unit 1).edges = 0 ∧
        (c.unit 1).base.elapsed (max c.now c.sched.channels[(5 : Fin 6)]) = 1500000) ∧
      ((1500000 : BitVec 32) - 900000).toNat < 1000 * 1000 ∧
      1000 * 1000 ≤ ((1500000 : BitVec 32) - 500000).toNat) ∧
    (let t := after (exec (.channelSample 5) (channel 5 { source := .host, emax := 100 } { st := .stale } (awake .run)))
     (t.channel 5).st = .stale ∧ t.mode = .run ∧ (0 : Fin 6) ≠ 5) ∧
    ((fast.channelCfg 5).speedRole = true ∧ fast.mode = .workshop ∧
      (after (exec (.channelSample 5) fast)).aboveWithdraw = true ∧
      (after (exec (.channelSample 5) fast)).moving = true) ∧
    ((awake .run).heldInReset = false ∧ (awake .run).mode ≠ .startup ∧ (awake .run).mode ≠ .sleep ∧
      ((awake .run).channelCfg 5).source = .unused) ∧
    (host.heldInReset = false ∧ host.mode = .run ∧ (host.channelCfg 5).source = .host ∧
      (host.channel 5).newFeed = true ∧ (host.channel 5).fed = some 150) ∧
    (onLine.heldInReset = false ∧ onLine.mode = .run ∧ (onLine.channelCfg 5).source = .line ∧
      (onLine.channelCfg 5).input = (5 : Fin 32).val ∧ onLine.logical 5 ≠ .invalid ∧
      (onLine.line 5).usable = some (14080, 5500) ∧
      curveAt onLine.tables.sensors[(5 : Fin 6)] ((onLine.lineCfg 5).compared (14080, 5500)) =
        some 55) ∧
    (pulse.heldInReset = false ∧ pulse.mode = .run ∧ (pulse.channelCfg 5).source = .pulse ∧
      1 = (pulse.channelCfg 5).unit ∧ 1 ≤ (pulse.unit 1).edges ∧
      (pulse.unit 1).tRef = some 0xFFFFFFFF ∧ (pulse.unit 1).tLast = some 999 ∧
      0 < ((999 : BitVec 32) - 0xFFFFFFFF).toNat / (pulse.unit 1).edges) := by decide +kernel

/-- The first and the second expiry, the mode kept and another needle. -/
theorem witness_FeedTimersExpire :
    let s (n : Nat) := channel 5 { source := .host, feedTimeout := 300 }
      { st := .valid, e := some 7, feedTimer := .running 3, expiries := n } (awake .run)
    ((s 0).heldInReset = false ∧ ((s 0).channel 5).feedTimer = .running 3 ∧
      ((s 0).channel 5).expiries = 0) ∧
    (((s 1).channel 5).feedTimer = .running 3 ∧ ((s 1).channel 5).expiries ≠ 0 ∧
      ((s 1).channelCfg 5).holdLast = false) ∧
    ((after (exec (.feedTimeout 5) (s 0))).mode = (s 0).mode ∧ (0 : Fin 6) ≠ 5) := by decide +kernel

/-- The dial table of 4.10, at its middle point, its ends, and between two points; and the two halves of 0.6:
0.5 and -0.5 round away from zero. -/
theorem witness_TablesAreReadBetweenTheirPoints :
    let c : Curve := [(0, 0), (600, 1920), (1200, 3240)]
    increasing c = true ∧ (600, 1920) ∈ c ∧ c.head? = some (0, 0) ∧ c.getLast? = some (1200, 3240) ∧
      c = [(0, 0)] ++ (600, 1920) :: (1200, 3240) :: [] ∧ (600 : Int) ≤ 1200 ∧
      curveAt c 1200 = some 3240 ∧
      [1, 5].map (curveAt [(0, 0), (4, 2), (8, 0)]) = [some 1, some 1] := by decide

/-- A tracking needle one microstep below its target, and homing needles at the last counts. -/
theorem witness_NeedlesStopAtTheirTargets :
    let s (n : Needle) := (awake .run).modNeedle 5 fun _ => n
    let a := s { st := .tracking, pos := some 3839, published := 3840, speed := 1 }
    let b := s { st := .homingDriving, count := 3 }
    let c := s { st := .homingDriving, count := 1 }
    (a.heldInReset = false ∧ a.mode ≠ .startup ∧ a.mode ≠ .sleep ∧ (a.needle 5).st = .tracking ∧
      (a.needle 5).pos = some 3839 ∧ 3839 ≤ (a.channelCfg 5).pmax ∧
      (a.needle 5).published ≤ (a.channelCfg 5).pmax ∧ (a.needle 5).speed ≤ (a.channelCfg 5).smax ∧
      (a.needle 5).dir = .up ∧ 3839 < (a.needle 5).published ∧
      (a.needle 5).speed * ((a.needle 5).speed - 1) / 2 ≤ (a.needle 5).published - 3839) ∧
    (let down := s { st := .tracking, pos := some 1, published := 0, speed := 1, dir := .down }
     (down.needle 5).pos = some 1 ∧ 0 < 1 ∧ (down.needle 5).published = 0 ∧
      (down.needle 5).speed * ((down.needle 5).speed - 1) / 2 ≤ 1 - 0) ∧
    (let up := s { st := .sweepUp, pos := some 3839, speed := 1 }
     let back := (s { st := .sweepReturn, pos := some 3840, published := 10 }).modNdr fun d =>
       { d with sweep := true }
     let park := s { st := .parked, pos := some 7, speed := 24 }
     let hold := (s { st := .forced, pos := some 7 }).modWsv fun w =>
       { w with needles := w.needles.set 5 (some 3840) }
     let rest := s { st := .tracking, pos := some 7, published := 7 }
     (up.needle 5).pos = some 3839 ∧ (back.needle 5).pos = some 3840 ∧ back.ndr.sweep = true ∧
      (park.needle 5).speed ≤ (park.channelCfg 5).smax ∧ hold.wsv.needles[(5 : Fin 6)] = some 3840 ∧
      (rest.needle 5).published = 7) ∧
    (((s { st := .tracking }).needle 5).pos = none ∧
      ((s { st := .suspended, pos := some 7 }).needle 5).st = .suspended) ∧
    ((b.needle 5).st = .homingDriving ∧ 2 < (b.needle 5).count) ∧
    ((c.needle 5).st = .homingDriving ∧ (c.needle 5).count = 1) := by decide +kernel

/-- A value inside and outside the band, door sets with and without a record, a fault of a class, and
qualifiers that hold. -/
theorem witness_TermsAndResultsFollowTheirTables :
    let s := channel 5 { source := .host } { st := .stale, e := some 7, f := some 8 }
      (door 3 { configured := true } {} (table [entry (.gauge 5 .lost) 5 true 3] (awake .run)))
    ((s.channel 5).st = .stale ∧ (s.channel 5).e = some 7 ∧ (s.channel 5).f = some 8 ∧
      (s.channel 0).st ≠ .valid ∧ (s.channel 0).st ≠ .stale) ∧
    ((s.doorCfg 3).configured = true ∧ (s.doorCfg 0).configured = false ∧ 4 = (3 : Fin 4).val + 1) ∧
    ((∃ e ∈ s.fmy.table, e.active = true ∧ e.code.sourceClass = .gauge) ∧
      ∀ e ∈ s.fmy.table, e.active = true → e.code.sourceClass ≠ .line) ∧
    ((some TermResult.yes ≠ some .invalid) ∧ (none : Option TermResult) ≠ some .invalid) := by
  decide +kernel

/-- Rules 62 and 63 enabled, one in PENDING at the end of its onset and one in ACTIVE_ACK before a reminder. -/
theorem witness_PassStepsAnEnabledRule :
    let s := rule 63 { enabled := true, onset := 20 } { st := .pending, onset := 199 }
      (rule 62 { enabled := true, reminder := 1, slot0 := some (.rule 63) }
        { st := .activeAck, reminder := 99 } (awake .run))
    s.heldInReset = false ∧ s.mode.hasPasses = true ∧ (s.ruleCfg 63).enabled = true ∧
      (s.ruleCfg 62).enabled = true ∧ (s.ruleCfg 0).enabled = false := by decide +kernel

theorem witness_LampsAreDiagnosed :
    let s := lamp 23 { suppressed := false } { published := .on, openCount := -99, trips := 2 }
      (awake .run)
    let t := ((awake .run).modLamp 23 fun l =>
      { l with retry := .running 3, success := .running 4 }).modPru fun p =>
        { p with lampCheck := .running 5 }
    (s.heldInReset = false ∧ s.tested 23 = true ∧ s.driverOn 23 = true ∧ s.testable 23 = true) ∧
    ((after (exec (.lampDiagnosticTick 23 true) s)).lamp 23).openStatus ≠ (s.lamp 23).openStatus ∧
    ((after (exec (.lampDiagnosticTick 23 false) s)).lamp 23).openStatus = (s.lamp 23).openStatus ∧
    ((awake .run).tested 23 = false ∧ (awake .run).driverOn 23 = false) ∧
    (t.heldInReset = false ∧ (t.lamp 23).retry = .running 3 ∧ (t.lamp 23).success = .running 4 ∧
      t.pru.lampCheck = .running 5 ∧ t.lampsFrozen = false) := by decide +kernel

theorem witness_FlashAndChimeKeepTheirTime :
    let forced := ((awake .workshop).modPru fun p => { p with tone := true }).modWsv fun w =>
      { w with chime := some ⟨.single, 1000, .running 0⟩ }
    let won := (rule 63 { chime := some .single } { st := .activeNew } (awake .run)).modPru fun p =>
      { p with tone := true, winner := some 63 }
    let slow := (awake .workshop).modWsv fun w => { w with chime := some ⟨.repeatSlow, 1000, .running 0⟩ }
    let fast := (awake .workshop).modWsv fun w => { w with chime := some ⟨.repeatFast, 1000, .running 0⟩ }
    ((awake .run).heldInReset = false ∧ (awake .run).mode ≠ .startup ∧ (awake .run).mode ≠ .sleep) ∧
    (forced.heldInReset = false ∧ forced.pru.tone = true ∧
      forced.wsv.chime = some ⟨.single, 1000, .running 0⟩) ∧
    (won.heldInReset = false ∧ won.pru.tone = true ∧ won.wsv.chime = none ∧
      won.pru.winner = some 63 ∧ (won.ruleCfg 63).chime = some .single) ∧
    slow.pattern = some .repeatSlow ∧ fast.pattern = some .repeatFast := by decide +kernel

/-- Door set D4 at each of its timers. -/
theorem witness_DoorTimersExpire :
    let s (closed openEnd : LineClass) (r : Door) :=
      line 5 s05 { accepted := some closed } (line 7 s05 { accepted := some openEnd }
        (line 9 s05 { accepted := some .inactive } (door 3 { d2 with locked := some 9 } r
          (awake .run))))
    let opening := s .inactive .inactive { st := .opening, openTimer := .running 3 }
    let closing := s .inactive .inactive { st := .closing, closeTimer := .running 3 }
    let shut := s .active .inactive { st := .closed, lockTimer := .running 3 }
    let both := s .active .active { st := .closed, inconTimer := .running 3 }
    let delayed := (awake .run).modDmn fun m => { m with interlock := .delay, delay := .running 3 }
    (opening.heldInReset = false ∧ (opening.door 3).openTimer = .running 3 ∧
      (opening.door 3).st = .opening ∧ opening.doorUntrusted 3 = false ∧
      opening.doorLine 3 .emergency ≠ some .active ∧ opening.doorLine 3 .closed ≠ some .active ∧
      (opening.doorCfg 3).openEnd.isSome = true) ∧
    ((closing.door 3).closeTimer = .running 3 ∧ (closing.door 3).st = .closing ∧
      closing.doorUntrusted 3 = false ∧ closing.doorLine 3 .emergency ≠ some .active ∧
      closing.doorLine 3 .closed ≠ some .active) ∧
    ((shut.door 3).lockTimer = .running 3 ∧ (shut.door 3).st = .closed ∧
      shut.doorUntrusted 3 = false ∧ shut.doorLine 3 .emergency ≠ some .active ∧
      shut.doorLine 3 .closed = some .active ∧ shut.doorLocked 3 = false ∧
      shut.doorLine 3 .openEnd ≠ some .active) ∧
    ((both.door 3).inconTimer = .running 3 ∧ both.doorLine 3 .closed = some .active ∧
      both.doorLine 3 .openEnd = some .active) ∧
    (delayed.heldInReset = false ∧ delayed.dmn.delay = .running 3 ∧ delayed.ilk = true) := by
  decide +kernel

theorem witness_StoreMakesItsWrites :
    let s (f : Fmy → Fmy) := (awake .run).modFmy f
    let ask := s fun m => { m with writes := [47], counterDue := true }
    let slot := s fun m => { m with write := .slot 47 .empty false, writeTimer := .running 3,
                                    clear := some [47], reappend := true }
    let save := (s fun m => { m with write := .counters (.replicate 12 9), writeTimer := .running 3 })
      |>.modMctl fun c => { c with restart := .saving }
    let image := s fun m => { m with write := .image [1], writeTimer := .running 3 }
    ((awake .run).heldInReset = false ∧ (awake .run).fmy.storeRequested = false ∧
      (awake .run).fmy.writes = [] ∧ (awake .run).fmy.counterDue = false) ∧
    (ask.heldInReset = false ∧ ask.fmy.write = .idle ∧ ask.fmy.loading = false ∧
      ask.supply = .normal ∧ ask.fmy.writes ≠ []) ∧
    (slot.fmy.write = .slot 47 .empty false ∧ slot.fmy.writeTimer = .running 3 ∧
      slot.fmy.clear = some [47]) ∧
    (let two := slot.modFmy fun m => { m with clear := some [47, 3] }
     two.fmy.clear = some [47, 3] ∧ ∃ x ∈ [(47 : Fin 48), 3], x ≠ 47) ∧
    (let none' := slot.modFmy fun m => { m with clear := none }
     none'.fmy.write = .slot 47 .empty false ∧ none'.fmy.clear = none) ∧
    (let due := s fun m => { m with counterDue := true }
     due.fmy.storeRequested = false ∧ due.fmy.writes = [] ∧ due.fmy.counterDue = true) ∧
    (save.fmy.write = .counters (.replicate 12 9) ∧ save.fmy.writeTimer = .running 3 ∧
      save.mctl.restart = .saving ∧ save.fmy.writes = [] ∧ save.fmy.storeRequested = false) ∧
    (let wait := save.modFmy fun m => { m with writes := [3] }
     wait.fmy.write = .counters (.replicate 12 9) ∧ wait.fmy.writeTimer = .running 3 ∧
      wait.mctl.restart = .saving ∧ wait.fmy.writes ≠ []) ∧
    (let gone := slot.modFmy fun m => { m with reappend := false }
     let owned := gone.modFmy fun m => { m with table := [entry .override 12 true 47] }
     gone.fmy.reappend = false ∧ (∀ e ∈ gone.fmy.table, e.slot ≠ 47) ∧ ∃ e ∈ owned.fmy.table, e.slot = 47) ∧
    (image.fmy.write = .image [1] ∧ image.fmy.writeTimer = .running 3) := by decide +kernel

/-- A table of 48 entries whose first `k` are INACTIVE. -/
def fullTable (k : Nat) : State :=
  table ((List.finRange 48).map fun n => entry (.slotLost n.castSucc) 5 (decide (k ≤ n.val)) n)
    (awake .run)

/-- An ACTIVE and an INACTIVE entry, a code without one, a full table with two candidates that differ by
position only, and a full table without any. -/
theorem witness_ReportsChangeTheFaultTable :
    let one (a : Bool) := table [entry (.supply .low) 8 a 3] (awake .run)
    let x := entry (.slotLost 0) 5 false 0
    ((one true).fmy.position (.supply .low) = some 0 ∧
      (one true).fmy.table[0]? = some (entry (.supply .low) 8 true 3)) ∧
    ((one false).fmy.position (.supply .low) = some 0 ∧
      (one false).fmy.table[0]? = some (entry (.supply .low) 8 false 3)) ∧
    ((∀ e ∈ (awake .run).fmy.table, e.code ≠ .imageBad) ∧ (awake .run).fmy.table.length < 48) ∧
    ((∀ e ∈ (fullTable 2).fmy.table, e.code ≠ .imageBad) ∧ (fullTable 2).fmy.table.length = 48 ∧
      (fullTable 2).fmy.table[0]? = some x ∧ x.active = false ∧ x.priority ≤ 5) ∧
    (∀ (j : Nat) (y : FaultEntry), (fullTable 2).fmy.table[j]? = some y → y.active = false → j ≠ 0 →
      x.priority < y.priority ∨ (x.priority = y.priority ∧
        (y.aging < x.aging ∨ (y.aging = x.aging ∧ 0 < j)))) ∧
    (∀ e ∈ (fullTable 0).fmy.table, e.active = true ∨ 5 < e.priority) ∧
    (∀ e ∈ (one false).fmy.table, e.code = .supply .low → e.active = false) ∧
    (let back := (one true).modFmy fun m => { m with formers := m.formers.set 9 (some .imageBad) }
     back.fmy.formers[(9 : Fin 48)] = some .imageBad ∧ (∀ x ∈ back.fmy.table, x.slot ≠ 9) ∧
      (∀ j : Fin 48, j ≠ 9 → back.fmy.formers[j] ≠ some .imageBad) ∧
      back.fmy.slotFor .imageBad = 9) ∧
    (let low := table [entry (.supply .low) 8 true 0] (awake .run)
     (∀ n : Fin 48, low.fmy.formers[n] ≠ some .imageBad) ∧ (0 : Fin 48) < 1 ∧
      low.fmy.slotFor .imageBad = 1) := by
  have same : ∀ y ∈ (fullTable 2).fmy.table, y.priority = 5 ∧ y.aging = 0 := by decide +kernel
  refine ⟨by decide, by decide, by decide, by decide +kernel, ?_, by decide +kernel, by decide,
    by decide +kernel, by decide +kernel⟩
  intro j y h _ hj
  have hy := same y (List.mem_of_getElem? h)
  exact .inr ⟨hy.1.symm, .inr ⟨hy.2, Nat.pos_of_ne_zero hj⟩⟩

theorem witness_TablesAndStoreChangeOnlyWhereTheyMay :
    exec .writeStart (awake .run) = .next (awake .run) ∧ Instr.writeStart ≠ .powerOnReset ∧
      Instr.writeStart ≠ .restartTakesEffect ∧ Instr.writeStart ≠ .slotWriteComplete ∧
    let s := (asks 0x75 7 [11] .workshop).modFmy fun m => { m with counters := m.counters.set 11 4294967295 }
    let t := after (exec (.resetCounter 7 [11]) s)
    exec (.resetCounter 7 [11]) s = .next t ∧ Instr.resetCounter 7 [11] ≠ .powerOnReset ∧
      Instr.resetCounter 7 [11] ≠ .brownOut ∧ Instr.resetCounter 7 [11] ≠ .externalReset ∧
      Instr.resetCounter 7 [11] ≠ .breakRelease ∧ Instr.resetCounter 7 [11] ≠ .restartTakesEffect ∧
      Instr.resetCounter 7 [11] ≠ .startupLoadComplete ∧ s.counter 11 ≤ counterMax ∧
      t.counter 11 < s.counter 11 :=
  ⟨rfl, by decide, by decide, by decide, rfl, by decide, by decide, by decide, by decide, by decide, by decide,
    by decide +kernel, by decide +kernel⟩

theorem sound_of {t : Tables} (h : (∀ q ∈ recordNames, t.recordOk q.1 q.2 = true) ∧ t.crossOk = true) :
    t.Sound := by
  refine ⟨fun a i n => h.1 (a, i) ?_, h.2⟩
  unfold namesRecord at n
  unfold recordNames
  split at n
  · next c hc =>
    have : a < 9 := by
      by_contra hx
      obtain ⟨k, rfl⟩ : ∃ k, a = k + 9 := ⟨a - 9, by omega⟩
      cases hc
    simp only [List.mem_flatMap, List.mem_range, List.mem_map, Prod.mk.injEq]
    exact ⟨a, this, i, by simpa [hc] using n, rfl, rfl⟩
  · cases n

/-- A state whose tables are sound, with no image and no written copy. -/
theorem tables_of {s : State}
    (h : ((∀ q ∈ recordNames, s.tables.recordOk q.1 q.2 = true) ∧ s.tables.crossOk = true) ∧
      s.mctl.loaded = none ∧ s.written = none) : TablesLaw s :=
  ⟨sound_of h.1, fun _ e => (by rw [h.2.1] at e; cases e), fun _ e => (by rw [h.2.2] at e; cases e)⟩

/-- D4 released, with its output on, when a command withdraws it. -/
theorem witness_StepKeepsReleaseLaw :
    let s : State := { door 3 { configured := true } { st := .opened, grant := true, output := true }
      (awake .run) with pending := [.withdrawRelease 7 [8]] }
    ReleaseLaw s ∧ (s.door 3).output = true ∧ step s = .next (after (step s)) := by
  exact ⟨⟨by decide +kernel, by decide +kernel⟩, by decide +kernel, rfl⟩

theorem witness_StepKeepsInterlockLaw :
    let s : State := { awake .run with
      pending := [.releaseDelayExpiry], dmn := { interlock := .delay, delay := .running 3 } }
    InterlockLaw s ∧ step s = .next (after (step s)) :=
  ⟨⟨by decide +kernel, by decide +kernel, by decide +kernel, by decide +kernel, by decide +kernel⟩, rfl⟩

/-- A full receive queue with a reply in flight. -/
theorem witness_StepKeepsLinkLaw :
    let s : State := { (awake .run).modLif (fun l =>
      { l with queue := [⟨0x01, 7, []⟩, ⟨0x01, 8, []⟩], tx := some ⟨0x81, 7, [0]⟩, errors := 65535 })
      with pending := [.replySent] }
    LinkLaw s ∧ step s = .next (after (step s)) :=
  ⟨⟨by decide, by decide, by decide⟩, rfl⟩

/-- Entries in slots 3 and 9: slot 3 in the store, slot 9 being written, and slot 4, which no entry owns, on
the list. -/
theorem witness_StepKeepsTablesAndFaultLaws :
    let a := entry (.supply .low) 8 true 3
    let b := { entry .override 12 true 9 with created := 2 }
    let s : State := { (table [a, b] (awake .run)).modFmy (fun m =>
        { m with created := 2, write := .slot 9 (.entry b) false, writeTimer := .running 3, writes := [4] })
      with pending := [.slotWriteComplete],
           nv := { State.reset.nv with slots := (State.reset.nv.slots.set 3 (.entry a)).set 4 .bad } }
    TablesLaw s ∧ FaultLaw s ∧ step s = .next (after (step s)) := by
  intro a b s
  have good : s.fmy.write = .slot 9 (.entry b) false ∧ s.nv.copyA = .bad ∧ s.nv.copyB = .bad := by
    decide +kernel
  have slots : ∀ n : Fin 48, n ≠ 3 → n ≠ 4 → n ≠ 9 → s.nv.slots[n] = .empty := by decide +kernel
  refine ⟨tables_of (by decide +kernel), ⟨by decide, by decide, by decide, by decide, by decide, by decide +kernel,
    by decide, by decide, fun _ n => ?_, fun n c stale h _ => ?_, by decide, by decide +kernel, fun v h => ?_,
    fun h => (by cases h)⟩, rfl⟩
  · by_cases h4 : n = 4
    · exact .inr (.inl (h4 ▸ (by decide : (4 : Fin 48) ∈ s.fmy.writes)))
    by_cases h9 : n = 9
    · exact .inr (.inr (h9 ▸ rfl))
    refine .inl ⟨fun e he hs => ?_, fun none' => ?_⟩
    · rcases List.mem_cons.mp he with rfl | he
      · subst hs
        exact ⟨a, by decide +kernel, rfl⟩
      · obtain rfl := List.mem_singleton.mp he
        exact absurd hs.symm h9
    · exact slots n (fun h => none' a (by decide) h.symm) h4 h9
  · rw [good.1] at h
    cases h
    refine ⟨fun e he hs => ?_, fun none' => absurd rfl (none' b (by decide))⟩
    rcases List.mem_cons.mp he with rfl | he
    · exact absurd hs (by decide)
    · obtain rfl := List.mem_singleton.mp he
      exact ⟨b, rfl, rfl⟩
  · rw [good.1, good.2.1, good.2.2] at h
    rcases h with h | ⟨_, h⟩ | ⟨_, h⟩ <;> cases h

/-- Rule 63, a popup rule in ACTIVE_NEW that names lamp 3 and a chime, as a running part presents it. -/
def presented (c : List Instr) : State :=
  { (rule 63 { enabled := true, popup := true, priority := 9, lamp := some 3, lampNew := .flashFast,
               chime := some .repeatSlow, slot0 := some (.supply 1) }
      { st := .activeNew, cond := true, seq := some 2 }
      ((awake .run).modLamp 3 fun l => { l with published := .flashFast })).modPru (fun p =>
        { p with list := [⟨63, 9, 2, false⟩], shown := [⟨63, 9, 2, false⟩], winner := some 63, tone := true })
    with pending := c }

theorem witness_StepKeepsListLaw :
    let s := presented [.acknowledge 7 [63]]
    ListLaw s ∧ s.pru.list ≠ [] ∧ step s = .next (after (step s)) :=
  ⟨⟨by decide +kernel, by decide +kernel, by decide +kernel, by decide +kernel, by decide +kernel,
    fun _ => rfl, by decide +kernel⟩, by decide +kernel, rfl⟩

/-- The rule presented, and a needle that tracks at the end of its scale. -/
theorem witness_StepKeepsDashLaws :
    let s := presented [.lampCheckEnd]
    let u : State := { (awake .run).modNeedle 5 (fun _ =>
      { st := .tracking, pos := some 3840, speed := 1, latest := 3840, published := 3840 })
      with pending := [.motionInterval 5] }
    (TablesLaw u ∧ NeedleLaw u ∧ step u = .next (after (step u))) ∧
    TelltaleLaw s ∧ ChimeLaw s ∧ (s.lamp 3).published = .flashFast ∧ s.pru.winner = some 63 ∧
      step s = .next (after (step s)) := by
  have lit : ∀ n : Fin 24, n ≠ 3 → ((presented [.lampCheckEnd]).lamp n).published = .off := by decide +kernel
  have calls : ∀ n : Fin 24, n ≠ 3 → ∀ m : Fin 64,
      ((presented [.lampCheckEnd]).ruleCfg m).lamp = some n → False := by decide +kernel
  have free : ∀ n : Fin 24, (presented [.lampCheckEnd]).wsv.lamps[n] = none := by decide +kernel
  have top : ∀ m : Fin 64, ((presented [.lampCheckEnd]).demand m).code ≤ 3 := by decide +kernel
  have back : ∀ i : Fin 24, ((presented [.lampCheckEnd]).lampCfg i).fallback = none := by decide +kernel
  intro s u
  have position : ∀ k : Fin 6, (u.needle k).pos.getD 0 ≤ 3840 := by decide +kernel
  have scale : ∀ k : Fin 6, ((awake .run).channelCfg k).pmax = 3840 := by decide +kernel
  have none' : ∀ k : Fin 6, (awake .run).wsv.needles[k] = none := by decide +kernel
  refine ⟨⟨tables_of (by decide +kernel), ⟨fun k p h => ?_, by decide +kernel, by decide +kernel,
      fun k p h => absurd ((none' k).symm.trans h) (by simp), fun h => absurd h (by decide)⟩, rfl⟩,
    ⟨by decide +kernel, by decide +kernel, by decide +kernel, ?_, ?_⟩,
    ⟨?_, fun h => (by cases h), by decide +kernel⟩, by decide +kernel, rfl, rfl⟩
  · have hp := position k
    rw [h] at hp
    exact hp.trans (scale k).ge
  · intro _ _ _ n r _ h
    rw [free n] at h
    cases h
  · intro _ _ _ n _ _
    by_cases hn : n = 3
    · subst hn
      exact ⟨fun m _ => top m, .inr ⟨63, .inl (by decide +kernel), by decide +kernel⟩⟩
    · refine ⟨fun m hm => ?_, .inl (lit n hn)⟩
      rcases hm with hm | ⟨i, _, hf, _⟩
      · exact (calls n hn m hm).elim
      · rw [back i] at hf
        cases hf
  · intro m hm
    obtain rfl : m = 63 := by
      have : (presented [.lampCheckEnd]).pru.winner = some 63 := rfl
      rw [this] at hm
      exact (Option.some.inj hm).symm
    refine ⟨rfl, by decide +kernel, by decide +kernel, ⟨by decide +kernel, .repeatSlow, by decide +kernel,
      fun h => (by cases h)⟩, fun j hj hc => ?_⟩
    have off : ∀ j : Fin 64, j ≠ 63 → ((presented [.lampCheckEnd]).rule j).st = .off := by decide +kernel
    rcases hc.1 with h | h <;> rw [off j hj] at h <;> cases h

end Sys2Proof.Tests
end

section
/-! PROOFS. FEED_VALUE (R52): what it does with the operand's two bytes, with a HOST channel, and when it
refuses. -/

namespace Sys2Proof.Machine

/-! ### Numbers of an operand (R210) -/

theorem finOf_eq_some_iff {n v : Nat} {k : Fin n} : finOf n v = some k ↔ v = k.val := by
  unfold finOf
  split
  case isTrue h => simp [Fin.ext_iff]
  case isFalse h =>
    have := k.isLt
    simp only [reduceCtorEq, false_iff]
    omega

/-- The signed reading of two bytes, the more significant first, is two's complement of 16 bits. -/
theorem toSigned_bytes (hi lo : Byte) : toSigned (256 * hi.toNat + lo.toNat) = (hi ++ lo).toInt := by
  have value : (hi ++ lo).toNat = 256 * hi.toNat + lo.toNat := by
    rw [BitVec.toNat_append, ← Nat.shiftLeft_add_eq_or_of_lt lo.isLt, Nat.shiftLeft_eq]
    omega
  rw [BitVec.toInt_eq_toNat_cond, value, toSigned]
  split <;> split <;> omega

/-! ### Requests before their fields (R198) -/

/-- In STARTUP a request that is not one of the three early ones is refused whatever its length. -/
theorem served_startup (s : State) (ok : Nat → Bool) (p : List Byte) (k : Service)
    (m : s.mode = .startup) : served false ok p k s = (s, .refusedMode, []) :=
  if_pos ⟨m, Bool.false_ne_true⟩

/-! ### FEED_VALUE -/

theorem exec_feedValue (tag : Byte) (p : List Byte) (s : State) :
    exec (.feedValue tag p) s =
      live (State.request ⟨0x14, tag, p⟩ (served false (ofLength 3) p (feedValueService p))) s := rfl

theorem feedValueService_host {s : State} {a hi lo : Byte} {k : Fin 6} (ha : a.toNat = k.val)
    (hk : (s.channelCfg k).source = .host) :
    feedValueService [a, hi, lo] s =
      (s.modChannel k (Channel.feed (hi ++ lo).toInt s.now), .ok, []) := by
  have index : finOf 6 (rd8 [a, hi, lo] 0) = some k := finOf_eq_some_iff.mpr ha
  have value : rdI16 [a, hi, lo] 1 = (hi ++ lo).toInt := toSigned_bytes hi lo
  simp only [feedValueService, index, value, if_pos hk]

theorem feedValueService_refuses {s : State} {a hi lo : Byte}
    (h : ∀ k : Fin 6, a.toNat = k.val → (s.channelCfg k).source ≠ .host) :
    feedValueService [a, hi, lo] s = (s, .refusedArg, []) := by
  unfold feedValueService
  cases index : finOf 6 (rd8 [a, hi, lo] 0) with
  | none => rfl
  | some k => exact if_neg (h k (finOf_eq_some_iff.mp index))

/-- Settles O30: STARTUP refuses before the fields are read; after it the answer is that of
`feedValueService`, whose one effect is an update of the channel named. -/
theorem feedValueFeedsHostChannels : Obligations.FeedValueFeedsHostChannels := by
  intro s tag a hi lo ready
  have service (m : s.mode ≠ .startup) :
      served false (ofLength 3) [a, hi, lo] (feedValueService [a, hi, lo]) s =
        feedValueService [a, hi, lo] s := served_ok s _ _ _ _ (.inl m) rfl
  refine ⟨fun m => ?startup, fun k m ha hk => ?fed, fun m h => ?refused⟩
  case startup => exact live_request_replying s _ _ _ _ ready (served_startup s _ _ _ m)
  case refused =>
    exact live_request_replying s _ _ _ _ ready ((service m).trans (feedValueService_refuses h))
  case fed =>
    have effect := (service m).trans (feedValueService_host (hi := hi) (lo := lo) ha hk)
    refine ⟨(s.modChannel k (Channel.feed (hi ++ lo).toInt s.now)).replying _ .ok [],
      ?_, State.modChannel_same s k _, fun j hj => State.modChannel_other s k j _ hj.symm, rfl, rfl,
      (s.modChannel_only k _).andThen (State.modLif_only _ _ fun _ => rfl)⟩
    rw [exec_feedValue, live_runs s _ ready.live, s.request_ready _ _ ready, State.serve, effect]
    rfl

end Sys2Proof.Machine
end

section
/-! PROOFS. SWEEP (R74): the mask as a set of needles, the end of a sweep without members (R76), and the
answer of the request check by check. -/

namespace Sys2Proof.Machine

/-! ### Masks (R210) -/

theorem bitOf_toNat (mask : Byte) (i : Nat) : bitOf mask.toNat i = mask.getLsbD i := by
  rw [← BitVec.testBit_toNat, Nat.testBit_eq_decide_div_mod_eq]
  rfl

theorem mem_objectsOf_toNat {n : Nat} (mask : Byte) (k : Fin n) :
    k ∈ objectsOf n mask.toNat ↔ mask.getLsbD k.val = true := by
  simp [objectsOf, bitOf_toNat]

/-! ### The end of a sweep (R75, R76) -/

section
variable (s : State)

theorem State.any_needle_iff (p : Needle → Bool) :
    s.ndr.needles.toList.any p = true ↔ ∃ k, p (s.needle k) = true := by
  simp only [List.any_eq_true, Vector.mem_toList_iff, Vector.mem_iff_getElem]
  constructor
  · rintro ⟨_, ⟨i, hi, rfl⟩, h⟩
    exact ⟨⟨i, hi⟩, h⟩
  · rintro ⟨k, h⟩
    exact ⟨_, ⟨k.val, k.isLt, rfl⟩, h⟩

/-- The two outcomes: a sweep whose last member is gone ends with OPDONE, and any other state stays. -/
theorem State.endSweep_cases :
    (s.ndr.sweep = true ∧ (¬ ∃ k, (s.needle k).effective.isSweeping = true) ∧
      s.endSweep = (s.modNdr fun d => { d with sweep := false }).attend .opdone) ∨
    ((s.ndr.sweep = true → ∃ k, (s.needle k).effective.isSweeping = true) ∧ s.endSweep = s) := by
  have member := s.any_needle_iff (·.effective.isSweeping)
  unfold State.endSweep
  split
  case isTrue h => exact .inl ⟨h.1, mt member.mpr h.2, rfl⟩
  case isFalse h =>
    exact .inr ⟨fun running => member.mp (not_not.mp fun gone => h ⟨running, gone⟩), rfl⟩

@[simp] theorem State.endSweep_needle (k : Fin 6) : s.endSweep.needle k = s.needle k := by
  obtain ⟨_, _, e⟩ | ⟨_, e⟩ := s.endSweep_cases <;> rw [e]
  rfl

theorem State.endSweep_sweep :
    s.endSweep.ndr.sweep = true ↔
      s.ndr.sweep = true ∧ ∃ k, (s.needle k).effective.isSweeping = true := by
  obtain ⟨_, gone, e⟩ | ⟨member, e⟩ := s.endSweep_cases <;> rw [e]
  · exact ⟨fun h => (Bool.false_ne_true h).elim, fun h => (gone h.2).elim⟩
  · exact ⟨fun running => ⟨running, member running⟩, And.left⟩

theorem State.endSweep_attention :
    s.endSweep.lif.attention =
      if s.ndr.sweep = true ∧ s.endSweep.ndr.sweep = false then s.lif.attention.raise .opdone
      else s.lif.attention := by
  obtain ⟨running, _, e⟩ | ⟨_, e⟩ := s.endSweep_cases <;> rw [e]
  · exact (if_pos ⟨running, rfl⟩).symm
  · exact (if_neg fun h => Bool.false_ne_true (h.2.symm.trans h.1)).symm

/-! ### The start of a sweep (R74) -/

theorem State.sweepBlocked_iff (mask : Byte) :
    s.sweepBlocked (objectsOf 6 mask.toNat) = true ↔
      ∃ k : Fin 6, mask.getLsbD k.val = true ∧ (s.needle k).effective.isHoming = true := by
  simp only [State.sweepBlocked, List.any_eq_true, mem_objectsOf_toNat]

theorem State.startSweep_needle (mask : Byte) (k : Fin 6) :
    (s.startSweep (objectsOf 6 mask.toNat)).needle k =
      if mask.getLsbD k.val = true ∧ (s.needle k).effective ≠ .forced
      then (s.needle k).become .sweepUp else s.needle k := by
  rw [State.startSweep, State.endSweep_needle]
  refine (updAll_get _ _ k).trans (if_congr ?_ rfl rfl)
  simp only [Bool.and_eq_true, List.contains_iff_mem, mem_objectsOf_toNat, bne_iff_ne]
  rfl

theorem State.startSweep_sweep (named : List (Fin 6)) :
    (s.startSweep named).ndr.sweep = true ↔
      ∃ k, ((s.startSweep named).needle k).effective.isSweeping = true := by
  simp only [State.startSweep, State.endSweep_needle]
  exact (State.endSweep_sweep _).trans (and_iff_right rfl)

theorem State.startSweep_attention (named : List (Fin 6)) :
    (s.startSweep named).lif.attention =
      if (s.startSweep named).ndr.sweep then s.lif.attention
      else s.lif.attention.raise .opdone := by
  refine (State.endSweep_attention _).trans ?_
  change (if true = true ∧ (s.startSweep named).ndr.sweep = false then _ else _) = _
  cases (s.startSweep named).ndr.sweep <;> rfl

theorem State.startSweep_link (named : List (Fin 6)) :
    (s.startSweep named).lif.link = s.lif.link :=
  s.startSweep_only named .link (by decide)

end

/-! ### SWEEP -/

theorem State.replying_link (s : State) (f : Frame) (x : Status) (items : List Byte) :
    (s.replying f x items).lif.link = { s.lif.link with tx := some (f.reply x items) } := rfl

theorem exec_sweep (tag : Byte) (p : List Byte) (s : State) :
    exec (.sweep tag p) s =
      live (State.request ⟨0x16, tag, p⟩ (served false (ofLength 1) p (sweepService p))) s := rfl

theorem sweepService_notRunning {s : State} (p : List Byte) (m : s.mode.isRunning = false) :
    sweepService p s = (s, .refusedMode, []) :=
  if_pos (by simp [m])

section
variable {s : State} {mask : Byte} (m : s.mode.isRunning = true)
include m

theorem sweepService_badMask (bad : mask = 0 ∨ 64 ≤ mask.toNat) :
    sweepService [mask] s = (s, .refusedArg, []) := by
  have number : rd8 [mask] 0 = 0 ∨ 64 ≤ rd8 [mask] 0 := bad.imp_left (congrArg BitVec.toNat)
  simp only [sweepService, m, not_true, if_false, if_pos number]

/-- With a mask in range the answer turns on a sweep in flight and a named needle that is homing. -/
theorem sweepService_goodMask (named : mask ≠ 0) (range : mask.toNat < 64) :
    sweepService [mask] s =
      if s.ndr.sweep = true ∨
          ∃ k : Fin 6, mask.getLsbD k.val = true ∧ (s.needle k).effective.isHoming = true
      then (s, .busy, []) else (s.startSweep (objectsOf 6 mask.toNat), .accepted, []) := by
  have number : ¬ (rd8 [mask] 0 = 0 ∨ 64 ≤ rd8 [mask] 0) :=
    not_or.mpr ⟨fun zero => named (BitVec.eq_of_toNat_eq zero), range.not_ge⟩
  have value : rd8 [mask] 0 = mask.toNat := rfl
  simp only [sweepService, m, not_true, if_false, if_neg number]
  simp only [value, s.sweepBlocked_iff, ite_or]

end

/-- Settles O31: the three refusals are the checks of `sweepService` in their order, and what passes them
is `State.startSweep` with the reply. -/
theorem sweepStartsOrIsRefused : Obligations.SweepStartsOrIsRefused := by
  intro s tag mask ready
  have service (m : s.mode.isRunning = true) :
      served false (ofLength 1) [mask] (sweepService [mask]) s = sweepService [mask] s :=
    served_ok s _ _ _ _ (.inl fun startup => by rw [startup] at m; cases m) rfl
  refine ⟨fun m => ?mode, fun m bad => ?mask, fun m named range busy => ?busy,
    fun m named range idle settled => ?starts⟩
  case mode =>
    refine live_request_replying s _ _ _ _ ready ?_
    by_cases startup : s.mode = .startup
    · exact served_startup s _ _ _ startup
    · exact (served_ok s _ _ _ _ (.inl startup) rfl).trans (sweepService_notRunning _ m)
  case mask =>
    exact live_request_replying s _ _ _ _ ready ((service m).trans (sweepService_badMask m bad))
  case busy =>
    exact live_request_replying s _ _ _ _ ready
      ((service m).trans ((sweepService_goodMask m named range).trans (if_pos busy)))
  case starts =>
    have free : ¬ (s.ndr.sweep = true ∨
        ∃ k : Fin 6, mask.getLsbD k.val = true ∧ (s.needle k).effective.isHoming = true) := by
      rintro (sweep | ⟨k, hk, homing⟩)
      · exact Bool.false_ne_true (idle.symm.trans sweep)
      · exact Bool.false_ne_true ((settled k hk).symm.trans homing)
    have effect := (service m).trans ((sweepService_goodMask m named range).trans (if_neg free))
    refine ⟨(s.startSweep (objectsOf 6 mask.toNat)).replying ⟨0x16, tag, [mask]⟩ .accepted [], ?_,
      s.startSweep_needle mask, s.startSweep_sweep _, s.startSweep_attention _, ?_,
      (s.startSweep_only _).andThen (State.modLif_only _ _ fun _ => rfl)⟩
    · rw [exec_sweep, live_runs s _ ready.live, s.request_ready _ _ ready, State.serve, effect]
      rfl
    · rw [State.replying_link, s.startSweep_link]

end Sys2Proof.Machine
end

section
/-! PROOFS. ACKNOWLEDGE (R104, R118): what a rule's change of state does to its record, to the presentation
list and to attention, which acknowledgements are taken, and the answer to each selector. -/

namespace Sys2Proof.Machine

/-- R107: a rule's record once a return to OFF has been settled. -/
def RuleRec.settled (r : RuleRec) : RuleRec := if r.st = .off then { r with mark := false } else r

/-- R104: the record that an acknowledgement which is taken leaves, by the latch of the rule. -/
def RuleRec.acknowledged (l : Latch) (r : RuleRec) : RuleRec :=
  match r.st, l with
  | .activeNew, _ => { r with st := .activeAck, reminder := 0 }
  | _, .untilIgnition => { r with st := .latchedAck }
  | _, _ => { r.toOff with mark := false }

/-! ### Updates of one record of WEV -/

theorem updAt_eq_self {α : Type} {n : Nat} (v : Vector α n) (i : Fin n) (f : α → α)
    (h : f v[i] = v[i]) : updAt v i f = v :=
  (congrArg (v.set i ·) h).trans (Vector.set_getElem_self ..)

theorem updAt_congr {α : Type} {n : Nat} (v : Vector α n) (i : Fin n) (f g : α → α)
    (h : f v[i] = g v[i]) : updAt v i f = updAt v i g := by simp only [updAt, h]

theorem updAt_updAt {α : Type} {n : Nat} (v : Vector α n) (i : Fin n) (f g : α → α) :
    updAt (updAt v i f) i g = updAt v i fun a => g (f a) := by simp [updAt]

section
variable (s : State) (m : Fin 64)

theorem State.modRule_congr {f g : RuleRec → RuleRec} (h : f (s.rule m) = g (s.rule m)) :
    s.modRule m f = s.modRule m g :=
  congrArg (fun v => s.modWev fun w => { w with rules := v }) (updAt_congr s.wev.rules m f g h)

theorem State.modRule_self {f : RuleRec → RuleRec} (h : f (s.rule m) = s.rule m) :
    s.modRule m f = s :=
  congrArg (fun v => s.modWev fun w => { w with rules := v }) (updAt_eq_self s.wev.rules m f h)

theorem State.modRule_modRule (f g : RuleRec → RuleRec) :
    (s.modRule m f).modRule m g = s.modRule m fun r => g (f r) :=
  congrArg (fun v => s.modWev fun w => { w with rules := v }) (updAt_updAt s.wev.rules m f g)

theorem State.modRule_wev_congr {s t : State} (m : Fin 64) (f : RuleRec → RuleRec)
    (h : s.wev = t.wev) : (s.modRule m f).wev = (t.modRule m f).wev :=
  congrArg (fun w => { w with rules := updAt w.rules m f }) h

/-! ### Reports and attention (R160, R163) -/

/-- A CLEARED report raises attention cause FAULT where it changes the table, and no other cause. -/
theorem State.reportCleared_attention (c : FaultCode) :
    (s.reportCleared c).lif.attention = s.lif.attention ∨
      (s.reportCleared c).lif.attention = s.lif.attention.raise .fault := by
  have changed (i : Nat) (f : FaultEntry → FaultEntry) :
      (s.changeEntry i f).lif.attention = s.lif.attention ∨
        (s.changeEntry i f).lif.attention = s.lif.attention.raise .fault := by
    unfold State.changeEntry
    split
    · exact .inl rfl
    · exact .inr rfl
  unfold State.reportCleared State.report
  split
  case isTrue loading => exact .inl rfl
  case isFalse taken =>
    change (s.clearedReport c).lif.attention = _ ∨ (s.clearedReport c).lif.attention = _
    unfold State.clearedReport
    split
    · split
      · exact changed _ _
      · exact .inl rfl
    · exact .inl rfl

theorem State.reportCleared_warn (c : FaultCode) :
    (s.reportCleared c).lif.attention.warn = s.lif.attention.warn := by
  obtain e | e := s.reportCleared_attention c <;> rw [e]
  rfl

theorem State.reportCleared_wev (c : FaultCode) : (s.reportCleared c).wev = s.wev :=
  s.reportCleared_only c .wev (by decide)

/-! ### The settling of a rule (R107) -/

theorem State.settleRule_wev :
    (s.settleRule m).wev = (s.modRule m fun r => { r with mark := false }).wev := by
  unfold State.settleRule
  split
  case isTrue marked => exact State.modRule_wev_congr m _ (s.reportCleared_wev _)
  case isFalse unmarked =>
    rw [s.modRule_self m]
    rw [← Bool.eq_false_iff.mpr unmarked]

theorem State.settleRule_warn :
    (s.settleRule m).lif.attention.warn = s.lif.attention.warn := by
  unfold State.settleRule
  split
  · exact s.reportCleared_warn _
  · rfl

theorem State.settleIfOff_wev : (s.settleIfOff m).wev = (s.modRule m RuleRec.settled).wev := by
  unfold State.settleIfOff
  split
  case isTrue off =>
    exact (s.settleRule_wev m).trans (congrArg State.wev (s.modRule_congr m (if_pos off).symm))
  case isFalse on => exact (congrArg State.wev (s.modRule_self m (if_neg on))).symm

theorem State.settleIfOff_warn :
    (s.settleIfOff m).lif.attention.warn = s.lif.attention.warn := by
  unfold State.settleIfOff
  split
  · exact s.settleRule_warn m
  · rfl

/-! ### The presentation list (R113, R114) -/

theorem State.publishList_list : s.publishList.pru.list = s.pru.list := by
  unfold State.publishList; split <;> rfl

theorem State.refreshLamps_list : s.refreshLamps.pru.list = s.pru.list := by
  unfold State.refreshLamps State.publishLamps State.followCalls
  split <;> simp only [State.modPru_pru]

theorem State.refreshChime_list : s.refreshChime.pru.list = s.pru.list := by
  unfold State.refreshChime State.startPattern State.soundOff
  dsimp only
  repeat' split
  all_goals simp only [State.modPru_pru]

theorem State.refreshPru_list : s.refreshPru.pru.list = s.pru.list :=
  (State.refreshChime_list _).trans s.refreshLamps_list

theorem bestRanked_mem {l : List ListEntry} {e : ListEntry} (h : bestRanked l = some e) : e ∈ l := by
  induction l generalizing e with
  | nil => cases h
  | cons x rest ih =>
    simp only [bestRanked] at h
    split at h
    case h_1 b best =>
      split at h <;> cases h
      · exact .tail _ (ih best)
      · exact .head _
    case h_2 => cases h; exact .head _

theorem listed_eq_false_iff (l : List ListEntry) :
    listed l m = false ↔ ∀ e ∈ l, e.rule ≠ m := by
  simp [listed]

/-- R114: a rule that is taken off the list and is not eligible does not come back as the waiting rule that
takes the last place. -/
theorem State.delist_list (h : s.eligible m = false) :
    listed (s.delist m).pru.list m = false := by
  unfold State.delist
  split
  case isFalse absent => exact Bool.eq_false_iff.mpr absent
  case isTrue present =>
    rw [listed_eq_false_iff]
    dsimp only
    split
    case h_2 => simp
    case h_1 e best =>
      obtain ⟨k, waits, rfl⟩ := List.mem_map.mp (bestRanked_mem best)
      have eligible : s.eligible k = true :=
        ((Bool.and_eq_true_iff ..).mp (List.mem_filter.mp waits).2).1
      have other : k ≠ m := by rintro rfl; exact Bool.false_ne_true (h.symm.trans eligible)
      intro x hx
      rcases List.mem_append.mp hx with kept | last
      · simpa using (List.mem_filter.mp kept).2
      · rw [List.mem_singleton.mp last]; exact other

/-- R114: a popup rule that comes out of ACTIVE_NEW and LATCHED_NEW leaves the list. -/
theorem State.listChange_left {old : RuleState} (popup : (s.ruleCfg m).popup = true)
    (before : old.isUnacked = true) (after : (s.rule m).st.isUnacked = false) :
    listed (s.listChange m old).pru.list m = false := by
  have gone : s.eligible m = false := by simp [State.eligible, after]
  simp only [State.listChange, popup, before, after, if_true, Bool.false_eq_true, if_false,
    State.publishList_list]
  exact s.delist_list m gone

/-! ### A change of a rule's state (R106, R107) -/

/-- A change of the record that changes the state: WARN is raised and a return to OFF settled, and the state
so made is handed to PRU. -/
theorem State.changeRule_changed (f : RuleRec → RuleRec)
    (change : (f (s.rule m)).st ≠ (s.rule m).st) :
    ∃ u : State, s.changeRule m f = (u.listChange m (s.rule m).st).refreshPru ∧
      u.wev = (s.modRule m fun r => (f r).settled).wev ∧ u.tables = s.tables ∧
      u.lif.attention.warn = true := by
  delta State.changeRule
  extract_lets old s1 new s2 s3 s4
  have after : new = (f (s.rule m)).st := congrArg RuleRec.st (s.modRule_same m f)
  have rest : OnlyChanges [.pru] s2 s3 := .ite (s2.clearSingleMark_only m) (.refl _ _)
  have wev3 : s3.wev = s1.wev := rest .wev (by decide)
  have state3 : (s3.rule m).st = new := congrArg (fun w => (w.rules[m]).st) wev3
  have settles : s4 = s3.settleIfOff m := by simp only [s4, State.settleIfOff, state3]
  refine ⟨s4, ?_, ?_, ?_, ?_⟩
  · exact if_neg fun same => change (after.symm.trans same.symm)
  · calc s4.wev = (s3.settleIfOff m).wev := congrArg State.wev settles
      _ = (s3.modRule m RuleRec.settled).wev := s3.settleIfOff_wev m
      _ = (s1.modRule m RuleRec.settled).wev := State.modRule_wev_congr m _ wev3
      _ = (s.modRule m fun r => (f r).settled).wev := congrArg State.wev (s.modRule_modRule m _ _)
  · rw [settles]
    exact (s3.settleIfOff_only m .tables (by decide)).trans (rest .tables (by decide))
  · rw [settles, s3.settleIfOff_warn]
    exact congrArg Attention.warn (rest .attention (by decide))

/-- What a change out of ACTIVE_NEW or LATCHED_NEW to an acknowledged state or to OFF leaves in each block. -/
theorem State.changeRule_left (f : RuleRec → RuleRec) (before : (s.rule m).st.isUnacked = true)
    (after : (f (s.rule m)).st.isUnacked = false) :
    (s.changeRule m f).wev = (s.modRule m fun r => (f r).settled).wev ∧
      (s.changeRule m f).lif.attention.warn = true ∧
      ((s.ruleCfg m).popup = true → listed (s.changeRule m f).pru.list m = false) := by
  have change : (f (s.rule m)).st ≠ (s.rule m).st := fun same =>
    Bool.false_ne_true (after.symm.trans (same ▸ before))
  obtain ⟨u, handed, wev, tables, warn⟩ := s.changeRule_changed m f change
  have pru : OnlyChanges [.pru] u (s.changeRule m f) :=
    handed ▸ (u.listChange_only m _).trans (State.refreshPru_only _)
  have settledAs (r : RuleRec) : r.settled.st = r.st := by unfold RuleRec.settled; split <;> rfl
  have state : (u.rule m).st.isUnacked = false := by
    have record : u.rule m = (f (s.rule m)).settled :=
      (congrArg (·.rules[m]) wev).trans (s.modRule_same m _)
    rw [record, settledAs, after]
  refine ⟨(pru .wev (by decide)).trans wev,
    (congrArg Attention.warn (pru .attention (by decide))).trans warn, fun popup => ?_⟩
  rw [handed, State.refreshPru_list]
  refine u.listChange_left m ?_ before state
  exact (congrArg (fun t => t.rules[m].popup) tables).trans popup

/-! ### Which acknowledgements are taken (R104) -/

theorem State.ackTaken_iff :
    s.ackTaken m = true ↔ (s.rule m).st = .activeNew ∨
      ((s.rule m).st = .latchedNew ∧ (s.ruleCfg m).latch ≠ .unlatched) := by
  unfold State.ackTaken
  cases (s.rule m).st <;> simp

theorem State.ackTaken_eq_false (notNew : (s.rule m).st ≠ .activeNew)
    (notLatched : (s.rule m).st ≠ .latchedNew ∨ (s.ruleCfg m).latch = .unlatched) :
    s.ackTaken m = false :=
  Bool.eq_false_iff.mpr fun taken =>
    ((s.ackTaken_iff m).mp taken).elim notNew fun h => notLatched.elim (· h.1) h.2

theorem State.ackRule_refused (refused : s.ackTaken m = false) : s.ackRule m = s := by
  unfold State.ackTaken at refused
  unfold State.ackRule
  cases state : (s.rule m).st <;> simp only [state, Bool.true_eq_false, bne_eq_false_iff_eq] at refused ⊢
  rw [refused]

/-- R104: an acknowledgement that is taken is one change of the rule's record, to `RuleRec.acknowledged`. -/
theorem State.ackRule_taken (taken : s.ackTaken m = true) :
    ∃ f : RuleRec → RuleRec, s.ackRule m = s.changeRule m f ∧
      (s.rule m).st.isUnacked = true ∧ (f (s.rule m)).st.isUnacked = false ∧
      (f (s.rule m)).settled = (s.rule m).acknowledged (s.ruleCfg m).latch := by
  unfold State.ackRule
  rcases (s.ackTaken_iff m).mp taken with new | ⟨latched, latch⟩
  · rw [new]
    exact ⟨_, rfl, rfl, rfl, by simp [RuleRec.settled, RuleRec.acknowledged, new]⟩
  · rw [latched]
    cases kind : (s.ruleCfg m).latch
    case unlatched => exact absurd kind latch
    case untilAck =>
      exact ⟨_, rfl, rfl, rfl, by simp [RuleRec.settled, RuleRec.acknowledged, RuleRec.toOff, latched]⟩
    case untilIgnition =>
      exact ⟨_, rfl, rfl, rfl, by simp [RuleRec.settled, RuleRec.acknowledged, latched]⟩

/-- What an acknowledgement that is taken leaves in each block. -/
theorem State.ackRule_effect (taken : s.ackTaken m = true) :
    (s.ackRule m).wev = (s.modRule m (RuleRec.acknowledged (s.ruleCfg m).latch)).wev ∧
      (s.ackRule m).lif.attention.warn = true ∧
      ((s.ruleCfg m).popup = true → listed (s.ackRule m).pru.list m = false) := by
  obtain ⟨f, eq, before, after, record⟩ := s.ackRule_taken m taken
  rw [eq, ← s.modRule_congr m (f := fun r => (f r).settled) record]
  exact s.changeRule_left m f before after

end

/-! ### ACKNOWLEDGE (R118) -/

theorem exec_acknowledge (tag : Byte) (p : List Byte) (s : State) :
    exec (.acknowledge tag p) s = live (State.request ⟨0x1A, tag, p⟩
      (served false (ofLength 1) p (acknowledgeService (rd8 p 0)))) s := rfl

section
variable {s : State} {m : Fin 64}

/-- TOP is answered OK with the rule's index, whether the acknowledgement is taken or not. -/
theorem acknowledgeService_top (top : s.topRule = some m) :
    acknowledgeService 0xFF s = (s.ackRule m, .ok, u8 m.val) := by
  simp only [acknowledgeService, if_true, top]

theorem acknowledgeService_emptyList (empty : s.pru.list = []) :
    acknowledgeService 0xFF s = (s, .denied, []) := by
  have top : s.topRule = none := by simp [State.topRule, empty]
  simp only [acknowledgeService, if_true, top]

theorem acknowledgeService_index :
    acknowledgeService m.val s =
      if s.ackTaken m then (s.ackRule m, .ok, u8 m.val) else (s, .denied, []) := by
  have notTop : m.val ≠ 0xFF := by omega
  have index : finOf 64 m.val = some m := finOf_eq_some_iff.mpr rfl
  simp only [acknowledgeService, if_neg notTop, index]

theorem acknowledgeService_noRule {n : Nat} (range : 64 ≤ n) (notTop : n ≠ 0xFF) :
    acknowledgeService n s = (s, .refusedArg, []) := by
  have index : finOf 64 n = none := dif_neg range.not_gt
  simp only [acknowledgeService, if_neg notTop, index]

end

/-- Settles O32: by index and by TOP an acknowledgement that is taken leaves the state of `State.ackRule`,
whose effect is that of one change of the rule's state, and any other leaves the state as it is. -/
theorem acknowledgeIsTakenOrDenied : Obligations.AcknowledgeIsTakenOrDenied := by
  intro s tag x ready
  have service (mode : s.mode ≠ .startup) :
      served false (ofLength 1) [x] (acknowledgeService x.toNat) s = acknowledgeService x.toNat s :=
    served_ok s _ _ _ _ (.inl mode) rfl
  have answer (status : Status) (items : List Byte) (mode : s.mode ≠ .startup)
      (h : acknowledgeService x.toNat s = (s, status, items)) :
      exec (.acknowledge tag [x]) s = .next (s.replying ⟨0x1A, tag, [x]⟩ status items) :=
    live_request_replying s _ _ _ _ ready ((service mode).trans h)
  refine ⟨fun mode => ?startup, fun m mode named state => ?taken,
    fun m mode notNew notLatched => ⟨fun index => ?denied, fun top head => ?topDenied⟩,
    fun mode top empty => ?emptyList, fun mode range notTop => ?noRule⟩
  case startup =>
    exact live_request_replying s _ _ _ _ ready (served_startup s _ _ _ mode)
  case taken =>
    have taken : s.ackTaken m = true := (s.ackTaken_iff m).mpr state
    obtain ⟨wev, warn, list⟩ := s.ackRule_effect m taken
    have effect : acknowledgeService x.toNat s = (s.ackRule m, .ok, u8 m.val) := by
      rcases named with index | ⟨rfl, top⟩
      · rw [index, acknowledgeService_index, if_pos taken]
      · exact acknowledgeService_top top
    refine ⟨(s.ackRule m).replying ⟨0x1A, tag, [x]⟩ .ok (u8 m.val), ?_, ?_, fun j hj => ?_,
      (congrArg Wev.seq wev :), list, warn, ?_,
      (s.ackRule_only m).andThen (State.modLif_only _ _ fun _ => rfl)⟩
    · rw [exec_acknowledge, live_runs s _ ready.live, s.request_ready _ _ ready, State.serve]
      exact congrArg (fun r : State × Status × List Byte =>
        Host.Outcome.next (r.1.replying ⟨0x1A, tag, [x]⟩ r.2.1 r.2.2)) ((service mode).trans effect)
    · exact (congrArg (·.rules[m]) wev).trans (s.modRule_same m _)
    · exact (congrArg (·.rules[j]) wev).trans (s.modRule_other m j _ hj.symm)
    · rw [State.replying_link, s.ackRule_only m .link (by decide)]
      rfl
  case denied =>
    refine answer _ _ mode ?_
    rw [index, acknowledgeService_index, s.ackTaken_eq_false m notNew notLatched]
    rfl
  case topDenied =>
    subst top
    refine answer _ _ mode ((acknowledgeService_top head).trans ?_)
    rw [s.ackRule_refused m (s.ackTaken_eq_false m notNew notLatched)]
    rfl
  case emptyList =>
    subst top
    exact answer _ _ mode (acknowledgeService_emptyList empty)
  case noRule =>
    refine answer _ _ mode (acknowledgeService_noRule range fun top => notTop ?_)
    exact BitVec.eq_of_toNat_eq top

end Sys2Proof.Machine
end

section
/-! PROOFS. Terms and results (R85 to R93): the result of a term of each kind, the combine codes, the table of
the combined result, and the qualifiers. -/

namespace Sys2Proof.Machine

/-- A result of YES or NO by the statement that a Boolean decides. -/
theorem yesNo_eq_ite {b : Bool} {p : Prop} [Decidable p] (h : b = true ↔ p) :
    yesNo b = if p then .yes else .no := if_congr h rfl rfl

theorem bitOf_eq_testBit (v i : Nat) : bitOf v i = v.testBit i :=
  Nat.testBit_eq_decide_div_mod_eq.symm

section
variable (s : State)

/-! ### Line terms (R86) -/

theorem State.evalTerm_line (h : Bool) (n : Fin 32) (x : LineTest) :
    s.evalTerm h (.line n x) = (lineTerm x (s.logical n), h) := rfl

/-! ### Value terms (R43, R87) -/

theorem ChannelState.known_iff (x : ChannelState) : x.known = true ↔ x = .valid ∨ x = .stale := by
  cases x <;> simp [ChannelState.known]

/-- The value a value term compares: F or E while the channel's value is known. -/
theorem State.value_known (k : Fin 6) (filtered : Bool) :
    (if filtered then s.knownF k else s.knownE k) =
      if (s.channel k).st.known then (if filtered then (s.channel k).f else (s.channel k).e)
      else none := by
  cases filtered <;> rfl

theorem State.evalTerm_value_unknown (h filtered below : Bool) (k : Fin 6) (threshold : Int)
    (hysteresis : Nat) (unknown : (s.channel k).st.known = false) :
    s.evalTerm h (.value k filtered below threshold hysteresis) = (.invalid, h) := by
  simp only [State.evalTerm, s.value_known, unknown, Bool.false_eq_true, if_false]

theorem State.evalTerm_value_known (h filtered below : Bool) (k : Fin 6) (threshold v : Int)
    (hysteresis : Nat) (known : (s.channel k).st.known = true)
    (value : (if filtered then (s.channel k).f else (s.channel k).e) = some v) :
    s.evalTerm h (.value k filtered below threshold hysteresis) =
      (yesNo (valueState below threshold hysteresis v h),
        valueState below threshold hysteresis v h) := by
  simp only [State.evalTerm, s.value_known, known, if_true, value]

/-! ### Door terms (R88) -/

theorem State.doorView_configured (d : Fin 4) (h : (s.doorCfg d).configured = true) :
    s.doorView (d.val + 1) = s.door d := by
  have index : finOf 4 (d.val + 1 - 1) = some d := finOf_eq_some_iff.mpr (Nat.add_sub_cancel ..)
  simp only [State.doorView, Nat.add_one_ne_zero, if_false, index, h, if_true]

theorem State.doorView_unconfigured (d : Fin 4) (h : (s.doorCfg d).configured = false) :
    s.doorView (d.val + 1) = {} := by
  have index : finOf 4 (d.val + 1 - 1) = some d := finOf_eq_some_iff.mpr (Nat.add_sub_cancel ..)
  simp only [State.doorView, Nat.add_one_ne_zero, if_false, index, h, Bool.false_eq_true]

theorem State.evalTerm_doorState (h : Bool) (set mask flag : Nat) :
    s.evalTerm h (.door set .stateMask mask flag) =
      (if mask.testBit (s.doorView set).st.code then .yes
        else if (s.doorView set).st = .unknown then .invalid else .no, h) := by
  simp only [State.evalTerm, State.doorTerm, bitOf_eq_testBit]

theorem State.evalTerm_doorFlag (h : Bool) (set mask flag : Nat) :
    s.evalTerm h (.door set .flag mask flag) = (yesNo ((s.doorView set).flag flag), h) := rfl

/-- A door set without a record has no flag set. -/
theorem Door.flag_default (flag : Nat) : ({} : Door).flag flag = false := by
  unfold Door.flag; split <;> rfl

/-! ### Terms on rules, the fault table and the supply state (R89, R90) -/

theorem RuleState.isActive_iff (x : RuleState) :
    x.isActive = true ↔ x = .activeNew ∨ x = .activeAck := by
  cases x <;> simp [RuleState.isActive]

theorem State.classActive_iff (c : SourceClass) :
    s.classActive c = true ↔ ∃ e ∈ s.fmy.table, e.active = true ∧ e.code.sourceClass = c := by
  simp [State.classActive]

theorem State.evalTerm_rule (h : Bool) (m : Fin 64) : s.evalTerm h (.rule m) =
    (if (s.rule m).st = .activeNew ∨ (s.rule m).st = .activeAck then .yes else .no, h) :=
  congrArg (·, h) (yesNo_eq_ite (RuleState.isActive_iff _))

theorem State.evalTerm_fault (h : Bool) (c : SourceClass) :
    s.evalTerm h (.fault c) = (yesNo (s.classActive c), h) := rfl

theorem State.evalTerm_supply (h : Bool) (mask : Nat) : s.evalTerm h (.supply mask) =
    (if mask.testBit s.supply.code then .yes else .no, h) := by
  simp only [State.evalTerm, yesNo, bitOf_eq_testBit]

end

/-! ### Combine codes (R91) -/

theorem slotIs_true_iff {r : Option TermResult} (valid : r ≠ some .invalid) :
    slotIs true r = true ↔ r ≠ some .no := by
  rcases r with _ | r
  · simp [slotIs]
  · cases r
    case invalid => exact absurd rfl valid
    all_goals decide

theorem slotIs_false_iff (r : Option TermResult) : slotIs false r = true ↔ r = some .yes := by
  cases r <;> simp [slotIs]

section
variable {x y z : Option TermResult}

theorem combine_invalid (c : Combine)
    (h : x = some .invalid ∨ y = some .invalid ∨ z = some .invalid) : combine c x y z = .invalid :=
  if_pos h

variable (hx : x ≠ some .invalid) (hy : y ≠ some .invalid) (hz : z ≠ some .invalid)
include hx hy hz

theorem not_any_invalid : ¬ (x = some .invalid ∨ y = some .invalid ∨ z = some .invalid) :=
  not_or.mpr ⟨hx, not_or.mpr ⟨hy, hz⟩⟩

theorem combine_all : combine .all x y z =
    if x ≠ some .no ∧ y ≠ some .no ∧ z ≠ some .no then .yes else .no := by
  refine (if_neg (not_any_invalid hx hy hz)).trans (yesNo_eq_ite ?_)
  simp only [Bool.and_eq_true, slotIs_true_iff hx, slotIs_true_iff hy, slotIs_true_iff hz, and_assoc]

theorem combine_any : combine .any x y z =
    if x = some .yes ∨ y = some .yes ∨ z = some .yes then .yes else .no := by
  refine (if_neg (not_any_invalid hx hy hz)).trans (yesNo_eq_ite ?_)
  simp only [Bool.or_eq_true, slotIs_false_iff, or_assoc]

theorem combine_firstNotRest : combine .firstNotRest x y z =
    if x = some .yes ∧ y ≠ some .yes ∧ z ≠ some .yes then .yes else .no := by
  refine (if_neg (not_any_invalid hx hy hz)).trans (yesNo_eq_ite ?_)
  simp only [Bool.and_eq_true, Bool.not_eq_true', ← Bool.not_eq_true, slotIs_false_iff, and_assoc,
    ne_eq]

theorem combine_twoOfThree : combine .twoOfThree x y z =
    if (x = some .yes ∧ y = some .yes) ∨ (x = some .yes ∧ z = some .yes) ∨
        (y = some .yes ∧ z = some .yes) then .yes else .no := by
  refine (if_neg (not_any_invalid hx hy hz)).trans (yesNo_eq_ite ?_)
  simp only [Bool.and_eq_true, Bool.or_eq_true, slotIs_false_iff, or_assoc]

end

/-! ### Qualifiers (R59, R93) -/

theorem Mode.isRunning_iff (m : Mode) : m.isRunning = true ↔ m = .run ∨ m = .workshop := by
  cases m <;> simp [Mode.isRunning]

section
variable (s : State)

theorem State.moving_iff : s.moving = true ↔ ∃ v, s.speed = some v ∧
    s.tables.general.releaseSpeed < v ∧ s.roleValue .parkingBrake ≠ some .active := by
  unfold State.moving
  cases s.speed <;> simp

theorem State.standing_iff : s.standing = true ↔ s.roleValue .parkingBrake = some .active ∨
    ∃ v, s.speed = some v ∧ v ≤ s.tables.general.releaseSpeed := by
  unfold State.standing
  cases s.speed
  · simp
  · simp [or_comm]

/-- R93: each qualifier by the mode, the speed and the parking brake, or the supply state. -/
theorem State.qualifierHolds_iff :
    (s.qualifierHolds .ignOn = true ↔ s.mode = .run ∨ s.mode = .workshop) ∧
    (s.qualifierHolds .moving = true ↔ (s.mode = .run ∨ s.mode = .workshop) ∧
      ∃ v, s.speed = some v ∧ s.tables.general.releaseSpeed < v ∧
        s.roleValue .parkingBrake ≠ some .active) ∧
    (s.qualifierHolds .standing = true ↔ (s.mode = .run ∨ s.mode = .workshop) ∧
      (s.roleValue .parkingBrake = some .active ∨
        ∃ v, s.speed = some v ∧ v ≤ s.tables.general.releaseSpeed)) ∧
    (s.qualifierHolds .notCrank = true ↔ s.supply ≠ .crank) := by
  simp only [State.qualifierHolds, Bool.and_eq_true, Mode.isRunning_iff, s.moving_iff,
    s.standing_iff, bne_iff_ne, ne_eq, and_self]

end

/-- Settles O46: each conjunct by the lemma about its kind of term, its code or its qualifier. -/
theorem termsAndResultsFollowTheirTables : Obligations.TermsAndResultsFollowTheirTables := by
  refine ⟨fun s h n x => ?line, fun before => ⟨rfl, rfl, rfl, rfl, rfl, rfl, rfl, rfl, rfl⟩,
    fun s h => ⟨fun k filtered below threshold hysteresis =>
        ⟨fun notValid notStale => ?unknown, fun v known value => ?known⟩,
      fun set d mask flag number => ⟨fun configured => ⟨?state, ?flag⟩,
        fun absent => ⟨?absentState, ?absentFlag⟩, rfl⟩,
      s.evalTerm_rule h, fun c => ⟨fun present => ?fault, fun absent => ?noFault⟩,
      s.evalTerm_supply h⟩,
    fun x y z => ⟨fun invalid c => combine_invalid c invalid, fun hx hy hz =>
      ⟨combine_all hx hy hz, combine_any hx hy hz, combine_firstNotRest hx hy hz,
        combine_twoOfThree hx hy hz⟩⟩,
    fun s => ⟨rfl, s.qualifierHolds_iff⟩⟩
  case line =>
    rw [s.evalTerm_line]
    cases x <;> cases s.logical n <;> rfl
  case unknown =>
    refine s.evalTerm_value_unknown h filtered below k threshold hysteresis ?_
    exact Bool.eq_false_iff.mpr fun known =>
      ((ChannelState.known_iff _).mp known).elim notValid notStale
  case known =>
    exact ⟨_, s.evalTerm_value_known h filtered below k threshold v hysteresis
      ((ChannelState.known_iff _).mpr known) value, rfl⟩
  case state =>
    rw [number, s.evalTerm_doorState, s.doorView_configured d configured]
  case flag =>
    rw [number, s.evalTerm_doorFlag, s.doorView_configured d configured]
    rfl
  case absentState =>
    rw [number, s.evalTerm_doorState, s.doorView_unconfigured d absent]
    rfl
  case absentFlag =>
    rw [number, s.evalTerm_doorFlag, s.doorView_unconfigured d absent, Door.flag_default]
    rfl
  case fault =>
    rw [s.evalTerm_fault, (s.classActive_iff c).mpr present]
    rfl
  case noFault =>
    have inactive : s.classActive c = false := Bool.eq_false_iff.mpr fun active =>
      let ⟨e, entry, on, ofClass⟩ := (s.classActive_iff c).mp active
      absent e entry on ofClass
    rw [s.evalTerm_fault, inactive]
    rfl

end Sys2Proof.Machine
end

section
/-! PROOFS. RELEASE_DOORS and WITHDRAW_RELEASE (R145, R147): what a change of grants does to the door sets,
the interlock and attention, which masks and moments allow a release, and the answers of the two requests. -/

namespace Sys2Proof.Machine

/-- R149: the interlock state after an evaluation that finds some condition, or none. -/
def Interlock.evaluated : Interlock → Bool → Interlock
  | .held, false => .delay
  | .delay, true | .free, true => .held
  | i, _ => i

/-- R145, R147, R148: a door set's record after a change of its grant to `g`. -/
def State.regranted (s : State) (g : Bool) (r : Door) : Door :=
  if r.grant = g then r
  else { r with
    grant := g
    output := g && !s.aboveWithdraw && r.st != .emergency && s.mode.isRunning }

/-! ### An evaluation of the interlock conditions (R149) -/

/-- Of two evaluations the second decides, but from FREE, where a condition that came and went leaves
DELAY. -/
theorem Interlock.evaluated_evaluated {i : Interlock} (first second : Bool)
    (h : i ≠ .free ∨ second = true) : (i.evaluated first).evaluated second = i.evaluated second := by
  cases second
  case true => cases i <;> cases first <;> rfl
  case false =>
    cases i
    case free => exact absurd rfl (h.resolve_right Bool.false_ne_true)
    all_goals cases first <;> rfl

theorem Interlock.evaluated_ne_free {i : Interlock} (c : Bool) (h : i ≠ .free) :
    i.evaluated c ≠ .free := by
  cases i
  case free => exact absurd rfl h
  all_goals cases c <;> exact Interlock.noConfusion

section
variable (s : State)

/-- An evaluation leaves the state alone, or sets the interlock to its outcome. -/
theorem State.evalInterlock_cases :
    (s.evalInterlock = s ∧ s.dmn.interlock.evaluated s.anyCondition = s.dmn.interlock) ∨
    ∃ delay, s.evalInterlock = s.setInterlock (s.dmn.interlock.evaluated s.anyCondition) delay := by
  unfold State.evalInterlock
  cases s.dmn.interlock <;> cases s.anyCondition
  case held.false | delay.true | free.true => exact .inr ⟨_, rfl⟩
  all_goals exact .inl ⟨rfl, rfl⟩

theorem State.evalInterlock_interlock :
    s.evalInterlock.dmn.interlock = s.dmn.interlock.evaluated s.anyCondition := by
  obtain ⟨e, same⟩ | ⟨delay, e⟩ := s.evalInterlock_cases <;> rw [e]
  · exact same.symm
  · rw [s.setInterlock_dmn]

theorem State.evalInterlock_door (d : Fin 4) : s.evalInterlock.door d = s.door d := by
  obtain ⟨e, -⟩ | ⟨delay, e⟩ := s.evalInterlock_cases <;> rw [e]
  rw [State.door, s.setInterlock_dmn, State.door]

theorem State.evalInterlock_keeps_cause (c : Cause) (h : s.lif.attention.has c = true) :
    s.evalInterlock.lif.attention.has c = true := by
  obtain ⟨e, -⟩ | ⟨delay, e⟩ := s.evalInterlock_cases <;> rw [e]
  · exact h
  · rw [s.setInterlock_attention]
    split
    · exact h
    · exact Attention.raise_keeps _ _ _ h

end

/-! ### What the conditions and the outputs read -/

section
variable {s t : State} (h : OnlyChanges grantParts s t)
include h

theorem OnlyChanges.aboveWithdraw : t.aboveWithdraw = s.aboveWithdraw := by
  have gve : t.gve = s.gve := h .gve (by decide)
  have tables : t.tables = s.tables := h .tables (by decide)
  have known : t.knownE = s.knownE :=
    funext fun k => by rw [State.knownE, State.knownE, State.channel, State.channel, gve]
  simp only [State.aboveWithdraw, State.speed, State.speedChannel, State.channelCfg, known, tables]

theorem OnlyChanges.mode : t.mode = s.mode :=
  congrArg Mctl.mode (h .mctl (by decide))

theorem OnlyChanges.regranted (g : Bool) (r : Door) : t.regranted g r = s.regranted g r := by
  rw [State.regranted, State.regranted, h.aboveWithdraw, h.mode]

/-- Of a door set's record the conditions read the door state and the grant. -/
theorem OnlyChanges.anyCondition (st : ∀ d, (t.door d).st = (s.door d).st)
    (grant : ∀ d, (t.door d).grant = (s.door d).grant) : t.anyCondition = s.anyCondition := by
  have hlm : t.hlm = s.hlm := h .hlm (by decide)
  have tables : t.tables = s.tables := h .tables (by decide)
  have logical : t.logical = s.logical :=
    funext fun n => by simp only [State.logical, State.line, hlm]
  simp only [State.anyCondition, State.condDoors, State.condRamps, State.condKneel, State.condGrants,
    State.doorLine, State.doorCfg, State.roleValue, logical, tables, st, grant]

end

/-! ### A change of one grant (R145, R147) -/

/-- The state in which a set's grant has changed and nothing has followed it but attention cause DOOR. -/
def State.withGrant (g : Bool) (d : Fin 4) (s : State) : State :=
  (s.modDoor d fun r => { r with grant := g }).attend .door

section
variable (s : State) {g : Bool} {d : Fin 4}

theorem State.withGrant_only : OnlyChanges grantParts s (s.withGrant g d) :=
  (s.modDoor_only d _).andThen (State.attend_only _ _)

theorem State.withGrant_door_same : (s.withGrant g d).door d = { s.door d with grant := g } :=
  s.modDoor_same d _

theorem State.withGrant_door_other {e : Fin 4} (other : d ≠ e) : (s.withGrant g d).door e = s.door e :=
  s.modDoor_other d e _ other

theorem State.regranted_of_eq {r : Door} (same : r.grant = g) : s.regranted g r = r := if_pos same

@[simp] theorem State.regranted_grant (r : Door) : (s.regranted g r).grant = g := by
  unfold State.regranted
  split
  case isTrue same => exact same
  case isFalse => rfl

theorem State.setGrant_of_eq (same : (s.door d).grant = g) : s.setGrant g d = s := if_pos same

theorem State.setGrant_of_ne (change : (s.door d).grant ≠ g) :
    s.setGrant g d = (s.withGrant g d).evalInterlock.refreshOutput d := if_neg change

theorem State.setGrant_door_same : (s.setGrant g d).door d = s.regranted g (s.door d) := by
  by_cases same : (s.door d).grant = g
  · rw [s.setGrant_of_eq same, s.regranted_of_eq same]
  · have frame := (s.withGrant_only (g := g) (d := d)).trans (State.evalInterlock_only _)
    rw [s.setGrant_of_ne same, State.refreshOutput_door, State.outputDue, State.evalInterlock_door,
      frame.aboveWithdraw, frame.mode, s.withGrant_door_same, State.regranted, if_neg same]

theorem State.setGrant_door_other {e : Fin 4} (other : d ≠ e) :
    (s.setGrant g d).door e = s.door e := by
  by_cases same : (s.door d).grant = g
  · rw [s.setGrant_of_eq same]
  · rw [s.setGrant_of_ne same, State.refreshOutput_other _ d e other, State.evalInterlock_door,
      s.withGrant_door_other other]

/-- Neither the evaluation nor the recomputed output changes a condition. -/
theorem State.setGrant_anyCondition (change : (s.door d).grant ≠ g) :
    (s.setGrant g d).anyCondition = (s.withGrant g d).anyCondition := by
  have door (e : Fin 4) : ((s.setGrant g d).door e).st = ((s.withGrant g d).door e).st ∧
      ((s.setGrant g d).door e).grant = ((s.withGrant g d).door e).grant := by
    rw [s.setGrant_of_ne change]
    by_cases named : d = e
    · rw [← named, State.refreshOutput_door, State.evalInterlock_door]
      exact ⟨rfl, rfl⟩
    · rw [State.refreshOutput_other _ d e named, State.evalInterlock_door]
      exact ⟨rfl, rfl⟩
  refine OnlyChanges.anyCondition ?_ (fun e => (door e).1) fun e => (door e).2
  rw [s.setGrant_of_ne change]
  exact (State.evalInterlock_only _).andThen (State.refreshOutput_only _ d)

/-- R149: a change of a grant evaluates the conditions as it leaves them. -/
theorem State.setGrant_interlock (change : (s.door d).grant ≠ g) :
    (s.setGrant g d).dmn.interlock = s.dmn.interlock.evaluated (s.setGrant g d).anyCondition := by
  rw [s.setGrant_anyCondition change, s.setGrant_of_ne change]
  exact (s.withGrant g d).evalInterlock_interlock

theorem State.setGrant_raises_door (change : (s.door d).grant ≠ g) :
    (s.setGrant g d).lif.attention.has .door = true := by
  rw [s.setGrant_of_ne change]
  exact State.evalInterlock_keeps_cause _ .door (Attention.has_raise s.lif.attention .door)

theorem State.setGrant_keeps_cause (c : Cause) (h : s.lif.attention.has c = true) :
    (s.setGrant g d).lif.attention.has c = true := by
  by_cases same : (s.door d).grant = g
  · rwa [s.setGrant_of_eq same]
  · rw [s.setGrant_of_ne same]
    exact State.evalInterlock_keeps_cause _ c (Attention.raise_keeps s.lif.attention .door c h)

end

/-! ### A change of the grants of several sets -/

section
variable {g : Bool}

theorem State.grantAll_cons (s : State) (d : Fin 4) (sets : List (Fin 4)) :
    s.grantAll (d :: sets) g = (s.setGrant g d).grantAll sets g := rfl

theorem State.grantAll_door (s : State) (sets : List (Fin 4)) (e : Fin 4) :
    (s.grantAll sets g).door e = if e ∈ sets then s.regranted g (s.door e) else s.door e := by
  induction sets generalizing s with
  | nil => rfl
  | cons d sets ih =>
    rw [s.grantAll_cons, ih, (s.setGrant_only g d).regranted]
    by_cases named : d = e
    · rw [← named, s.setGrant_door_same, if_pos List.mem_cons_self,
        s.regranted_of_eq (s.regranted_grant _), ite_self]
    · simp only [s.setGrant_door_other named, List.mem_cons, Ne.symm named, false_or]

theorem State.grantAll_of_eq (s : State) (sets : List (Fin 4))
    (same : ∀ d ∈ sets, (s.door d).grant = g) : s.grantAll sets g = s := by
  induction sets with
  | nil => rfl
  | cons d sets ih =>
    obtain ⟨head, rest⟩ := List.forall_mem_cons.mp same
    rw [s.grantAll_cons, s.setGrant_of_eq head, ih rest]

theorem State.grantAll_keeps_cause (s : State) (sets : List (Fin 4)) (c : Cause)
    (h : s.lif.attention.has c = true) : (s.grantAll sets g).lif.attention.has c = true := by
  induction sets generalizing s with
  | nil => exact h
  | cons d sets ih => exact ih _ (s.setGrant_keeps_cause c h)

/-- R145, R147: each change of a grant sets attention cause DOOR. -/
theorem State.grantAll_raises_door (s : State) (sets : List (Fin 4))
    (change : ∃ d ∈ sets, (s.door d).grant ≠ g) :
    (s.grantAll sets g).lif.attention.has .door = true := by
  induction sets generalizing s with
  | nil => simp at change
  | cons d sets ih =>
    rw [s.grantAll_cons]
    by_cases same : (s.door d).grant = g
    · rw [s.setGrant_of_eq same]
      exact ih s (by simpa [same] using change)
    · exact State.grantAll_keeps_cause _ sets .door (s.setGrant_raises_door same)

/-- R149: the evaluations that follow the changes of several grants leave the outcome of one evaluation of
the conditions as they are in the end. From FREE they may pass through HELD to DELAY, so there the
statement asks for a condition in the end. -/
theorem State.grantAll_interlock (s : State) (sets : List (Fin 4))
    (change : ∃ d ∈ sets, (s.door d).grant ≠ g)
    (start : s.dmn.interlock ≠ .free ∨ (s.grantAll sets g).anyCondition = true) :
    (s.grantAll sets g).dmn.interlock = s.dmn.interlock.evaluated (s.grantAll sets g).anyCondition := by
  induction sets generalizing s with
  | nil => simp at change
  | cons d sets ih =>
    rw [s.grantAll_cons] at start ⊢
    by_cases same : (s.door d).grant = g
    · rw [s.setGrant_of_eq same] at start ⊢
      exact ih s (by simpa [same] using change) start
    · have head := s.setGrant_interlock same
      by_cases more : ∃ e ∈ sets, ((s.setGrant g d).door e).grant ≠ g
      · rw [ih _ more (start.imp_left fun h => head ▸ Interlock.evaluated_ne_free _ h), head,
          Interlock.evaluated_evaluated _ _ start]
      · rw [State.grantAll_of_eq _ sets (by simpa using more)]
        exact head

end

/-! ### Masks and moments (R145) -/

section
variable {s : State} {mask : Byte}

theorem State.doorMaskOk_iff : s.doorMaskOk mask.toNat = true ↔ s.NamesDoorSets mask := by
  have zero : mask.toNat ≠ 0 ↔ mask ≠ 0 :=
    not_congr ⟨fun h => BitVec.eq_of_toNat_eq h, congrArg BitVec.toNat⟩
  simp only [State.doorMaskOk, State.NamesDoorSets, Bool.and_eq_true, bne_iff_ne, zero,
    decide_eq_true_eq, List.all_eq_true, mem_objectsOf_toNat, and_assoc]

theorem State.releaseStanding_iff :
    s.releaseStanding (objectsOf 4 mask.toNat) = true ↔ s.standing = true ∧
      s.aboveWithdraw = false ∧
      ∀ d : Fin 4, mask.getLsbD d.val = true → (s.door d).st ≠ .emergency := by
  simp only [State.releaseStanding, Bool.and_eq_true, Bool.not_eq_true', List.all_eq_true,
    mem_objectsOf_toNat, bne_iff_ne, and_assoc]

end

/-! ### The grants of a mask (R145, R147) -/

section
variable {s : State} {mask : Byte}

theorem State.anyCondition_of_grant {d : Fin 4} (h : (s.door d).grant = true) :
    s.anyCondition = true := by
  have grants : s.condGrants = true := List.any_eq_true.mpr ⟨d, List.mem_finRange d, h⟩
  rw [State.anyCondition, grants, Bool.or_true]

/-- The sets of a mask whose grant is not `g` are those that a change to `g` changes. -/
theorem State.grantMask_changes {g : Bool}
    (change : ∃ d : Fin 4, mask.getLsbD d.val = true ∧ (s.door d).grant = !g) :
    ∃ d ∈ objectsOf 4 mask.toNat, (s.door d).grant ≠ g := by
  obtain ⟨d, named, grant⟩ := change
  exact ⟨d, (mem_objectsOf_toNat mask d).mpr named, by rw [grant]; exact Bool.not_ne_self g⟩

theorem State.grantMask_door (g : Bool) (d : Fin 4) :
    (s.grantAll (objectsOf 4 mask.toNat) g).door d =
      if mask.getLsbD d.val = true ∧ (s.door d).grant = !g then s.regranted g (s.door d)
      else s.door d := by
  rw [s.grantAll_door, ite_and]
  refine if_congr (mem_objectsOf_toNat mask d) ?_ rfl
  split
  case isTrue => rfl
  case isFalse same => exact s.regranted_of_eq (by simpa using same)

/-- R148: the output of a new grant is energised under the conditions of a release. -/
theorem State.grantMask_door_granted (running : s.mode.isRunning = true)
    (slow : s.aboveWithdraw = false)
    (calm : ∀ d : Fin 4, mask.getLsbD d.val = true → (s.door d).st ≠ .emergency) (d : Fin 4) :
    (s.grantAll (objectsOf 4 mask.toNat) true).door d =
      if mask.getLsbD d.val = true ∧ (s.door d).grant = false
      then { s.door d with grant := true, output := true } else s.door d := by
  refine (s.grantMask_door true d).trans (if_ctx_congr .rfl (fun new => ?_) fun _ => rfl)
  obtain ⟨named, grant⟩ := new
  have st : ((s.door d).st != .emergency) = true := bne_iff_ne.mpr (calm d named)
  rw [State.regranted, if_neg (by simp [grant]), slow, running, st]
  rfl

/-- R148: without a grant no output is energised. -/
theorem State.grantMask_door_withdrawn (d : Fin 4) :
    (s.grantAll (objectsOf 4 mask.toNat) false).door d =
      if mask.getLsbD d.val = true ∧ (s.door d).grant = true
      then { s.door d with grant := false, output := false } else s.door d := by
  refine (s.grantMask_door false d).trans (if_ctx_congr .rfl (fun held => ?_) fun _ => rfl)
  rw [State.regranted, if_neg (by simp [held.2])]
  simp only [Bool.false_and]

/-- R149: a new grant is itself a condition. -/
theorem State.grantMask_interlock_granted
    (change : ∃ d : Fin 4, mask.getLsbD d.val = true ∧ (s.door d).grant = false) :
    (s.grantAll (objectsOf 4 mask.toNat) true).dmn.interlock = s.dmn.interlock.evaluated true := by
  have condition : (s.grantAll (objectsOf 4 mask.toNat) true).anyCondition = true := by
    obtain ⟨d, named, -⟩ := change
    refine State.anyCondition_of_grant (d := d) ?_
    rw [s.grantAll_door, if_pos ((mem_objectsOf_toNat mask d).mpr named), s.regranted_grant]
  rw [s.grantAll_interlock _ (State.grantMask_changes change) (.inr condition), condition]

/-- R149: withdrawn grants leave HELD to the conditions that are left. -/
theorem State.grantMask_interlock_withdrawn
    (change : ∃ d : Fin 4, mask.getLsbD d.val = true ∧ (s.door d).grant = true)
    (held : s.dmn.interlock = .held) :
    (s.grantAll (objectsOf 4 mask.toNat) false).dmn.interlock =
      if (s.grantAll (objectsOf 4 mask.toNat) false).anyCondition then .held else .delay := by
  have notFree : s.dmn.interlock ≠ .free := held ▸ Interlock.noConfusion
  rw [s.grantAll_interlock _ (State.grantMask_changes (g := false) change) (.inl notFree), held]
  cases (s.grantAll (objectsOf 4 mask.toNat) false).anyCondition <;> rfl

end

/-! ### The requests -/

/-- A request that is served leaves the state of its service, with the reply begun (R195). -/
theorem live_served_effect {f : Frame} {ok : Nat → Bool} {p : List Byte} {k : Service} {s t : State}
    {x : Status} {items : List Byte} (ready : Ready f s) (m : s.mode ≠ .startup)
    (length : ok p.length = true) (h : k s = (t, x, items)) :
    live (State.request f (served false ok p k)) s = .next (t.replying f x items) := by
  rw [live_runs s _ ready.live, s.request_ready f _ ready, State.serve,
    served_ok s _ _ _ _ (.inl m) length, h]
  rfl

section
variable {s : State} {mask : Byte}

theorem releaseDoorsService_badMask (bad : ¬ s.NamesDoorSets mask) :
    releaseDoorsService mask.toNat s = (s, .refusedArg, []) :=
  if_pos (mt State.doorMaskOk_iff.mp bad)

section
variable (good : s.NamesDoorSets mask)
include good

theorem releaseDoorsService_notRunning (idle : s.mode.isRunning = false) :
    releaseDoorsService mask.toNat s = (s, .refusedMode, []) := by
  simp only [releaseDoorsService, State.doorMaskOk_iff.mpr good, idle, not_true, if_false,
    Bool.false_eq_true, not_false_eq_true, if_true]

theorem releaseDoorsService_running (running : s.mode.isRunning = true) :
    releaseDoorsService mask.toNat s =
      if s.releaseStanding (objectsOf 4 mask.toNat) then
        (s.grantAll (objectsOf 4 mask.toNat) true, .ok, [])
      else (s, .denied, []) := by
  simp only [releaseDoorsService, State.doorMaskOk_iff.mpr good, running, not_true, if_false]

end

theorem withdrawReleaseService_badMask (bad : ¬ s.NamesDoorSets mask) :
    withdrawReleaseService mask.toNat s = (s, .refusedArg, []) :=
  if_neg (mt State.doorMaskOk_iff.mp bad)

theorem withdrawReleaseService_goodMask (good : s.NamesDoorSets mask) :
    withdrawReleaseService mask.toNat s = (s.grantAll (objectsOf 4 mask.toNat) false, .ok, []) :=
  if_pos (State.doorMaskOk_iff.mpr good)

end

section
variable {s t : State} {tag mask : Byte} {x : Status} {items : List Byte}

theorem exec_releaseDoors_startup (ready : Ready ⟨0x1D, tag, [mask]⟩ s) (m : s.mode = .startup) :
    exec (.releaseDoors tag [mask]) s = .next (s.replying ⟨0x1D, tag, [mask]⟩ .refusedMode []) :=
  live_request_replying s _ _ _ _ ready (served_startup s _ _ _ m)

theorem exec_releaseDoors (ready : Ready ⟨0x1D, tag, [mask]⟩ s) (m : s.mode ≠ .startup)
    (h : releaseDoorsService mask.toNat s = (t, x, items)) :
    exec (.releaseDoors tag [mask]) s = .next (t.replying ⟨0x1D, tag, [mask]⟩ x items) :=
  live_served_effect ready m rfl h

theorem exec_withdrawRelease_startup (ready : Ready ⟨0x1E, tag, [mask]⟩ s) (m : s.mode = .startup) :
    exec (.withdrawRelease tag [mask]) s =
      .next (s.replying ⟨0x1E, tag, [mask]⟩ .refusedMode []) :=
  live_request_replying s _ _ _ _ ready (served_startup s _ _ _ m)

theorem exec_withdrawRelease (ready : Ready ⟨0x1E, tag, [mask]⟩ s) (m : s.mode ≠ .startup)
    (h : withdrawReleaseService mask.toNat s = (t, x, items)) :
    exec (.withdrawRelease tag [mask]) s = .next (t.replying ⟨0x1E, tag, [mask]⟩ x items) :=
  live_served_effect ready m rfl h

end

/-- A change of grants leaves the link to the reply. -/
theorem State.grantAll_replying_link (s : State) (sets : List (Fin 4)) (g : Bool) (f : Frame)
    (x : Status) (items : List Byte) :
    ((s.grantAll sets g).replying f x items).lif.link =
      { s.lif.link with tx := some (f.reply x items) } := by
  have link : (s.grantAll sets g).lif.link = s.lif.link := s.grantAll_only sets g .link (by decide)
  rw [State.replying_link, link]

theorem State.grantAll_replying_only (s : State) (sets : List (Fin 4)) (g : Bool) (f : Frame)
    (x : Status) (items : List Byte) :
    OnlyChanges [.dmn, .attention, .link] s ((s.grantAll sets g).replying f x items) :=
  (s.grantAll_only sets g).andThen (State.modLif_only _ _ fun _ => rfl)

/-- Settles O33: the refusals are the checks of the two services in their order, and what passes them is
`State.grantAll` with the reply, whose effect on a list of sets is said by the lemmas above. -/
theorem releaseIsGrantedAndWithdrawn : Obligations.ReleaseIsGrantedAndWithdrawn := by
  refine ⟨fun s tag mask ready => ?release, fun s tag mask ready => ?withdraw⟩
  case release =>
    have notStartup (running : s.mode.isRunning = true) : s.mode ≠ .startup :=
      fun startup => by rw [startup] at running; cases running
    refine ⟨exec_releaseDoors_startup ready,
      fun m bad => exec_releaseDoors ready m (releaseDoorsService_badMask bad),
      fun m good idle => exec_releaseDoors ready m (releaseDoorsService_notRunning good idle),
      fun good running obstacle => exec_releaseDoors ready (notStartup running) ?denied,
      fun good running standing slow calm => ?granted⟩
    case denied =>
      refine (releaseDoorsService_running good running).trans (if_neg fun allowed => ?_)
      obtain ⟨standing, slow, calm⟩ := State.releaseStanding_iff.mp allowed
      obtain moving | fast | ⟨d, named, emergency⟩ := obstacle
      · exact Bool.false_ne_true (moving.symm.trans standing)
      · exact Bool.false_ne_true (slow.symm.trans fast)
      · exact calm d named emergency
    case granted =>
      have effect := (releaseDoorsService_running good running).trans
        (if_pos (State.releaseStanding_iff.mpr ⟨standing, slow, calm⟩))
      refine ⟨_, exec_releaseDoors ready (notStartup running) effect,
        State.grantMask_door_granted running slow calm,
        fun change => ⟨s.grantAll_raises_door _ (State.grantMask_changes change),
          (State.grantMask_interlock_granted change).trans ?interlock⟩,
        s.grantAll_replying_link .., s.grantAll_replying_only _ _ _ _ _⟩
      case interlock => cases s.dmn.interlock <;> rfl
  case withdraw =>
    refine ⟨exec_withdrawRelease_startup ready,
      fun m bad => exec_withdrawRelease ready m (withdrawReleaseService_badMask bad),
      fun m good => ⟨_, exec_withdrawRelease ready m (withdrawReleaseService_goodMask good),
        State.grantMask_door_withdrawn,
        fun change => ⟨s.grantAll_raises_door _ (State.grantMask_changes change),
          State.grantMask_interlock_withdrawn change⟩,
        s.grantAll_replying_link .., s.grantAll_replying_only _ _ _ _ _⟩⟩

end Sys2Proof.Machine
end

section
/-! PROOFS. What a report makes of the fault table (R158 to R160): the slot that a new entry takes, the
candidate of a full table, and the branches of a report. -/

namespace Sys2Proof.Machine

/-! ### The entry of a code -/

section
variable {m : Fmy} {c : FaultCode}

theorem Fmy.position_eq_none_iff : m.position c = none ↔ ∀ e ∈ m.table, e.code ≠ c := by
  simp [Fmy.position]

theorem Fmy.code_of_position {i : Nat} {e : FaultEntry} (found : m.position c = some i)
    (h : m.table[i]? = some e) : e.code = c := by
  obtain ⟨_, code, -⟩ := List.findIdx?_eq_some_iff_getElem.mp found
  obtain ⟨_, rfl⟩ := List.getElem?_eq_some_iff.mp h
  exact beq_iff_eq.mp code

theorem Fmy.exists_of_position {i : Nat} (found : m.position c = some i) :
    ∃ e, m.table[i]? = some e := by
  obtain ⟨inside, -⟩ := List.findIdx?_eq_some_iff_getElem.mp found
  exact ⟨_, List.getElem?_eq_getElem inside⟩

end

/-! ### The slot of a new entry (R164) -/

section
variable (m : Fmy)

theorem Fmy.owns_eq_true_iff (n : Fin 48) : m.owns n = true ↔ ∃ x ∈ m.table, x.slot = n := by
  simp [Fmy.owns]

theorem Fmy.owns_eq_false_iff (n : Fin 48) : m.owns n = false ↔ ∀ x ∈ m.table, x.slot ≠ n := by
  simp [Fmy.owns]

/-- Fewer than 48 entries cannot own 48 slots. -/
theorem Fmy.exists_free_slot (room : m.table.length < 48) : ∃ n, m.owns n = false := by
  have fewer : (m.table.map (·.slot)).toFinset.card < (Finset.univ : Finset (Fin 48)).card := by
    have owners := (m.table.map (·.slot)).toFinset_card_le
    rw [List.length_map] at owners
    simpa using owners.trans_lt room
  obtain ⟨n, -, free⟩ := Finset.exists_mem_notMem_of_card_lt_card fewer
  exact ⟨n, (m.owns_eq_false_iff n).mpr (by simpa using free)⟩

/-- The two ways in which a slot is found: the free slot of the former code, or the lowest free slot. -/
theorem Fmy.slotFor_cases {c : FaultCode} {k : Fin 48} (room : m.table.length < 48)
    (taken : m.slotFor c = k) :
    m.owns k = false ∧
      (m.formers[k] = some c ∨
        (∀ n : Fin 48, m.formers[n] = some c → m.owns n = true) ∧ ∀ n < k, m.owns n = true) := by
  simp only [Fmy.slotFor, ← Fin.find?_eq_find?_finRange] at taken
  split at taken
  case h_1 n former =>
    subst taken
    obtain ⟨here, -⟩ := Fin.find?_eq_some_iff.mp former
    simp only [Bool.and_eq_true, beq_iff_eq, Bool.not_eq_true'] at here
    exact ⟨here.2, .inl here.1⟩
  case h_2 noFormer =>
    have owned : ∀ n : Fin 48, m.formers[n] = some c → m.owns n = true := by
      simpa [Fin.find?_eq_none_iff] using noFormer
    cases lowest : Fin.find? fun n => !m.owns n with
    | none =>
      obtain ⟨n, free⟩ := m.exists_free_slot room
      simpa [free] using Fin.find?_eq_none_iff.mp lowest n
    | some n =>
      rw [lowest, Option.getD_some] at taken
      subst taken
      obtain ⟨here, below⟩ := Fin.find?_eq_some_iff.mp lowest
      exact ⟨by simpa using here, .inr ⟨owned, by simpa using below⟩⟩

section
variable {m} {c : FaultCode} (room : m.table.length < 48)
include room

theorem Fmy.slotFor_free : ∀ x ∈ m.table, x.slot ≠ m.slotFor c :=
  (m.owns_eq_false_iff _).mp (m.slotFor_cases room rfl).1

/-- A slot that alone has the code as its former code is taken again while it is free. -/
theorem Fmy.slotFor_of_former {n : Fin 48} (former : m.formers[n] = some c)
    (free : ∀ x ∈ m.table, x.slot ≠ n) (only : ∀ j : Fin 48, j ≠ n → m.formers[j] ≠ some c) :
    m.slotFor c = n := by
  obtain ⟨-, here | ⟨owned, -⟩⟩ := m.slotFor_cases room rfl
  · by_contra other
    exact only _ other here
  · obtain ⟨x, hx, slot⟩ := (m.owns_eq_true_iff n).mp (owned n former)
    exact absurd slot (free x hx)

/-- Where no free slot has the code as its former code, every slot below the one taken has an owner. -/
theorem Fmy.slotFor_lowest
    (gone : ∀ n : Fin 48, m.formers[n] = some c → ∃ x ∈ m.table, x.slot = n) (n : Fin 48)
    (below : n < m.slotFor c) : ∃ x ∈ m.table, x.slot = n := by
  obtain ⟨-, here | ⟨-, lowest⟩⟩ := m.slotFor_cases room rfl
  · obtain ⟨x, hx, slot⟩ := gone _ here
    exact absurd slot (Fmy.slotFor_free room x hx)
  · exact (m.owns_eq_true_iff n).mp (lowest n below)

end
end

/-! ### The replacement candidate (R159) -/

/-- R159: the entry `x` at `i` gives way before the entry `y` at `j`: lower priority, then higher aging, then
earlier position. -/
def GivesWay (x : FaultEntry) (i : Nat) (y : FaultEntry) (j : Nat) : Prop :=
  x.priority < y.priority ∨
    (x.priority = y.priority ∧ (y.aging < x.aging ∨ (y.aging = x.aging ∧ i < j)))

/-- Of entries with their positions, an INACTIVE one before which no other INACTIVE one gives way. -/
structure IsCandidate (l : List (FaultEntry × Nat)) (i : Nat) (x : FaultEntry) : Prop where
  mem : (x, i) ∈ l
  inactive : x.active = false
  first : ∀ q ∈ l, q.1.active = false → ¬ GivesWay q.1 q.2 x i

section
variable {x y z : FaultEntry} {i j k : Nat}

theorem GivesWay.irrefl : ¬ GivesWay x i x i := by
  unfold GivesWay
  omega

theorem GivesWay.trans (h : GivesWay x i y j) (h' : GivesWay y j z k) : GivesWay x i z k := by
  unfold GivesWay at *
  omega

/-- The model compares an entry with one behind it, so that position decides last. -/
theorem givesWayBefore_iff (behind : i < j) : x.givesWayBefore y = true ↔ GivesWay x i y j := by
  simp only [FaultEntry.givesWayBefore, GivesWay, Bool.or_eq_true, Bool.and_eq_true, beq_iff_eq,
    decide_eq_true_eq]
  omega

end

section
variable {l : List FaultEntry}

theorem active_of_candidateFrom_eq_none {k : Nat} (h : candidateFrom l k = none) :
    ∀ e ∈ l, e.active = true := by
  induction l generalizing k with
  | nil => simp
  | cons e rest ih =>
    unfold candidateFrom at h
    split at h
    case h_1 => split at h <;> cases h
    case h_2 none =>
      split at h
      case isTrue active => exact List.forall_mem_cons.mpr ⟨active, ih none⟩
      case isFalse => cases h

/-- The candidate of the rest of a table stays it unless the entry in front gives way before it. -/
theorem candidateFrom_isCandidate {k i : Nat} {x : FaultEntry}
    (h : candidateFrom l k = some (i, x)) : IsCandidate (l.zipIdx k) i x := by
  induction l generalizing k i x with
  | nil => cases h
  | cons e rest ih =>
    rw [List.zipIdx_cons]
    unfold candidateFrom at h
    split at h
    case h_1 j b found =>
      have best := ih found
      have front : (!e.active && e.givesWayBefore b) = true ↔
          e.active = false ∧ GivesWay e k b j := by
        rw [Bool.and_eq_true, Bool.not_eq_true',
          givesWayBefore_iff (List.le_snd_of_mem_zipIdx best.mem)]
      split at h
      case isTrue gives =>
        cases h
        obtain ⟨inactive, ahead⟩ := front.mp gives
        exact ⟨List.mem_cons_self, inactive, List.forall_mem_cons.mpr ⟨fun _ => GivesWay.irrefl,
          fun q hq quiet before => best.first q hq quiet (before.trans ahead)⟩⟩
      case isFalse stays =>
        cases h
        exact ⟨List.mem_cons_of_mem _ best.mem, best.inactive,
          List.forall_mem_cons.mpr ⟨fun quiet before => stays (front.mpr ⟨quiet, before⟩), best.first⟩⟩
    case h_2 none =>
      have active := active_of_candidateFrom_eq_none none
      split at h
      case isTrue => cases h
      case isFalse front =>
        cases h
        refine ⟨List.mem_cons_self, Bool.eq_false_iff.mpr front,
          List.forall_mem_cons.mpr ⟨fun _ => GivesWay.irrefl, fun q hq quiet => ?_⟩⟩
        exact absurd quiet (by simp [active _ (List.fst_mem_of_mem_zipIdx hq)])

/-- An INACTIVE entry that gives way before every other one is the candidate. -/
theorem candidateFrom_eq_some {i : Nat} {x : FaultEntry} (hx : l[i]? = some x)
    (quiet : x.active = false)
    (before : ∀ j y, l[j]? = some y → y.active = false → j ≠ i → GivesWay x i y j) :
    candidateFrom l 0 = some (i, x) := by
  cases found : candidateFrom l 0 with
  | none =>
    have active := active_of_candidateFrom_eq_none found x (List.mem_of_getElem? hx)
    exact absurd quiet (by simp [active])
  | some best =>
    obtain ⟨j, b⟩ := best
    obtain ⟨mem, inactive, first⟩ := candidateFrom_isCandidate found
    have hb := List.mk_mem_zipIdx_iff_getElem?.mp mem
    by_cases same : j = i
    · subst same
      rw [Option.some.inj (hb.symm.trans hx)]
    · exact absurd (before j b hb inactive same)
        (first (x, i) (List.mk_mem_zipIdx_iff_getElem?.mpr hx) quiet)

end

/-! ### Entries changed, removed and created -/

section
variable (s : State)

@[simp] theorem Fmy.dirty_write (m : Fmy) (n : Fin 48) : (m.dirty n).write = m.write := by
  unfold Fmy.dirty; split <;> [rfl; (split <;> rfl)]

@[simp] theorem Fmy.dirty_counters (m : Fmy) (n : Fin 48) : (m.dirty n).counters = m.counters := by
  unfold Fmy.dirty; split <;> [rfl; (split <;> rfl)]

@[simp] theorem State.tableChanged_fmy (n : Fin 48) : (s.tableChanged n).fmy = s.fmy.dirty n := rfl

theorem State.changeEntry_formers (i : Nat) (f : FaultEntry → FaultEntry) :
    (s.changeEntry i f).fmy.formers = s.fmy.formers := by
  unfold State.changeEntry
  split <;> simp

theorem State.removeEntry_stamp (i : Nat) : (s.removeEntry i).stamp = s.stamp := by
  have counters : (s.removeEntry i).fmy.counters = s.fmy.counters := by
    unfold State.removeEntry
    split <;> simp
  simp only [State.stamp, State.counter, counters]

section
variable {s} {i : Nat} {e : FaultEntry} (h : s.fmy.table[i]? = some e)
include h

theorem State.changeEntry_table_set (f : FaultEntry → FaultEntry) :
    (s.changeEntry i f).fmy.table = s.fmy.table.set i (f e) := by
  simp [s.changeEntry_table, List.modify_eq_set_getElem?, h]

/-- R163, R165: the slot of a removed entry is on the list, or in flight and marked. -/
theorem State.removeEntry_covers : e.slot ∈ (s.removeEntry i).fmy.writes ∨
    ((s.removeEntry i).fmy.write.slotNo = some e.slot ∧ (s.removeEntry i).fmy.reappend = true) := by
  simp only [State.removeEntry, h, State.modWsv_fmy, State.tableChanged_fmy, Fmy.dirty_write]
  exact (Fmy.dirty_covers _ e.slot).symm

end

/-- R157, R158: what a new entry holds, and the former code that its slot loses. -/
theorem State.createEntry_new (c : FaultCode) (p : Nat) (n : Fin 48) :
    ∃ e, (s.createEntry c p n).fmy.table = s.fmy.table ++ [e] ∧
      (s.createEntry c p n).fmy.formers = s.fmy.formers.set e.slot none ∧ e.code = c ∧
      e.priority = p ∧ e.active = true ∧ e.occurrences = 1 ∧ e.aging = 0 ∧ e.first = s.stamp ∧
      e.last = s.stamp ∧ e.snapshot.isSome = c.sourceClass.hasSnapshot ∧ e.slot = n := by
  obtain ⟨e, table, code, priority, active, occurrences, aging, first, last, rfl, snapshot, -⟩ :=
    s.createEntry_table c p n
  refine ⟨e, table, s.createEntry_formers c p e.slot, code, priority, active, occurrences, aging,
    first, last, ?_, rfl⟩
  rw [snapshot]
  cases c.sourceClass.hasSnapshot <;> rfl

/-- R159: a replacement puts the new entry behind the others, in the slot of the entry removed. -/
theorem State.replaceEntry_new {i : Nat} {x : FaultEntry} (h : s.fmy.table[i]? = some x)
    (c : FaultCode) (p : Nat) :
    ∃ e, ((s.removeEntry i).createEntry c p x.slot).fmy.table = s.fmy.table.eraseIdx i ++ [e] ∧
      ((s.removeEntry i).createEntry c p x.slot).fmy.formers = s.fmy.formers.set x.slot none ∧
      e.code = c ∧ e.priority = p ∧ e.active = true ∧ e.occurrences = 1 ∧ e.aging = 0 ∧
      e.first = s.stamp ∧ e.last = s.stamp ∧ e.snapshot.isSome = c.sourceClass.hasSnapshot ∧
      e.slot = x.slot := by
  obtain ⟨e, table, -, entry⟩ := (s.removeEntry i).createEntry_new c p x.slot
  rw [s.removeEntry_table] at table
  rw [s.removeEntry_stamp] at entry
  refine ⟨e, table, ?_, entry⟩
  rw [State.createEntry_formers, s.removeEntry_formers i x h, Vector.set_set]

/-! ### The branches of a report (R158 to R160) -/

section
variable {s} {c : FaultCode} {i : Nat} {e : FaultEntry} (found : s.fmy.position c = some i)
  (h : s.fmy.table[i]? = some e)
include found h

theorem State.activeReport_present (p : Nat) : s.activeReport c p =
    if e.active then s else s.changeEntry i (FaultEntry.reactivate s.stamp) := by
  simp [State.activeReport, found, h]

theorem State.clearedReport_present : s.clearedReport c =
    if e.active then s.changeEntry i fun e => { e with active := false } else s := by
  simp [State.clearedReport, found, h]

end

section
variable {s} {c : FaultCode} {p : Nat} (absent : ∀ e ∈ s.fmy.table, e.code ≠ c)
include absent

theorem State.clearedReport_absent : s.clearedReport c = s := by
  simp [State.clearedReport, Fmy.position_eq_none_iff.mpr absent]

theorem State.activeReport_room (room : s.fmy.table.length < 48) :
    s.activeReport c p = s.createEntry c p (s.fmy.slotFor c) := by
  simp [State.activeReport, Fmy.position_eq_none_iff.mpr absent, maxEntries, room]

section
variable (full : s.fmy.table.length = 48)
include full

theorem State.activeReport_candidate {i : Nat} {x : FaultEntry}
    (candidate : candidateFrom s.fmy.table 0 = some (i, x)) : s.activeReport c p =
      if x.priority ≤ p then (s.removeEntry i).createEntry c p x.slot else s.reportLost := by
  simp [State.activeReport, Fmy.position_eq_none_iff.mpr absent, maxEntries, full, candidate]

/-- R159: the report is lost where every entry is ACTIVE or of a higher priority. -/
theorem State.activeReport_lost (held : ∀ x ∈ s.fmy.table, x.active = true ∨ p < x.priority) :
    s.activeReport c p = s.reportLost := by
  cases found : candidateFrom s.fmy.table 0 with
  | none =>
    simp [State.activeReport, Fmy.position_eq_none_iff.mpr absent, maxEntries, full, found]
  | some best =>
    obtain ⟨i, x⟩ := best
    obtain ⟨mem, inactive, -⟩ := candidateFrom_isCandidate found
    have above : p < x.priority :=
      (held x (List.fst_mem_of_mem_zipIdx mem)).resolve_left (by simp [inactive])
    rw [State.activeReport_candidate absent full found, if_neg above.not_ge]

end
end
end

/-- Settles O52: one clause per branch of a report, with the slot and the candidate as said above. -/
theorem reportsChangeTheFaultTable : Obligations.ReportsChangeTheFaultTable := by
  refine ⟨⟨fun s c p i e found h => ?present, fun s c p absent room => ?room,
    fun s c p absent full => ⟨fun i x hx quiet low before => ?replaced, fun held => ?lost⟩⟩,
    fun s c i e found h active => ?cleared, fun s c inactive => ?unchanged, fun s i e h => ?removed⟩
  case present =>
    rw [State.activeReport_present found h p]
    refine ⟨fun active => if_pos active, fun quiet => ?_⟩
    rw [if_neg (by simp [quiet])]
    exact ⟨State.changeEntry_table_set h _, s.changeEntry_formers i _⟩
  case room =>
    rw [State.activeReport_room absent room]
    obtain ⟨e, table, formers, code, priority, active, occurrences, aging, first, last, snapshot,
      slot⟩ := s.createEntry_new c p (s.fmy.slotFor c)
    refine ⟨e, table, formers, code, priority, active, occurrences, aging, first, last, snapshot, ?_⟩
    rw [slot]
    exact ⟨Fmy.slotFor_free room, fun _ => Fmy.slotFor_of_former room, Fmy.slotFor_lowest room⟩
  case replaced =>
    rw [State.activeReport_candidate absent full (candidateFrom_eq_some hx quiet before),
      if_pos low]
    exact s.replaceEntry_new hx c p
  case lost =>
    rw [State.activeReport_lost absent full held]
    exact ⟨rfl, rfl⟩
  case cleared =>
    rw [State.clearedReport_present found h, if_pos active]
    exact ⟨State.changeEntry_table_set h _, s.changeEntry_formers i _⟩
  case unchanged =>
    cases found : s.fmy.position c with
    | none => exact State.clearedReport_absent (Fmy.position_eq_none_iff.mp found)
    | some i =>
      obtain ⟨e, h⟩ := Fmy.exists_of_position found
      have quiet := inactive e (List.mem_of_getElem? h) (Fmy.code_of_position found h)
      rw [State.clearedReport_present found h, if_neg (by simp [quiet])]
  case removed =>
    exact ⟨s.removeEntry_table i, s.removeEntry_formers i e h, State.removeEntry_covers h⟩

end Sys2Proof.Machine
end

section
/-! PROOFS. CLEAR_FAULTS (R188, R172): the removal of the entries that a test picks, as a run over the table,
and what it leaves of the table, the cursor and the slots; RESET_COUNTER (R189). -/

namespace Sys2Proof.Machine

/-! ### The removal of one entry (R163 to R165, R186) -/

/-- R165: the write of a slot is still to come: the slot is on the list, or in flight and marked. -/
def Fmy.Covers (m : Fmy) (n : Fin 48) : Prop :=
  n ∈ m.writes ∨ (m.write.slotNo = some n ∧ m.reappend = true)

theorem Fmy.Covers.dirty {m : Fmy} {n : Fin 48} (h : m.Covers n) (j : Fin 48) :
    (m.dirty j).Covers n := by
  unfold Fmy.dirty
  split
  case isTrue inFlight => exact h.imp_right fun marked => ⟨marked.1, rfl⟩
  case isFalse =>
    split
    case isTrue listed => exact h
    case isFalse => exact h.imp_left fun listed => List.mem_append_left _ listed

section
variable (s : State) (i : Nat)

theorem State.removeEntry_write : (s.removeEntry i).fmy.write = s.fmy.write := by
  unfold State.removeEntry
  split <;> simp

theorem State.removeEntry_keeps_covers {n : Fin 48} (h : s.fmy.Covers n) :
    (s.removeEntry i).fmy.Covers n := by
  unfold State.removeEntry
  split
  case h_1 => exact h
  case h_2 e found =>
    rw [State.modWsv_fmy, State.tableChanged_fmy, State.modFmy_fmy]
    refine Fmy.Covers.dirty ?_ e.slot
    exact h

/-- R186: a removal below the cursor lowers it by one. -/
theorem State.removeEntry_cursor {e : FaultEntry} (h : s.fmy.table[i]? = some e) :
    (s.removeEntry i).wsv.cursor =
      if i < s.wsv.cursor then s.wsv.cursor - 1 else s.wsv.cursor := by
  simp only [State.removeEntry, h]
  exact apply_ite Wsv.cursor ..

end

/-! ### The removal of every entry that a test picks -/

/-- A run of `removeWhere` from one state to another: the entries before the run's place are kept, those from
it on are still to be looked at. -/
inductive Removal (pick : FaultEntry → Bool) :
    List FaultEntry → List FaultEntry → State → State → Prop
  | done {kept : List FaultEntry} {s : State} (table : s.fmy.table = kept) : Removal pick kept [] s s
  | remove {kept rest : List FaultEntry} {e : FaultEntry} {s t : State}
      (table : s.fmy.table = kept ++ e :: rest) (picked : pick e = true)
      (run : Removal pick kept rest (s.removeEntry kept.length) t) : Removal pick kept (e :: rest) s t
  | keep {kept rest : List FaultEntry} {e : FaultEntry} {s t : State}
      (table : s.fmy.table = kept ++ e :: rest) (stays : pick e = false)
      (run : Removal pick (kept ++ [e]) rest s t) : Removal pick kept (e :: rest) s t

section
variable {pick : FaultEntry → Bool} {kept rest : List FaultEntry} {e : FaultEntry} {s t : State}

theorem getElem?_of_table (table : s.fmy.table = kept ++ e :: rest) :
    s.fmy.table[kept.length]? = some e := by simp [table]

theorem removeWhere_removal (table : s.fmy.table = kept ++ rest) :
    Removal pick kept rest s (removeWhere pick rest.length kept.length s) := by
  induction rest generalizing kept s with
  | nil => exact .done (by simpa using table)
  | cons e rest ih =>
    simp only [List.length_cons, removeWhere, getElem?_of_table table]
    split
    case isTrue picked =>
      exact .remove table picked
        (ih (by simp [s.removeEntry_table, table, List.eraseIdx_append_of_length_le]))
    case isFalse stays =>
      have run := ih (kept := kept ++ [e]) (s := s) (by simp [table])
      rw [List.length_append] at run
      exact .keep table (Bool.eq_false_iff.mpr stays) run

theorem State.removeEntries_removal (s : State) :
    Removal pick [] s.fmy.table s (s.removeEntries pick) := removeWhere_removal rfl

namespace Removal

theorem table_eq (h : Removal pick kept rest s t) :
    t.fmy.table = kept ++ rest.filter fun e => !pick e := by
  induction h with
  | done table => simpa using table
  | remove table picked run ih => simpa [picked] using ih
  | keep table stays run ih => simpa [stays] using ih

theorem write_eq (h : Removal pick kept rest s t) : t.fmy.write = s.fmy.write := by
  induction h with
  | done => rfl
  | remove table picked run ih => exact ih.trans (State.removeEntry_write _ _)
  | keep table stays run ih => exact ih

/-- R186: the cursor falls by the number of entries removed before it. -/
theorem cursor_eq (h : Removal pick kept rest s t) :
    t.wsv.cursor =
      s.wsv.cursor - ((rest.take (s.wsv.cursor - kept.length)).filter pick).length := by
  induction h with
  | done => simp
  | @remove kept rest e s t table picked run ih =>
    rw [ih, s.removeEntry_cursor _ (getElem?_of_table table)]
    split
    case isTrue below =>
      obtain ⟨d, cursor⟩ := Nat.exists_eq_add_of_lt below
      have after : s.wsv.cursor - 1 - kept.length = d := by omega
      have before : s.wsv.cursor - kept.length = d + 1 := by omega
      simp only [after, before, List.take_succ_cons, List.filter_cons, picked, if_true,
        List.length_cons]
      omega
    case isFalse above => simp [Nat.sub_eq_zero_of_le (not_lt.mp above)]
  | @keep kept rest e s t table stays run ih =>
    rw [ih, List.length_append, List.length_singleton]
    cases before : s.wsv.cursor - kept.length with
    | zero => simp [show s.wsv.cursor - (kept.length + 1) = 0 by omega]
    | succ d => simp [show s.wsv.cursor - (kept.length + 1) = d by omega, stays]

theorem keeps_covers {n : Fin 48} (h : Removal pick kept rest s t) (covered : s.fmy.Covers n) :
    t.fmy.Covers n := by
  induction h with
  | done => exact covered
  | remove table picked run ih => exact ih (State.removeEntry_keeps_covers _ _ covered)
  | keep table stays run ih => exact ih covered

/-- R163, R165: the slot of every entry removed is dirtied. -/
theorem covers (h : Removal pick kept rest s t) :
    ∀ e ∈ rest, pick e = true → t.fmy.Covers e.slot := by
  induction h with
  | done => exact fun e he => absurd he List.not_mem_nil
  | remove table picked run ih =>
    exact List.forall_mem_cons.mpr
      ⟨fun _ => run.keeps_covers (State.removeEntry_covers (getElem?_of_table table)), ih⟩
  | keep table stays run ih =>
    exact List.forall_mem_cons.mpr
      ⟨fun picked => absurd (stays.symm.trans picked) Bool.false_ne_true, ih⟩

/-- R164: the slots of other entries keep their former codes. -/
theorem formers_other {n : Fin 48} (h : Removal pick kept rest s t)
    (other : n ∉ rest.map (·.slot)) : t.fmy.formers[n] = s.fmy.formers[n] := by
  induction h with
  | done => rfl
  | @remove kept rest e s t table picked run ih =>
    rw [List.map_cons, List.mem_cons, not_or] at other
    rw [ih other.2, s.removeEntry_formers _ e (getElem?_of_table table)]
    exact Vector.getElem_set_ne _ _ fun same => other.1 (Fin.ext same.symm)
  | keep table stays run ih => exact ih fun later => other (List.mem_cons_of_mem _ later)

/-- R164: an entry removed leaves its code to its slot, where no two entries own one slot. -/
theorem formers_eq (h : Removal pick kept rest s t) (distinct : (rest.map (·.slot)).Nodup) :
    ∀ e ∈ rest, pick e = true → t.fmy.formers[e.slot] = some e.code := by
  induction h with
  | done => exact fun e he => absurd he List.not_mem_nil
  | @remove kept rest e s t table picked run ih =>
    obtain ⟨head, tail⟩ := List.nodup_cons.mp distinct
    refine List.forall_mem_cons.mpr ⟨fun _ => ?_, ih tail⟩
    rw [run.formers_other head, s.removeEntry_formers _ e (getElem?_of_table table)]
    exact Vector.getElem_set_self _
  | keep table stays run ih =>
    exact List.forall_mem_cons.mpr
      ⟨fun picked => absurd (stays.symm.trans picked) Bool.false_ne_true, ih distinct.of_cons⟩

end Removal
end

/-! ### The clear (R172) -/

@[simp] theorem Write.outdate_slotNo (freed : List (Fin 48)) (w : Write) :
    (w.outdate freed).slotNo = w.slotNo := by cases w <;> rfl

/-- The slots that a clear of a set of classes frees, in the order of the table. -/
def Fmy.freedBy (m : Fmy) (pick : SourceClass → Bool) : List (Fin 48) :=
  (m.table.filter fun e => pick e.code.sourceClass).map (·.slot)

section
variable (s : State) (pick : SourceClass → Bool)

/-- The two outcomes: a clear that frees no slot is done, and any other is in flight with its slots. -/
theorem State.clearClasses_cases :
    let r := s.removeEntries fun e => pick e.code.sourceClass
    (s.fmy.freedBy pick = [] ∧ s.clearClasses pick = r.clearDone) ∨
    (s.fmy.freedBy pick ≠ [] ∧ s.clearClasses pick = r.modFmy fun m =>
      { m with clear := some (s.fmy.freedBy pick), write := m.write.outdate (s.fmy.freedBy pick) }) := by
  by_cases empty : s.fmy.freedBy pick = []
  · exact .inl ⟨empty, if_pos (List.isEmpty_iff.mpr empty)⟩
  · exact .inr ⟨empty, if_neg (mt List.isEmpty_iff.mp empty)⟩

theorem State.clearClasses_clear :
    (s.clearClasses pick).fmy.clear =
      if s.fmy.freedBy pick = [] then none else some (s.fmy.freedBy pick) := by
  obtain ⟨empty, e⟩ | ⟨freed, e⟩ := s.clearClasses_cases pick <;> rw [e]
  · exact (if_pos empty).symm
  · exact (if_neg freed).symm

theorem State.clearClasses_opdone (done : (s.clearClasses pick).fmy.clear = none) :
    (s.clearClasses pick).lif.attention.opdone = true := by
  obtain ⟨empty, e⟩ | ⟨freed, e⟩ := s.clearClasses_cases pick
  · rw [e]; rfl
  · rw [s.clearClasses_clear, if_neg freed] at done
    cases done

/-- The bookkeeping of the clear leaves the table, the formers and the cursor of the removal. -/
theorem State.clearClasses_removal :
    let r := s.removeEntries fun e => pick e.code.sourceClass
    (s.clearClasses pick).fmy.table = r.fmy.table ∧
      (s.clearClasses pick).fmy.formers = r.fmy.formers ∧
      (s.clearClasses pick).wsv.cursor = r.wsv.cursor ∧
      ∀ n, r.fmy.Covers n → (s.clearClasses pick).fmy.Covers n := by
  obtain ⟨-, e⟩ | ⟨-, e⟩ := s.clearClasses_cases pick <;> rw [e]
  · exact ⟨rfl, rfl, rfl, fun _ h => h⟩
  · exact ⟨rfl, rfl, rfl, fun _ h =>
      h.imp_right fun marked => ⟨(Write.outdate_slotNo _ _).trans marked.1, marked.2⟩⟩

theorem State.clearClasses_link : (s.clearClasses pick).lif.link = s.lif.link :=
  s.clearClasses_only pick .link (by decide)

end

/-! ### The requests -/

/-- A workshop request that is served leaves the state of its service, with the reply begun (R195). -/
theorem live_servedInWorkshop_effect {f : Frame} {ok : Nat → Bool} {p : List Byte} {k : Service}
    {s t : State} {x : Status} {items : List Byte} (ready : Ready f s) (m : s.mode = .workshop)
    (length : ok p.length = true) (h : k s = (t, x, items)) :
    live (State.request f (servedInWorkshop ok p k)) s = .next (t.replying f x items) := by
  rw [live_runs s _ ready.live, s.request_ready f _ ready, State.serve,
    servedInWorkshop_ok s _ _ _ m length, h]
  rfl

section
variable {s t : State} {tag hi lo : Byte} {x : Status} {items : List Byte}

theorem exec_clearFaults (ready : Ready ⟨0x74, tag, [hi, lo]⟩ s) (m : s.mode = .workshop)
    (h : clearFaultsService (256 * hi.toNat + lo.toNat) s = (t, x, items)) :
    exec (.clearFaults tag [hi, lo]) s = .next (t.replying ⟨0x74, tag, [hi, lo]⟩ x items) :=
  live_servedInWorkshop_effect ready m rfl h

theorem exec_resetCounter (ready : Ready ⟨0x75, tag, [lo]⟩ s) (m : s.mode = .workshop)
    (h : resetCounterService [lo] s = (t, x, items)) :
    exec (.resetCounter tag [lo]) s = .next (t.replying ⟨0x75, tag, [lo]⟩ x items) :=
  live_servedInWorkshop_effect ready m rfl h

theorem clearFaultsService_badMask (bad : lo = 0 ∨ hi ≠ 0) :
    clearFaultsService (256 * hi.toNat + lo.toNat) s = (s, .refusedArg, []) := by
  refine if_pos ?_
  by_cases high : hi = 0
  · obtain rfl := bad.resolve_right (not_not.mpr high)
    exact .inl (by simp [high])
  · have : hi.toNat ≠ 0 := fun zero => high (BitVec.eq_of_toNat_eq zero)
    omega

/-- With a mask in range the answer turns on a clear in flight. -/
theorem clearFaultsService_goodMask (named : lo ≠ 0) (range : hi = 0) :
    clearFaultsService (256 * hi.toNat + lo.toNat) s =
      if s.clearInFlight then (s, .busy, [])
      else (s.clearClasses fun c => lo.getLsbD c.code, .accepted, []) := by
  have value : 256 * hi.toNat + lo.toNat = lo.toNat := by simp [range]
  have inRange : ¬ (lo.toNat = 0 ∨ 256 ≤ lo.toNat) :=
    not_or.mpr ⟨fun zero => named (BitVec.eq_of_toNat_eq zero), lo.isLt.not_ge⟩
  simp only [value, clearFaultsService, if_neg inRange, bitOf_toNat]

theorem resettable_iff (c : Fin 12) :
    resettable c = true ↔ c ≠ ignitionPlace ∧ c ≠ minutePlace := by simp [resettable]

theorem resetCounterService_resettable {c : Fin 12} (place : lo.toNat = c.val)
    (ignition : c ≠ ignitionPlace) (minute : c ≠ minutePlace) :
    resetCounterService [lo] s = (s.resetCounter c, .ok, u32 (s.counter c)) := by
  have index : finOf 12 (rd8 [lo] 0) = some c := finOf_eq_some_iff.mpr place
  simp only [resetCounterService, index, if_pos ((resettable_iff c).mpr ⟨ignition, minute⟩)]

theorem resetCounterService_refuses (place : lo = 9 ∨ lo = 10 ∨ 12 ≤ lo.toNat) :
    resetCounterService [lo] s = (s, .refusedArg, []) := by
  unfold resetCounterService
  cases index : finOf 12 (rd8 [lo] 0) with
  | none => rfl
  | some c =>
    have number : lo.toNat = c.val := finOf_eq_some_iff.mp index
    refine if_neg fun allowed => ?_
    obtain ⟨ignition, minute⟩ := (resettable_iff c).mp allowed
    obtain rfl | rfl | beyond := place
    · exact ignition (Fin.ext number.symm)
    · exact minute (Fin.ext number.symm)
    · exact c.isLt.not_ge (number ▸ beyond)

end

/-- Settles O37: the refusals are the checks of the two services in their order; what passes them is
`State.clearClasses`, whose removals are a `Removal`, and `State.resetCounter`. -/
theorem faultsAndCountersAreCleared : Obligations.FaultsAndCountersAreCleared := by
  refine ⟨fun s tag hi lo ready m => ⟨fun bad => ?mask, fun named range busy => ?busy,
    fun named range idle => ?clears⟩, fun s tag x ready m => ⟨fun c place ignition minute => ?resets,
    fun place => ?refused⟩⟩
  case mask => exact exec_clearFaults ready m (clearFaultsService_badMask bad)
  case busy =>
    exact exec_clearFaults ready m ((clearFaultsService_goodMask named range).trans (if_pos busy))
  case clears =>
    have free : ¬ s.clearInFlight = true := by simp [State.clearInFlight, idle]
    have effect := (clearFaultsService_goodMask named range).trans (if_neg free)
    have removal := s.removeEntries_removal (pick := fun e => lo.getLsbD e.code.sourceClass.code)
    obtain ⟨table, formers, cursor, covers⟩ :=
      s.clearClasses_removal fun c => lo.getLsbD c.code
    refine ⟨_, exec_clearFaults ready m effect, table.trans removal.table_eq,
      (s.clearClasses_clear _).trans ?clear, fun e he picked => ⟨covers _ (removal.covers e he picked),
        fun distinct => ?former⟩, cursor.trans removal.cursor_eq, s.clearClasses_opdone _, ?link,
      (s.clearClasses_only _).andThen (State.modLif_only _ _ fun _ => rfl)⟩
    case clear =>
      unfold Fmy.freedBy
      cases (s.fmy.table.filter fun e => lo.getLsbD e.code.sourceClass.code).map (·.slot) <;> rfl
    case former =>
      exact (congrArg (·[e.slot]) formers).trans (removal.formers_eq distinct e he picked)
    case link => rw [State.replying_link, s.clearClasses_link]
  case resets =>
    exact exec_resetCounter ready m (resetCounterService_resettable place ignition minute)
  case refused => exact exec_resetCounter ready m (resetCounterService_refuses place)

end Sys2Proof.Machine
end

section
/-! PROOFS. The requests that read (R199, R200, R212, R40, R61, R82, R110, R119, R153, R175, R190): each
service answers from the state as it stands, and leaves it to the reply. -/

namespace Sys2Proof.Machine

/-! ### Spans and flags -/

/-- R40, R110: what `spanOk` checks; that the first index is one of an object follows. -/
theorem spanOk_iff {first count total : Nat} :
    spanOk first count total = true ↔ 1 ≤ count ∧ count ≤ 8 ∧ first + count ≤ total := by
  simp only [spanOk, within, Bool.and_eq_true, decide_eq_true_eq]
  omega

/-- R211: the flags of a READ_STATUS at their weights. -/
theorem bits_eight (a b c d e f g h : Bool) :
    bits [a, b, c, d, e, f, g, h] =
      (if a then 1 else 0) + (if b then 2 else 0) + (if c then 4 else 0) + (if d then 8 else 0)
        + (if e then 16 else 0) + (if f then 32 else 0) + (if g then 64 else 0)
        + (if h then 128 else 0) := by
  simp [bits, mul_add, add_assoc]

/-- R200: the items of READ_STATUS, with the three states of R208 spelled out. -/
theorem State.statusItems_eq (s : State) : s.statusItems =
    u8 s.mode.code ++ u8 s.supply.code ++ u16 (s.mctl.vb.getD 0) ++ u8 s.mctl.ign.code
      ++ u8 s.mctl.cause.code ++ u32 (s.counter ignitionPlace) ++ u16 s.lif.errors
      ++ u8 ((if s.lif.silence then 1 else 0) + (if s.lif.startupSilence then 2 else 0)
        + (if s.lif.hold then 4 else 0) + (if s.lif.spent then 8 else 0)
        + (if s.pins.holdAsserted then 16 else 0)
        + (if s.fmy.storeRequested = true ∨ s.fmy.write.isImage = true then 32 else 0)
        + (if s.ndr.sweep then 64 else 0) + (if s.fmy.clear.isSome then 128 else 0)) := by
  simp only [State.statusItems, bits_eight, State.storeInFlight, State.clearInFlight, Bool.or_eq_true]

/-! ### Services that answer OK or REFUSED_ARG and change nothing -/

section
variable {s : State} {f : Frame} {k : Service} {early : Bool} {ok : Nat → Bool} {p items : List Byte}
variable {c : Prop} [Decidable c]

theorem live_reads_if (ready : Ready f s)
    (h : k s = if c then (s, .ok, items) else (s, .refusedArg, [])) :
    live (State.request f k) s =
      .next (if c then s.replying f .ok items else s.replying f .refusedArg []) := by
  by_cases fits : c
  · rw [if_pos fits] at h ⊢
    exact live_request_replying s f k _ _ ready h
  · rw [if_neg fits] at h ⊢
    exact live_request_replying s f k _ _ ready h

theorem live_served_reads_if (ready : Ready f s) (m : s.mode ≠ .startup) (length : ok p.length = true)
    (h : k s = if c then (s, .ok, items) else (s, .refusedArg, [])) :
    live (State.request f (served false ok p k)) s =
      .next (if c then s.replying f .ok items else s.replying f .refusedArg []) :=
  live_reads_if ready ((served_ok s _ _ _ _ (.inl m) length).trans h)

end

/-! ### The services -/

section
variable (s : State)

theorem served_pingService (p : List Byte) :
    served true (fun l => decide (l ≤ 47)) p (pingService p) s =
      if p.length ≤ 47 then (s, .ok, p) else (s, .refusedArg, []) := by
  simp [served, pingService]

theorem readTableService_eq (a i : Byte) : readTableService [a, i] s =
    if namesRecord a.toNat i.toNat = true then
      (s, .ok, a :: i :: (if s.mode = .setup then s.written.getD s.tables else s.tables).recordBytes
        a.toNat i.toNat)
    else (s, .refusedArg, []) := by
  simp [readTableService, rd8, u8, State.readableTables]

theorem readLineDetailService_eq (a n : Byte) : readLineDetailService [a, n] s =
    if 1 ≤ n.toNat ∧ n.toNat ≤ 8 ∧ a.toNat + n.toNat ≤ 32 then
      (s, .ok, s.hlm.detailItems a.toNat n.toNat)
    else (s, .refusedArg, []) := ite_cond_congr (propext spanOk_iff)

theorem readRulesService_eq (a n : Byte) : readRulesService [a, n] s =
    if 1 ≤ n.toNat ∧ n.toNat ≤ 8 ∧ a.toNat + n.toNat ≤ 64 then
      (s, .ok, s.rulesItems a.toNat n.toNat)
    else (s, .refusedArg, []) := ite_cond_congr (propext spanOk_iff)

theorem readRawLineService_line (n : Fin 32) :
    readRawLineService [BitVec.ofNat 8 n.val] s = (s, .ok, s.rawLineItems n) := by
  have number : (BitVec.ofNat 8 n.val).toNat = n.val := Nat.mod_eq_of_lt (by omega)
  have index : finOf 32 (rd8 [BitVec.ofNat 8 n.val] 0) = some n := finOf_eq_some_iff.mpr number
  simp only [readRawLineService, index]

theorem readRawLineService_noLine {x : Byte} (range : 32 ≤ x.toNat) :
    readRawLineService [x] s = (s, .refusedArg, []) := by
  have index : finOf 32 (rd8 [x] 0) = none := dif_neg range.not_gt
  simp only [readRawLineService, index]

end

/-- Settles O20: each service is a reply from the state it leaves alone, behind the checks of R198. -/
theorem readingsChangeNothing : Obligations.ReadingsChangeNothing := by
  refine ⟨⟨fun s tag p ready => ?ping, fun s tag ready => ?status, fun s tag a i ready m => ?table⟩,
    fun s tag a n ready m => ?detail, fun s tag ready m => ?gauges, fun s tag a n ready m => ?rules,
    fun s tag ready m => ?presentation, fun s tag ready m => ?doors, fun s tag ready m => ?counters,
    fun s tag n ready m => ?rawLine, fun s tag x ready m range => ?noLine⟩
  case ping => exact live_reads_if ready (served_pingService s p)
  case status =>
    rw [← s.statusItems_eq]
    exact live_request_replying s _ _ _ _ ready (served_ok s true _ _ _ (.inr rfl) rfl)
  case table => exact live_served_reads_if ready m rfl (readTableService_eq s a i)
  case detail => exact live_served_reads_if ready m rfl (readLineDetailService_eq s a n)
  case gauges => exact live_served_effect ready m rfl rfl
  case rules => exact live_served_reads_if ready m rfl (readRulesService_eq s a n)
  case presentation => exact live_served_effect ready m rfl rfl
  case doors => exact live_served_effect ready m rfl rfl
  case counters => exact live_served_effect ready m rfl rfl
  case rawLine => exact live_servedInWorkshop_effect ready m rfl (readRawLineService_line s n)
  case noLine => exact live_servedInWorkshop_effect ready m rfl (readRawLineService_noLine s range)

end Sys2Proof.Machine
end

section
/-! PROOFS. The arrival of a frame (R193, R194, R202, R204): what the host-silence supervisor makes of LIF, and
what becomes of the frame after it. -/

namespace Sys2Proof.Machine

section
variable (s : State)

/-! ### A report and the link -/

theorem State.reportCleared_link (c : FaultCode) : (s.reportCleared c).lif.link = s.lif.link :=
  s.reportCleared_only c .link (by decide)

theorem State.reportCleared_linkCause (c : FaultCode) :
    (s.reportCleared c).lif.attention.link = s.lif.attention.link := by
  obtain e | e := s.reportCleared_attention c <;> rw [e]
  rfl

/-- What a CLEARED report makes of the fault memory does not depend on LIF. -/
theorem State.reportCleared_modLif_fmy (c : FaultCode) (f : Lif → Lif) :
    ((s.modLif f).reportCleared c).fmy = (s.reportCleared c).fmy := by
  have changed (i : Nat) (g : FaultEntry → FaultEntry) :
      ((s.modLif f).changeEntry i g).fmy = (s.changeEntry i g).fmy := by
    unfold State.changeEntry
    rw [State.modLif_fmy]
    split <;> rfl
  have cleared : ((s.modLif f).clearedReport c).fmy = (s.clearedReport c).fmy := by
    unfold State.clearedReport
    rw [State.modLif_fmy]
    cases s.fmy.position c with
    | none => rfl
    | some i => simp only [apply_ite State.fmy, changed, State.modLif_fmy]
  unfold State.reportCleared State.report
  rw [State.modLif_fmy]
  split
  · rfl
  · exact cleared

/-! ### The host-silence supervisor (R202, R204) -/

/-- R202: the host-silence timer after an arrival. -/
def State.arrivalTimer : Timer := if s.mode.isTimed then .running s.now else s.lif.silenceTimer

theorem State.restartSilenceTimer_eq :
    s.restartSilenceTimer = s.modLif fun l => { l with silenceTimer := s.arrivalTimer } := by
  unfold State.restartSilenceTimer State.arrivalTimer
  split <;> rfl

theorem State.silenceReport_link :
    s.silenceReport.lif.link =
      { s.lif.link with linkMark := s.lif.linkMark && s.lif.startupSilence } := by
  unfold State.silenceReport
  split
  case isTrue startup => simp [startup, Lif.link]
  case isFalse episode =>
    change { (s.reportCleared .hostSilent).lif.link with linkMark := false } = _
    simp [s.reportCleared_link, episode]

theorem State.silenceReport_linkCause :
    s.silenceReport.lif.attention.link = s.lif.attention.link := by
  unfold State.silenceReport
  split
  case isTrue => rfl
  case isFalse => exact s.reportCleared_linkCause _

/-- R204, R205: HOST_SILENT's mark goes with an episode; the start-up silence ends without touching it. -/
theorem State.endSilence_link :
    s.endSilence.lif.link =
      { s.lif.link with
        silence := false, startupSilence := false, silenceTimer := s.arrivalTimer,
        linkMark := s.lif.linkMark && s.lif.startupSilence } := by
  have mode : s.silenceReport.mode = s.mode :=
    congrArg Mctl.mode (s.silenceReport_only .mctl (by decide))
  have now : s.silenceReport.now = s.now := s.silenceReport_only .now (by decide)
  have timer : s.silenceReport.lif.silenceTimer = s.lif.silenceTimer :=
    (congrArg Lif.silenceTimer s.silenceReport_link :)
  have arrival : (s.silenceReport.modLif fun l =>
      { l with silence := false, startupSilence := false }).arrivalTimer = s.arrivalTimer := by
    change (if s.silenceReport.mode.isTimed then Timer.running s.silenceReport.now
      else s.silenceReport.lif.silenceTimer) = _
    rw [mode, now, timer]
    rfl
  calc s.endSilence.lif.link
      = _ := State.refreshPru_only _ .link (by decide)
    _ = { s.silenceReport.lif.link with
          silence := false, startupSilence := false, silenceTimer := s.arrivalTimer } := by
        rw [State.restartSilenceTimer_eq, arrival]
        rfl
    _ = _ := by rw [s.silenceReport_link]

theorem State.endSilence_linkCause :
    s.endSilence.lif.attention.link = s.lif.attention.link := by
  have pru : s.endSilence.lif.attention = _ := State.refreshPru_only _ .attention (by decide)
  rw [pru, State.restartSilenceTimer_eq]
  exact s.silenceReport_linkCause

theorem State.endSilence_fmy : s.endSilence.fmy = s.silenceReport.fmy := by
  have pru : s.endSilence.fmy = _ := State.refreshPru_only _ .fmy (by decide)
  rw [pru, State.restartSilenceTimer_eq]
  rfl

theorem State.hearHost_link :
    s.hearHost.lif.link =
      { s.lif.link with
        silence := false, startupSilence := s.lif.startupSilence && !s.lif.silence,
        silenceTimer := s.arrivalTimer,
        linkMark := s.lif.linkMark && (!s.lif.silence || s.lif.startupSilence) } := by
  unfold State.hearHost
  split
  case isTrue silent => simp [s.endSilence_link, silent]
  case isFalse heard => simp [s.restartSilenceTimer_eq, heard, Lif.link]

theorem State.hearHost_queue : s.hearHost.lif.queue = s.lif.queue :=
  (congrArg Lif.queue s.hearHost_link :)

theorem State.hearHost_errors : s.hearHost.lif.errors = s.lif.errors :=
  (congrArg Lif.errors s.hearHost_link :)

theorem State.hearHost_linkCause :
    s.hearHost.lif.attention.link = s.lif.attention.link := by
  unfold State.hearHost
  split
  case isTrue => exact s.endSilence_linkCause
  case isFalse => rw [s.restartSilenceTimer_eq]; rfl

/-- R204, R205: the end of an episode is reported, that of the start-up silence is not. -/
theorem State.hearHost_fmy :
    s.hearHost.fmy = if s.lif.silence = true ∧ s.lif.startupSilence = false
      then (s.reportCleared .hostSilent).fmy else s.fmy := by
  unfold State.hearHost
  by_cases silent : s.lif.silence = true
  · rw [if_pos silent, s.endSilence_fmy, State.silenceReport]
    by_cases startup : s.lif.startupSilence = true
    · simp [startup]
    · simp [startup, silent]
  · rw [if_neg silent, if_neg fun episode => silent episode.1, s.restartSilenceTimer_eq]
    rfl

/-! ### The arrival (R194) -/

section
variable (f : Frame)

/-- R194: what becomes of a frame that the supervisor has heard: dropped before a restart, a link error
for a reply kind or a full queue, or appended to the queue. -/
theorem State.frameArrives_cases :
    (s.mctl.restart ≠ .idle ∧ s.frameArrives f = s.hearHost) ∨
    (s.mctl.restart = .idle ∧ (0x80 ≤ f.kind.toNat ∨ 2 ≤ s.lif.queue.length) ∧
      s.frameArrives f = s.hearHost.linkError) ∨
    (s.mctl.restart = .idle ∧ f.kind.toNat < 0x80 ∧ s.lif.queue.length < 2 ∧
      s.frameArrives f = s.hearHost.modLif fun l => { l with queue := l.queue ++ [f] }) := by
  have mctl : s.hearHost.mctl = s.mctl := s.hearHost_only .mctl (by decide)
  unfold State.frameArrives
  simp only [mctl, s.hearHost_queue, queuePlaces]
  by_cases restart : s.mctl.restart = .idle
  case neg => exact .inl ⟨restart, if_pos restart⟩
  rw [if_neg (not_not.mpr restart)]
  by_cases reply : 0x80 ≤ f.kind.toNat
  case pos => exact .inr (.inl ⟨restart, .inl reply, if_pos reply⟩)
  rw [if_neg reply]
  by_cases full : 2 ≤ s.lif.queue.length
  case pos => exact .inr (.inl ⟨restart, .inr full, if_pos full⟩)
  exact .inr (.inr ⟨restart, not_le.mp reply, not_le.mp full, if_neg full⟩)

theorem State.frameArrives_link :
    (s.frameArrives f).lif.link =
      { s.hearHost.lif.link with
        queue := if s.mctl.restart = .idle ∧ f.kind.toNat < 0x80 ∧ s.lif.queue.length < 2
          then s.lif.queue ++ [f] else s.lif.queue
        errors := if s.mctl.restart = .idle ∧ (0x80 ≤ f.kind.toNat ∨ 2 ≤ s.lif.queue.length)
          then min (s.lif.errors + 1) 65535 else s.lif.errors } := by
  obtain ⟨restart, e⟩ | ⟨restart, lost, e⟩ | ⟨restart, request, room, e⟩ := s.frameArrives_cases f
  all_goals rw [e, ← s.hearHost_errors]
  case inl =>
    rw [if_neg fun h => restart h.1, if_neg fun h => restart h.1, ← s.hearHost_queue]
    rfl
  case inr.inl =>
    rw [if_neg fun h => lost.elim h.2.1.not_ge h.2.2.not_ge, if_pos ⟨restart, lost⟩,
      ← s.hearHost_queue]
    rfl
  case inr.inr =>
    rw [if_pos ⟨restart, request, room⟩,
      if_neg fun h => h.2.elim request.not_ge room.not_ge, ← s.hearHost_queue]
    rfl

theorem State.frameArrives_linkCause :
    (s.frameArrives f).lif.attention.link = (s.lif.attention.link ||
      decide (s.mctl.restart = .idle ∧ (0x80 ≤ f.kind.toNat ∨ 2 ≤ s.lif.queue.length))) := by
  rw [← s.hearHost_linkCause]
  obtain ⟨restart, e⟩ | ⟨restart, lost, e⟩ | ⟨restart, request, room, e⟩ := s.frameArrives_cases f
  all_goals rw [e]
  case inl => simp [restart]
  case inr.inl =>
    rw [decide_eq_true ⟨restart, lost⟩, Bool.or_true]
    rfl
  case inr.inr =>
    rw [decide_eq_false fun h => h.2.elim request.not_ge room.not_ge, Bool.or_false]
    rfl

theorem State.frameArrives_fmy : (s.frameArrives f).fmy = s.hearHost.fmy := by
  obtain ⟨-, e⟩ | ⟨-, -, e⟩ | ⟨-, -, -, e⟩ := s.frameArrives_cases f <;> rw [e] <;> rfl

/-- Without host silence an arrival touches nothing but LIF. -/
theorem State.frameArrives_heard_only (heard : s.lif.silence = false) :
    OnlyChanges [.attention, .link] s (s.frameArrives f) := by
  have hears : OnlyChanges [.attention, .link] s s.hearHost := by
    rw [State.hearHost, if_neg (Bool.eq_false_iff.mp heard)]
    exact s.restartSilenceTimer_only.mono
  obtain ⟨-, e⟩ | ⟨-, -, e⟩ | ⟨-, -, -, e⟩ := s.frameArrives_cases f
  all_goals rw [e]
  case inl => exact hears
  case inr.inl => exact hears.andThen (State.linkError_only _)
  case inr.inr => exact hears.andThen (State.modLif_only _ _ fun _ => rfl)

end

/-! ### The last byte of a check (R192, R193) -/

/-- R192, R209: the receiver back in HUNT at the end of a high stop bit. -/
def State.frameEnds : State :=
  s.modLif fun l => { l with rx := .hunt, gap := .stopped, lowTimer := .stopped }

theorem exec_byteReceived (b : Byte) (stopHigh : Bool) :
    exec (.byteReceived b stopHigh) s = execByteReceived b stopHigh s := rfl

variable {s}

/-- R193: a whole frame arrives if it passes its check, and is a link error if not. -/
theorem exec_byteReceived_checkLow {f : Frame} {b high : Byte} (runs : s.heldInReset = false)
    (awake : s.mode ≠ .sleep) (takes : s.takesBytes = true) (rx : s.lif.rx = .checkLow f high) :
    exec (.byteReceived b true) s =
      .next (if high ++ b = f.check then s.frameEnds.frameArrives f else s.frameEnds.linkError) := by
  obtain ⟨idle, unlatched⟩ : s.lif.waitIdle = false ∧ s.lif.breakLatched = false := by
    simpa [State.takesBytes] using takes
  have byte : (s.byteEnds b true).takeByte b =
      if high ++ b = f.check then s.frameEnds.frameArrives f else s.frameEnds.linkError := by
    have state : (s.byteEnds b true).lif.rx = .checkLow f high := rx
    simp only [State.takeByte, state]
    rfl
  calc exec (.byteReceived b true) s
      = .next ((s.byteEnds b true).takeByte b) := by
        rw [exec_byteReceived, execByteReceived, live_runs s _ runs]
        simp [State.wakeByLink, awake, unlatched, State.byteEnds, idle]
    _ = _ := by rw [byte]

end

/-- Settles O12: the byte leaves the receiver in HUNT; a frame with a wrong check is a link error there, and
one that passes is heard by the supervisor (`hearHost`) and disposed of by `State.frameArrives_cases`. -/
theorem frameArrivesAfterItsCheck : Obligations.FrameArrivesAfterItsCheck := by
  intro s b high f runs awake takes rx
  have byte := exec_byteReceived_checkLow (b := b) runs awake takes rx
  refine ⟨fun wrong => ?error, fun right => ?arrives⟩
  case error =>
    rw [byte, if_neg wrong]
    rfl
  case arrives =>
    rw [if_pos right] at byte
    have link := s.frameEnds.frameArrives_link f
    have linkCause := s.frameEnds.frameArrives_linkCause f
    have fmy := (s.frameEnds.frameArrives_fmy f).trans s.frameEnds.hearHost_fmy
    have ends : OnlyChanges [.link] s s.frameEnds := s.modLif_only _ fun _ => rfl
    have heard := s.frameEnds.frameArrives_heard_only f
    have only : OnlyChanges arrivalParts s.frameEnds _ := s.frameEnds.frameArrives_only f
    generalize s.frameEnds.frameArrives f = t at *
    rw [State.hearHost_link] at link
    rw [State.frameEnds, State.reportCleared_modLif_fmy] at fmy
    have startup : t.lif.startupSilence = _ := (congrArg Lif.startupSilence link :)
    have timer : t.lif.silenceTimer = _ := (congrArg Lif.silenceTimer link :)
    have queue : t.lif.queue = _ := (congrArg Lif.queue link :)
    have errors : t.lif.errors = _ := (congrArg Lif.errors link :)
    refine ⟨t, byte, congrArg Lif.rx link, congrArg Lif.gap link, congrArg Lif.lowTimer link,
      congrArg Lif.silence link, startup, timer, queue, errors, linkCause, fmy, ?whole,
      fun silent => ends.andThen (heard silent), ends.andThen only⟩
    rw [startup, timer, queue, errors]
    exact link

end Sys2Proof.Machine
end

section
/-! PROOFS. Commands in general: every event as a change within a list of parts that does not go back in time,
every request as the arrival and the service of a frame, and what a property must survive to survive a
step. -/

namespace Sys2Proof.Machine

set_option Elab.async false

/-! ### Changes that let time pass -/

/-- From `s` to `t` time does not go back, and nothing changes but the moment and the parts named. -/
structure Advances (l : List Part) (s t : State) : Prop where
  now : s.now ≤ t.now
  only : OnlyChanges (.now :: l) s t

theorem OnlyChanges.now_eq {l : List Part} {s t : State} (h : OnlyChanges l s t)
    (still : partsIn [.now] l = false := by with_unfolding_all rfl) : t.now = s.now := by
  refine h .now fun mem => ?_
  simp only [partsIn, List.all_cons, List.all_nil, Bool.and_true, List.any_eq_false, beq_iff_eq] at still
  exact still _ mem rfl

theorem OnlyChanges.advances {l m : List Part} {s t : State} (h : OnlyChanges l s t)
    (still : partsIn [.now] l = false := by with_unfolding_all rfl)
    (hm : partsIn l (.now :: m) = true := by with_unfolding_all rfl) : Advances m s t :=
  ⟨(h.now_eq still).ge, h.mono hm⟩

section
variable {l : List Part} {s t u : State}

theorem Advances.refl (l : List Part) (s : State) : Advances l s s := ⟨le_rfl, .refl _ s⟩

theorem Advances.trans (h : Advances l s t) (k : Advances l t u) : Advances l s u :=
  ⟨h.now.trans k.now, h.only.trans k.only⟩

theorem Advances.ite {c : Prop} [Decidable c] (h : Advances l s t) (k : Advances l s u) :
    Advances l s (if c then t else u) := by
  split <;> assumption

theorem Advances.reach (s : State) (x : Int) : Advances l s (s.reach x) :=
  ⟨le_max_left _ _, fun p hp => s.reach_only x p fun mem => hp (by simp_all)⟩

/-- The events of a timer change what their effect changes, at a moment that is not past. -/
theorem Advances.atExpiry (timer : Timer) (figure : Nat) (k : State → State) (s : State)
    (h : ∀ s, Advances l s (k s)) : Advances l s (atExpiry timer figure k s) :=
  atExpiry_cases s timer figure k _ (.refl l s) fun _ _ =>
    (Advances.reach s _).trans (h _)

end

/-- The moment of a periodic event: the schedule goes on, and time does not go back. -/
theorem Advances.atMoment {l : List Part} (s : State) (due : Nat) (v : Sched)
    (h : partsIn [.sched] l = true := by with_unfolding_all rfl) :
    Advances l s { s with now := max s.now due, sched := v } := by
  refine ⟨le_max_left _ _, fun p hp => ?_⟩
  have sched : Part.sched ∈ l := mem_of_partsIn h (List.mem_singleton_self _)
  cases p
  case now => exact absurd (List.mem_cons_self ..) hp
  case sched => exact absurd (List.mem_cons_of_mem _ sched) hp
  all_goals rfl

/-! ### The parts that an event can change -/

/-- Every part but the queue of commands and the present moment. -/
abbrev partsOfReset : List Part :=
  [.free, .sched, .pins, .mctl, .hlm, .gve, .ndr, .wev, .pru, .dmn, .fmy, .cursor, .forcing, .attention,
    .link, .tables, .written, .nv]

/-- The parts that the sample of a channel can change, with what the speed channel brings about. -/
abbrev channelParts : List Part :=
  [.sched, .free, .mctl, .gve, .ndr, .pru, .dmn, .fmy, .cursor, .forcing, .attention]

/-- The parts that a command which is no request can change besides the present moment. -/
def eventParts : Instr → List Part
  | .nrstRelease | .brownOutEnd => [.pins, .sched]
  | .startupLoadComplete | .supplyLowReportExpiry | .supplyHighReportExpiry => .mctl :: faultParts
  | .startupEnd =>
    [.sched, .mctl, .hlm, .gve, .ndr, .wev, .pru, .dmn, .fmy, .cursor, .attention, .link, .tables]
  | .vbMeasurement _ _ => .sched :: supplyParts
  | .ignDebounceExpiry => consumerParts
  | .operatingMinuteElapsed | .writeStart => [.mctl, .fmy]
  | .sleepEntry | .startOfReception _ | .byteReceived _ _ => sleepParts
  | .sleepSample _ _ =>
    [.free, .sched, .mctl, .hlm, .gve, .ndr, .wev, .pru, .dmn, .fmy, .cursor, .forcing, .attention, .link]
  | .gapTimerExpiry => [.link, .attention]
  | .replySent | .breakLatch => [.link]
  | .hostSilenceBegins => [.mctl, .ndr, .pru, .fmy, .cursor, .forcing, .attention, .link]
  | .holdLineChange _ => [.pins, .link, .pru, .ndr]
  | .holdLimitExpiry => [.link, .pru, .ndr, .attention]
  | .lineSample _ _ => .sched :: .free :: .hlm :: consumerParts
  | .qualifyTimerExpiry _ | .healTimerExpiry _ => lineParts
  | .pulseEdge _ _ _ => [.free, .hlm, .gve]
  | .channelSample _ | .feedTimeout _ => channelParts
  | .motionInterval _ => [.sched, .ndr, .attention]
  | .evaluationPass => .sched :: ruleParts
  | .lampCheckEnd | .lampRetryExpiry _ | .singleToneComplete | .chimeToneEdge => [.pru]
  | .lampDiagnosticTick _ _ => .sched :: pruParts
  | .lampOvercurrent _ | .lampSuccessTimerExpiry _ => pruParts
  | .openTimerExpiry _ | .closeTimerExpiry _ | .lockTimerExpiry _ | .inconsistencyTimerExpiry _ => doorParts
  | .releaseDelayExpiry => grantParts
  | .slotWriteComplete | .configStoreComplete => .nv :: faultParts
  | .counterSaveComplete => [.nv, .mctl, .fmy]
  | .lampForcingExpiry _ | .chimeForcingExpiry => [.forcing, .pru]
  | .flashPhaseAdvance => [.sched, .pru]
  | .powerOnReset | .brownOut | .externalReset | .breakRelease | .restartTakesEffect => partsOfReset
  | _ => []

/-! ### The frames of the events whose effect has none yet -/

section
variable (s : State)

theorem State.applyReset_only (c : ResetCause) : OnlyChanges partsOfReset s (s.applyReset c) := by
  intro p hp; cases p <;> first | rfl | exact absurd (by simp) hp

theorem State.cutOffWrite_only : OnlyChanges [.free, .nv] s s.cutOffWrite := by
  have torn (v : Nv) : OnlyChanges [.free, .nv] s { s.fresh.1 with nv := v } :=
    s.fresh_only.andThen (State.setNv_only _ v)
  unfold State.cutOffWrite
  dsimp only
  split
  · exact .refl _ _
  all_goals exact torn _

theorem State.hardReset_only (c : ResetCause) : OnlyChanges partsOfReset s (s.hardReset c) :=
  s.cutOffWrite_only.andThen (State.applyReset_only _ c)

theorem State.startIfReleased_only : OnlyChanges [.sched] s s.startIfReleased :=
  .ite (.refl _ _) s.startScans_only

theorem State.completeLoad_only : OnlyChanges (.mctl :: faultParts) s s.completeLoad := by
  delta State.completeLoad
  extract_lets loaded limit held s1 s2 s3 s4
  have h1 : OnlyChanges (.mctl :: faultParts) s s1 := (s.modMctl_only _).mono
  have h2 : OnlyChanges (.mctl :: faultParts) s1 s2 := (s1.modFmy_only _).mono
  have h3 : OnlyChanges (.mctl :: faultParts) s2 s3 := (s2.removeOverAged_only _).mono
  have h4 : OnlyChanges (.mctl :: faultParts) s3 s4 :=
    .foldl _ (fun s n => (s.reportActive_only _).mono) _ _
  exact h1.trans (h2.trans (h3.trans (h4.trans
    (.foldl _ (fun s q => (s.handleReport_only _ _ _).mono) _ _))))

theorem State.leaveStartup_only (passed : Bool) :
    OnlyChanges (.dmn :: .link :: ignitionParts) s (s.leaveStartup passed) := by
  unfold State.leaveStartup
  dsimp only
  refine .ite ?_ ((s.setMode_only _).andThen (State.homeAllNeedles_only _))
  have h : OnlyChanges (.dmn :: .link :: ignitionParts) s
      (if s.mctl.ign = .active then s.enterRun else s.setMode .standby) :=
    .ite s.enterRun_only.mono (s.setMode_only _).mono
  exact h.trans ((State.freeInterlock_only _).andThen (State.startSilenceTimer_only _))

theorem State.endStartup_only : OnlyChanges (eventParts .startupEnd) s s.endStartup := by
  delta State.endStartup
  extract_lets passed s1 s2 s3 s4
  have h1 : OnlyChanges (eventParts .startupEnd) s s1 := by
    intro p hp; cases p <;> first | exact absurd (by decide) hp | rfl
  have h2 : OnlyChanges (eventParts .startupEnd) s1 s2 :=
    (s1.attend_only _).andThen (State.report_only _ _ _)
  have h3 : OnlyChanges (eventParts .startupEnd) s2 s3 :=
    s2.settleBlocks_only.andThen (State.settleLink_only _)
  have h4 : OnlyChanges (eventParts .startupEnd) s3 s4 :=
    ((s3.dropUnclassified_only.andThen (State.startComparators_only _) (n := [.hlm])).andThen
      (State.startUnits_only _) (n := [.hlm, .gve])).andThen (State.startServices_only _)
  exact h1.trans (h2.trans (h3.trans (h4.trans (((s4.leaveStartup_only _).andThen
    (State.holdIfAsserted_only _) (n := .dmn :: .link :: ignitionParts)).andThen
    (State.refreshPru_only _)))))

theorem State.acceptIgn_only (a : Bool) : OnlyChanges consumerParts s (s.acceptIgn a) := by
  delta State.acceptIgn
  extract_lets s1
  have h1 : OnlyChanges consumerParts s s1 := (s.modMctl_only _).mono
  refine h1.trans ?_
  split
  · exact (State.enterRun_only _).andThen (State.attend_only _ _)
  · exact (State.ignitionOff_only _).andThen (State.attend_only _ _)
  · exact (State.ignitionOff_only _).andThen (State.attend_only _ _)
  · exact (State.refreshPru_only _).mono

theorem State.beginSilence_only :
    OnlyChanges (eventParts .hostSilenceBegins) s s.beginSilence := by
  delta State.beginSilence
  extract_lets s1 s2
  have h1 : OnlyChanges (eventParts .hostSilenceBegins) s s1 :=
    (s.modLif_only _ (by intro; rfl)).andThen (State.attend_only _ _)
  have h2 : OnlyChanges (eventParts .hostSilenceBegins) s1 s2 :=
    ((s1.reportActive_only _).andThen (State.bump_only _ _) (n := faultParts)).andThen
      (State.refreshPru_only _)
  exact h1.trans (h2.trans (.ite s2.workshopToRun_only.mono (.refl _ _)))

theorem State.holdChange_only (a : Bool) : OnlyChanges [.link, .pru, .ndr] s (s.holdChange a) :=
  .ite (.ite (.refl _ _) s.beginHold_only.mono)
    (.ite s.endHold_only (s.modLif_only _ (by intro; rfl)).mono)

theorem State.holdLineChange_only (a : Bool) :
    OnlyChanges [.pins, .link, .pru, .ndr] s (s.holdLineChange a) :=
  .trans (s.modPins_only _).mono (.ite (.refl _ _) (State.holdChange_only _ a).mono)

theorem State.holdLimit_only : OnlyChanges [.link, .pru, .ndr, .attention] s s.holdLimit :=
  (s.endHold_only.andThen (State.modLif_only _ _ (by intro; rfl)) (n := [.link, .pru, .ndr])).andThen
    (State.attend_only _ _)

theorem State.speedUpdate_only (k : Fin 6) : OnlyChanges channelParts s (s.speedUpdate k) :=
  .ite (s.doorSpeedUpdate_only.andThen (State.leaveWorkshopIfMoving_only _)) (.refl _ _)

theorem State.feedTimeout_only (k : Fin 6) : OnlyChanges channelParts s (s.feedTimeout k) := by
  delta State.feedTimeout
  extract_lets first s1
  have h1 : OnlyChanges channelParts s s1 := (s.feedExpired_only k).mono
  exact h1.trans (.ite (s1.speedUpdate_only k) (.refl _ _))

theorem State.singleDone_only : OnlyChanges [.pru] s s.singleDone := by
  unfold State.singleDone
  refine .ite s.soundOff_only ?_
  split
  · exact (s.modPru_only _).trans (State.refreshChime_only _)
  · exact .refl _ _

theorem State.sleepLines_only (mv : Vector Nat 32) :
    OnlyChanges (.free :: .hlm :: consumerParts) s (s.sleepLines mv).1 := by
  suffices h : ∀ (l : List (Fin 32)) (q : State × Bool),
      OnlyChanges (.free :: .hlm :: consumerParts) q.1 (l.foldl (fun (s, changed) n =>
        if s.watched n && (s.lineCfg n).fn.classified then
          let s' := s.sampleLine n mv[n]
          (s', changed || s'.logical n != s.logical n)
        else (s, changed)) q).1 from h _ (s, false)
  intro l
  induction l with
  | nil => exact fun q => .refl _ _
  | cons n l ih =>
    intro q
    refine .trans ?_ (ih _)
    dsimp only
    split
    · exact q.1.sampleLine_only n _
    · exact .refl _ _

theorem State.sleepSample_only (ign : Bool) (mv : Vector Nat 32) :
    Advances (eventParts (.sleepSample ign mv)) s (s.sleepSample ign mv) := by
  delta State.sleepSample
  extract_lets t s1
  have h1 : Advances (eventParts (.sleepSample ign mv)) s s1 :=
    .atMoment s _ _
  refine h1.trans ?_
  have h2 : Advances (eventParts (.sleepSample ign mv)) s1 (s1.sleepLines mv).1 :=
    (s1.sleepLines_only mv).advances
  refine h2.trans ?_
  split
  rename_i s2 changed e
  rw [e]
  exact .trans ((s2.modMctl_only _).advances) (.ite (State.wake_only _).advances (.refl _ _))

theorem State.toneEdge_advances (tone period : Nat) : Advances [.pru] s (s.toneEdge tone period) := by
  unfold State.toneEdge
  exact .ite (.trans (.reach _ _) (State.soundOff_only _).advances)
    (.trans (.reach _ _) (State.modPru_only _ _).advances)

theorem State.compare_only (n : Fin 32) (mv : Nat) :
    OnlyChanges [.free, .hlm, .gve] s (s.compare n mv) := by
  unfold State.compare
  exact .trans ((s.measure_only mv).andThen (State.modLine_only _ n _))
    (.ite (State.modUnit_only _ _ _).mono (.refl _ _))

theorem State.byteEnds_only (b : Byte) (h : Bool) : OnlyChanges [.link] s (s.byteEnds b h) :=
  s.modLif_only _ (by intro; rfl)
theorem State.lineWentHigh_only : OnlyChanges [.link] s s.lineWentHigh := s.modLif_only _ (by intro; rfl)
theorem State.latchBreak_only : OnlyChanges [.link] s s.latchBreak := s.modLif_only _ (by intro; rfl)
theorem State.reportLow_only : OnlyChanges (.mctl :: faultParts) s s.reportLow :=
  (s.reportActive_only _).andThen (State.modMctl_only _ _)
theorem State.reportHigh_only : OnlyChanges (.mctl :: faultParts) s s.reportHigh :=
  (s.reportActive_only _).andThen (State.modMctl_only _ _)
theorem State.receptionStarts_only (idle : Bool) : OnlyChanges sleepParts s (s.receptionStarts idle) :=
  s.wakeByLink_only.andThen (State.modLif_only _ _ (by intro; rfl))
theorem State.endTrip_only (n : Fin 24) : OnlyChanges [.pru] s (s.endTrip n) :=
  (s.modLamp_only n _).trans (State.followCalls_only _)
theorem State.advancePhase_only : OnlyChanges [.pru] s s.advancePhase :=
  (s.modPru_only _).trans (State.followCalls_only _)

end

/-! ### Events -/

/-- What a command that is no request does to a part that runs; the last eight also to a part held in reset. -/
def eventEffect (c : Instr) (s : State) : State :=
  match c with
  | .startupLoadComplete => if s.mode = .startup ∧ s.fmy.loading then s.completeLoad else s
  | .startupEnd => if s.startupOver then s.endStartup else s
  | .vbMeasurement mv ign =>
    if s.mode = .sleep then s
    else (s.atVbMeasurement.modMctl fun c => c.ignSample ign (max s.now s.sched.vb)).measureVb mv
  | .supplyLowReportExpiry => atExpiry s.mctl.lowReport (ms 10000) State.reportLow s
  | .supplyHighReportExpiry => atExpiry s.mctl.highReport (ms 1000) State.reportHigh s
  | .ignDebounceExpiry =>
    match s.mctl.ignTimer with
    | some (level, t) => atExpiry t (ms 20) (State.acceptIgn level) s
    | none => s
  | .operatingMinuteElapsed =>
    match s.mctl.minute with
    | .running since => ((s.reach (since + ms 60000)).bump minutePlace).modMctl fun c =>
        { c with minute := .running (since + ms 60000) }
    | _ => s
  | .sleepEntry => if s.mayEnterSleep then s.enterSleep else s
  | .sleepSample ign mv => if s.mode = .sleep then s.sleepSample ign mv else s
  | .startOfReception idle => if s.lif.breakLatched then s else s.receptionStarts idle
  | .byteReceived b stopHigh =>
    if s.lif.breakLatched then s
    else if (s.wakeByLink.byteEnds b stopHigh).lif.waitIdle then s.wakeByLink.byteEnds b stopHigh
    else if stopHigh then (s.wakeByLink.byteEnds b stopHigh).takeByte b
    else (s.wakeByLink.byteEnds b stopHigh).stopBitError
  | .gapTimerExpiry => atExpiry s.lif.gap (ms 1) State.abandon s
  | .replySent =>
    if s.lif.tx.isSome then s.modLif fun l => { l with tx := none, queue := l.queue.drop 1 } else s
  | .breakLatch => atExpiry s.lif.lowTimer (ms 20) State.latchBreak s
  | .breakRelease => if s.lif.breakLatched then s.hardReset .linkBreak else s.lineWentHigh
  | .hostSilenceBegins =>
    atExpiry s.lif.silenceTimer (ms s.tables.general.hostSilence) State.beginSilence s
  | .holdLimitExpiry => atExpiry s.lif.holdTimer (ms 2000) State.holdLimit s
  | .restartTakesEffect => if s.restartReady then s.applyReset .restart else s
  | .lineSample n mv => if s.scanned n then (s.atLineSample n).scanSample n mv else s
  | .qualifyTimerExpiry n =>
    if (s.line n).status = .pending then
      atExpiry (s.line n).timer (ms (s.lineCfg n).qualify) (State.confirmLine n) s
    else s
  | .healTimerExpiry n =>
    if (s.line n).status = .healing then
      atExpiry (s.line n).timer (ms (s.lineCfg n).heal) (State.healLine n) s
    else s
  | .pulseEdge n mv wait =>
    if (s.lineCfg n).fn = .pulse ∧ (s.line n).comparator ≠ .stopped then
      State.compare n mv { s with now := s.now + wait }
    else s
  | .channelSample k =>
    if s.mode.isAwake ∧ (s.channelCfg k).source ≠ .unused then
      ((s.atChannelSample k).sampleChannel k).speedUpdate k
    else s
  | .feedTimeout k =>
    atExpiry (s.channel k).feedTimer (ms (s.channelCfg k).feedTimeout) (State.feedTimeout k) s
  | .motionInterval k => if s.mode.isAwake then (s.atMotionInterval k).motion k else s
  | .evaluationPass => if s.mode.hasPasses then s.atPass.pass else s
  | .lampCheckEnd =>
    atExpiry s.pru.lampCheck (ms s.tables.general.lampCheck) (fun s => s.endLampCheck.refreshPru) s
  | .lampDiagnosticTick n low => if s.tested n then (s.atLampTick n).openTest n low else s
  | .lampOvercurrent n => if s.driverOn n then s.overcurrent n else s
  | .lampRetryExpiry n => atExpiry (s.lamp n).retry (s.lamp n).retryTime (State.endTrip n) s
  | .lampSuccessTimerExpiry n => atExpiry (s.lamp n).success (ms 50) (State.onPeriodGood n) s
  | .singleToneComplete =>
    if s.pattern = some .single ∧ s.pru.tone then
      atExpiry (.running s.pru.patternStart) (ms 400) State.singleDone s
    else s
  | .openTimerExpiry d =>
    atExpiry (s.door d).openTimer (ms (s.doorCfg d).openTimeout) (State.rederive d .openExpired) s
  | .closeTimerExpiry d =>
    atExpiry (s.door d).closeTimer (ms (s.doorCfg d).closeTimeout) (State.rederive d .closeExpired) s
  | .lockTimerExpiry d =>
    atExpiry (s.door d).lockTimer (ms (s.doorCfg d).lockTimeout) (State.rederive d .lockExpired) s
  | .inconsistencyTimerExpiry d =>
    atExpiry (s.door d).inconTimer (ms s.tables.general.inconsistency) (State.inconsistent d) s
  | .releaseDelayExpiry => atExpiry s.dmn.delay (ms 500) (State.setInterlock .free .stopped) s
  | .writeStart => s.startWrite
  | .slotWriteComplete =>
    match s.fmy.write with
    | .slot n c stale => atExpiry s.fmy.writeTimer (ms 4) (State.completeSlotWrite n c stale) s
    | _ => s
  | .counterSaveComplete =>
    match s.fmy.write with
    | .counters c =>
      atExpiry s.fmy.writeTimer (ms 4) (fun s => (s.completeCounterSave c).restartAfterSave) s
    | _ => s
  | .configStoreComplete =>
    match s.fmy.write with
    | .image l => atExpiry s.fmy.writeTimer (ms 120) (State.completeStore l) s
    | _ => s
  | .lampForcingExpiry n =>
    match s.wsv.lamps[n] with
    | some r => atExpiry r.timer (ms r.duration) (State.endLampForce n) s
    | none => s
  | .chimeForcingExpiry =>
    match s.wsv.chime with
    | some r => atExpiry r.timer (ms r.duration) State.endChimeForce s
    | none => s
  | .flashPhaseAdvance => if s.mode.isAwake then s.atFlash.advancePhase else s
  | .chimeToneEdge =>
    match s.pattern.bind Pattern.repeats with
    | some (tone, period) => s.toneEdge tone period
    | none => s
  | .powerOnReset => (s.hardReset .powerOn).modPins fun p => { p with brownOut := false }
  | .brownOut =>
    if s.pins.brownOut then s
    else (s.hardReset .brownOut).modPins fun p => { p with brownOut := true }
  | .externalReset =>
    if s.pins.nrstLow then s else (s.hardReset .pin).modPins fun p => { p with nrstLow := true }
  | .nrstRelease =>
    if s.pins.nrstLow then (s.modPins fun p => { p with nrstLow := false }).startIfReleased else s
  | .brownOutEnd =>
    if s.pins.brownOut then (s.modPins fun p => { p with brownOut := false }).startIfReleased else s
  | .holdLineChange asserted =>
    if s.pins.holdAsserted = asserted then s else s.holdLineChange asserted
  | _ => s

/-- Whether a command acts on a part held in reset too (R16, R207). -/
def actsInReset : Instr → Bool
  | .powerOnReset | .brownOut | .externalReset | .nrstRelease | .brownOutEnd | .holdLineChange _ => true
  | _ => false

/-- A command that is no request answers the state that its effect leaves. -/
theorem exec_event (c : Instr) (s : State) (event : requestFrame c = none) :
    exec c s = .next (if s.heldInReset = true ∧ actsInReset c = false then s else eventEffect c s) := by
  have runs (live : actsInReset c = false) :
      (if s.heldInReset = true ∧ actsInReset c = false then s else eventEffect c s) =
        if s.heldInReset = true then s else eventEffect c s := by simp only [live, and_true]
  have always (acts : actsInReset c = true) :
      (if s.heldInReset = true ∧ actsInReset c = false then s else eventEffect c s) = eventEffect c s :=
    if_neg (by simp [acts])
  cases c
  case noEffectKind kind tag p =>
    have foreign : isNoEffectKind kind = false := by
      by_contra h
      simp [requestFrame, h] at event
    simp [exec, execNoEffectKind, live, foreign, eventEffect]
  case unknownKind kind tag p =>
    have foreign : isUnknownKind kind = false := by
      by_contra h
      simp [requestFrame, h] at event
    simp [exec, execUnknownKind, live, foreign, eventEffect]
  case powerOnReset | brownOut | externalReset | nrstRelease | brownOutEnd | holdLineChange =>
    rw [always rfl]; rfl
  all_goals first
    | (simp only [requestFrame, reduceCtorEq] at event; done)
    | rw [runs rfl]; rfl

/-- Every event changes only the parts listed for it, and does not go back in time. -/
theorem eventEffect_advances (c : Instr) (s : State) : Advances (eventParts c) s (eventEffect c s) := by
  have pins (f : Pins → Pins) : OnlyChanges [.pins, .sched] s (s.modPins f).startIfReleased :=
    (s.modPins_only f).andThen (State.startIfReleased_only _)
  have reset (r : ResetCause) (f : Pins → Pins) :
      Advances partsOfReset s ((s.hardReset r).modPins f) :=
    .trans (s.hardReset_only _).advances (State.modPins_only _ _).advances
  unfold eventEffect
  cases c
  case powerOnReset => exact reset _ _
  case brownOut =>
    exact .ite (.refl _ _) (reset _ _)
  case externalReset =>
    exact .ite (.refl _ _) (reset _ _)
  case nrstRelease => exact .ite (pins _).advances (.refl _ _)
  case brownOutEnd => exact .ite (pins _).advances (.refl _ _)
  case breakRelease => exact .ite (s.hardReset_only _).advances s.lineWentHigh_only.advances
  case restartTakesEffect => exact .ite (s.applyReset_only _).advances (.refl _ _)
  case startupLoadComplete => exact .ite s.completeLoad_only.advances (.refl _ _)
  case startupEnd => exact .ite s.endStartup_only.advances (.refl _ _)
  case vbMeasurement mv ign =>
    exact .ite (.refl _ _) (.trans (.trans (.atMoment s _ _) (State.modMctl_only _ _).advances)
      (State.measureVb_only _ _).advances)
  case supplyLowReportExpiry => exact .atExpiry _ _ _ _ fun s => s.reportLow_only.advances
  case supplyHighReportExpiry => exact .atExpiry _ _ _ _ fun s => s.reportHigh_only.advances
  case ignDebounceExpiry =>
    dsimp only
    split
    · exact .atExpiry _ _ _ _ fun s => (s.acceptIgn_only _).advances
    · exact .refl _ _
  case operatingMinuteElapsed =>
    dsimp only
    split
    · exact .trans (.reach _ _) (.trans (State.bump_only _ _).advances (State.modMctl_only _ _).advances)
    · exact .refl _ _
  case sleepEntry => exact .ite s.enterSleep_only.advances (.refl _ _)
  case sleepSample ign mv => exact .ite (s.sleepSample_only ign mv) (.refl _ _)
  case startOfReception idle => exact .ite (.refl _ _) (s.receptionStarts_only idle).advances
  case byteReceived b h =>
    refine .ite (.refl _ _) ?_
    have ends : OnlyChanges sleepParts s (s.wakeByLink.byteEnds b h) :=
      s.wakeByLink_only.andThen (State.byteEnds_only _ b h)
    exact .trans ends.advances
      (.ite (.refl _ _) (.ite (State.takeByte_only _ b).advances (State.stopBitError_only _).advances))
  case gapTimerExpiry => exact .atExpiry _ _ _ _ fun s => s.abandon_only.advances
  case replySent => exact .ite (s.modLif_only _ (by intro; rfl)).advances (.refl _ _)
  case breakLatch => exact .atExpiry _ _ _ _ fun s => s.latchBreak_only.advances
  case hostSilenceBegins => exact .atExpiry _ _ _ _ fun s => s.beginSilence_only.advances
  case holdLineChange a => exact .ite (.refl _ _) (s.holdLineChange_only a).advances
  case holdLimitExpiry => exact .atExpiry _ _ _ _ fun s => s.holdLimit_only.advances
  case lineSample n mv =>
    refine .ite (.trans (t := s.atLineSample n) (.atMoment s _ _) ?_) (.refl _ _)
    exact .ite (.refl _ _) (.ite (State.measureOnly_only _ n mv).advances
      (State.sampleLine_only _ n mv).advances)
  case qualifyTimerExpiry n =>
    exact .ite (.atExpiry _ _ _ _ fun s => (s.confirmLine_only n).advances) (.refl _ _)
  case healTimerExpiry n =>
    exact .ite (.atExpiry _ _ _ _ fun s => (s.healLine_only n).advances) (.refl _ _)
  case pulseEdge n mv wait =>
    refine .ite (.trans ?_ (State.compare_only _ n mv).advances) (.refl _ _)
    exact ⟨Nat.le_add_right _ _, fun p hp => by
      cases p <;> first | rfl | exact absurd (List.mem_cons_self ..) hp⟩
  case channelSample k =>
    refine .ite (.trans (t := s.atChannelSample k) (.atMoment s _ _) ?_) (.refl _ _)
    exact .trans (State.sampleChannel_only _ k).advances (State.speedUpdate_only _ k).advances
  case feedTimeout k => exact .atExpiry _ _ _ _ fun s => (s.feedTimeout_only k).advances
  case motionInterval k =>
    exact .ite (.trans (.atMoment s _ _) (State.motion_only _ k).advances) (.refl _ _)
  case evaluationPass =>
    exact .ite (.trans (.atMoment s _ _) (State.pass_only _).advances) (.refl _ _)
  case lampCheckEnd =>
    exact .atExpiry _ _ _ _ fun s =>
      (s.endLampCheck_only.trans (State.refreshPru_only _)).advances
  case lampDiagnosticTick n low =>
    exact .ite (.trans (.atMoment s _ _) (State.openTest_only _ n low).advances) (.refl _ _)
  case lampOvercurrent n => exact .ite (s.overcurrent_only n).advances (.refl _ _)
  case lampRetryExpiry n => exact .atExpiry _ _ _ _ fun s => (s.endTrip_only n).advances
  case lampSuccessTimerExpiry n =>
    exact .atExpiry _ _ _ _ fun s => (s.onPeriodGood_only n).advances
  case singleToneComplete =>
    exact .ite (.atExpiry _ _ _ _ fun s => s.singleDone_only.advances) (.refl _ _)
  case openTimerExpiry d => exact .atExpiry _ _ _ _ fun s => (s.rederive_only d _).advances
  case closeTimerExpiry d => exact .atExpiry _ _ _ _ fun s => (s.rederive_only d _).advances
  case lockTimerExpiry d => exact .atExpiry _ _ _ _ fun s => (s.rederive_only d _).advances
  case inconsistencyTimerExpiry d =>
    exact .atExpiry _ _ _ _ fun s => (s.inconsistent_only d).advances
  case releaseDelayExpiry => exact .atExpiry _ _ _ _ fun s => (s.setInterlock_only _ _).advances
  case writeStart => exact s.startWrite_only.advances
  case slotWriteComplete =>
    dsimp only
    split
    · exact .atExpiry _ _ _ _ fun s => (s.completeSlotWrite_only _ _ _).advances
    · exact .refl _ _
  case counterSaveComplete =>
    dsimp only
    split
    · exact .atExpiry _ _ _ _ fun s =>
        .trans (s.completeCounterSave_only _).advances (State.restartAfterSave_only _).advances
    · exact .refl _ _
  case configStoreComplete =>
    dsimp only
    split
    · exact .atExpiry _ _ _ _ fun s => (s.completeStore_only _).advances
    · exact .refl _ _
  case lampForcingExpiry n =>
    dsimp only
    split
    · exact .atExpiry _ _ _ _ fun s => (s.endLampForce_only n).advances
    · exact .refl _ _
  case chimeForcingExpiry =>
    dsimp only
    split
    · exact .atExpiry _ _ _ _ fun s => s.endChimeForce_only.advances
    · exact .refl _ _
  case flashPhaseAdvance =>
    exact .ite (.trans (.atMoment s _ _) (State.advancePhase_only _).advances) (.refl _ _)
  case chimeToneEdge =>
    dsimp only
    split
    · exact s.toneEdge_advances _ _
    · exact .refl _ _
  all_goals exact .refl _ _

/-! ### Requests -/

/-- What a request does and answers when it is served (R197, R198). -/
def requestService : Instr → Service
  | .ping _ p => served true (fun l => decide (l ≤ 47)) p (pingService p)
  | .readStatus _ p => served true (ofLength 0) p readStatusService
  | .readAttention _ p => served true (ofLength 0) p readAttentionService
  | .setMode _ p => served false (ofLength 1) p (setModeService (rd8 p 0))
  | .restart _ p => served false (ofLength 0) p restartService
  | .writeTable _ p => served false writeTableLength p (writeTableService p)
  | .readTable _ p => served false (ofLength 2) p (readTableService p)
  | .storeConfig _ p => served false (ofLength 0) p storeConfigService
  | .readLines _ p => served false (ofLength 0) p readLinesService
  | .readLineDetail _ p => served false (ofLength 2) p (readLineDetailService p)
  | .feedValue _ p => served false (ofLength 3) p (feedValueService p)
  | .readGauges _ p => served false (ofLength 0) p readGaugesService
  | .sweep _ p => served false (ofLength 1) p (sweepService p)
  | .readRules _ p => served false (ofLength 2) p (readRulesService p)
  | .readPresentation _ p => served false (ofLength 0) p readPresentationService
  | .acknowledge _ p => served false (ofLength 1) p (acknowledgeService (rd8 p 0))
  | .readDoors _ p => served false (ofLength 0) p readDoorsService
  | .releaseDoors _ p => served false (ofLength 1) p (releaseDoorsService (rd8 p 0))
  | .withdrawRelease _ p => served false (ofLength 1) p (withdrawReleaseService (rd8 p 0))
  | .readFaults _ p => served false (ofLength 0) p (readout readFaultsService)
  | .setFaultCursor _ p => served false (ofLength 1) p (readout (setFaultCursorService (rd8 p 0)))
  | .readFaultDetail _ p => served false (ofLength 3) p (readout (readFaultDetailService p))
  | .readCounters _ p => served false (ofLength 0) p readCountersService
  | .forceLamp _ p => servedInWorkshop (ofLength 4) p (forceLampService p)
  | .forceNeedle _ p => servedInWorkshop (ofLength 3) p (forceNeedleService p)
  | .forceChime _ p => servedInWorkshop (ofLength 3) p (forceChimeService p)
  | .endForcing _ p => servedInWorkshop (ofLength 1) p (endForcingService p)
  | .clearFaults _ p => servedInWorkshop (ofLength 2) p (clearFaultsService (rd16 p 0))
  | .resetCounter _ p => servedInWorkshop (ofLength 1) p (resetCounterService p)
  | .readRawLine _ p => servedInWorkshop (ofLength 1) p (readRawLineService p)
  | .unknownKind kind _ _ => unknownKindService kind
  | _ => noEffectService

/-- A request command brings its frame in and is served, on a part that runs. -/
theorem exec_request {c : Instr} {f : Frame} (s : State) (request : requestFrame c = some f) :
    exec c s = .next (if s.heldInReset = true then s else s.request f (requestService c)) := by
  cases c
  case noEffectKind kind tag p =>
    obtain ⟨own, rfl⟩ : isNoEffectKind kind = true ∧ (⟨kind, tag, p⟩ : Frame) = f := by
      simpa [requestFrame] using request
    simp [exec, execNoEffectKind, live, own, requestService]
  case unknownKind kind tag p =>
    obtain ⟨own, rfl⟩ : isUnknownKind kind = true ∧ (⟨kind, tag, p⟩ : Frame) = f := by
      simpa [requestFrame] using request
    simp [exec, execUnknownKind, live, own, requestService]
  all_goals first
    | (simp only [requestFrame, reduceCtorEq] at request; done)
    | (cases request; rfl)

/-- The three ways of a request command: the frame is the unserved head and is served; it comes in over a free
line, and is served if it then stands at the head; or the line is in use and nothing happens. -/
theorem State.request_cases (s : State) (f : Frame) (k : Service) :
    (s.atHead f = true ∧ s.request f k = s.serve f k) ∨
    (s.atHead f = false ∧ s.lineFree = false ∧ s.request f k = s) ∨
    (s.atHead f = false ∧ s.lineFree = true ∧
      s.request f k = if (s.wakeByLink.lineWentHigh.frameArrives f).atHead f = true
        then (s.wakeByLink.lineWentHigh.frameArrives f).serve f k
        else s.wakeByLink.lineWentHigh.frameArrives f) := by
  unfold State.request State.receiveWhole
  cases head : s.atHead f
  case true => exact .inl ⟨rfl, by simp [head]⟩
  case false =>
    cases free : s.lineFree
    case false => exact .inr (.inl ⟨rfl, rfl, by simp [head]⟩)
    case true => exact .inr (.inr ⟨rfl, rfl, by simp⟩)

/-- A property that the wake, the end of a low period, an arrival and the service keep is kept by a request. -/
theorem State.request_keeps {P : State → Prop} {f : Frame} {k : Service}
    (wake : ∀ s : State, s.mode = .sleep → P s → P s.wake) (high : ∀ s : State, P s → P s.lineWentHigh)
    (arrives : ∀ s : State, P s → P (s.frameArrives f))
    (serves : ∀ s : State, s.atHead f = true → P s → P (s.serve f k)) {s : State} (h : P s) :
    P (s.request f k) := by
  obtain ⟨head, e⟩ | ⟨-, -, e⟩ | ⟨-, -, e⟩ := s.request_cases f k <;> rw [e]
  · exact serves s head h
  · exact h
  · have awake : P s.wakeByLink := by
      unfold State.wakeByLink
      split
      · exact wake s ‹_› h
      · exact h
    have here := arrives _ (high _ awake)
    split
    · exact serves _ ‹_› here
    · exact here

/-- The parts that the service of a request can change, but for the reply. -/
def serviceParts : Instr → List Part
  | .readAttention _ _ => [.attention]
  | .setMode _ _ =>
    [.sched, .mctl, .hlm, .gve, .ndr, .wev, .pru, .dmn, .fmy, .cursor, .forcing, .attention, .link, .tables,
      .written]
  | .restart _ _ => [.mctl, .link, .fmy]
  | .writeTable _ _ => [.written]
  | .storeConfig _ _ | .resetCounter _ _ => [.fmy]
  | .readLines _ _ => [.hlm]
  | .feedValue _ _ => [.gve]
  | .sweep _ _ => [.ndr, .attention]
  | .acknowledge _ _ => ruleParts
  | .releaseDoors _ _ | .withdrawRelease _ _ => grantParts
  | .readFaults _ _ | .setFaultCursor _ _ => [.cursor]
  | .forceLamp _ _ | .forceChime _ _ => [.forcing, .pru]
  | .forceNeedle _ _ => [.forcing, .ndr, .attention]
  | .endForcing _ _ => forcingParts
  | .clearFaults _ _ => faultParts
  | _ => []

section
variable (s : State) {l : List Part} {p : List Byte} {k : Service}

theorem served_only (early : Bool) (ok : Nat → Bool) (h : OnlyChanges l s (k s).1) :
    OnlyChanges l s (served early ok p k s).1 := by
  unfold served
  repeat' split
  all_goals first | with_reducible exact .refl _ _ | with_reducible exact h

theorem servedInWorkshop_only (ok : Nat → Bool) (h : s.mode = .workshop → OnlyChanges l s (k s).1) :
    OnlyChanges l s (servedInWorkshop ok p k s).1 := by
  unfold servedInWorkshop
  split
  · exact .refl _ _
  · split
    · exact h (not_not.mp ‹_›)
    · exact .refl _ _

theorem readout_only (h : OnlyChanges l s (k s).1) : OnlyChanges l s (readout k s).1 := by
  unfold readout
  split
  · exact h
  · exact .refl _ _

theorem State.setWritten_only (w : Option Tables) : OnlyChanges [.written] s { s with written := w } := by
  intro p hp; cases p <;> first | rfl | exact absurd (by simp) hp

theorem State.enterSetup_only : OnlyChanges
    [.mctl, .ndr, .wev, .pru, .dmn, .fmy, .cursor, .attention, .link, .written] s s.enterSetup := by
  delta State.enterSetup
  extract_lets s1
  have h1 : OnlyChanges [.mctl, .written] s s1 :=
    (s.setWritten_only _).andThen (State.setMode_only _ _)
  exact h1.andThen (((((s1.allRulesOff_only.andThen (State.parkNeedles_only _) (n := .ndr :: ruleParts)).andThen
    (State.forceInterlock_only _) (n := .dmn :: .ndr :: ruleParts)).andThen (State.stopSilenceTimer_only _)
    (n := .link :: .dmn :: .ndr :: ruleParts)).andThen (State.refreshPru_only _)
    (n := .link :: .dmn :: .ndr :: ruleParts)))

/-- What the exit from SETUP can change. -/
abbrev setupParts : List Part :=
  [.sched, .mctl, .hlm, .gve, .ndr, .wev, .pru, .dmn, .fmy, .cursor, .attention, .link, .tables, .written]

theorem State.takeUpTables_only (t : Tables) :
    OnlyChanges [.hlm, .gve, .ndr, .wev, .pru, .dmn, .tables, .written] s (s.takeUpTables t) := by
  refine .trans ?_ (State.resetGauges_only _).mono
  intro p hp; cases p <;> first | rfl | exact absurd (by simp) hp

theorem State.exitSetup_only (t : Tables) : OnlyChanges setupParts s (s.exitSetup t) := by
  delta State.exitSetup
  extract_lets s1 s2 s3 s4
  have h1 : OnlyChanges setupParts s s1 := (s.takeUpTables_only t).andThen (State.removeOverAged_only _ _)
  have h2 : OnlyChanges setupParts s1 s2 := s1.settleBlocks_only.andThen (State.startComparators_only _)
  have h3 : OnlyChanges setupParts s2 s3 := (s2.modSched_only _).mono
  have h4 : OnlyChanges setupParts s3 s4 := .ite s3.enterRun_only.mono (s3.setMode_only _).mono
  exact h1.trans (h2.trans (h3.trans (h4.trans
    ((s4.freeInterlock_only.andThen (State.startSilenceTimer_only _) (n := .link :: doorParts)).andThen
      (State.refreshPru_only _)))))

theorem setModeService_only (target : Nat) (tag : Byte) (p : List Byte) :
    OnlyChanges (serviceParts (.setMode tag p)) s (setModeService target s).1 := by
  have leave : OnlyChanges (serviceParts (.setMode tag p)) s (leaveSetupService s).1 := by
    unfold leaveSetupService
    dsimp only
    split
    · with_reducible exact (s.exitSetup_only _).mono
    · with_reducible exact .refl _ _
  unfold setModeService
  repeat' split
  all_goals first
    | with_reducible exact .refl _ _
    | with_reducible exact leave
    | with_reducible exact s.enterSetup_only.mono
    | with_reducible exact s.leaveWorkshop_only.mono
    | with_reducible exact (s.setMode_only _).mono
    | with_reducible exact (s.modMctl_only _).mono

theorem State.endTarget_only (t : ForceTarget) : OnlyChanges forcingParts s (s.endTarget t) := by
  unfold State.endTarget
  refine .ite (.refl _ _) ?_
  cases t
  case all => exact s.endAllForcing_only
  case lamp n => exact (s.endLampForce_only n).mono
  case needle k => exact (s.endNeedleForce_only k).mono
  case chime => exact s.endChimeForce_only.mono

theorem State.forceLamp_only (n : Fin 24) (x : Level) (d : Nat) :
    OnlyChanges [.forcing, .pru] s (s.forceLamp n x d) :=
  (s.modWsv_forcing _ (by intro; rfl)).andThen (State.refreshPru_only _)
theorem State.forceNeedle_only (n : Fin 6) (x : Nat) :
    OnlyChanges [.forcing, .ndr, .attention] s (s.forceNeedle n x) :=
  (s.modWsv_forcing _ (by intro; rfl)).andThen (State.needleForced_only _ _)
theorem State.forceChime_only (x : Pattern) (d : Nat) :
    OnlyChanges [.forcing, .pru] s (s.forceChime x d) :=
  ((s.modWsv_forcing _ (by intro; rfl)).andThen (State.refreshChime_only _) (n := [.forcing, .pru])).andThen
    (State.startPattern_only _)
theorem State.resetCounter_only (c : Fin 12) : OnlyChanges [.fmy] s (s.resetCounter c) :=
  (s.modFmy_only _).trans (State.makeCounterDue_only _)

/-- Every service changes only the parts listed for its request. -/
theorem requestService_only (c : Instr) (s : State) :
    OnlyChanges (serviceParts c) s (requestService c s).1 := by
  cases c
  case readAttention =>
    refine served_only s _ _ ?_
    intro p hp; cases p <;> first | rfl | exact absurd (by simp [serviceParts]) hp
  case setMode tag p => exact served_only s _ _ (setModeService_only s _ tag p)
  case restart =>
    exact served_only s _ _ ((((s.modMctl_only _).andThen (State.modLif_only _ _ (by intro; rfl))
      (n := [.mctl, .link])).andThen (State.makeCounterDue_only _)))
  case writeTable =>
    refine served_only s _ _ ?_
    unfold writeTableService
    repeat' split
    all_goals intro p hp; cases p <;> first | rfl | exact absurd (by simp [serviceParts]) hp
  case readTable =>
    exact served_only s _ _ (by unfold readTableService; dsimp only; split <;> exact .refl _ _)
  case storeConfig =>
    refine served_only s _ _ ?_
    unfold storeConfigService
    repeat' split
    all_goals first | with_reducible exact .refl _ _ | with_reducible exact (s.modFmy_only _).mono
  case readLines => exact served_only s _ _ (s.modHlm_only _)
  case readLineDetail =>
    exact served_only s _ _ (by unfold readLineDetailService; split <;> exact .refl _ _)
  case feedValue =>
    refine served_only s _ _ ?_
    unfold feedValueService
    repeat' split
    all_goals first | with_reducible exact .refl _ _ | with_reducible exact (s.modChannel_only _ _).mono
  case sweep =>
    refine served_only s _ _ ?_
    unfold sweepService
    dsimp only
    repeat' split
    all_goals first | with_reducible exact .refl _ _ | with_reducible exact (s.startSweep_only _).mono
  case readRules =>
    exact served_only s _ _ (by unfold readRulesService; split <;> exact .refl _ _)
  case acknowledge =>
    refine served_only s _ _ ?_
    unfold acknowledgeService
    repeat' split
    all_goals first | with_reducible exact .refl _ _ | with_reducible exact (s.ackRule_only _).mono
  case releaseDoors =>
    refine served_only s _ _ ?_
    unfold releaseDoorsService
    dsimp only
    repeat' split
    all_goals first | with_reducible exact .refl _ _ | with_reducible exact (s.grantAll_only _ _).mono
  case withdrawRelease =>
    refine served_only s _ _ ?_
    unfold withdrawReleaseService
    split
    · exact s.grantAll_only _ _
    · exact .refl _ _
  case readFaults => exact served_only s _ _ (readout_only s (s.modWsv_cursor _ (by intro; rfl)))
  case setFaultCursor =>
    refine served_only s _ _ (readout_only s ?_)
    unfold setFaultCursorService
    split
    · exact s.modWsv_cursor _ (by intro; rfl)
    · exact .refl _ _
  case readFaultDetail =>
    exact served_only s _ _ (readout_only s
      (by unfold readFaultDetailService; split <;> exact .refl _ _))
  case forceLamp =>
    refine servedInWorkshop_only s _ fun _ => ?_
    unfold forceLampService
    repeat' split
    all_goals first | with_reducible exact .refl _ _ | with_reducible exact (s.forceLamp_only _ _ _).mono
  case forceNeedle =>
    refine servedInWorkshop_only s _ fun _ => ?_
    unfold forceNeedleService
    repeat' split
    all_goals first | with_reducible exact .refl _ _ | with_reducible exact (s.forceNeedle_only _ _).mono
  case forceChime =>
    refine servedInWorkshop_only s _ fun _ => ?_
    unfold forceChimeService
    repeat' split
    all_goals first | with_reducible exact .refl _ _ | with_reducible exact (s.forceChime_only _ _).mono
  case endForcing =>
    refine servedInWorkshop_only s _ fun _ => ?_
    unfold endForcingService
    split
    · exact s.endTarget_only _
    · exact .refl _ _
  case clearFaults =>
    refine servedInWorkshop_only s _ fun _ => ?_
    unfold clearFaultsService
    repeat' split
    all_goals first | with_reducible exact .refl _ _ | with_reducible exact (s.clearClasses_only _).mono
  case resetCounter =>
    refine servedInWorkshop_only s _ fun _ => ?_
    unfold resetCounterService
    repeat' split
    all_goals first | with_reducible exact .refl _ _ | with_reducible exact (s.resetCounter_only _).mono
  case readRawLine =>
    exact servedInWorkshop_only s _ fun _ => by unfold readRawLineService; split <;> exact .refl _ _
  case unknownKind kind tag p =>
    change OnlyChanges _ s (unknownKindService kind s).1
    unfold unknownKindService
    split <;> exact .refl _ _
  case ping | readStatus | readGauges | readPresentation | readDoors | readCounters =>
    exact served_only s _ _ (.refl _ _)
  all_goals exact .refl _ _

end

/-! ### Steps -/

/-- What a request leaves alone whatever it is. -/
theorem State.request_advances (s : State) {c : Instr} (f : Frame) :
    Advances partsOfReset s (s.request f (requestService c)) := by
  have link (t : State) (g : Lif → Lif) (h : ∀ l, (g l).attention = l.attention) :
      OnlyChanges partsOfReset t (t.modLif g) := (t.modLif_only g h).mono
  have service : OnlyChanges partsOfReset s s := .refl _ _
  refine State.request_keeps (P := Advances partsOfReset s) (fun u _ h => h.trans u.wake_only.advances)
    (fun u h => h.trans u.lineWentHigh_only.advances)
    (fun u h => h.trans (u.frameArrives_only f).advances) (fun u _ h => h.trans ?_) (.refl _ _)
  have serves : OnlyChanges partsOfReset u (u.serve f (requestService c)) := by
    refine State.serve_only u f _ _ ?_
    have parts := requestService_only c u
    revert parts
    cases c <;> exact fun parts => parts.mono
  exact serves.advances

/-- A command is a request or an event. -/
theorem exec_cases (c : Instr) (s : State) :
    (∃ f, requestFrame c = some f ∧
      exec c s = .next (if s.heldInReset = true then s else s.request f (requestService c))) ∨
    (requestFrame c = none ∧
      exec c s = .next (if s.heldInReset = true ∧ actsInReset c = false then s else eventEffect c s)) := by
  cases kind : requestFrame c with
  | none => exact .inr ⟨rfl, exec_event c s kind⟩
  | some f => exact .inl ⟨f, rfl, exec_request s kind⟩

/-- Every command answers a next state, which leaves the queue of commands alone and is not in the past. -/
theorem exec_answers (c : Instr) (s : State) :
    ∃ t, exec c s = .next t ∧ Advances partsOfReset s t := by
  obtain ⟨f, -, e⟩ | ⟨-, e⟩ := exec_cases c s
  · exact ⟨_, e, .ite (.refl _ _) (s.request_advances f)⟩
  · refine ⟨_, e, .ite (.refl _ _) ?_⟩
    obtain ⟨now, only⟩ := eventEffect_advances c s
    refine ⟨now, ?_⟩
    revert only
    cases c <;> exact fun only => only.mono

/-- A property that does not look at the queue of commands or at the moment, and that every command keeps, is
kept by every step. -/
theorem step_keeps {P : State → Prop} (unqueued : ∀ (s : State) (l : List Instr), P s → P { s with pending := l })
    (idle : ∀ s : State, P s → P s.idle)
    (commands : ∀ (c : Instr) (s t : State), P s → exec c s = .next t → P t) {s t : State} (h : P s)
    (e : step s = .next t) : P t := by
  unfold step at e
  split at e
  · cases e; exact idle s h
  · exact commands _ _ _ (unqueued _ _ h) e

/-- What a property must survive to survive every command: the four stages of a request, and every event. -/
theorem exec_keeps {P : State → Prop} (wake : ∀ s : State, s.mode = .sleep → P s → P s.wake)
    (high : ∀ s : State, P s → P s.lineWentHigh) (arrives : ∀ (f : Frame) (s : State), P s → P (s.frameArrives f))
    (serves : ∀ (c : Instr) (f : Frame) (s : State), requestFrame c = some f → s.atHead f = true → P s →
      P (s.serve f (requestService c)))
    (events : ∀ (c : Instr) (s : State), requestFrame c = none → P s → P (eventEffect c s))
    (c : Instr) (s t : State) (h : P s) (e : exec c s = .next t) : P t := by
  obtain ⟨f, request, e'⟩ | ⟨event, e'⟩ := exec_cases c s
  all_goals
    rw [e'] at e
    cases e
    split
    · exact h
  · exact State.request_keeps wake high (arrives f) (fun u head => serves c f u request head) h
  · exact events c s event h

/-- Settles O1: the second equation of `step`. -/
theorem stepRunsFrontCommand : Obligations.StepRunsFrontCommand := by
  intro c rest s queue
  simp only [step, queue]

/-- Settles O2: every command advances within the parts of a reset, among which the queue is not. -/
theorem everyStepAnswersNext : Obligations.EveryStepAnswersNext := by
  refine ⟨fun c s => ?_, fun s empty => ⟨s.idle, ?_, rfl, ?_⟩⟩
  · obtain ⟨t, e, now, only⟩ := exec_answers c s
    exact ⟨t, e, only .pending (by decide), now⟩
  · simp only [step, empty]
  · intro p hp; cases p <;> first | rfl | exact absurd (by simp) hp

end Sys2Proof.Machine
end

section
/-! PROOFS. The law of the link (R195, R196): the frames that LIF holds and its error count, which few
operations touch, and what each of those makes of them. -/

namespace Sys2Proof.Machine

set_option Elab.async false

/-- What the law of the link speaks of: the queue, the reply and the error count. -/
def Lif.frames (l : Lif) : List Frame × Option Frame × Nat := (l.queue, l.tx, l.errors)

/-! ### The operations that leave the frames alone -/

/-- From `s` to `t` the frames and the error count stay. -/
def KeepsFrames (s t : State) : Prop := t.lif.frames = s.lif.frames

theorem OnlyChanges.link_eq {l : List Part} {s t : State} (h : OnlyChanges l s t)
    (k : partsIn [.link] l = false := by with_unfolding_all rfl) : t.lif.link = s.lif.link :=
  h .link fun mem => by
    simp only [partsIn, List.all_cons, List.all_nil, Bool.and_true, List.any_eq_false, beq_iff_eq] at k
    exact k _ mem rfl

theorem OnlyChanges.frames {l : List Part} {s t : State} (h : OnlyChanges l s t)
    (k : partsIn [.link] l = false := by with_unfolding_all rfl) : KeepsFrames s t :=
  (congrArg Lif.frames (h.link_eq k) :)

section
variable {s t u : State}

theorem KeepsFrames.refl (s : State) : KeepsFrames s s := rfl

theorem KeepsFrames.trans (h : KeepsFrames s t) (k : KeepsFrames t u) : KeepsFrames s u := Eq.trans k h

theorem KeepsFrames.ite {c : Prop} [Decidable c] (h : KeepsFrames s t) (k : KeepsFrames s u) :
    KeepsFrames s (if c then t else u) := by split <;> assumption

theorem KeepsFrames.modLif (s : State) (f : Lif → Lif) (h : ∀ l, (f l).frames = l.frames) :
    KeepsFrames s (s.modLif f) := h s.lif

end

/-- What the wake and SLEEP entry change beside the link. -/
abbrev awakeParts : List Part :=
  [.sched, .mctl, .hlm, .gve, .ndr, .pru, .dmn, .fmy, .cursor, .attention]

section
variable (s : State)

theorem State.beginHold_frames : KeepsFrames s s.beginHold := .modLif s _ (by intro; rfl)
theorem State.startSilenceTimer_frames : KeepsFrames s s.startSilenceTimer := .modLif s _ (by intro; rfl)
theorem State.stopSilenceTimer_frames : KeepsFrames s s.stopSilenceTimer := .modLif s _ (by intro; rfl)
theorem State.lineWentHigh_frames : KeepsFrames s s.lineWentHigh := .modLif s _ (by intro; rfl)
theorem State.refreshPru_frames : KeepsFrames s s.refreshPru := s.refreshPru_only.frames

theorem State.endHold_frames : KeepsFrames s s.endHold :=
  (((KeepsFrames.modLif s _ (by intro; rfl)).trans (State.publishList_only _).frames).trans
    (State.publishTargets_only _).frames).trans (State.refreshPru_frames _)

theorem State.holdIfAsserted_frames : KeepsFrames s s.holdIfAsserted := .ite s.beginHold_frames (.refl s)

theorem State.endHoldForSleep_frames : KeepsFrames s s.endHoldForSleep :=
  .trans (t := if s.lif.hold then s.endHold else s) (.ite s.endHold_frames (.refl s))
    (.modLif _ _ (by intro; rfl))

theorem State.holdChange_frames (a : Bool) : KeepsFrames s (s.holdChange a) :=
  .ite (.ite (.refl s) s.beginHold_frames) (.ite s.endHold_frames (.modLif s _ (by intro; rfl)))

theorem State.wake_frames : KeepsFrames s s.wake := by
  delta State.wake
  extract_lets s1 s2 s3
  have h1 : OnlyChanges awakeParts s s1 :=
    ((s.setMode_only _).andThen (State.attend_only _ _) (n := awakeParts)).andThen
      (State.modMctl_only _ _)
  have h2 : OnlyChanges awakeParts s1 s2 :=
    ((s1.startScans_only.andThen (State.startServices_only _) (n := awakeParts)).andThen
      (State.wakeLines_only _) (n := awakeParts)).andThen (State.wakeGauges_only _)
  have h3 : OnlyChanges awakeParts s2 s3 :=
    (s2.gateDoorTimers_only.andThen (State.mapRetries_only _ _) (n := awakeParts)).andThen
      (State.restartPhase_only _)
  have started : KeepsFrames s s3.freeInterlock.startSilenceTimer :=
    ((h1.trans (h2.trans h3)).frames.trans s3.freeInterlock_only.frames).trans
      (State.startSilenceTimer_frames _)
  exact (started.trans (State.holdIfAsserted_frames _)).trans (State.refreshPru_frames _)

theorem State.enterSleep_frames : KeepsFrames s s.enterSleep := by
  delta State.enterSleep
  extract_lets s1 s2 s3 s4
  have h1 : KeepsFrames s s1 :=
    (s.endHoldForSleep_frames.trans (State.setMode_only _ _).frames).trans (State.modMctl_only _ _).frames
  have h2 : OnlyChanges awakeParts s1 s2 :=
    ((s1.makeCounterDue_only.andThen (State.gateFaultTimers_only _) (n := awakeParts)).andThen
      (State.stopComparators_only _) (n := awakeParts)).andThen (State.stopGauges_only _)
  have h3 : OnlyChanges awakeParts s2 s3 :=
    (((forNeedles_only s2 _).andThen (State.gateDoorTimers_only _) (n := awakeParts)).andThen
      (State.forceInterlock_only _) (n := awakeParts)).andThen (State.refreshOutputs_only _)
  have h4 : KeepsFrames s3 s4 :=
    ((s3.mapRetries_only _).frames.trans (State.stopSilenceTimer_frames _)).trans (State.refreshPru_frames _)
  exact ((h1.trans (h2.trans h3).frames).trans h4).trans (s4.modSched_only _).frames

theorem State.sleepSample_frames (ign : Bool) (mv : Vector Nat 32) :
    KeepsFrames s (s.sleepSample ign mv) := by
  delta State.sleepSample
  extract_lets t s1
  have lines : KeepsFrames s (s1.sleepLines mv).1 :=
    KeepsFrames.trans (t := s1) rfl (s1.sleepLines_only mv).frames
  split
  rename_i s2 changed e
  rw [e] at lines
  have sampled : KeepsFrames s (s2.modMctl (Mctl.ignSample ign s2.now)) :=
    lines.trans (s2.modMctl_only _).frames
  exact .ite (sampled.trans (State.wake_frames _)) sampled

theorem State.leaveStartup_frames (passed : Bool) : KeepsFrames s (s.leaveStartup passed) := by
  delta State.leaveStartup
  extract_lets s1
  have h : OnlyChanges ignitionParts s s1 := .ite s.enterRun_only (s.setMode_only _).mono
  exact .ite ((h.frames.trans s1.freeInterlock_only.frames).trans (State.startSilenceTimer_frames _))
    ((s.setMode_only _).frames.trans (State.homeAllNeedles_only _).frames)

theorem State.settleLink_frames : KeepsFrames s s.settleLink :=
  (s.reportCleared_only _).frames.trans (.modLif _ _ (by intro; rfl))

theorem State.endStartup_frames : KeepsFrames s s.endStartup := by
  delta State.endStartup
  extract_lets passed s1 s2 s3 s4
  have h2 : KeepsFrames s s2 :=
    KeepsFrames.trans (t := s1) rfl ((s1.attend_only _).frames.trans (State.report_only _ _ _).frames)
  have h3 : KeepsFrames s2 s3 := s2.settleBlocks_only.frames.trans (State.settleLink_frames _)
  have h4 : OnlyChanges [.hlm, .gve, .sched] s3 s4 :=
    ((s3.dropUnclassified_only.andThen (State.startComparators_only _) (n := [.hlm])).andThen
      (State.startUnits_only _) (n := [.hlm, .gve])).andThen (State.startServices_only _)
  exact ((((h2.trans h3).trans h4.frames).trans (s4.leaveStartup_frames _)).trans
    (State.holdIfAsserted_frames _)).trans (State.refreshPru_frames _)

theorem State.beginSilence_frames : KeepsFrames s s.beginSilence := by
  delta State.beginSilence
  extract_lets s1 s2
  have h1 : KeepsFrames s s1 := rfl
  have h2 : OnlyChanges (.pru :: faultParts) s1 s2 :=
    ((s1.reportActive_only _).andThen (State.bump_only _ _) (n := faultParts)).andThen
      (State.refreshPru_only _)
  exact (h1.trans h2.frames).trans (.ite s2.workshopToRun_only.frames (.refl s2))

theorem State.enterSetup_frames : KeepsFrames s s.enterSetup := by
  delta State.enterSetup
  extract_lets s1
  have h1 : KeepsFrames s s1 := rfl
  have h : OnlyChanges (.dmn :: .ndr :: ruleParts) s1 s1.allRulesOff.parkNeedles.forceInterlock :=
    (s1.allRulesOff_only.andThen (State.parkNeedles_only _) (n := .ndr :: ruleParts)).andThen
      (State.forceInterlock_only _)
  exact ((h1.trans h.frames).trans (State.stopSilenceTimer_frames _)).trans (State.refreshPru_frames _)

theorem State.exitSetup_frames (t : Tables) : KeepsFrames s (s.exitSetup t) := by
  delta State.exitSetup
  extract_lets s1 s2 s3 s4
  have h1 : KeepsFrames s s1 :=
    (s.takeUpTables_only t).frames.trans (State.removeOverAged_only _ _).frames
  have h2 : KeepsFrames s1 s2 := s1.settleBlocks_only.frames.trans (State.startComparators_only _).frames
  have h3 : KeepsFrames s2 s3 := (s2.modSched_only _).frames
  have h4 : OnlyChanges ignitionParts s3 s4 := .ite s3.enterRun_only (s3.setMode_only _).mono
  exact (((((h1.trans h2).trans h3).trans h4.frames).trans s4.freeInterlock_only.frames).trans
    (State.startSilenceTimer_frames _)).trans (State.refreshPru_frames _)

theorem State.hearHost_frames : KeepsFrames s s.hearHost :=
  (congrArg Lif.frames s.hearHost_link :)

end

/-! ### The law -/

/-- R195, R196, of the frames alone. -/
def FramesLaw (x : List Frame × Option Frame × Nat) : Prop :=
  x.1.length ≤ 2 ∧ (x.2.1.isSome = true → x.1 ≠ []) ∧ x.2.2 ≤ 65535

theorem linkLaw_iff {s : State} : LinkLaw s ↔ FramesLaw s.lif.frames :=
  ⟨fun h => ⟨h.places, h.answers, h.errors⟩, fun ⟨places, answers, errors⟩ => ⟨places, answers, errors⟩⟩

/-- What leaves the frames alone keeps the law. -/
theorem LinkLaw.of_frames {s t : State} (h : LinkLaw s) (e : KeepsFrames s t) : LinkLaw t :=
  linkLaw_iff.mpr (Eq.mpr (congrArg FramesLaw e) (linkLaw_iff.mp h))

theorem LinkLaw.linkError {s : State} (h : LinkLaw s) : LinkLaw s.linkError :=
  { places := h.places, answers := h.answers, errors := Nat.min_le_right _ _ }

theorem LinkLaw.receiver {s : State} (h : LinkLaw s) (r : Rx) : LinkLaw (s.receiver r) := h.of_frames rfl

theorem LinkLaw.frameArrives {s : State} (h : LinkLaw s) (f : Frame) : LinkLaw (s.frameArrives f) := by
  have heard : LinkLaw s.hearHost := h.of_frames s.hearHost_frames
  obtain ⟨-, e⟩ | ⟨-, -, e⟩ | ⟨-, -, room, e⟩ := s.frameArrives_cases f <;> rw [e]
  · exact heard
  · exact heard.linkError
  · refine { places := ?_, answers := fun _ => ?_, errors := heard.errors }
    · simp only [State.modLif_lif, s.hearHost_queue, List.length_append, List.length_singleton]
      omega
    · exact List.append_ne_nil_of_right_ne_nil _ (List.cons_ne_nil _ _)

theorem LinkLaw.takeByte {s : State} (h : LinkLaw s) (b : Byte) : LinkLaw (s.takeByte b) := by
  unfold State.takeByte
  dsimp only
  repeat' split
  all_goals first
    | with_reducible exact h.receiver _
    | with_reducible exact h.linkError
    | with_reducible exact (h.receiver _).linkError
    | with_reducible exact (h.receiver _).frameArrives _
    | exact (h.receiver .hunt).linkError

theorem LinkLaw.ite {s t : State} {c : Prop} [Decidable c] (h : LinkLaw s) (k : LinkLaw t) :
    LinkLaw (if c then s else t) := by split <;> assumption

theorem LinkLaw.wake {s : State} (h : LinkLaw s) : LinkLaw s.wake := h.of_frames s.wake_frames

theorem LinkLaw.wakeByLink {s : State} (h : LinkLaw s) : LinkLaw s.wakeByLink := .ite h.wake h

theorem LinkLaw.applyReset (s : State) (c : ResetCause) : LinkLaw (s.applyReset c) :=
  { places := Nat.zero_le _, answers := fun h => (Bool.false_ne_true h).elim, errors := Nat.zero_le _ }

theorem LinkLaw.atExpiry {s : State} (h : LinkLaw s) (timer : Timer) (figure : Nat) {k : State → State}
    (keeps : ∀ s, LinkLaw s → LinkLaw (k s)) : LinkLaw (atExpiry timer figure k s) :=
  atExpiry_cases s timer figure k _ h fun _ _ => keeps _ (h.of_frames rfl)

/-- No service touches the queue, the reply or the error count, but RESTART, which keeps the head. -/
theorem requestService_frames (c : Instr) (s : State) :
    KeepsFrames s (requestService c s).1 ∨
      (requestService c s).1.lif.frames = (s.lif.queue.take 1, s.lif.tx, s.lif.errors) := by
  have only := requestService_only c s
  cases c
  case restart tag p =>
    change KeepsFrames s (served false (ofLength 0) p restartService s).1 ∨
      (served false (ofLength 0) p restartService s).1.lif.frames = _
    unfold served
    repeat' split
    all_goals first | exact .inl rfl | exact .inr rfl
  case setMode tag p =>
    refine .inl ?_
    change KeepsFrames s (served false (ofLength 1) p (setModeService (rd8 p 0)) s).1
    have leave : KeepsFrames s (leaveSetupService s).1 := by
      unfold leaveSetupService
      dsimp only
      split
      · with_reducible exact s.exitSetup_frames _
      · exact .refl s
    unfold served setModeService
    repeat' split
    all_goals first
      | with_reducible exact .refl s
      | with_reducible exact leave
      | with_reducible exact s.enterSetup_frames
      | with_reducible exact s.leaveWorkshop_only.frames
      | with_reducible exact (s.setMode_only _).frames
      | with_reducible exact (s.modMctl_only _).frames
  all_goals exact .inl only.frames

theorem LinkLaw.serve {s : State} (h : LinkLaw s) {f : Frame} (head : s.atHead f = true) (c : Instr) :
    LinkLaw (s.serve f (requestService c)) := by
  have first : s.lif.queue.head? = some f := by
    simpa [State.atHead] using (Bool.and_eq_true_iff.mp head).2
  obtain ⟨rest, queue⟩ : ∃ rest, s.lif.queue = f :: rest := by
    cases q : s.lif.queue with
    | nil => simp [q] at first
    | cons g rest => exact ⟨rest, by simp_all⟩
  have law := linkLaw_iff.mp h
  obtain e | e := requestService_frames c s
  all_goals
    refine linkLaw_iff.mpr ?_
    have frames : (s.serve f (requestService c)).lif.frames =
        ((requestService c s).1.lif.frames.1, some (f.reply (requestService c s).2.1 (requestService c s).2.2),
          (requestService c s).1.lif.frames.2.2) := rfl
    rw [frames, show (requestService c s).1.lif.frames = _ from e]
  · exact ⟨law.1, fun _ => by simp [Lif.frames, queue], law.2.2⟩
  · exact ⟨by simp, fun _ => by simp [queue], law.2.2⟩

theorem LinkLaw.eventEffect {s : State} (h : LinkLaw s) (c : Instr) : LinkLaw (eventEffect c s) := by
  have only := (eventEffect_advances c s).only
  cases c
  case startOfReception idle => exact .ite h (h.wakeByLink.of_frames rfl)
  case byteReceived b stopHigh =>
    have awake : LinkLaw (s.wakeByLink.byteEnds b stopHigh) := h.wakeByLink.of_frames rfl
    exact .ite h (.ite awake (.ite (awake.takeByte b) ((awake.receiver .hunt).linkError.of_frames rfl)))
  case gapTimerExpiry => exact h.atExpiry _ _ fun s h => (h.receiver _).linkError
  case breakLatch => exact h.atExpiry _ _ fun s h => h.of_frames rfl
  case breakRelease => exact .ite (.applyReset _ _) (h.of_frames rfl)
  case replySent =>
    refine .ite { places := ?_, answers := fun sent => (Bool.false_ne_true sent).elim, errors := h.errors } h
    simp only [State.modLif_lif, List.length_drop]
    exact (Nat.sub_le _ _).trans h.places
  case hostSilenceBegins => exact h.atExpiry _ _ fun s h => h.of_frames s.beginSilence_frames
  case holdLimitExpiry => exact h.atExpiry _ _ fun s h => h.of_frames s.endHold_frames
  case holdLineChange a =>
    refine .ite h (.ite (h.of_frames rfl) (h.of_frames ((s.modPins_only _).frames.trans (State.holdChange_frames _ a))))
  case startupEnd => exact .ite (h.of_frames s.endStartup_frames) h
  case sleepEntry => exact .ite (h.of_frames s.enterSleep_frames) h
  case sleepSample ign mv =>
    exact .ite (h.of_frames (s.sleepSample_frames ign mv)) h
  case powerOnReset => exact (LinkLaw.applyReset s.cutOffWrite .powerOn).of_frames rfl
  case brownOut => exact .ite h ((LinkLaw.applyReset s.cutOffWrite .brownOut).of_frames rfl)
  case externalReset => exact .ite h ((LinkLaw.applyReset s.cutOffWrite .pin).of_frames rfl)
  case restartTakesEffect => exact .ite (.applyReset _ _) h
  all_goals exact h.of_frames only.frames

/-- Settles O57: every stage of a request and every event keeps the law. -/
theorem stepKeepsLinkLaw : Obligations.StepKeepsLinkLaw := by
  intro s t h e
  refine step_keeps (P := LinkLaw) (fun s l h => h.of_frames rfl) (fun s h => h.of_frames rfl)
    (exec_keeps (fun s _ h => h.wake) (fun s h => h.of_frames rfl) (fun f s h => h.frameArrives f)
      (fun c f s _ head h => h.serve head c) (fun c s _ h => h.eventEffect c)) h e

end Sys2Proof.Machine
end

section
/-! PROOFS. What the laws of the release outputs and of the interlock read: the modes that a command can change,
what a line's record keeps of its logical value, and the changes that leave both laws undisturbed. -/

namespace Sys2Proof.Machine

set_option Elab.async false

/-- Two states agree on a part that is not among those changed. -/
theorem OnlyChanges.same {l : List Part} {s t : State} (h : OnlyChanges l s t) (p : Part)
    (k : partsIn [p] l = false := by with_unfolding_all rfl) : SameOn s t p := by
  refine h p fun mem => ?_
  simp only [partsIn, List.all_cons, List.all_nil, Bool.and_true, List.any_eq_false, beq_iff_eq] at k
  exact k _ mem rfl

/-! ### The mode -/

/-- From `s` to `t` the mode stays. -/
def KeepsMode (s t : State) : Prop := t.mode = s.mode

section
variable {s t u : State}

theorem KeepsMode.refl (s : State) : KeepsMode s s := rfl
theorem KeepsMode.trans (h : KeepsMode s t) (k : KeepsMode t u) : KeepsMode s u := Eq.trans k h

theorem KeepsMode.ite {c : Prop} [Decidable c] (h : KeepsMode s t) (k : KeepsMode s u) :
    KeepsMode s (if c then t else u) := by split <;> assumption

theorem OnlyChanges.keepsMode {l : List Part} (h : OnlyChanges l s t)
    (k : partsIn [.mctl] l = false := by with_unfolding_all rfl) : KeepsMode s t :=
  congrArg Mctl.mode (h.same .mctl k)

theorem KeepsMode.modMctl (s : State) (f : Mctl → Mctl) (h : ∀ c, (f c).mode = c.mode) :
    KeepsMode s (s.modMctl f) := h s.mctl

theorem KeepsMode.atExpiry (timer : Timer) (figure : Nat) (k : State → State) (s : State)
    (h : ∀ s, KeepsMode s (k s)) : KeepsMode s (atExpiry timer figure k s) :=
  atExpiry_cases s timer figure k _ (.refl s) fun _ _ => KeepsMode.trans (t := s.reach _) rfl (h _)

end

section
variable (s : State)

theorem Mctl.ignSample_mode (active : Bool) (now : Nat) (c : Mctl) : (c.ignSample active now).mode = c.mode := by
  unfold Mctl.ignSample
  dsimp only
  repeat' split
  all_goals rfl

theorem State.completeLoad_mode : KeepsMode s s.completeLoad := by
  delta State.completeLoad
  extract_lets loaded limit held s1 s2 s3 s4
  have h1 : KeepsMode s s1 := .modMctl s _ (by intro; rfl)
  have h2 : OnlyChanges faultParts s1 s3 := (s1.modFmy_only _).andThen (State.removeOverAged_only _ _)
  have h4 : OnlyChanges faultParts s3 s4 := .foldl _ (fun s n => s.reportActive_only _) _ _
  exact h1.trans ((h2.trans h4).trans (.foldl _ (fun s q => s.handleReport_only _ _ _) _ _)).keepsMode

theorem State.startWrite_mode : KeepsMode s s.startWrite := by
  unfold State.startWrite
  repeat' split
  all_goals first
    | with_reducible exact .refl s
    | with_reducible exact (s.modFmy_only _).keepsMode
    | exact rfl

theorem State.restartAfterSave_mode : KeepsMode s s.restartAfterSave := by
  unfold State.restartAfterSave
  repeat' split
  all_goals first
    | with_reducible exact .refl s
    | exact rfl

theorem State.clearSupplyMarks_mode : KeepsMode s s.clearSupplyMarks := by
  delta State.clearSupplyMarks
  extract_lets s1 s2
  have h1 : OnlyChanges faultParts s s1 := .ite (s.reportCleared_only _) (.refl _ _)
  have h2 : OnlyChanges faultParts s1 s2 := .ite (s1.reportCleared_only _) (.refl _ _)
  exact (h1.trans h2).keepsMode.trans (.modMctl s2 _ (by intro; rfl))

theorem State.crankChange_mode (old new : Supply) : KeepsMode s (s.crankChange old new) := by
  unfold State.crankChange
  split
  · exact (s.restartDebounces_only.andThen (forNeedles_only _ _) (n := [.hlm, .ndr])).keepsMode
  · refine .ite (.trans (.modMctl s Mctl.crankEntry (by intro; rfl)) (forNeedles_only _ _).keepsMode) (.refl s)

theorem State.changeSupply_mode (new : Supply) : KeepsMode s (s.changeSupply new) := by
  delta State.changeSupply
  extract_lets old s1 s2
  refine .ite (.refl s) ?_
  have h1 : KeepsMode s s1 := .trans (.modMctl s (Mctl.enterSupply new s.now) (by intro; rfl))
    (State.attend_only _ _).keepsMode
  have h2 : KeepsMode s1 s2 := .ite s1.clearSupplyMarks_mode (.refl s1)
  exact (h1.trans (h2.trans (s2.crankChange_mode _ _))).trans
    (((State.gateFaultTimers_only _).andThen (State.gateDoorTimers_only _)
      (n := .hlm :: .pru :: .dmn :: [])).andThen (State.refreshPru_only _) (n := .hlm :: .pru :: .dmn :: [])).keepsMode

theorem State.measureVb_mode (mv : Nat) : KeepsMode s (s.measureVb mv) := by
  unfold State.measureVb
  refine .ite ?_ ?_
  · unfold State.measureFirst
    exact .trans (.modMctl s _ (by intro; rfl)) (State.changeSupply_mode _ _)
  · unfold State.measureLater
    exact .trans (.modMctl s _ (by intro; rfl)) (State.changeSupply_mode _ _)

end

/-- The events at which the mode can change. -/
def movesMode : Instr → Bool
  | .startupEnd | .ignDebounceExpiry | .sleepEntry | .sleepSample _ _ | .startOfReception _
  | .byteReceived _ _ | .hostSilenceBegins | .lineSample _ _ | .channelSample _ | .feedTimeout _
  | .powerOnReset | .brownOut | .externalReset | .breakRelease | .restartTakesEffect => true
  | _ => false

/-- R6: at no other event the mode changes. -/
theorem eventEffect_mode (c : Instr) (s : State) (still : movesMode c = false) :
    KeepsMode s (eventEffect c s) := by
  have only := (eventEffect_advances c s).only
  cases c
  case startupLoadComplete => exact .ite s.completeLoad_mode (.refl s)
  case vbMeasurement mv ign =>
    refine .ite (.refl s) (.trans ?_ (State.measureVb_mode _ mv))
    exact Mctl.ignSample_mode _ _ _
  case supplyLowReportExpiry =>
    exact .atExpiry _ _ _ s fun s => (s.reportActive_only _).keepsMode.trans (.modMctl _ _ (by intro; rfl))
  case supplyHighReportExpiry =>
    exact .atExpiry _ _ _ s fun s => (s.reportActive_only _).keepsMode.trans (.modMctl _ _ (by intro; rfl))
  case operatingMinuteElapsed =>
    unfold eventEffect
    dsimp only
    split <;> rfl
  case writeStart => exact s.startWrite_mode
  case counterSaveComplete =>
    unfold eventEffect
    dsimp only
    split
    · exact .atExpiry _ _ _ s fun s => (s.completeCounterSave_only _).keepsMode.trans (State.restartAfterSave_mode _)
    · rfl
  all_goals first
    | exact (Bool.false_ne_true still.symm).elim
    | exact only.keepsMode

/-- The service of a request other than SET_MODE leaves the mode. -/
theorem requestService_mode (c : Instr) (s : State) (other : ∀ tag p, c ≠ .setMode tag p) :
    KeepsMode s (requestService c s).1 := by
  have only := requestService_only c s
  cases c
  case setMode tag p => exact absurd rfl (other tag p)
  case restart =>
    change KeepsMode s (served _ _ _ restartService s).1
    unfold served
    repeat' split
    all_goals rfl
  all_goals exact only.keepsMode

/-- From `s` to `t` the mode stays, or WORKSHOP is left for RUN (R13). -/
def LeavesWorkshop (s t : State) : Prop := t.mode = s.mode ∨ (s.mode = .workshop ∧ t.mode = .run)

section
variable {s t u : State}

theorem KeepsMode.leavesWorkshop (h : KeepsMode s t) : LeavesWorkshop s t := .inl h

theorem LeavesWorkshop.refl (s : State) : LeavesWorkshop s s := .inl rfl

theorem LeavesWorkshop.trans (h : LeavesWorkshop s t) (k : LeavesWorkshop t u) : LeavesWorkshop s u := by
  obtain e | ⟨before, after⟩ := h
  · obtain e' | ⟨before', after'⟩ := k
    · exact .inl (e'.trans e)
    · exact .inr ⟨e.symm.trans before', after'⟩
  · obtain e' | ⟨before', -⟩ := k
    · exact .inr ⟨before, e'.trans after⟩
    · exact Mode.noConfusion (after.symm.trans before')

theorem LeavesWorkshop.ite {c : Prop} [Decidable c] (h : LeavesWorkshop s t) (k : LeavesWorkshop s u) :
    LeavesWorkshop s (if c then t else u) := by split <;> assumption

theorem LeavesWorkshop.other (h : LeavesWorkshop s t) (m : s.mode ≠ .workshop) : KeepsMode s t :=
  h.resolve_right fun left => m left.1

theorem State.workshopToRun_leaves (s : State) (m : s.mode = .workshop) : LeavesWorkshop s s.workshopToRun := by
  have run : KeepsMode (s.setMode .run) s.workshopToRun :=
    (((State.endAllForcing_only _).andThen (State.refreshPru_only _) (n := forcingParts)).andThen
      (State.attend_only _ _) (n := .attention :: forcingParts)).keepsMode
  exact .inr ⟨m, run⟩

theorem State.leaveWorkshopIfMoving_leaves (s : State) : LeavesWorkshop s s.leaveWorkshopIfMoving := by
  unfold State.leaveWorkshopIfMoving
  split
  case isTrue h => exact s.workshopToRun_leaves h.1
  case isFalse => exact .refl s

theorem State.sampleLine_leaves (s : State) (n : Fin 32) (mv : Nat) : LeavesWorkshop s (s.sampleLine n mv) := by
  have buttons (u : State) (press : Bool) : LeavesWorkshop u (u.buttonRoleChange n press) := by
    delta State.buttonRoleChange
    extract_lets c s1 s2
    have h1 : LeavesWorkshop u s1 := .ite u.releaseButton_only.keepsMode.leavesWorkshop (.refl u)
    have h2 : LeavesWorkshop s1 s2 := .ite s1.leaveWorkshopIfMoving_leaves (.refl s1)
    exact (h1.trans h2).trans (.ite s2.ackButton_only.keepsMode.leavesWorkshop (.refl s2))
  have roles (u : State) (old new : Logical) : LeavesWorkshop u (u.roleChange n old new) :=
    (u.interlockRoleChange_only n new).keepsMode.leavesWorkshop.trans (buttons _ _)
  have doors (u : State) (v : Logical) : LeavesWorkshop u (u.doorLineChange n v) :=
    (u.doorLineChange_only n v).keepsMode.leavesWorkshop
  have classified : KeepsMode s (s.classify n mv) := (s.classify_only n mv).keepsMode
  unfold State.sampleLine State.handOn
  exact classified.leavesWorkshop.trans (.ite (.refl _) ((doors _ _).trans (roles _ _ _)))

theorem State.sleepLines_mode (s : State) (mv : Vector Nat 32) (m : s.mode ≠ .workshop) :
    KeepsMode s (s.sleepLines mv).1 := by
  suffices all : ∀ (l : List (Fin 32)) (q : State × Bool), KeepsMode s q.1 →
      KeepsMode s (l.foldl (fun (s, changed) n =>
        if s.watched n && (s.lineCfg n).fn.classified then
          let s' := s.sampleLine n mv[n]
          (s', changed || s'.logical n != s.logical n)
        else (s, changed)) q).1 from all _ (s, false) (.refl s)
  intro l
  induction l with
  | nil => exact fun _ h => h
  | cons n l ih =>
    refine fun q h => ih _ ?_
    dsimp only
    split
    · exact h.trans ((q.1.sampleLine_leaves n _).other fun e => m (h.symm.trans e))
    · exact h

end

/-! ### The logical values of the lines -/

/-- From `s` to `t` every line keeps its accepted class, and so its logical value. -/
def KeepsLogical (s t : State) : Prop := ∀ n, t.logical n = s.logical n

section
variable {s t u : State}

theorem KeepsLogical.refl (s : State) : KeepsLogical s s := fun _ => rfl
theorem KeepsLogical.trans (h : KeepsLogical s t) (k : KeepsLogical t u) : KeepsLogical s u :=
  fun n => (k n).trans (h n)

theorem KeepsLogical.ite {c : Prop} [Decidable c] (h : KeepsLogical s t) (k : KeepsLogical s u) :
    KeepsLogical s (if c then t else u) := by split <;> assumption

theorem OnlyChanges.keepsLogical {l : List Part} (h : OnlyChanges l s t)
    (k : partsIn [.hlm] l = false := by with_unfolding_all rfl) : KeepsLogical s t := fun n => by
  have hlm : t.hlm = s.hlm := h.same .hlm k
  simp only [State.logical, State.line, hlm]

theorem KeepsLogical.modLine (s : State) (n : Fin 32) (f : LineRec → LineRec)
    (h : ∀ r, (f r).accepted = r.accepted) : KeepsLogical s (s.modLine n f) := fun j => by
  by_cases e : n = j
  · subst e
    simp only [State.logical, State.modLine_same, h]
  · simp only [State.logical, State.modLine_other _ _ _ _ e]

theorem KeepsLogical.forLines (s : State) (f : Fin 32 → LineRec → LineRec)
    (h : ∀ n r, (f n r).accepted = r.accepted) : KeepsLogical s (forLines f s) := fun j => by
  simp only [State.logical, State.line, Machine.forLines, State.modHlm_hlm, updAll_get, h]

theorem KeepsLogical.foldl {α : Type} (f : State → α → State) (h : ∀ s a, KeepsLogical s (f s a))
    (xs : List α) (s : State) : KeepsLogical s (xs.foldl f s) := by
  induction xs generalizing s with
  | nil => exact .refl s
  | cons a xs ih => exact (h s a).trans (ih (f s a))

end

section
variable (s : State) (n : Fin 32)

theorem State.settleLine_logical : KeepsLogical s (s.settleLine n) :=
  (s.reportAllCleared_only _).keepsLogical.trans (.modLine _ n _ (by intro; rfl))

theorem State.settleIfAny_logical : KeepsLogical s (s.settleIfAny n) :=
  .ite (s.settleLine_logical n) (.refl s)

theorem State.reportSymptom_logical (y : LineSym) : KeepsLogical s (s.reportSymptom n y) := by
  delta State.reportSymptom
  extract_lets s1
  have h1 : OnlyChanges faultParts s s1 := by
    change OnlyChanges faultParts s (match (s.line n).symptom with | .any => _ | .sym x => _ | .nothing => _)
    split
    · exact s.reportAllCleared_only _
    · exact s.reportCleared_only _
    · exact .refl _ s
  exact (h1.trans (s1.reportActive_only _)).keepsLogical.trans (.modLine _ n _ (by intro; rfl))

theorem State.enterConfirmed_logical : KeepsLogical s (s.enterConfirmed n) :=
  .trans (.modLine s n _ (by intro; rfl)) (State.attend_only _ _).keepsLogical

theorem State.returnToNone_logical : KeepsLogical s (s.returnToNone n) :=
  .trans (.modLine s n _ (by intro; rfl)) (State.attend_only _ _).keepsLogical

theorem State.walkStatus_logical (k : LineClass) : KeepsLogical s (s.walkStatus n k) := by
  unfold State.walkStatus
  dsimp only
  split
  case h_1 => exact .modLine s n _ (by intro; rfl)
  case h_2 => exact s.settleIfAny_logical n
  case h_3 => exact .refl s
  case h_4 => exact (s.returnToNone_logical n).trans (State.settleIfAny_logical _ n)
  case h_5 => exact .ite (.refl s) ((s.reportSymptom_logical n _).trans (State.enterConfirmed_logical _ n))
  case h_6 => exact .modLine s n _ (by intro; rfl)
  case h_7 => exact .trans (.ite (.refl s) (s.reportSymptom_logical n _)) (State.enterConfirmed_logical _ n)
  case h_8 => exact .refl s

theorem State.confirmLine_logical : KeepsLogical s (s.confirmLine n) := by
  unfold State.confirmLine
  split
  · exact (s.reportSymptom_logical n _).trans (State.enterConfirmed_logical _ n)
  · exact .refl s

theorem State.healLine_logical : KeepsLogical s (s.healLine n) := by
  delta State.healLine
  extract_lets s1
  have h1 : OnlyChanges faultParts s s1 := by
    change OnlyChanges faultParts s (match (s.line n).symptom with | .sym y => _ | _ => s)
    split
    · exact s.reportCleared_only _
    · exact .refl _ s
  exact (h1.keepsLogical.trans (.modLine _ n _ (by intro; rfl))).trans (State.returnToNone_logical _ n)

theorem State.measureOnly_logical (mv : Nat) : KeepsLogical s (s.measureOnly n mv) := by
  unfold State.measureOnly
  exact (s.measure_only mv).keepsLogical.trans (.modLine _ n _ (by intro; rfl))

theorem State.compare_logical (mv : Nat) : KeepsLogical s (s.compare n mv) := by
  unfold State.compare
  dsimp only
  exact .trans (.trans (s.measure_only mv).keepsLogical (.modLine _ n _ (by intro; rfl)))
    (.ite (State.modUnit_only _ _ _).keepsLogical (.refl _))

/-- A sample of a line leaves the logical values of the others. -/
theorem State.classify_logical_other (mv : Nat) {j : Fin 32} (other : n ≠ j) :
    (s.classify n mv).logical j = s.logical j := by
  have same (u : State) (f : LineRec → LineRec) : (u.modLine n f).logical j = u.logical j :=
    congrArg (fun r : LineRec => logicalOf r.accepted) (State.modLine_other u n j f other)
  have accepts (u : State) (k : LineClass) : (u.acceptIfDue n k).logical j = u.logical j := by
    unfold State.acceptIfDue
    split
    · exact (State.walkStatus_logical _ n _ j).trans (same _ _)
    · rfl
  delta State.classify
  extract_lets c
  have still : KeepsLogical s (s.measure mv).1 := (s.measure_only mv).keepsLogical
  have measured : (s.measure mv).1.logical j = s.logical j := still j
  clear still
  revert measured
  obtain ⟨s0, m⟩ := s.measure mv
  intro measured
  exact (accepts _ _).trans ((same _ _).trans ((same _ _).trans measured))

end

/-! ### Changes that leave both laws undisturbed -/

/-- What the two laws read of a door set's record. -/
def Door.release (r : Door) : DoorState × Bool × Bool := (r.st, r.grant, r.output)

/-- From `s` to `t` every door set keeps its state, grant and output. -/
def KeepsDoors (s t : State) : Prop := ∀ d, (t.door d).release = (s.door d).release

/-- The modes in which the interlock is FORCED and those in which releases are granted, as the laws of the two
read them, with everything else that they read. -/
structure Undisturbed (s t : State) : Prop where
  running : t.mode.isRunning = s.mode.isRunning
  forces : t.mode.forcesInterlock = s.mode.forcesInterlock
  above : t.aboveWithdraw = s.aboveWithdraw
  conditions : t.anyCondition = s.anyCondition
  override : t.overrideActive = s.overrideActive
  doors : KeepsDoors s t
  interlock : t.dmn.interlock = s.dmn.interlock
  delay : t.dmn.delay = s.dmn.delay

section
variable {s t u : State}

theorem KeepsDoors.refl (s : State) : KeepsDoors s s := fun _ => rfl
theorem KeepsDoors.trans (h : KeepsDoors s t) (k : KeepsDoors t u) : KeepsDoors s u :=
  fun d => (k d).trans (h d)
theorem KeepsDoors.ite {c : Prop} [Decidable c] (h : KeepsDoors s t) (k : KeepsDoors s u) :
    KeepsDoors s (if c then t else u) := by split <;> assumption

theorem KeepsDoors.st (h : KeepsDoors s t) (d : Fin 4) : (t.door d).st = (s.door d).st :=
  congrArg Prod.fst (h d)
theorem KeepsDoors.grant (h : KeepsDoors s t) (d : Fin 4) : (t.door d).grant = (s.door d).grant :=
  congrArg (fun x => x.2.1) (h d)
theorem KeepsDoors.output (h : KeepsDoors s t) (d : Fin 4) : (t.door d).output = (s.door d).output :=
  congrArg (fun x => x.2.2) (h d)

theorem KeepsDoors.modDoor (s : State) (d : Fin 4) (f : Door → Door)
    (h : ∀ r, (f r).release = r.release) : KeepsDoors s (s.modDoor d f) := fun e => by
  by_cases same : d = e
  · subst same; rw [State.modDoor_same, h]
  · rw [State.modDoor_other _ _ _ _ same]

theorem KeepsDoors.foldl {α : Type} (f : State → α → State) (h : ∀ s a, KeepsDoors s (f s a))
    (xs : List α) (s : State) : KeepsDoors s (xs.foldl f s) := by
  induction xs generalizing s with
  | nil => exact .refl s
  | cons a xs ih => exact (h s a).trans (ih (f s a))

theorem OnlyChanges.keepsDoors {l : List Part} (h : OnlyChanges l s t)
    (k : partsIn [.dmn] l = false := by with_unfolding_all rfl) : KeepsDoors s t := fun d => by
  have dmn : t.dmn = s.dmn := h.same .dmn k
  simp only [State.door, dmn]

/-- What the conditions and the outputs read, read alike in both states. -/
theorem Undisturbed.of_reads (mode : KeepsMode s t) (tables : t.tables = s.tables)
    (logical : KeepsLogical s t) (known : t.knownE = s.knownE) (doors : KeepsDoors s t)
    (interlock : t.dmn.interlock = s.dmn.interlock) (delay : t.dmn.delay = s.dmn.delay) :
    Undisturbed s t where
  running := congrArg Mode.isRunning mode
  forces := congrArg Mode.forcesInterlock mode
  above := by
    simp only [State.aboveWithdraw, State.speed, State.speedChannel, State.channelCfg, known, tables]
  conditions := by
    have values : t.logical = s.logical := funext logical
    simp only [State.anyCondition, State.condDoors, State.condRamps, State.condKneel, State.condGrants,
      State.doorLine, State.doorCfg, State.roleValue, values, tables, doors.st, doors.grant]
  override := by
    have values : t.logical = s.logical := funext logical
    simp only [State.overrideActive, State.roleValue, values, tables]
  doors := doors
  interlock := interlock
  delay := delay

theorem OnlyChanges.knownE {l : List Part} (h : OnlyChanges l s t)
    (k : partsIn [.gve] l = false := by with_unfolding_all rfl) : t.knownE = s.knownE := by
  have gve : t.gve = s.gve := h.same .gve k
  exact funext fun j => by rw [State.knownE, State.knownE, State.channel, State.channel, gve]

theorem Undisturbed.refl (s : State) : Undisturbed s s :=
  ⟨rfl, rfl, rfl, rfl, rfl, .refl s, rfl, rfl⟩

theorem Undisturbed.trans (h : Undisturbed s t) (k : Undisturbed t u) : Undisturbed s u :=
  ⟨k.running.trans h.running, k.forces.trans h.forces, k.above.trans h.above,
    k.conditions.trans h.conditions, k.override.trans h.override, h.doors.trans k.doors,
    k.interlock.trans h.interlock, k.delay.trans h.delay⟩

theorem Undisturbed.ite {c : Prop} [Decidable c] (h : Undisturbed s t) (k : Undisturbed s u) :
    Undisturbed s (if c then t else u) := by split <;> assumption

theorem Undisturbed.foldl {α : Type} (f : State → α → State) (h : ∀ s a, Undisturbed s (f s a))
    (xs : List α) (s : State) : Undisturbed s (xs.foldl f s) := by
  induction xs generalizing s with
  | nil => exact .refl s
  | cons a xs ih => exact (h s a).trans (ih (f s a))

/-- Whether a change within these parts cannot disturb the two laws, but for the mode. -/
def undisturbing (l : List Part) : Bool :=
  !partsIn [.hlm] l && !partsIn [.gve] l && !partsIn [.dmn] l && !partsIn [.tables] l

theorem OnlyChanges.undisturbed_of_mode {l : List Part} (h : OnlyChanges l s t) (mode : KeepsMode s t)
    (k : undisturbing l = true := by with_unfolding_all rfl) : Undisturbed s t := by
  simp only [undisturbing, Bool.and_eq_true, Bool.not_eq_true'] at k
  obtain ⟨⟨⟨hlm, gve⟩, dmn⟩, tables⟩ := k
  exact .of_reads mode (h.same .tables tables) (h.keepsLogical hlm) (h.knownE gve) (h.keepsDoors dmn)
    (congrArg Dmn.interlock (h.same .dmn dmn)) (congrArg Dmn.delay (h.same .dmn dmn))

theorem OnlyChanges.undisturbed {l : List Part} (h : OnlyChanges l s t)
    (mctl : partsIn [.mctl] l = false := by with_unfolding_all rfl)
    (k : undisturbing l = true := by with_unfolding_all rfl) : Undisturbed s t :=
  h.undisturbed_of_mode (h.keepsMode mctl) k

theorem OnlyChanges.undisturbed_lines {l : List Part} (h : OnlyChanges l s t) (mode : KeepsMode s t)
    (logical : KeepsLogical s t)
    (gve : partsIn [.gve] l = false := by with_unfolding_all rfl)
    (dmn : partsIn [.dmn] l = false := by with_unfolding_all rfl)
    (tables : partsIn [.tables] l = false := by with_unfolding_all rfl) : Undisturbed s t :=
  .of_reads mode (h.same .tables tables) logical (h.knownE gve) (h.keepsDoors dmn)
    (congrArg Dmn.interlock (h.same .dmn dmn)) (congrArg Dmn.delay (h.same .dmn dmn))

theorem OnlyChanges.undisturbed_doors {l : List Part} (h : OnlyChanges l s t) (doors : KeepsDoors s t)
    (interlock : t.dmn.interlock = s.dmn.interlock) (delay : t.dmn.delay = s.dmn.delay)
    (mctl : partsIn [.mctl] l = false := by with_unfolding_all rfl)
    (hlm : partsIn [.hlm] l = false := by with_unfolding_all rfl)
    (gve : partsIn [.gve] l = false := by with_unfolding_all rfl)
    (tables : partsIn [.tables] l = false := by with_unfolding_all rfl) : Undisturbed s t :=
  .of_reads (h.keepsMode mctl) (h.same .tables tables) (h.keepsLogical hlm) (h.knownE gve) doors interlock delay

theorem Undisturbed.modDoor (s : State) (d : Fin 4) (f : Door → Door)
    (h : ∀ r, (f r).release = r.release) : Undisturbed s (s.modDoor d f) :=
  (s.modDoor_only d f).undisturbed_doors (.modDoor s d f h) rfl rfl

theorem Undisturbed.modMctl (s : State) (f : Mctl → Mctl) (h : ∀ c, (f c).mode = c.mode) :
    Undisturbed s (s.modMctl f) := (s.modMctl_only f).undisturbed_of_mode (.modMctl s f h)

theorem Undisturbed.modLif (s : State) (f : Lif → Lif) : Undisturbed s (s.modLif f) :=
  ⟨rfl, rfl, rfl, rfl, rfl, .refl s, rfl, rfl⟩

theorem Undisturbed.modPins (s : State) (f : Pins → Pins) : Undisturbed s (s.modPins f) :=
  (s.modPins_only f).undisturbed

theorem Undisturbed.reach (s : State) (x : Int) : Undisturbed s (s.reach x) :=
  (s.reach_only x).undisturbed

end

/-! ### The operations of DMN that leave states, grants and outputs alone -/

section
variable (s : State) (d : Fin 4)

theorem State.doorReport_undisturbed (y : DoorSym) : Undisturbed s (s.doorReport y d) :=
  .ite (.refl s) ((Undisturbed.modDoor s d _ (by intro; rfl)).trans (State.reportActive_only _ _).undisturbed)

theorem State.shutAndLocked_undisturbed : Undisturbed s (s.shutAndLocked d) :=
  (s.reportAllCleared_only _).undisturbed.trans (.modDoor _ d _ (by intro; rfl))

theorem State.flagOpening_undisturbed : Undisturbed s (s.flagOpening d) :=
  .ite ((Undisturbed.modDoor s d _ (by intro; rfl)).trans (State.doorReport_undisturbed _ d _)) (.refl s)

theorem State.countCycle_undisturbed : Undisturbed s (s.countCycle d) :=
  .ite ((s.bump_only _).undisturbed.trans (.modDoor _ d _ (by intro; rfl))) (.refl s)

theorem State.countObstruction_undisturbed : Undisturbed s (s.countObstruction d) := by
  delta State.countObstruction
  extract_lets s1 s2
  have h1 : Undisturbed s s1 := .modDoor s d _ (by intro; rfl)
  have h2 : Undisturbed s1 s2 := (s1.bump_only _).undisturbed
  exact (h1.trans h2).trans
    (.ite ((Undisturbed.modDoor s2 d _ (by intro; rfl)).trans (State.doorReport_undisturbed _ d _)) (.refl s2))

theorem State.raiseFlag_undisturbed (isSet : Door → Bool) (f : Door → Door)
    (h : ∀ r, (f r).release = r.release) : Undisturbed s (s.raiseFlag isSet f d) :=
  .ite (.refl s) ((Undisturbed.modDoor s d f h).trans (State.attend_only _ _).undisturbed)

theorem State.expiryReport_undisturbed (ev : DoorEvent) (before : DoorState) :
    Undisturbed s (s.expiryReport d ev before) := by
  unfold State.expiryReport
  cases ev
  case line => exact .refl s
  case openExpired => exact .ite (s.doorReport_undisturbed d _) (.refl s)
  case inconExpired => exact s.doorReport_undisturbed d _
  all_goals
    exact .ite (((Undisturbed.modDoor s d _ (by intro; rfl)).trans
      (State.raiseFlag_undisturbed _ d _ _ (by intro; rfl))).trans (State.doorReport_undisturbed _ d _)) (.refl s)

theorem State.testEndStops_undisturbed : Undisturbed s (s.testEndStops d) := by
  unfold State.testEndStops
  split
  · exact .refl s
  · split
    · exact .modDoor s d _ fun r => by split <;> rfl
    · exact .modDoor s d _ (by intro; rfl)

theorem State.gateDoorTimers_undisturbed : Undisturbed s s.gateDoorTimers := by
  refine s.gateDoorTimers_only.undisturbed_doors (fun d => ?_) rfl rfl
  simp only [State.gateDoorTimers, State.door, State.modDmn_dmn, updAll_get]
  rfl

end

/-! ### The other operations at which a part other than the doors changes what the laws might read -/

section
variable (s : State)

theorem State.measureVb_undisturbed (mv : Nat) : Undisturbed s (s.measureVb mv) := by
  have change (u : State) (new : Supply) : Undisturbed u (u.changeSupply new) := by
    delta State.changeSupply
    extract_lets old s1 s2
    refine .ite (.refl u) ?_
    have h1 : Undisturbed u s1 := (Undisturbed.modMctl u (Mctl.enterSupply new u.now) (by intro; rfl)).trans
      (State.attend_only _ _).undisturbed
    have h2 : Undisturbed s1 s2 :=
      .ite (s1.clearSupplyMarks_only.undisturbed_of_mode s1.clearSupplyMarks_mode) (.refl s1)
    have h3 : Undisturbed s2 (s2.crankChange old new) := by
      have only : OnlyChanges [.mctl, .hlm, .ndr] s2 (s2.crankChange old new) :=
        .ite (s2.restartDebounces_only.andThen (forNeedles_only _ _))
          (.ite ((s2.modMctl_only _).andThen (forNeedles_only _ _)) (.refl _ _))
      refine only.undisturbed_lines (s2.crankChange_mode old new) ?_
      unfold State.crankChange
      refine .ite ?_ (.ite ?_ (.refl s2))
      · refine KeepsLogical.trans (t := s2.restartDebounces) (.forLines s2 _ fun n r => by split <;> rfl)
          (forNeedles_only _ _).keepsLogical
      · exact ((s2.modMctl_only _).andThen (forNeedles_only _ _) (n := [.mctl, .ndr])).keepsLogical
    have h4 (v : State) : Undisturbed v v.gateFaultTimers :=
      (forLines_only v _).undisturbed_lines (forLines_only v _).keepsMode (.forLines v _ (by intros; rfl))
    exact (h1.trans (h2.trans h3)).trans (((h4 _).trans (State.gateDoorTimers_undisturbed _)).trans
      (State.refreshPru_only _).undisturbed)
  unfold State.measureVb
  refine .ite ?_ ?_
  · exact .trans (.modMctl s _ (by intro; rfl)) (change _ _)
  · exact .trans (.modMctl s _ (by intro; rfl)) (change _ _)

theorem State.compare_undisturbed (n : Fin 32) (mv : Nat) : Undisturbed s (s.compare n mv) := by
  have only := s.compare_only n mv
  refine .of_reads only.keepsMode (only.same .tables) (s.compare_logical n mv) (funext fun k => ?_)
    only.keepsDoors (congrArg Dmn.interlock (only.same .dmn :)) (congrArg Dmn.delay (only.same .dmn :))
  have measured : (s.measure mv).1.gve = s.gve := (s.measure_only mv).same .gve
  have channels : (s.compare n mv).gve.channels = s.gve.channels := by
    rw [← measured]
    unfold State.compare
    dsimp only
    split <;> rfl
  rw [State.knownE, State.knownE, State.channel, State.channel, channels]

theorem State.leaveWorkshop_undisturbed (m : s.mode = .workshop) : Undisturbed s s.leaveWorkshop := by
  have run : Undisturbed s (s.setMode .run) :=
    { running := by rw [m]; rfl, forces := by rw [m]; rfl, above := rfl, conditions := rfl,
      override := rfl, doors := .refl s, interlock := rfl, delay := rfl }
  exact (run.trans (State.endAllForcing_only _).undisturbed).trans (State.refreshPru_only _).undisturbed

theorem State.leaveWorkshopIfMoving_undisturbed : Undisturbed s s.leaveWorkshopIfMoving := by
  unfold State.leaveWorkshopIfMoving
  split
  case isTrue h => exact (s.leaveWorkshop_undisturbed h.1).trans (State.attend_only _ _).undisturbed
  case isFalse => exact .refl s

theorem State.beginSilence_undisturbed : Undisturbed s s.beginSilence := by
  delta State.beginSilence
  extract_lets s1 s2
  have h1 : Undisturbed s s1 := ((s.modLif_only _ (by intro; rfl)).andThen (State.attend_only _ _)
    (n := [.link, .attention])).undisturbed
  have h2 : Undisturbed s1 s2 := (((s1.reportActive_only _).andThen (State.bump_only _ _) (n := faultParts)).andThen
    (State.refreshPru_only _) (n := .pru :: faultParts)).undisturbed
  refine (h1.trans h2).trans ?_
  split
  case isTrue m => exact (s2.leaveWorkshop_undisturbed m).trans (State.attend_only _ _).undisturbed
  case isFalse => exact .refl s2

theorem Undisturbed.atExpiry {s : State} (timer : Timer) (figure : Nat) (k : State → State)
    (h : ∀ s, Undisturbed s (k s)) : Undisturbed s (atExpiry timer figure k s) :=
  atExpiry_cases s timer figure k _ (.refl s) fun _ _ => (Undisturbed.reach s _).trans (h _)

end

/-- The events that can disturb the two laws: those of a door, of the interlock, of a line or a channel that is
sampled, and those that change the mode but between RUN and WORKSHOP. -/
def disturbs : Instr → Bool
  | .startupEnd | .ignDebounceExpiry | .sleepEntry | .sleepSample _ _ | .startOfReception _
  | .byteReceived _ _ | .lineSample _ _ | .channelSample _ | .feedTimeout _
  | .openTimerExpiry _ | .closeTimerExpiry _ | .lockTimerExpiry _ | .inconsistencyTimerExpiry _
  | .releaseDelayExpiry
  | .powerOnReset | .brownOut | .externalReset | .breakRelease | .restartTakesEffect => true
  | _ => false

theorem eventEffect_undisturbed (c : Instr) (s : State) (calm : disturbs c = false) :
    Undisturbed s (eventEffect c s) := by
  have only := (eventEffect_advances c s).only
  have mode := eventEffect_mode c s
  cases c
  case vbMeasurement mv ign =>
    refine .ite (.refl s) (.trans ?_ (State.measureVb_undisturbed _ mv))
    have sched : OnlyChanges [.now, .sched] s s.atVbMeasurement :=
      (Advances.atMoment (l := [.sched]) s _ _).only
    exact sched.undisturbed.trans (.modMctl _ _ fun c => Mctl.ignSample_mode _ _ c)
  case qualifyTimerExpiry n =>
    refine .ite (.atExpiry _ _ _ fun s => ?_) (.refl s)
    exact (s.confirmLine_only n).undisturbed_lines (s.confirmLine_only n).keepsMode (s.confirmLine_logical n)
  case healTimerExpiry n =>
    refine .ite (.atExpiry _ _ _ fun s => ?_) (.refl s)
    exact (s.healLine_only n).undisturbed_lines (s.healLine_only n).keepsMode (s.healLine_logical n)
  case pulseEdge n mv wait =>
    refine .ite (.trans ?_ (State.compare_undisturbed _ n mv)) (.refl s)
    exact ⟨rfl, rfl, rfl, rfl, rfl, .refl s, rfl, rfl⟩
  case hostSilenceBegins => exact .atExpiry _ _ _ fun s => s.beginSilence_undisturbed
  all_goals first
    | exact (Bool.false_ne_true calm.symm).elim
    | exact only.undisturbed_of_mode (mode rfl)

end Sys2Proof.Machine
end

section
/-! PROOFS. The law of the release outputs (R147, R148). -/

namespace Sys2Proof.Machine

set_option Elab.async false

/-! ### The law door by door -/

/-- What the law wants of one door set's record. -/
def Door.Lawful (above running : Bool) (r : Door) : Prop :=
  r.output = r.grant ∧ (r.grant = true → above = false ∧ r.st ≠ .emergency ∧ running = true)

theorem releaseLaw_iff {s : State} :
    ReleaseLaw s ↔ ∀ d, (s.door d).Lawful s.aboveWithdraw s.mode.isRunning := by
  constructor
  · intro law d
    refine ⟨Bool.eq_iff_iff.mpr ((law.output d).trans ⟨fun h => h.1, fun h => ⟨h, law.grant d h⟩⟩), law.grant d⟩
  · intro lawful
    refine ⟨fun d => ?_, fun d => (lawful d).2⟩
    rw [(lawful d).1]
    exact ⟨fun h => ⟨h, (lawful d).2 h⟩, fun h => h.1⟩

theorem Door.Lawful.congr {above running : Bool} {r q : Door} (h : r.Lawful above running)
    (same : q.release = r.release) : q.Lawful above running := by
  obtain ⟨st, grant, output⟩ : q.st = r.st ∧ q.grant = r.grant ∧ q.output = r.output := by
    simpa [Door.release] using same
  unfold Door.Lawful
  rw [st, grant, output]
  exact h

theorem Door.Lawful.of_withdrawn {r : Door} (above running : Bool) (grant : r.grant = false)
    (output : r.output = false) : r.Lawful above running :=
  ⟨output.trans grant.symm, fun h => absurd (grant.symm.trans h) Bool.false_ne_true⟩

theorem ReleaseLaw.of {s t : State} (law : ReleaseLaw s) (h : Undisturbed s t) : ReleaseLaw t := by
  refine releaseLaw_iff.mpr fun d => ?_
  rw [h.above, h.running]
  exact (releaseLaw_iff.mp law d).congr (h.doors d)

/-! ### No grants -/

/-- No door set holds a grant, and every output is off. -/
def Withdrawn (s : State) : Prop := ∀ d, (s.door d).grant = false ∧ (s.door d).output = false

theorem Withdrawn.law {s : State} (h : Withdrawn s) : ReleaseLaw s :=
  releaseLaw_iff.mpr fun d => .of_withdrawn _ _ (h d).1 (h d).2

theorem Withdrawn.of {s t : State} (h : Withdrawn s) (k : KeepsDoors s t) : Withdrawn t :=
  fun d => ⟨(k.grant d).trans (h d).1, (k.output d).trans (h d).2⟩

theorem ReleaseLaw.withdrawn {s : State} (law : ReleaseLaw s) (idle : s.mode.isRunning = false) :
    Withdrawn s := by
  intro d
  have grant : (s.door d).grant = false := by
    by_contra held
    obtain ⟨-, -, running⟩ := law.grant d (Bool.eq_true_of_not_eq_false held)
    exact Bool.false_ne_true (idle.symm.trans running)
  exact ⟨grant, ((releaseLaw_iff.mp law d).1).trans grant⟩

/-! ### Grants and their withdrawal -/

section
variable (s : State)

/-- Withdrawing a grant, or recomputing nothing, leaves a record lawful in any circumstances. -/
theorem State.regranted_false_lawful (r : Door) (tied : r.output = r.grant) (above running : Bool) :
    (s.regranted false r).Lawful above running := by
  unfold State.regranted
  split
  case isTrue grant => exact .of_withdrawn _ _ grant (tied.trans grant)
  case isFalse => exact .of_withdrawn _ _ rfl rfl

theorem State.withdrawAll_door (d : Fin 4) : s.withdrawAll.door d = s.regranted false (s.door d) := by
  rw [State.withdrawAll, s.grantAll_door, if_pos (List.mem_finRange d)]

theorem State.withdrawAll_withdrawn (tied : ∀ d, (s.door d).output = (s.door d).grant) :
    Withdrawn s.withdrawAll := by
  intro d
  rw [s.withdrawAll_door]
  have grant : (s.regranted false (s.door d)).grant = false := s.regranted_grant _
  exact ⟨grant, (s.regranted_false_lawful _ (tied d) true true).1.trans grant⟩

theorem ReleaseLaw.grantAll_false (law : ReleaseLaw s) (sets : List (Fin 4)) :
    ReleaseLaw (s.grantAll sets false) := by
  refine releaseLaw_iff.mpr fun d => ?_
  have lawful := releaseLaw_iff.mp law d
  rw [(s.grantAll_only sets false).aboveWithdraw, (s.grantAll_only sets false).mode, s.grantAll_door]
  split
  · exact s.regranted_false_lawful _ lawful.1 _ _
  · exact lawful

theorem ReleaseLaw.grantAll_true (law : ReleaseLaw s) (sets : List (Fin 4))
    (running : s.mode.isRunning = true) (slow : s.aboveWithdraw = false)
    (calm : ∀ d ∈ sets, (s.door d).st ≠ .emergency) : ReleaseLaw (s.grantAll sets true) := by
  refine releaseLaw_iff.mpr fun d => ?_
  have lawful := releaseLaw_iff.mp law d
  rw [(s.grantAll_only sets true).aboveWithdraw, (s.grantAll_only sets true).mode, s.grantAll_door]
  split
  case isTrue named =>
    unfold State.regranted
    split
    · exact lawful
    · exact ⟨by simp [running, slow, calm d named], fun _ => ⟨slow, calm d named, running⟩⟩
  case isFalse => exact lawful

theorem State.releaseStanding_all {sets : List (Fin 4)} (h : s.releaseStanding sets = true) :
    s.aboveWithdraw = false ∧ ∀ d ∈ sets, (s.door d).st ≠ .emergency := by
  simp only [State.releaseStanding, Bool.and_eq_true, Bool.not_eq_true', List.all_eq_true, bne_iff_ne] at h
  exact ⟨h.1.2, h.2⟩

theorem ReleaseLaw.evalInterlock (law : ReleaseLaw s) : ReleaseLaw s.evalInterlock := by
  refine releaseLaw_iff.mpr fun d => ?_
  rw [s.evalInterlock_only.aboveWithdraw, s.evalInterlock_only.mode, s.evalInterlock_door]
  exact releaseLaw_iff.mp law d

/-- R148: the output of a set whose record but for the output is lawful follows its grant. -/
theorem State.refreshOutput_lawful (d e : Fin 4)
    (h : if d = e then ((s.door d).grant = true → s.aboveWithdraw = false ∧ (s.door d).st ≠ .emergency ∧
        s.mode.isRunning = true) else (s.door e).Lawful s.aboveWithdraw s.mode.isRunning) :
    ((s.refreshOutput d).door e).Lawful s.aboveWithdraw s.mode.isRunning := by
  by_cases same : d = e
  · subst same
    rw [if_pos rfl] at h
    rw [State.refreshOutput_door]
    refine ⟨?_, h⟩
    simp only [State.outputDue]
    cases grant : (s.door d).grant
    · rfl
    · obtain ⟨slow, calm, running⟩ := h grant
      simp [slow, calm, running]
  · rw [if_neg same] at h
    rwa [s.refreshOutput_other d e same]

theorem ReleaseLaw.refreshOutput (law : ReleaseLaw s) (d : Fin 4) : ReleaseLaw (s.refreshOutput d) := by
  have frame : OnlyChanges grantParts s (s.refreshOutput d) := (s.refreshOutput_only d).mono
  refine releaseLaw_iff.mpr fun e => ?_
  rw [frame.aboveWithdraw, frame.mode]
  refine s.refreshOutput_lawful d e ?_
  split
  · exact law.grant d
  · exact releaseLaw_iff.mp law e

theorem ReleaseLaw.refreshOutputs (law : ReleaseLaw s) : ReleaseLaw s.refreshOutputs := by
  suffices all : ∀ (l : List (Fin 4)) (u : State), ReleaseLaw u →
      ReleaseLaw (l.foldl (fun s d => State.refreshOutput d s) u) from all _ s law
  intro l
  induction l with
  | nil => exact fun _ h => h
  | cons d l ih => exact fun u h => ih _ (h.refreshOutput u d)

/-- R147: an entry to EMERGENCY withdraws every grant. -/
theorem ReleaseLaw.enterDoorState (law : ReleaseLaw s) (d : Fin 4) (new : DoorState) :
    ReleaseLaw (s.enterDoorState d new) := by
  delta State.enterDoorState
  extract_lets old start s1 s2 s3 s4 s5 s6 s7
  split
  · exact law
  have entered : OnlyChanges grantParts s s2 :=
    (s.modDoor_only d _).andThen (State.attend_only _ _)
  have same : s2.door d = { s.door d with
      st := new, openTimer := if new = .opening then start else .stopped,
      closeTimer := if new = .closing then start else .stopped,
      lockTimer := if new = .closed then start else .stopped } := s.modDoor_same d _
  have others (e : Fin 4) (h : d ≠ e) : s2.door e = s.door e := s.modDoor_other d e _ h
  have tied (e : Fin 4) : (s2.door e).output = (s2.door e).grant := by
    by_cases h : d = e
    · subst h; rw [same]; exact (releaseLaw_iff.mp law d).1
    · rw [others e h]; exact (releaseLaw_iff.mp law e).1
  have calm : ReleaseLaw s4 := by
    change ReleaseLaw ((if new = .emergency then s2.withdrawAll else s2).evalInterlock.refreshOutput d)
    split
    case isTrue => exact ((s2.withdrawAll_withdrawn tied).law.evalInterlock _).refreshOutput _ d
    case isFalse ne =>
      have frame : OnlyChanges grantParts s s2.evalInterlock := entered.trans s2.evalInterlock_only
      have whole : OnlyChanges grantParts s2.evalInterlock (s2.evalInterlock.refreshOutput d) :=
        (State.refreshOutput_only _ d).mono
      refine releaseLaw_iff.mpr fun e => ?_
      rw [whole.aboveWithdraw, whole.mode]
      refine s2.evalInterlock.refreshOutput_lawful d e ?_
      rw [frame.aboveWithdraw, frame.mode, State.evalInterlock_door, State.evalInterlock_door]
      split
      · rw [same]
        intro grant
        obtain ⟨slow, -, running⟩ := law.grant d grant
        exact ⟨slow, ne, running⟩
      · rw [others e ‹_›]
        exact releaseLaw_iff.mp law e
  have h5 : Undisturbed s4 s5 := .ite (s4.flagOpening_undisturbed d) (.refl _)
  have h6 : Undisturbed s5 s6 := .ite (s5.shutAndLocked_undisturbed d) (.refl _)
  have h7 : Undisturbed s6 s7 := .ite (s6.countCycle_undisturbed d) (.refl _)
  exact calm.of ((h5.trans h6).trans (h7.trans (.ite (s7.countObstruction_undisturbed d) (.refl _))))

theorem ReleaseLaw.rederive (law : ReleaseLaw s) (d : Fin 4) (ev : DoorEvent) :
    ReleaseLaw (s.rederive d ev) :=
  ((law.of (s.testEndStops_undisturbed d)).enterDoorState _ d _).of (State.expiryReport_undisturbed _ d ev _)

theorem ReleaseLaw.inconsistent (law : ReleaseLaw s) (d : Fin 4) : ReleaseLaw (s.inconsistent d) :=
  (law.of (.modDoor s d _ (by intro; rfl))).rederive _ d _

theorem ReleaseLaw.doorLineChange (law : ReleaseLaw s) (n : Fin 32) (v : Logical) :
    ReleaseLaw (s.doorLineChange n v) := by
  have slot (d : Fin 4) (k : DoorSlot) (u : State) (h : ReleaseLaw u) :
      ReleaseLaw (u.doorSlotChange d v k) := by
    unfold State.doorSlotChange
    dsimp only
    split
    · exact (h.rederive u d _).evalInterlock _
    · exact h.rederive u d _
  have set (d : Fin 4) (l : List DoorSlot) : ∀ u : State, ReleaseLaw u →
      ReleaseLaw (l.foldl (fun s k => s.doorSlotChange d v k) u) := by
    induction l with
    | nil => exact fun _ h => h
    | cons k l ih => exact fun u h => ih _ (slot d k u h)
  suffices all : ∀ (l : List (Fin 4)) (u : State), ReleaseLaw u →
      ReleaseLaw (l.foldl (fun s d => (s.slotsNaming d n).foldl (fun s k => s.doorSlotChange d v k) s) u)
    from all _ s law
  intro l
  induction l with
  | nil => exact fun _ h => h
  | cons d l ih => exact fun u h => ih _ (set d _ u h)

theorem State.setInterlock_door (i : Interlock) (x : Timer) (d : Fin 4) :
    (s.setInterlock i x).door d = s.door d := by
  rw [State.door, s.setInterlock_dmn, State.door]

theorem State.setInterlock_keepsDoors (i : Interlock) (x : Timer) : KeepsDoors s (s.setInterlock i x) :=
  fun d => congrArg Door.release (s.setInterlock_door i x d)

theorem State.overrideChange_keepsDoors (v : Logical) : KeepsDoors s (s.overrideChange v) := by
  have begins : KeepsDoors s s.beginOverride :=
    (s.setInterlock_keepsDoors _ _).trans
      (((State.bump_only _ _).andThen (State.attend_only _ _) (n := faultParts)).andThen
        (State.reportActive_only _ _) (n := faultParts)).keepsDoors
  have ends : KeepsDoors s s.endOverride := by
    unfold State.endOverride
    have reported : KeepsDoors s ((s.reportCleared .override).attend .door) :=
      ((s.reportCleared_only _).andThen (State.attend_only _ _) (n := faultParts)).keepsDoors
    exact .ite (reported.trans (State.setInterlock_keepsDoors _ _ _))
      (reported.trans (State.setInterlock_keepsDoors _ _ _))
  unfold State.overrideChange
  split
  · exact .ite begins (.refl s)
  · exact .ite begins (.refl s)
  · exact .ite begins (.refl s)
  · exact .ite (.refl s) ends
  · exact .refl s

/-- Changes of the interlock alone leave the law alone. -/
theorem ReleaseLaw.of_doors {s t : State} (law : ReleaseLaw s) {l : List Part} (h : OnlyChanges l s t)
    (k : KeepsDoors s t)
    (mctl : partsIn [.mctl] l = false := by with_unfolding_all rfl)
    (gve : partsIn [.gve] l = false := by with_unfolding_all rfl)
    (tables : partsIn [.tables] l = false := by with_unfolding_all rfl) : ReleaseLaw t := by
  refine releaseLaw_iff.mpr fun d => ?_
  have above : t.aboveWithdraw = s.aboveWithdraw := by
    have same : t.tables = s.tables := h.same .tables tables
    simp only [State.aboveWithdraw, State.speed, State.speedChannel, State.channelCfg, h.knownE gve, same]
  rw [above, show t.mode = s.mode from h.keepsMode mctl]
  exact (releaseLaw_iff.mp law d).congr (k d)

theorem ReleaseLaw.roleChange (law : ReleaseLaw s) (n : Fin 32) (old new : Logical) :
    ReleaseLaw (s.roleChange n old new) := by
  have interlock : ReleaseLaw (s.interlockRoleChange n new) := by
    delta State.interlockRoleChange
    extract_lets c s1
    have h1 : ReleaseLaw s1 := by
      change ReleaseLaw (if c.kneel = some n then s.evalInterlock else s)
      split
      · exact law.evalInterlock s
      · exact law
    split
    · exact h1.of_doors (s1.overrideChange_only new) (s1.overrideChange_keepsDoors new)
    · exact h1
  have release (u : State) (h : ReleaseLaw u) : ReleaseLaw u.releaseButton := by
    delta State.releaseButton
    extract_lets mask
    split
    · exact h
    · split
      · exact h.grantAll_false u mask
      · split
        case isTrue go =>
          obtain ⟨running, standing⟩ := Bool.and_eq_true_iff.mp go
          obtain ⟨slow, calm⟩ := u.releaseStanding_all standing
          exact h.grantAll_true u mask running slow calm
        case isFalse => exact h.of (u.attend_only _).undisturbed
  have ite (p : Prop) [Decidable p] (u v : State) (h : ReleaseLaw u) (k : ReleaseLaw v) :
      ReleaseLaw (if p then u else v) := by split <;> assumption
  unfold State.roleChange
  revert interlock
  generalize s.interlockRoleChange n new = u
  intro h
  delta State.buttonRoleChange
  extract_lets c s1 s2
  have h1 : ReleaseLaw s1 := ite _ _ _ (release u h) h
  have h2 : ReleaseLaw s2 := ite _ _ _ (h1.of s1.leaveWorkshopIfMoving_undisturbed) h1
  exact ite _ _ _ (h2.of s2.ackButton_only.undisturbed) h2

theorem ReleaseLaw.sampleLine (law : ReleaseLaw s) (n : Fin 32) (mv : Nat) : ReleaseLaw (s.sampleLine n mv) := by
  have classified : ReleaseLaw (s.classify n mv) :=
    law.of_doors (s.classify_only n mv) (s.classify_only n mv).keepsDoors
  unfold State.sampleLine State.handOn
  dsimp only
  split
  · exact classified
  · exact (classified.doorLineChange _ n _).roleChange _ n _ _

theorem ReleaseLaw.scanSample (law : ReleaseLaw s) (n : Fin 32) (mv : Nat) : ReleaseLaw (s.scanSample n mv) := by
  unfold State.scanSample
  split
  · exact law
  · split
    · exact law.of ((s.measureOnly_only n mv).undisturbed_lines (s.measureOnly_only n mv).keepsMode
        (s.measureOnly_logical n mv))
    · exact law.sampleLine s n mv

/-! ### The speed (R147) -/

/-- A speed update withdraws every grant above the withdraw speed: it needs the law but for the speed. -/
theorem State.doorSpeedUpdate_law (tied : ∀ d, (s.door d).output = (s.door d).grant)
    (granted : ∀ d, (s.door d).grant = true → (s.door d).st ≠ .emergency ∧ s.mode.isRunning = true) :
    ReleaseLaw s.doorSpeedUpdate := by
  unfold State.doorSpeedUpdate
  refine ReleaseLaw.refreshOutputs _ ?_
  split
  case isTrue => exact (s.withdrawAll_withdrawn tied).law
  case isFalse slow =>
    exact releaseLaw_iff.mpr fun d => ⟨tied d, fun h =>
      ⟨Bool.eq_false_iff.mpr slow, (granted d h).1, (granted d h).2⟩⟩

/-- After a change of channel `k` alone: lawful if `k` has not the SPEED role, and else once the speed update has
been made. -/
theorem ReleaseLaw.speedUpdate (law : ReleaseLaw s) {t : State} (k : Fin 6) (only : OnlyChanges gaugeParts s t)
    (others : ∀ j, j ≠ k → t.channel j = s.channel j) : ReleaseLaw (t.speedUpdate k) := by
  have tables : t.tables = s.tables := only.same .tables
  have doors : KeepsDoors s t := only.keepsDoors
  have mode : t.mode = s.mode := only.keepsMode
  unfold State.speedUpdate
  split
  case isTrue =>
    have updated : ReleaseLaw t.doorSpeedUpdate := by
      refine t.doorSpeedUpdate_law (fun d => ?_) fun d h => ?_
      · rw [doors.output, doors.grant]; exact (releaseLaw_iff.mp law d).1
      · rw [doors.grant] at h
        obtain ⟨-, calm, running⟩ := law.grant d h
        rw [doors.st, mode]
        exact ⟨calm, running⟩
    exact updated.of (State.leaveWorkshopIfMoving_undisturbed _)
  case isFalse none =>
    have channel : t.speedChannel = s.speedChannel := by
      simp only [State.speedChannel, State.channelCfg, tables]
    have speed : t.speed = s.speed := by
      unfold State.speed
      rw [channel]
      cases found : s.speedChannel with
      | none => rfl
      | some j =>
        have role : (s.channelCfg j).hasSpeedRole = true := List.find?_some (p := fun k =>
          (s.channelCfg k).hasSpeedRole) found
        have other : j ≠ k := by
          rintro rfl
          exact none (by rw [State.channelCfg, tables]; exact role)
        simp only [Option.bind_some, State.knownE, others j other]
    refine releaseLaw_iff.mpr fun d => ?_
    have above : t.aboveWithdraw = s.aboveWithdraw := by
      simp only [State.aboveWithdraw, speed, tables]
    rw [above, mode]
    exact (releaseLaw_iff.mp law d).congr (doors d)

/-! ### Channels other than the one sampled -/

/-- From `s` to `t` every channel but `k` stays. -/
def KeepsOtherChannels (k : Fin 6) (s t : State) : Prop := ∀ j, j ≠ k → t.channel j = s.channel j

section
variable {k : Fin 6} {t u : State}

theorem KeepsOtherChannels.refl : KeepsOtherChannels k s s := fun _ _ => rfl

variable {s}

theorem KeepsOtherChannels.trans (h : KeepsOtherChannels k s t) (h' : KeepsOtherChannels k t u) :
    KeepsOtherChannels k s u := fun j other => (h' j other).trans (h j other)

theorem KeepsOtherChannels.ite {c : Prop} [Decidable c] (h : KeepsOtherChannels k s t)
    (h' : KeepsOtherChannels k s u) : KeepsOtherChannels k s (if c then t else u) := by
  split <;> assumption

theorem KeepsOtherChannels.modChannel (s : State) (f : Channel → Channel) :
    KeepsOtherChannels k s (s.modChannel k f) := fun j other => s.modChannel_other k j f other.symm

theorem OnlyChanges.channel_eq {l : List Part} (h : OnlyChanges l s t) {j : Fin 6}
    (gve : partsIn [.gve] l = false := by with_unfolding_all rfl) : t.channel j = s.channel j := by
  have same : t.gve = s.gve := h.same .gve gve
  rw [State.channel, State.channel, same]

theorem OnlyChanges.keepsOtherChannels {l : List Part} (h : OnlyChanges l s t)
    (gve : partsIn [.gve] l = false := by with_unfolding_all rfl) : KeepsOtherChannels k s t := fun j _ => by
  exact h.channel_eq gve

end

theorem State.acquire_others (k : Fin 6) : KeepsOtherChannels k s (s.acquire k) := by
  delta State.acquire
  extract_lets c
  split
  · exact .refl s
  · exact .trans (t := s.modUnit c.unit _) (fun _ _ => rfl) (.modChannel _ _)
  · split
    · exact .trans (.modChannel s _) (State.useFree_only _ _).keepsOtherChannels
    · exact .refl s
  · exact .modChannel s _

theorem State.gaugeReports_others (k : Fin 6) (before : ChannelState) :
    KeepsOtherChannels k s (s.gaugeReports k before) := by
  have valid : KeepsOtherChannels k s (s.gaugeValid k) := by
    delta State.gaugeValid
    extract_lets s1 s2
    have h1 : OnlyChanges faultParts s s1 := .ite (s.reportCleared_only _) (.refl _ _)
    have h2 : OnlyChanges faultParts s1 s2 := .ite (s1.reportCleared_only _) (.refl _ _)
    exact (h1.trans h2).keepsOtherChannels.trans (.modChannel s2 _)
  have noise : KeepsOtherChannels k s (s.noiseReport k) :=
    .ite (.refl s) ((s.reportActive_only _).keepsOtherChannels.trans (.modChannel _ _))
  exact .ite (.refl s) (.ite valid (.ite noise (.refl s)))

theorem State.sampleChannel_others (k : Fin 6) : KeepsOtherChannels k s (s.sampleChannel k) := by
  delta State.sampleChannel
  extract_lets before s1 s2
  have h1 : KeepsOtherChannels k s s1 := s.acquire_others k
  have h2 : KeepsOtherChannels k s1 s2 := .modChannel s1 _
  exact (h1.trans h2).trans ((s2.gaugeReports_others k before).trans (State.needleInput_only _ k).keepsOtherChannels)

theorem State.feedExpired_others (k : Fin 6) : KeepsOtherChannels k s (s.feedExpired k) := by
  delta State.feedExpired
  extract_lets s1 s2
  have h1 : KeepsOtherChannels k s s1 := .modChannel s _
  have h2 : KeepsOtherChannels k s1 s2 :=
    .ite (.refl s1) ((s1.reportActive_only _).keepsOtherChannels.trans (.modChannel _ _))
  exact .ite (.trans (.modChannel s _) (State.needleInput_only _ k).keepsOtherChannels)
    ((h1.trans h2).trans (s2.needleInput_only k).keepsOtherChannels)

/-- R53: at the second expiry the channel is LOST, and so is the speed if it was that channel's. -/
theorem ReleaseLaw.feedExpired_second (law : ReleaseLaw s) (k : Fin 6)
    (second : ((s.channel k).expiries == 0) = false) : ReleaseLaw (s.feedExpired k) := by
  have only := s.feedExpired_only k
  have lost : ((s.feedExpired k).channel k).st = .lost := by
    delta State.feedExpired
    extract_lets s1 s2
    rw [if_neg (by simpa using second), (s2.needleInput_only k).channel_eq]
    have first : (s1.channel k).st = .lost := by rw [State.modChannel_same]
    change ((if (s1.channel k).lostMark then s1 else (s1.reportActive (.gauge k .lost)).modChannel k
      fun h => { h with lostMark := true }).channel k).st = .lost
    split
    · exact first
    · rw [State.modChannel_same, (s1.reportActive_only _).channel_eq, first]
  have tables : (s.feedExpired k).tables = s.tables := only.same .tables
  have channel : (s.feedExpired k).speedChannel = s.speedChannel := by
    simp only [State.speedChannel, State.channelCfg, tables]
  have slow (h : s.aboveWithdraw = false) : (s.feedExpired k).aboveWithdraw = false := by
    by_cases role : s.speedChannel = some k
    · have unknown : (s.feedExpired k).speed = none := by
        rw [State.speed, channel, role, Option.bind_some, State.knownE, lost]
        rfl
      rw [State.aboveWithdraw, unknown]
    · have speed : (s.feedExpired k).speed = s.speed := by
        rw [State.speed, State.speed, channel]
        cases found : s.speedChannel with
        | none => rfl
        | some j =>
          have other : j ≠ k := fun e => role (by rw [found, e])
          rw [Option.bind_some, Option.bind_some, State.knownE, State.knownE, s.feedExpired_others k j other]
      rw [← h, State.aboveWithdraw, State.aboveWithdraw, speed, tables]
  have doors : KeepsDoors s (s.feedExpired k) := only.keepsDoors
  have mode : (s.feedExpired k).mode = s.mode := only.keepsMode
  refine releaseLaw_iff.mpr fun d => ⟨?_, fun h => ?_⟩
  · rw [doors.output, doors.grant]; exact (releaseLaw_iff.mp law d).1
  · rw [doors.grant] at h
    obtain ⟨calm, st, running⟩ := law.grant d h
    rw [doors.st, mode]
    exact ⟨slow calm, st, running⟩

theorem ReleaseLaw.feedTimeout (law : ReleaseLaw s) (k : Fin 6) : ReleaseLaw (s.feedTimeout k) := by
  unfold State.feedTimeout
  dsimp only
  split
  · exact law.speedUpdate s k (s.feedExpired_only k) (s.feedExpired_others k)
  case isFalse second => exact law.feedExpired_second s k (Bool.eq_false_iff.mpr second)

/-! ### Changes of mode (R10, R12 to R15) -/

theorem State.gateOrForce_keepsDoors : KeepsDoors s s.freeInterlock ∧ KeepsDoors s s.forceInterlock := by
  constructor
  · unfold State.freeInterlock
    refine .ite ?_ (.ite (s.setInterlock_keepsDoors _ _) (s.setInterlock_keepsDoors _ _))
    exact (s.setInterlock_keepsDoors _ _).trans
      (((State.bump_only _ _).andThen (State.attend_only _ _) (n := faultParts)).andThen
        (State.reportActive_only _ _) (n := faultParts)).keepsDoors
  · unfold State.forceInterlock
    refine .trans (.ite ?_ (.refl s)) (State.setInterlock_keepsDoors _ _ _)
    exact ((s.reportCleared_only _).andThen (State.attend_only _ _) (n := faultParts)).keepsDoors

theorem State.wake_keepsDoors : KeepsDoors s s.wake := by
  delta State.wake
  extract_lets s1 s2 s3
  have h1 : OnlyChanges awakeParts s s1 ∧ KeepsDoors s s1 := ⟨
    ((s.setMode_only _).andThen (State.attend_only _ _) (n := awakeParts)).andThen (State.modMctl_only _ _),
    .refl s⟩
  have h2 : KeepsDoors s1 s2 :=
    (((s1.startScans_only.andThen (State.startServices_only _) (n := [.sched])).andThen
      (forLines_only _ _) (n := [.sched, .hlm])).andThen (forLines_only _ _) (n := [.sched, .hlm])).andThen
        (State.startComparators_only _) (n := [.sched, .hlm]) |>.andThen (State.wakeGauges_only _)
          (n := [.sched, .hlm, .gve]) |>.keepsDoors
  have h3 : KeepsDoors s2 s3 := (s2.gateDoorTimers_undisturbed.doors).trans
    ((State.mapRetries_only _ _).andThen (State.restartPhase_only _) (n := [.pru])).keepsDoors
  exact ((h1.2.trans h2).trans h3).trans (((State.gateOrForce_keepsDoors _).1.trans
    ((State.startSilenceTimer_only _).andThen (State.holdIfAsserted_only _) (n := [.link])).keepsDoors).trans
      (State.refreshPru_only _).keepsDoors)

theorem ReleaseLaw.wakeByLink (law : ReleaseLaw s) : ReleaseLaw s.wakeByLink := by
  unfold State.wakeByLink
  split
  case isTrue m => exact ((law.withdrawn (by rw [m]; rfl)).of s.wake_keepsDoors).law
  case isFalse => exact law

theorem State.refreshOutputs_withdrawn (h : Withdrawn s) : Withdrawn s.refreshOutputs := by
  suffices all : ∀ (l : List (Fin 4)) (u : State), Withdrawn u →
      Withdrawn (l.foldl (fun s d => State.refreshOutput d s) u) from all _ s h
  intro l
  induction l with
  | nil => exact fun _ h => h
  | cons d l ih =>
    refine fun u h => ih _ fun e => ?_
    by_cases same : d = e
    · subst same
      rw [State.refreshOutput_door]
      exact ⟨(h d).1, by simp only [State.outputDue, (h d).1, Bool.false_and]⟩
    · rw [u.refreshOutput_other d e same]
      exact h e

theorem State.enterSleep_withdrawn (h : Withdrawn s) : Withdrawn s.enterSleep := by
  delta State.enterSleep
  extract_lets s1 s2 s3 s4
  have h1 : KeepsDoors s s1 :=
    (s.endHoldForSleep_only.keepsDoors.trans (State.setMode_only _ _).keepsDoors).trans
      (State.modMctl_only _ _).keepsDoors
  have h2 : KeepsDoors s1 s2 :=
    (((s1.makeCounterDue_only.andThen (forLines_only _ _) (n := [.fmy, .hlm])).andThen
      (State.stopComparators_only _) (n := [.fmy, .hlm])).andThen (State.stopGauges_only _)
        (n := [.fmy, .hlm, .gve])).keepsDoors
  have h3 : KeepsDoors s2 ((forNeedles (fun _ n => n.toSleep) s2).gateDoorTimers.forceInterlock) :=
    ((forNeedles_only _ _).keepsDoors.trans (State.gateDoorTimers_undisturbed _).doors).trans
      (State.gateOrForce_keepsDoors _).2
  have off : Withdrawn s3 := State.refreshOutputs_withdrawn _ (((h.of h1).of h2).of h3)
  have h4 : KeepsDoors s3 s4 :=
    ((s3.mapRetries_only _).andThen (State.stopSilenceTimer_only _) (n := [.pru, .link])).andThen
      (State.refreshPru_only _) (n := [.pru, .link]) |>.keepsDoors
  exact (off.of h4).of (s4.modSched_only _).keepsDoors

theorem ReleaseLaw.sleepLines (law : ReleaseLaw s) (mv : Vector Nat 32) : ReleaseLaw (s.sleepLines mv).1 := by
  suffices all : ∀ (l : List (Fin 32)) (q : State × Bool), ReleaseLaw q.1 →
      ReleaseLaw (l.foldl (fun (s, changed) n =>
        if s.watched n && (s.lineCfg n).fn.classified then
          let s' := s.sampleLine n mv[n]
          (s', changed || s'.logical n != s.logical n)
        else (s, changed)) q).1 from all _ (s, false) law
  intro l
  induction l with
  | nil => exact fun _ h => h
  | cons n l ih =>
    refine fun q h => ih _ ?_
    dsimp only
    split
    · exact h.sampleLine _ n _
    · exact h

theorem ReleaseLaw.sleepSample (law : ReleaseLaw s) (asleep : s.mode = .sleep) (ign : Bool)
    (mv : Vector Nat 32) : ReleaseLaw (s.sleepSample ign mv) := by
  delta State.sleepSample
  extract_lets t s1
  have moved : OnlyChanges [.now, .sched] s s1 := (Advances.atMoment (l := [.sched]) s _ _).only
  have h1 : ReleaseLaw s1 := law.of moved.undisturbed
  have still : (s1.sleepLines mv).1.mode = .sleep := by
    have here : s1.mode = .sleep := asleep
    have kept : KeepsMode s1 (s1.sleepLines mv).1 :=
      s1.sleepLines_mode mv fun e => Mode.noConfusion (here.symm.trans e)
    exact Eq.trans kept here
  have lines := h1.sleepLines s1 mv
  revert lines still
  obtain ⟨s2, changed⟩ := s1.sleepLines mv
  intro still lines
  have read : Undisturbed s2 (s2.modMctl (Mctl.ignSample ign s2.now)) :=
    .modMctl s2 _ fun c => Mctl.ignSample_mode _ _ c
  dsimp only
  split
  · exact (((lines.withdrawn (by rw [show s2.mode = .sleep from still]; rfl)).of read.doors).of
      (State.wake_keepsDoors _)).law
  · exact lines.of read

/-- What settles the blocks touches no state, grant or output. -/
theorem State.settleBlocks_keepsDoors : KeepsDoors s s.settleBlocks := by
  have doors (u : State) : KeepsDoors u u.settleDoors := by
    unfold State.settleDoors
    refine .trans (.foldl _ (fun u d => ?_) _ _) (State.reportCleared_only _ _).keepsDoors
    exact .ite (.refl u) ((u.reportAllCleared_only _).keepsDoors.trans (.modDoor _ d _ (by intro; rfl)))
  have lines : OnlyChanges settleParts s s.settleLines := s.settleLines_only.mono
  exact (((s.settleLines_only.keepsDoors.trans (State.settleGauges_only _).keepsDoors).trans
    (State.settleRules_only _).keepsDoors).trans (State.settleLamps_only _).keepsDoors).trans (doors _)

theorem State.endStartup_keepsDoors : KeepsDoors s s.endStartup := by
  delta State.endStartup
  extract_lets passed s1 s2 s3 s4
  have h2 : KeepsDoors s s2 :=
    KeepsDoors.trans (t := s1) (.refl s) ((s1.attend_only _).keepsDoors.trans (State.report_only _ _ _).keepsDoors)
  have h3 : KeepsDoors s2 s3 := s2.settleBlocks_keepsDoors.trans (State.settleLink_only _).keepsDoors
  have h4 : KeepsDoors s3 s4 :=
    (((s3.dropUnclassified_only.andThen (State.startComparators_only _) (n := [.hlm])).andThen
      (State.startUnits_only _) (n := [.hlm, .gve])).andThen (State.startServices_only _)
        (n := [.hlm, .gve, .sched])).keepsDoors
  have h5 : KeepsDoors s4 (s4.leaveStartup passed) := by
    delta State.leaveStartup
    extract_lets u
    have run : KeepsDoors s4 u := .ite s4.enterRun_only.keepsDoors (s4.setMode_only _).keepsDoors
    exact .ite ((run.trans (State.gateOrForce_keepsDoors _).1).trans (State.startSilenceTimer_only _).keepsDoors)
      ((s4.setMode_only _).keepsDoors.trans (State.homeAllNeedles_only _).keepsDoors)
  exact (((h2.trans h3).trans h4).trans h5).trans
    ((State.holdIfAsserted_only _).keepsDoors.trans (State.refreshPru_only _).keepsDoors)

theorem State.exitSetup_withdrawn (t : Tables) : Withdrawn (s.exitSetup t) := by
  delta State.exitSetup
  extract_lets s1 s2 s3 s4
  have h1 : Withdrawn s1 := by
    have fresh : Withdrawn (s.takeUpTables t) := fun d => by
      simp only [State.door, State.takeUpTables, State.resetGauges, forUnits, forChannels, State.modGve_dmn,
        Fin.getElem_fin, Vector.getElem_replicate, and_self]
    exact fresh.of (State.removeOverAged_only _ _).keepsDoors
  have h2 : KeepsDoors s1 s2 := s1.settleBlocks_keepsDoors.trans (State.startComparators_only _).keepsDoors
  have h3 : KeepsDoors s2 s3 := (s2.modSched_only _).keepsDoors
  have h4 : KeepsDoors s3 s4 := .ite s3.enterRun_only.keepsDoors (s3.setMode_only _).keepsDoors
  exact h1.of ((h2.trans (h3.trans h4)).trans (((State.gateOrForce_keepsDoors _).1.trans
    (State.startSilenceTimer_only _).keepsDoors).trans (State.refreshPru_only _).keepsDoors))

theorem State.enterSetup_keepsDoors : KeepsDoors s s.enterSetup := by
  delta State.enterSetup
  extract_lets s1
  have h : KeepsDoors s1 s1.allRulesOff.parkNeedles := s1.allRulesOff_only.keepsDoors.trans
    (State.parkNeedles_only _).keepsDoors
  exact (KeepsDoors.trans (t := s1) (.refl s) h).trans (((State.gateOrForce_keepsDoors _).2.trans
    (State.stopSilenceTimer_only _).keepsDoors).trans (State.refreshPru_only _).keepsDoors)

theorem State.ignitionOff_withdrawn (law : ReleaseLaw s) : Withdrawn s.ignitionOff := by
  delta State.ignitionOff
  extract_lets was s1 s2 s3
  have tied (u : State) (k : KeepsDoors s u) (d : Fin 4) : (u.door d).output = (u.door d).grant := by
    rw [k.output, k.grant]; exact (releaseLaw_iff.mp law d).1
  have aged : KeepsDoors s s2.endLampCheck.ageFaults := (KeepsDoors.trans (t := s2) (.refl s)
    (s2.endLampCheck_only).keepsDoors).trans (State.ageFaults_only _).keepsDoors
  have off : Withdrawn s3 := State.refreshOutputs_withdrawn _ (State.withdrawAll_withdrawn _ (tied _ aged))
  exact off.of (((State.endForcingOf_only _ _).keepsDoors.trans (State.parkNeedles_only _).keepsDoors).trans
    (State.refreshPru_only _).keepsDoors)

theorem ReleaseLaw.acceptIgn (law : ReleaseLaw s) (a : Bool) : ReleaseLaw (s.acceptIgn a) := by
  delta State.acceptIgn
  extract_lets s1
  have read : Undisturbed s s1 := .modMctl s _ (by intro; rfl)
  have h1 : ReleaseLaw s1 := law.of read
  split
  case h_1 m => exact ((h1.withdrawn (by rw [m]; rfl)).of
    ((State.enterRun_only _).andThen (State.attend_only _ _) (n := ignitionParts)).keepsDoors).law
  case h_2 => exact ((s1.ignitionOff_withdrawn h1).of (State.attend_only _ _).keepsDoors).law
  case h_3 => exact ((s1.ignitionOff_withdrawn h1).of (State.attend_only _ _).keepsDoors).law
  case h_4 => exact h1.of (State.refreshPru_only _).undisturbed

/-! ### Commands -/

theorem ReleaseLaw.applyReset (c : ResetCause) : ReleaseLaw (s.applyReset c) :=
  Withdrawn.law fun d => by
    simp only [State.door, State.applyReset, State.startScans, State.modSched_dmn, Fin.getElem_fin,
      Vector.getElem_replicate, and_self]

theorem ReleaseLaw.modPins (law : ReleaseLaw s) (f : Pins → Pins) : ReleaseLaw (s.modPins f) :=
  law.of (.modPins s f)

theorem ReleaseLaw.modLif (law : ReleaseLaw s) (f : Lif → Lif) : ReleaseLaw (s.modLif f) :=
  law.of (.modLif s f)

theorem ReleaseLaw.atExpiry (law : ReleaseLaw s) (timer : Timer) (figure : Nat) {k : State → State}
    (keeps : ∀ s, ReleaseLaw s → ReleaseLaw (k s)) : ReleaseLaw (atExpiry timer figure k s) :=
  atExpiry_cases s timer figure k _ law fun _ _ => keeps _ (law.of (.reach s _))

theorem ReleaseLaw.eventEffect (law : ReleaseLaw s) (c : Instr) : ReleaseLaw (eventEffect c s) := by
  have calm := eventEffect_undisturbed c s
  have ite {p : Prop} [Decidable p] {u v : State} (h : p → ReleaseLaw u) (k : ReleaseLaw v) :
      ReleaseLaw (if p then u else v) := by
    split
    · exact h ‹_›
    · exact k
  have reset (r : ResetCause) (f : Pins → Pins) : ReleaseLaw ((s.hardReset r).modPins f) :=
    (ReleaseLaw.applyReset s.cutOffWrite r).modPins _ f
  cases c
  case startupEnd =>
    refine ite (fun ended => ?_) law
    have m : s.mode = .startup := by
      simp only [State.startupOver, Bool.and_eq_true, beq_iff_eq] at ended
      exact ended.1.1
    exact ((law.withdrawn (by rw [m]; rfl)).of s.endStartup_keepsDoors).law
  case ignDebounceExpiry =>
    unfold Machine.eventEffect
    dsimp only
    split
    · exact law.atExpiry s _ _ fun s h => h.acceptIgn s _
    · exact law
  case sleepEntry =>
    refine ite (fun may => ?_) law
    have m : s.mode = .standby := by
      simp only [State.mayEnterSleep, Bool.and_eq_true, beq_iff_eq] at may
      exact may.1.1.1.2
    exact (s.enterSleep_withdrawn (law.withdrawn (by rw [m]; rfl))).law
  case sleepSample ign mv => exact ite (fun m => law.sleepSample s m ign mv) law
  case startOfReception idle =>
    unfold Machine.eventEffect
    dsimp only
    split
    · exact law
    · exact (law.wakeByLink s).of (State.modLif_only _ _ (by intro; rfl)).undisturbed
  case byteReceived b stopHigh =>
    have awake : ReleaseLaw (s.wakeByLink.byteEnds b stopHigh) :=
      (law.wakeByLink s).of (State.byteEnds_only _ _ _).undisturbed
    unfold Machine.eventEffect
    dsimp only
    repeat' split
    · exact law
    · exact awake
    · exact awake.of (State.takeByte_only _ b).undisturbed
    · exact awake.of (State.stopBitError_only _).undisturbed
  case lineSample n mv =>
    refine ite (fun _ => ?_) law
    have moved : OnlyChanges [.now, .sched] s (s.atLineSample n) := (Advances.atMoment (l := [.sched]) s _ _).only
    exact (law.of moved.undisturbed).scanSample _ n mv
  case channelSample k =>
    refine ite (fun _ => ?_) law
    have moved : OnlyChanges [.now, .sched] s (s.atChannelSample k) :=
      (Advances.atMoment (l := [.sched]) s _ _).only
    exact (law.of moved.undisturbed).speedUpdate _ k (State.sampleChannel_only _ k) (State.sampleChannel_others _ k)
  case feedTimeout k => exact law.atExpiry s _ _ fun s h => h.feedTimeout s k
  case openTimerExpiry d => exact law.atExpiry s _ _ fun s h => h.rederive s d _
  case closeTimerExpiry d => exact law.atExpiry s _ _ fun s h => h.rederive s d _
  case lockTimerExpiry d => exact law.atExpiry s _ _ fun s h => h.rederive s d _
  case inconsistencyTimerExpiry d => exact law.atExpiry s _ _ fun s h => h.inconsistent s d
  case releaseDelayExpiry =>
    exact law.atExpiry s _ _ fun s h => h.of_doors (s.setInterlock_only _ _) (s.setInterlock_keepsDoors _ _)
  case powerOnReset =>
    unfold Machine.eventEffect
    exact reset _ _
  case brownOut =>
    unfold Machine.eventEffect
    dsimp only
    split
    · exact law
    · exact reset .brownOut _
  case externalReset =>
    unfold Machine.eventEffect
    dsimp only
    split
    · exact law
    · exact reset .pin _
  case breakRelease =>
    exact ite (fun _ => .applyReset s.cutOffWrite .linkBreak) (law.of s.lineWentHigh_only.undisturbed)
  case restartTakesEffect => exact ite (fun _ => .applyReset s .restart) law
  all_goals exact law.of (calm rfl)

theorem ReleaseLaw.setModeService (law : ReleaseLaw s) (target : Nat) :
    ReleaseLaw (setModeService target s).1 := by
  have leave : ReleaseLaw (leaveSetupService s).1 := by
    unfold leaveSetupService
    dsimp only
    split
    · with_reducible exact (s.exitSetup_withdrawn _).law
    · exact law
  have enter (m : s.mode = .standby ∨ s.mode = .unconfigured) : ReleaseLaw s.enterSetup := by
    refine ((law.withdrawn ?_).of s.enterSetup_keepsDoors).law
    obtain m | m := m <;> rw [m] <;> rfl
  have workshop (m : s.mode = .run) : ReleaseLaw (s.setMode .workshop) := by
    refine releaseLaw_iff.mpr fun d => ?_
    have lawful := releaseLaw_iff.mp law d
    rw [m] at lawful
    exact lawful
  unfold Machine.setModeService
  repeat' split
  all_goals first
    | with_reducible exact law
    | with_reducible exact leave
    | with_reducible exact enter ‹_›
    | with_reducible exact workshop ‹_›
    | with_reducible exact law.of (s.leaveWorkshop_undisturbed ‹_›)
    | with_reducible exact law.of (.modMctl s _ (by intro; rfl))

theorem ReleaseLaw.served {early : Bool} {ok : Nat → Bool} {p : List Byte} {k : Service} (law : ReleaseLaw s)
    (h : ReleaseLaw (k s).1) : ReleaseLaw (served early ok p k s).1 := by
  unfold Machine.served
  repeat' split
  all_goals assumption

theorem ReleaseLaw.requestService (law : ReleaseLaw s) (c : Instr) : ReleaseLaw (requestService c s).1 := by
  have only := requestService_only c s
  have mode := requestService_mode c s
  cases c
  case setMode tag p => exact law.served s (law.setModeService s _)
  case feedValue tag p =>
    refine law.served s ?_
    unfold feedValueService
    repeat' split
    · rename_i k _ _
      have known : (s.modChannel k (Channel.feed (rdI16 p 1) s.now)).knownE = s.knownE := funext fun j => by
        by_cases same : k = j
        · subst same
          rw [State.knownE, State.knownE, State.modChannel_same]
          rfl
        · rw [State.knownE, State.knownE, State.modChannel_other _ _ _ _ same]
      exact law.of (.of_reads rfl rfl (.refl s) known (.refl s) rfl rfl)
    · exact law
    · exact law
  case releaseDoors tag p =>
    refine law.served s ?_
    unfold releaseDoorsService
    dsimp only
    repeat' split
    case isTrue | isTrue => exact law
    case isTrue standing =>
      obtain ⟨slow, calm⟩ := s.releaseStanding_all standing
      exact law.grantAll_true s _ (not_not.mp ‹_›) slow calm
    all_goals exact law
  case withdrawRelease tag p =>
    refine law.served s ?_
    unfold withdrawReleaseService
    split
    · exact law.grantAll_false s _
    · exact law
  case readLines tag p =>
    refine law.served s ?_
    have only : OnlyChanges [.hlm] s (readLinesService s).1 := s.modHlm_only _
    refine law.of (only.undisturbed_lines only.keepsMode fun n => ?_)
    simp only [readLinesService, State.logical, State.line, State.modHlm_hlm, updAll_get]
    rfl
  all_goals exact law.of (only.undisturbed_of_mode (mode (by intros; exact Instr.noConfusion)))

theorem ReleaseLaw.serve (law : ReleaseLaw s) (f : Frame) (c : Instr) :
    ReleaseLaw (s.serve f (Machine.requestService c)) := by
  unfold State.serve
  exact (law.requestService s c).modLif _ _

/-- Settles O55: every stage of a request and every event keeps the law. -/
theorem stepKeepsReleaseLaw : Obligations.StepKeepsReleaseLaw := by
  intro s t h e
  refine step_keeps (P := ReleaseLaw) (fun s l h => ⟨h.output, h.grant⟩) (fun s h => ⟨h.output, h.grant⟩)
    (exec_keeps (fun s m h => ((h.withdrawn (by rw [m]; rfl)).of s.wake_keepsDoors).law)
      (fun s h => h.of s.lineWentHigh_only.undisturbed)
      (fun f s h => h.of (s.frameArrives_only f).undisturbed)
      (fun c f s _ _ h => h.serve s f c)
      (fun c s _ h => h.eventEffect s c)) h e

end

end Sys2Proof.Machine
end

section
/-! PROOFS. The law of the interlock (R149 to R151). -/

namespace Sys2Proof.Machine

set_option Elab.async false

/-! ### The law in two halves: the course of the interlock, and its conditions -/

/-- The law but for the conditions, with the OVERRIDE line taken as ACTIVE or not. -/
structure Course (s : State) (active : Bool) : Prop where
  forced : s.mode.forcesInterlock = true ↔ s.dmn.interlock = .forced
  override : s.dmn.interlock = .overridden ↔ active = true ∧ s.dmn.interlock ≠ .forced
  timer : s.dmn.delay.isRunning = true ↔ s.dmn.interlock = .delay

/-- What the law says of the conditions. -/
structure Met (s : State) : Prop where
  held : s.dmn.interlock = .held → s.anyCondition = true
  clear : s.dmn.interlock = .delay ∨ s.dmn.interlock = .free → s.anyCondition = false

theorem interlockLaw_iff {s : State} : InterlockLaw s ↔ Course s s.overrideActive ∧ Met s :=
  ⟨fun h => ⟨⟨h.forced, h.override, h.timer⟩, ⟨h.held, h.clear⟩⟩,
    fun ⟨c, m⟩ => ⟨c.forced, m.held, m.clear, c.override, c.timer⟩⟩

/-- From `s` to `t` the interlock and its timer stay, and so do FORCED modes. -/
def KeepsInterlock (s t : State) : Prop :=
  t.mode.forcesInterlock = s.mode.forcesInterlock ∧ t.dmn.interlock = s.dmn.interlock ∧
    t.dmn.delay = s.dmn.delay

/-- From `s` to `t` the interlock moves by evaluations of its conditions alone, if at all. -/
structure Evaluates (s t : State) : Prop where
  course : ∀ active, Course s active → Course t active
  met : Met s → Met t

section
variable {s t u : State}

theorem KeepsInterlock.course (h : KeepsInterlock s t) {active : Bool} (c : Course s active) :
    Course t active := by
  obtain ⟨forces, interlock, delay⟩ := h
  exact ⟨by rw [forces, interlock]; exact c.forced, by rw [interlock]; exact c.override,
    by rw [interlock, delay]; exact c.timer⟩

theorem KeepsInterlock.trans (h : KeepsInterlock s t) (k : KeepsInterlock t u) : KeepsInterlock s u :=
  ⟨k.1.trans h.1, k.2.1.trans h.2.1, k.2.2.trans h.2.2⟩

theorem Met.of (h : Met s) (interlock : t.dmn.interlock = s.dmn.interlock)
    (conditions : t.anyCondition = s.anyCondition) : Met t :=
  ⟨fun e => by rw [conditions]; exact h.held (interlock ▸ e),
    fun e => by rw [conditions]; exact h.clear (interlock ▸ e)⟩

theorem Evaluates.refl (s : State) : Evaluates s s := ⟨fun _ h => h, fun h => h⟩

theorem Evaluates.trans (h : Evaluates s t) (k : Evaluates t u) : Evaluates s u :=
  ⟨fun a c => k.course a (h.course a c), fun m => k.met (h.met m)⟩

theorem Evaluates.ite {c : Prop} [Decidable c] (h : Evaluates s t) (k : Evaluates s u) :
    Evaluates s (if c then t else u) := by split <;> assumption

theorem Evaluates.foldl {α : Type} (f : State → α → State) (h : ∀ s a, Evaluates s (f s a))
    (xs : List α) (s : State) : Evaluates s (xs.foldl f s) := by
  induction xs generalizing s with
  | nil => exact .refl s
  | cons a xs ih => exact (h s a).trans (ih (f s a))

theorem Evaluates.of (h : KeepsInterlock s t) (conditions : t.anyCondition = s.anyCondition) : Evaluates s t :=
  ⟨fun _ c => h.course c, fun m => m.of h.2.1 conditions⟩

theorem Undisturbed.evaluates (h : Undisturbed s t) : Evaluates s t :=
  .of ⟨h.forces, h.interlock, h.delay⟩ h.conditions

/-- The conditions read the lines, the tables, and of the doors the states and the grants. -/
theorem OnlyChanges.anyCondition_eq {l : List Part} (h : OnlyChanges l s t) (doors : ∀ d,
    (t.door d).st = (s.door d).st ∧ (t.door d).grant = (s.door d).grant)
    (hlm : partsIn [.hlm] l = false := by with_unfolding_all rfl)
    (tables : partsIn [.tables] l = false := by with_unfolding_all rfl) : t.anyCondition = s.anyCondition := by
  have values : t.logical = s.logical := funext (h.keepsLogical hlm)
  have same : t.tables = s.tables := h.same .tables tables
  have st (d : Fin 4) := (doors d).1
  have grant (d : Fin 4) := (doors d).2
  simp only [State.anyCondition, State.condDoors, State.condRamps, State.condKneel, State.condGrants,
    State.doorLine, State.doorCfg, State.roleValue, values, same, st, grant]

theorem OnlyChanges.overrideActive_eq {l : List Part} (h : OnlyChanges l s t)
    (hlm : partsIn [.hlm] l = false := by with_unfolding_all rfl)
    (tables : partsIn [.tables] l = false := by with_unfolding_all rfl) : t.overrideActive = s.overrideActive := by
  have values : t.logical = s.logical := funext (h.keepsLogical hlm)
  have same : t.tables = s.tables := h.same .tables tables
  simp only [State.overrideActive, State.roleValue, values, same]

theorem OnlyChanges.evaluates {l : List Part} (h : OnlyChanges l s t)
    (forces : t.mode.forcesInterlock = s.mode.forcesInterlock)
    (dmn : partsIn [.dmn] l = false := by with_unfolding_all rfl)
    (hlm : partsIn [.hlm] l = false := by with_unfolding_all rfl)
    (tables : partsIn [.tables] l = false := by with_unfolding_all rfl) : Evaluates s t :=
  .of ⟨forces, congrArg Dmn.interlock (h.same .dmn dmn), congrArg Dmn.delay (h.same .dmn dmn)⟩
    (h.anyCondition_eq (fun d => ⟨(h.keepsDoors dmn).st d, (h.keepsDoors dmn).grant d⟩) hlm tables)

theorem InterlockLaw.of_evaluates (law : InterlockLaw s) (h : Evaluates s t)
    (override : t.overrideActive = s.overrideActive) : InterlockLaw t := by
  obtain ⟨course, met⟩ := interlockLaw_iff.mp law
  exact interlockLaw_iff.mpr ⟨by rw [override]; exact h.course _ course, h.met met⟩

theorem InterlockLaw.of (law : InterlockLaw s) (h : Undisturbed s t) : InterlockLaw t :=
  law.of_evaluates h.evaluates h.override

end

/-! ### The operations of DMN -/

section
variable (s : State)

theorem State.setInterlock_anyCondition (i : Interlock) (x : Timer) :
    (s.setInterlock i x).anyCondition = s.anyCondition :=
  (s.setInterlock_only i x).anyCondition_eq fun d =>
    ⟨(s.setInterlock_keepsDoors i x).st d, (s.setInterlock_keepsDoors i x).grant d⟩

theorem State.setInterlock_mode (i : Interlock) (x : Timer) : (s.setInterlock i x).mode = s.mode :=
  (s.setInterlock_only i x).keepsMode

theorem State.evalInterlock_anyCondition : s.evalInterlock.anyCondition = s.anyCondition :=
  s.evalInterlock_only.anyCondition_eq fun d => by rw [s.evalInterlock_door]; exact ⟨rfl, rfl⟩

/-- R149: an evaluation leaves HELD only with a condition, DELAY and FREE only without. -/
theorem State.evalInterlock_met : Met s.evalInterlock := by
  refine ⟨?_, ?_⟩ <;> rw [s.evalInterlock_anyCondition, s.evalInterlock_interlock] <;>
    cases s.dmn.interlock <;> cases s.anyCondition <;> simp [Interlock.evaluated]

theorem Course.evalInterlock {s : State} {active : Bool} (c : Course s active) : Course s.evalInterlock active := by
  obtain ⟨forced, override, timer⟩ := c
  have mode : s.evalInterlock.mode = s.mode := s.evalInterlock_only.keepsMode
  constructor
  all_goals
    simp only [mode, s.evalInterlock_dmn]
    cases now : s.dmn.interlock <;> cases s.anyCondition <;> simp_all [Timer.isRunning]

theorem State.evalInterlock_evaluates : Evaluates s s.evalInterlock :=
  ⟨fun _ c => c.evalInterlock, fun _ => s.evalInterlock_met⟩

theorem State.refreshOutput_evaluates (d : Fin 4) : Evaluates s (s.refreshOutput d) := by
  refine .of ⟨rfl, rfl, rfl⟩ ((s.refreshOutput_only d).anyCondition_eq fun e => ?_)
  by_cases same : d = e
  · subst same; rw [State.refreshOutput_door]; exact ⟨rfl, rfl⟩
  · rw [s.refreshOutput_other d e same]; exact ⟨rfl, rfl⟩

theorem State.refreshOutputs_evaluates : Evaluates s s.refreshOutputs :=
  .foldl _ (fun s d => s.refreshOutput_evaluates d) _ s

theorem State.setGrant_evaluates (g : Bool) (d : Fin 4) : Evaluates s (s.setGrant g d) := by
  by_cases same : (s.door d).grant = g
  · rw [s.setGrant_of_eq same]; exact .refl s
  · rw [s.setGrant_of_ne same]
    have granted : KeepsInterlock s (s.withGrant g d) := ⟨rfl, rfl, rfl⟩
    exact ⟨fun a c => (State.refreshOutput_evaluates _ d).course a (granted.course c).evalInterlock,
      fun _ => (State.refreshOutput_evaluates _ d).met (State.evalInterlock_met _)⟩

theorem State.grantAll_evaluates (sets : List (Fin 4)) (g : Bool) : Evaluates s (s.grantAll sets g) :=
  .foldl _ (fun s d => s.setGrant_evaluates g d) _ s

theorem State.enterDoorState_evaluates (d : Fin 4) (new : DoorState) : Evaluates s (s.enterDoorState d new) := by
  delta State.enterDoorState
  extract_lets old start s1 s2 s3 s4 s5 s6 s7
  split
  · exact .refl s
  have entered : KeepsInterlock s s2 := ⟨rfl, rfl, rfl⟩
  have h3 : Evaluates s2 s3 := .ite (s2.grantAll_evaluates _ _) (.refl s2)
  have output : Evaluates s3.evalInterlock s4 := State.refreshOutput_evaluates _ d
  have h5 : Undisturbed s4 s5 := .ite (s4.flagOpening_undisturbed d) (.refl _)
  have h6 : Undisturbed s5 s6 := .ite (s5.shutAndLocked_undisturbed d) (.refl _)
  have h7 : Undisturbed s6 s7 := .ite (s6.countCycle_undisturbed d) (.refl _)
  have h8 : Undisturbed s7 (if new = .obstructed then s7.countObstruction d else s7) :=
    .ite (s7.countObstruction_undisturbed d) (.refl _)
  have rest := ((h5.trans h6).trans (h7.trans h8)).evaluates
  exact ⟨fun a c => rest.course a (output.course a (h3.course a (entered.course c)).evalInterlock),
    fun _ => rest.met (output.met s3.evalInterlock_met)⟩

theorem State.rederive_evaluates (d : Fin 4) (ev : DoorEvent) : Evaluates s (s.rederive d ev) :=
  ((s.testEndStops_undisturbed d).evaluates.trans (State.enterDoorState_evaluates _ d _)).trans
    (State.expiryReport_undisturbed _ d ev _).evaluates

theorem State.inconsistent_evaluates (d : Fin 4) : Evaluates s (s.inconsistent d) :=
  (Undisturbed.modDoor s d _ (by intro; rfl)).evaluates.trans (State.rederive_evaluates _ d _)

/-- R149: after a change of a RAMP_STOWED line the conditions are met whatever they were before. -/
theorem State.doorSlotChange_evaluates (d : Fin 4) (v : Logical) (k : DoorSlot) :
    Evaluates s (s.doorSlotChange d v k) ∧ (k = .ramp → Met (s.doorSlotChange d v k)) := by
  unfold State.doorSlotChange
  dsimp only
  split
  case isTrue => exact ⟨(s.rederive_evaluates d _).trans (State.evalInterlock_evaluates _),
    fun _ => State.evalInterlock_met _⟩
  case isFalse other => exact ⟨s.rederive_evaluates d _, fun ramp => absurd ramp other⟩

/-- A run of changes, one of which makes a property true that all of them keep. -/
theorem foldl_establishes {α : Type} {P : State → Prop} (f : State → α → State) (keeps : ∀ s a, P s → P (f s a))
    {a : α} {l : List α} (mem : a ∈ l) {Q : State → Prop} (stays : ∀ s a, Q s → Q (f s a))
    (establishes : ∀ s, Q s → P (f s a)) (s : State) (start : Q s) : P (l.foldl f s) := by
  have kept (l : List α) : ∀ s, P s → P (l.foldl f s) := by
    induction l with
    | nil => exact fun _ h => h
    | cons b l ih => exact fun s h => ih _ (keeps s b h)
  induction l generalizing s with
  | nil => exact absurd mem List.not_mem_nil
  | cons b l ih =>
    obtain e | mem := List.mem_cons.mp mem
    · subst e
      exact kept l _ (establishes s start)
    · exact ih mem _ (stays s b start)

theorem State.doorLineChange_evaluates (n : Fin 32) (v : Logical) : Evaluates s (s.doorLineChange n v) :=
  .foldl _ (fun s _ => .foldl _ (fun s _ => (s.doorSlotChange_evaluates _ v _).1) _ s) _ s

theorem State.doorLineChange_met (n : Fin 32) (v : Logical) {d : Fin 4}
    (configured : (s.doorCfg d).configured = true) (ramp : (s.doorCfg d).ramp = some n) :
    Met (s.doorLineChange n v) := by
  have step (u : State) (e : Fin 4) :
      Evaluates u ((u.slotsNaming e n).foldl (fun s k => s.doorSlotChange e v k) u) :=
    .foldl _ (fun s _ => (s.doorSlotChange_evaluates _ v _).1) _ u
  have tables (u : State) (e : Fin 4) :
      ((u.slotsNaming e n).foldl (fun s k => s.doorSlotChange e v k) u).tables = u.tables :=
    (OnlyChanges.foldl (l := doorParts) _ (fun s k => s.doorSlotChange_only e v k) _ u).same .tables
  refine foldl_establishes _ (fun u e m => (step u e).met m) (List.mem_finRange d)
    (Q := fun u => u.tables = s.tables) (fun u e same => (tables u e).trans same) (fun u same => ?_) s rfl
  have named : DoorSlot.ramp ∈ u.slotsNaming d n := by
    have cfg : u.doorCfg d = s.doorCfg d := by rw [State.doorCfg, State.doorCfg, same]
    rw [State.slotsNaming, cfg, if_pos configured, List.mem_filter]
    exact ⟨by decide, by simpa [DoorCfg.line] using ramp⟩
  exact foldl_establishes _ (fun u k m => (u.doorSlotChange_evaluates d v k).1.met m) named (Q := fun _ => True)
    (fun _ _ _ => trivial) (fun u _ => (u.doorSlotChange_evaluates d v .ramp).2 rfl) u trivial

/-! ### The OVERRIDE line and the changes of mode -/

/-- R150: an episode begins and ends with the line. -/
theorem State.overrideChange_course {active : Bool} (course : Course s active) (met : Met s) (v : Logical) :
    Course (s.overrideChange v) (v == .active) ∧ Met (s.overrideChange v) := by
  have begins (before : s.dmn.interlock ≠ .forced) : Course s.beginOverride true ∧ Met s.beginOverride := by
    have only : OnlyChanges faultParts (s.setInterlock .overridden .stopped) s.beginOverride :=
      ((State.bump_only _ _).andThen (State.attend_only _ _) (n := faultParts)).andThen
        (State.reportActive_only _ _)
    have dmn : s.beginOverride.dmn = { s.dmn with interlock := .overridden, delay := .stopped } :=
      (only.same .dmn).trans (s.setInterlock_dmn _ _)
    have mode : s.beginOverride.mode = s.mode := Eq.trans only.keepsMode (s.setInterlock_mode _ _)
    refine ⟨⟨?_, ?_, ?_⟩, ⟨?_, ?_⟩⟩ <;> simp [dmn, mode, course.forced, before, Timer.isRunning]
  have ends (before : s.dmn.interlock ≠ .forced) : Course s.endOverride false ∧ Met s.endOverride := by
    delta State.endOverride
    extract_lets u
    have only : OnlyChanges faultParts s u := (s.reportCleared_only _).andThen (State.attend_only _ _)
    have forces : u.mode.forcesInterlock = true ↔ s.dmn.interlock = .forced := by
      rw [show u.mode = s.mode from only.keepsMode]; exact course.forced
    cases conditions : u.anyCondition
    all_goals
      refine ⟨⟨?_, ?_, ?_⟩, ⟨?_, ?_⟩⟩ <;>
        simp [State.setInterlock_mode, State.setInterlock_anyCondition, forces, before, conditions, Timer.isRunning]
  have stays (now : s.dmn.interlock = .overridden ↔ (v == .active) = true ∧ s.dmn.interlock ≠ .forced) :
      Course s (v == .active) ∧ Met s := ⟨⟨course.forced, now, course.timer⟩, met⟩
  unfold State.overrideChange
  by_cases active : v = .active
  · have taken : (v == .active) = true := beq_iff_eq.mpr active
    rw [taken]
    rw [taken] at stays
    simp only [active, if_true]
    split <;> rename_i now
    · exact begins (by rw [now]; exact Interlock.noConfusion)
    · exact begins (by rw [now]; exact Interlock.noConfusion)
    · exact begins (by rw [now]; exact Interlock.noConfusion)
    · exact stays (by simp [now])
    · exact stays (by simp [now])
  · have taken : (v == .active) = false := beq_eq_false_iff_ne.mpr active
    rw [taken]
    rw [taken] at stays
    simp only [active, if_false]
    split <;> rename_i now
    · exact stays (by simp [now])
    · exact stays (by simp [now])
    · exact stays (by simp [now])
    · exact ends (by rw [now]; exact Interlock.noConfusion)
    · exact stays (by simp [now])

/-- R151: a change of mode out of FORCED. -/
theorem InterlockLaw.freeInterlock (out : s.mode.forcesInterlock = false) : InterlockLaw s.freeInterlock := by
  unfold State.freeInterlock
  split
  case isTrue active =>
    have only : OnlyChanges faultParts (s.setInterlock .overridden .stopped) s.beginOverride :=
      ((State.bump_only _ _).andThen (State.attend_only _ _) (n := faultParts)).andThen
        (State.reportActive_only _ _)
    have dmn : s.beginOverride.dmn = { s.dmn with interlock := .overridden, delay := .stopped } :=
      (only.same .dmn).trans (s.setInterlock_dmn _ _)
    have mode : s.beginOverride.mode = s.mode := Eq.trans only.keepsMode (s.setInterlock_mode _ _)
    have override : s.beginOverride.overrideActive = true :=
      (only.overrideActive_eq.trans (s.setInterlock_only _ _).overrideActive_eq).trans active
    refine ⟨?_, ?_, ?_, ?_, ?_⟩ <;> simp [dmn, mode, out, override, Timer.isRunning]
  case isFalse inactive =>
    have override (i : Interlock) (x : Timer) : (s.setInterlock i x).overrideActive = false :=
      (s.setInterlock_only i x).overrideActive_eq.trans (Bool.eq_false_iff.mpr inactive)
    split <;> rename_i conditions
    all_goals
      refine ⟨?_, ?_, ?_, ?_, ?_⟩ <;>
        simp [State.setInterlock_mode, State.setInterlock_anyCondition, out, override, conditions, Timer.isRunning]

/-- R151: FORCED, in a mode that forces it. -/
theorem InterlockLaw.of_forced (within : s.mode.forcesInterlock = true) (interlock : s.dmn.interlock = .forced)
    (delay : s.dmn.delay.isRunning = false) : InterlockLaw s := by
  refine ⟨?_, ?_, ?_, ?_, ?_⟩ <;> simp [within, interlock, delay]

theorem InterlockLaw.forceInterlock (within : s.mode.forcesInterlock = true) : InterlockLaw s.forceInterlock := by
  delta State.forceInterlock
  extract_lets u
  have only : OnlyChanges faultParts s u :=
    .ite ((s.reportCleared_only _).andThen (State.attend_only _ _)) (.refl _ s)
  refine .of_forced _ ?_ (by rw [State.setInterlock_dmn]) (by rw [State.setInterlock_dmn]; rfl)
  rw [State.setInterlock_mode, show u.mode = s.mode from only.keepsMode]
  exact within

/-! ### Line samples -/

/-- A line that no configured set's ramp and not the kneel role names leaves the conditions alone. -/
theorem State.classify_anyCondition (n : Fin 32) (mv : Nat)
    (ramps : ∀ d, (s.doorCfg d).configured = true → (s.doorCfg d).ramp ≠ some n)
    (kneel : s.tables.roles.kneel ≠ some n) : (s.classify n mv).anyCondition = s.anyCondition := by
  have only := s.classify_only n mv
  have tables : (s.classify n mv).tables = s.tables := only.same .tables
  have dmn : (s.classify n mv).dmn = s.dmn := only.same .dmn
  have value (j : Fin 32) (other : j ≠ n) : (s.classify n mv).logical j = s.logical j :=
    s.classify_logical_other n mv other.symm
  have doors (d : Fin 4) : (s.classify n mv).door d = s.door d := by rw [State.door, State.door, dmn]
  have cfg (d : Fin 4) : (s.classify n mv).doorCfg d = s.doorCfg d := by rw [State.doorCfg, State.doorCfg, tables]
  have stowed : (s.classify n mv).condRamps = s.condRamps := by
    unfold State.condRamps State.doorLine
    refine congrArg (List.any (List.finRange 4)) (funext fun d => ?_)
    rw [cfg]
    cases configured : (s.doorCfg d).configured
    · rfl
    · cases named : (s.doorCfg d).line .ramp with
      | none => rfl
      | some j => rw [Option.map_some, Option.map_some, value j (by rintro rfl; exact ramps d configured named)]
  have knelt : (s.classify n mv).condKneel = s.condKneel := by
    unfold State.condKneel State.roleValue
    rw [tables]
    cases named : s.tables.roles.of .kneel with
    | none => rfl
    | some j => rw [Option.map_some, Option.map_some, value j (by rintro rfl; exact kneel named)]
  simp only [State.anyCondition, State.condDoors, State.condGrants, stowed, knelt, doors, cfg]

/-- Of the roles, KNEEL has the conditions evaluated and OVERRIDE moves the interlock. -/
theorem State.interlockRoleChange_law {active : Bool} (course : Course s active) (n : Fin 32)
    (met : s.tables.roles.kneel = some n ∨ Met s)
    (override : s.tables.roles.override ≠ some n → s.overrideActive = active) :
    InterlockLaw (s.interlockRoleChange n (s.logical n)) := by
  delta State.interlockRoleChange
  extract_lets c s1
  have only : OnlyChanges grantParts s s1 := .ite s.evalInterlock_only (.refl _ s)
  have evaluates : Evaluates s s1 := .ite s.evalInterlock_evaluates (.refl s)
  have met1 : Met s1 := by
    obtain kneel | met := met
    · change Met (if c.kneel = some n then s.evalInterlock else s)
      rw [if_pos kneel]
      exact s.evalInterlock_met
    · exact evaluates.met met
  have course1 : Course s1 active := evaluates.course _ course
  have tables : s1.tables = s.tables := only.same .tables
  split
  case isTrue role =>
    obtain ⟨course2, met2⟩ := s1.overrideChange_course course1 met1 (s.logical n)
    refine interlockLaw_iff.mpr ⟨?_, met2⟩
    have value : (s1.overrideChange (s.logical n)).overrideActive = (s.logical n == .active) := by
      rw [(s1.overrideChange_only _).overrideActive_eq, only.overrideActive_eq, State.overrideActive,
        State.roleValue, show s.tables.roles.of .override = some n from role, Option.map_some]
      rfl
    rw [value]
    exact course2
  case isFalse other =>
    refine interlockLaw_iff.mpr ⟨?_, met1⟩
    rw [only.overrideActive_eq, override other]
    exact course1

theorem InterlockLaw.buttonRoleChange (law : InterlockLaw s) (n : Fin 32) (press : Bool) :
    InterlockLaw (s.buttonRoleChange n press) := by
  have release (u : State) (h : InterlockLaw u) : InterlockLaw u.releaseButton := by
    refine h.of_evaluates ?_ u.releaseButton_only.overrideActive_eq
    unfold State.releaseButton
    exact .ite (.refl u) (.ite (u.grantAll_evaluates _ _) (.ite (u.grantAll_evaluates _ _)
      (u.attend_only _).undisturbed.evaluates))
  have ite (p : Prop) [Decidable p] (u v : State) (h : InterlockLaw u) (k : InterlockLaw v) :
      InterlockLaw (if p then u else v) := by split <;> assumption
  delta State.buttonRoleChange
  extract_lets c s1 s2
  have h1 : InterlockLaw s1 := ite _ _ _ (release s law) law
  have h2 : InterlockLaw s2 := ite _ _ _ (h1.of s1.leaveWorkshopIfMoving_undisturbed) h1
  exact ite _ _ _ (h2.of s2.ackButton_only.undisturbed) h2

theorem InterlockLaw.sampleLine (law : InterlockLaw s) (n : Fin 32) (mv : Nat) :
    InterlockLaw (s.sampleLine n mv) := by
  obtain ⟨course, met⟩ := interlockLaw_iff.mp law
  have only := s.classify_only n mv
  have tables : (s.classify n mv).tables = s.tables := only.same .tables
  have others (j : Fin 32) (other : n ≠ j) : (s.classify n mv).logical j = s.logical j :=
    s.classify_logical_other n mv other
  have kept : KeepsInterlock s (s.classify n mv) :=
    ⟨congrArg Mode.forcesInterlock only.keepsMode, congrArg Dmn.interlock (only.same .dmn :),
      congrArg Dmn.delay (only.same .dmn :)⟩
  have conditions := s.classify_anyCondition n mv
  have override : s.tables.roles.override ≠ some n → (s.classify n mv).overrideActive = s.overrideActive := by
    intro other
    unfold State.overrideActive State.roleValue
    rw [tables]
    cases named : s.tables.roles.of .override with
    | none => rfl
    | some j => rw [Option.map_some, Option.map_some, others j (by rintro rfl; exact other named)]
  unfold State.sampleLine State.handOn
  revert kept conditions override
  generalize s.classify n mv = u at only tables others
  intro kept conditions override
  dsimp only
  split
  case isTrue same =>
    have logical : KeepsLogical s u := fun j => by
      by_cases e : n = j
      · subst e; exact same
      · exact others j e
    exact law.of (only.undisturbed_lines only.keepsMode logical)
  case isFalse =>
    have doors := u.doorLineChange_only n (u.logical n)
    have moved := u.doorLineChange_evaluates n (u.logical n)
    have same : (u.doorLineChange n (u.logical n)).tables = s.tables := Eq.trans (doors.same .tables) tables
    have value : (u.doorLineChange n (u.logical n)).logical n = u.logical n := by
      have logical : KeepsLogical u (u.doorLineChange n (u.logical n)) := doors.keepsLogical
      exact logical n
    have metNow : (u.doorLineChange n (u.logical n)).tables.roles.kneel = some n ∨
        Met (u.doorLineChange n (u.logical n)) := by
      rw [same]
      by_cases kneel : s.tables.roles.kneel = some n
      · exact .inl kneel
      · refine .inr ?_
        by_cases ramps : ∀ d, (s.doorCfg d).configured = true → (s.doorCfg d).ramp ≠ some n
        · exact moved.met (met.of kept.2.1 (conditions ramps kneel))
        · push Not at ramps
          obtain ⟨d, configured, ramp⟩ := ramps
          have cfg : u.doorCfg d = s.doorCfg d := by rw [State.doorCfg, State.doorCfg, tables]
          exact u.doorLineChange_met n _ (by rw [cfg]; exact configured) (by rw [cfg]; exact ramp)
    have taken := State.interlockRoleChange_law _ (moved.course _ (kept.course course)) n metNow fun other => by
      rw [doors.overrideActive_eq]
      exact override (by rw [same] at other; exact other)
    rw [value] at taken
    unfold State.roleChange
    exact taken.buttonRoleChange _ n _

/-! ### Changes of mode -/

/-- From `s` to `t` the interlock and its timer stay. -/
def KeepsIlk (s t : State) : Prop := t.dmn.interlock = s.dmn.interlock ∧ t.dmn.delay = s.dmn.delay

section
variable {s} {t u : State}

theorem KeepsIlk.refl (s : State) : KeepsIlk s s := ⟨rfl, rfl⟩
theorem KeepsIlk.trans (h : KeepsIlk s t) (k : KeepsIlk t u) : KeepsIlk s u :=
  ⟨k.1.trans h.1, k.2.trans h.2⟩
theorem KeepsIlk.ite {c : Prop} [Decidable c] (h : KeepsIlk s t) (k : KeepsIlk s u) :
    KeepsIlk s (if c then t else u) := by split <;> assumption
theorem KeepsIlk.foldl {α : Type} (f : State → α → State) (h : ∀ s a, KeepsIlk s (f s a))
    (xs : List α) (s : State) : KeepsIlk s (xs.foldl f s) := by
  induction xs generalizing s with
  | nil => exact .refl s
  | cons a xs ih => exact (h s a).trans (ih (f s a))

theorem OnlyChanges.keepsIlk {l : List Part} (h : OnlyChanges l s t)
    (dmn : partsIn [.dmn] l = false := by with_unfolding_all rfl) : KeepsIlk s t :=
  ⟨congrArg Dmn.interlock (h.same .dmn dmn), congrArg Dmn.delay (h.same .dmn dmn)⟩

theorem InterlockLaw.forced_of (law : InterlockLaw s) (before : s.mode.forcesInterlock = true) (k : KeepsIlk s t)
    (after : t.mode.forcesInterlock = true) : InterlockLaw t := by
  have now : s.dmn.interlock = .forced := law.forced.mp before
  refine .of_forced t after (k.1.trans now) ?_
  rw [k.2]
  refine Bool.eq_false_iff.mpr fun running => ?_
  exact Interlock.noConfusion (now.symm.trans (law.timer.mp running))

end

theorem State.settleBlocks_keepsIlk : KeepsIlk s s.settleBlocks := by
  have doors (u : State) : KeepsIlk u u.settleDoors := by
    unfold State.settleDoors
    refine .trans (.foldl _ (fun u d => ?_) _ _) (State.reportCleared_only _ _).keepsIlk
    exact .ite (.refl u) (.trans (u.reportAllCleared_only _).keepsIlk ⟨rfl, rfl⟩)
  exact (((s.settleLines_only.keepsIlk.trans (State.settleGauges_only _).keepsIlk).trans
    (State.settleRules_only _).keepsIlk).trans (State.settleLamps_only _).keepsIlk).trans (doors _)

theorem State.ignitionOn_mode : KeepsMode s s.ignitionOn := by
  delta State.ignitionOn
  extract_lets s1 s2 s3
  have h2 : KeepsMode s s2 := (s.bump_only _).keepsMode.trans (.modMctl s1 _ (by intro; rfl))
  have h3 : KeepsMode s2 s3 := ((s2.startLampCheck_only.andThen (State.endIgnitionLatches_only _)
    (n := ruleParts)).andThen (State.runNeedles_only _) (n := .ndr :: ruleParts)).keepsMode
  exact (h2.trans h3).trans ((State.publishLamps_only _).andThen (State.refreshChime_only _)
    (n := [.pru])).keepsMode

theorem State.enterRun_mode : s.enterRun.mode = .run := (s.setMode .run).ignitionOn_mode

/-- The mode in which an entry to RUN or STANDBY by the accepted IGN ends. -/
theorem State.runOrStandby_forces (p : Prop) [Decidable p] :
    (if p then s.enterRun else s.setMode .standby).mode.forcesInterlock = false := by
  split
  · rw [s.enterRun_mode]; rfl
  · rfl

theorem InterlockLaw.wake : InterlockLaw s.wake := by
  delta State.wake
  extract_lets s1 s2 s3
  have h2 : KeepsMode s1 s2 :=
    ((((s1.startScans_only.andThen (State.startServices_only _) (n := [.sched])).andThen
      (forLines_only _ _) (n := [.sched, .hlm])).andThen (forLines_only _ _) (n := [.sched, .hlm])).andThen
        (State.startComparators_only _) (n := [.sched, .hlm])).andThen (State.wakeGauges_only _)
          (n := [.sched, .hlm, .gve]) |>.keepsMode
  have h3 : KeepsMode s2 s3 := ((s2.gateDoorTimers_only.andThen (State.mapRetries_only _ _)
    (n := [.dmn, .pru])).andThen (State.restartPhase_only _) (n := [.dmn, .pru])).keepsMode
  have mode : s3.mode = .standby := Eq.trans (h2.trans h3) rfl
  refine InterlockLaw.of (InterlockLaw.freeInterlock s3 (by rw [mode]; rfl)) ?_
  exact (((State.startSilenceTimer_only _).andThen (State.holdIfAsserted_only _) (n := [.link])).andThen
    (State.refreshPru_only _) (n := [.link, .pru])).undisturbed

theorem InterlockLaw.wakeByLink (law : InterlockLaw s) : InterlockLaw s.wakeByLink := by
  unfold State.wakeByLink
  split
  · exact .wake s
  · exact law

theorem InterlockLaw.enterSleep : InterlockLaw s.enterSleep := by
  delta State.enterSleep
  extract_lets s1 s2 s3 s4
  have h1 : s1.mode = .sleep := rfl
  have h2 : KeepsMode s1 s2 :=
    (((s1.makeCounterDue_only.andThen (forLines_only _ _) (n := [.fmy, .hlm])).andThen
      (State.stopComparators_only _) (n := [.fmy, .hlm])).andThen (State.stopGauges_only _)
        (n := [.fmy, .hlm, .gve])).keepsMode
  have h3 : KeepsMode s2 (forNeedles (fun _ n => n.toSleep) s2).gateDoorTimers :=
    ((forNeedles_only _ _).andThen (State.gateDoorTimers_only _) (n := [.ndr, .dmn])).keepsMode
  have mode : (forNeedles (fun _ n => n.toSleep) s2).gateDoorTimers.mode = .sleep := Eq.trans (h2.trans h3) h1
  have forced : InterlockLaw (forNeedles (fun _ n => n.toSleep) s2).gateDoorTimers.forceInterlock :=
    .forceInterlock _ (by rw [mode]; rfl)
  have h4 : InterlockLaw s3 :=
    forced.of_evaluates (State.refreshOutputs_evaluates _) (State.refreshOutputs_only _).overrideActive_eq
  refine h4.of ((((s3.mapRetries_only _).andThen (State.stopSilenceTimer_only _) (n := [.pru, .link])).andThen
    (State.refreshPru_only _) (n := [.pru, .link])).andThen (State.modSched_only _ _)
      (n := [.pru, .link, .sched])).undisturbed

theorem InterlockLaw.endStartup (law : InterlockLaw s) (m : s.mode = .startup) : InterlockLaw s.endStartup := by
  delta State.endStartup
  extract_lets passed s1 s2 s3 s4
  have h1 : KeepsIlk s s1 ∧ s1.mode = .startup := ⟨⟨rfl, rfl⟩, m⟩
  have h2 : OnlyChanges faultParts s1 s2 := (s1.attend_only _).andThen (State.report_only _ _ _)
  have h3 : KeepsIlk s2 s3 := s2.settleBlocks_keepsIlk.trans (State.settleLink_only _).keepsIlk
  have h4 : KeepsIlk s3 s4 :=
    (((s3.dropUnclassified_only.andThen (State.startComparators_only _) (n := [.hlm])).andThen
      (State.startUnits_only _) (n := [.hlm, .gve])).andThen (State.startServices_only _)
        (n := [.hlm, .gve, .sched])).keepsIlk
  have still : KeepsIlk s s4 := h1.1.trans (h2.keepsIlk.trans (h3.trans h4))
  have left : InterlockLaw (s4.leaveStartup passed) := by
    delta State.leaveStartup
    extract_lets u
    split
    · exact (InterlockLaw.freeInterlock u (State.runOrStandby_forces _ _)).of
        (State.startSilenceTimer_only _).undisturbed
    · have homes : OnlyChanges [.mctl, .ndr] s4 (s4.setMode .unconfigured).homeAllNeedles :=
        (s4.setMode_only _).andThen (State.homeAllNeedles_only _)
      exact law.forced_of (by rw [m]; rfl) (still.trans homes.keepsIlk) rfl
  exact left.of ((State.holdIfAsserted_only _).undisturbed.trans (State.refreshPru_only _).undisturbed)

theorem InterlockLaw.exitSetup (t : Tables) : InterlockLaw (s.exitSetup t) := by
  delta State.exitSetup
  extract_lets s1 s2 s3 s4
  exact (InterlockLaw.freeInterlock s4 (State.runOrStandby_forces _ _)).of
    ((State.startSilenceTimer_only _).undisturbed.trans (State.refreshPru_only _).undisturbed)

theorem InterlockLaw.enterSetup : InterlockLaw s.enterSetup := by
  delta State.enterSetup
  extract_lets s1
  have h : KeepsMode s1 s1.allRulesOff.parkNeedles :=
    (s1.allRulesOff_only.andThen (State.parkNeedles_only _) (n := .ndr :: ruleParts)).keepsMode
  have mode : s1.allRulesOff.parkNeedles.mode = .setup := h
  exact (InterlockLaw.forceInterlock _ (by rw [mode]; rfl)).of
    ((State.stopSilenceTimer_only _).undisturbed.trans (State.refreshPru_only _).undisturbed)

theorem InterlockLaw.ignitionOff (law : InterlockLaw s) (m : s.mode = .run ∨ s.mode = .workshop) :
    InterlockLaw s.ignitionOff := by
  refine law.of_evaluates ?_ s.ignitionOff_only.overrideActive_eq
  delta State.ignitionOff
  extract_lets was s1 s2 s3
  have h2 : Evaluates s s2 := by
    refine .of ⟨?_, rfl, rfl⟩ rfl
    obtain m | m := m <;> rw [m] <;> rfl
  have h3 : Evaluates s2 s3 := (((s2.endLampCheck_only.undisturbed.evaluates).trans
    (State.ageFaults_only _).undisturbed.evaluates).trans (State.grantAll_evaluates _ _ _)).trans
      (State.refreshOutputs_evaluates _)
  exact (h2.trans h3).trans (((State.endForcingOf_only _ _).undisturbed.trans
    (State.parkNeedles_only _).undisturbed).trans (State.refreshPru_only _).undisturbed).evaluates

theorem InterlockLaw.acceptIgn (law : InterlockLaw s) (a : Bool) : InterlockLaw (s.acceptIgn a) := by
  delta State.acceptIgn
  extract_lets s1
  have h1 : InterlockLaw s1 := law.of (.modMctl s _ (by intro; rfl))
  split
  case h_1 m =>
    have only : OnlyChanges ignitionParts s1 (s1.enterRun.attend .mode) :=
      s1.enterRun_only.andThen (State.attend_only _ _)
    refine h1.of_evaluates (only.evaluates ?_) only.overrideActive_eq
    have kept : KeepsMode s1.enterRun (s1.enterRun.attend .mode) := (State.attend_only _ _).keepsMode
    rw [m, show (s1.enterRun.attend .mode).mode = .run from Eq.trans kept s1.enterRun_mode]
    rfl
  case h_2 m => exact (h1.ignitionOff _ (.inl m)).of (State.attend_only _ _).undisturbed
  case h_3 m => exact (h1.ignitionOff _ (.inr m)).of (State.attend_only _ _).undisturbed
  case h_4 => exact h1.of (State.refreshPru_only _).undisturbed

/-! ### Commands -/

theorem InterlockLaw.applyReset (c : ResetCause) : InterlockLaw (s.applyReset c) := .of_forced _ rfl rfl rfl

theorem InterlockLaw.modPins (law : InterlockLaw s) (f : Pins → Pins) : InterlockLaw (s.modPins f) :=
  law.of (.modPins s f)

theorem InterlockLaw.modLif (law : InterlockLaw s) (f : Lif → Lif) : InterlockLaw (s.modLif f) :=
  law.of (.modLif s f)

theorem InterlockLaw.atExpiry (law : InterlockLaw s) (timer : Timer) (figure : Nat) {k : State → State}
    (keeps : ∀ s, InterlockLaw s → InterlockLaw (k s)) : InterlockLaw (atExpiry timer figure k s) :=
  atExpiry_cases s timer figure k _ law fun _ _ => keeps _ (law.of (.reach s _))

theorem InterlockLaw.scanSample (law : InterlockLaw s) (n : Fin 32) (mv : Nat) :
    InterlockLaw (s.scanSample n mv) := by
  unfold State.scanSample
  split
  · exact law
  · split
    · exact law.of ((s.measureOnly_only n mv).undisturbed_lines (s.measureOnly_only n mv).keepsMode
        (s.measureOnly_logical n mv))
    · exact law.sampleLine s n mv

theorem InterlockLaw.speedUpdate (law : InterlockLaw s) (k : Fin 6) : InterlockLaw (s.speedUpdate k) := by
  unfold State.speedUpdate
  split
  · have updated : Evaluates s s.doorSpeedUpdate :=
      .trans (.ite (s.grantAll_evaluates _ _) (.refl s)) (State.refreshOutputs_evaluates _)
    exact (law.of_evaluates updated s.doorSpeedUpdate_only.overrideActive_eq).of
      (State.leaveWorkshopIfMoving_undisturbed _)
  · exact law

theorem InterlockLaw.of_gauge {t : State} (law : InterlockLaw s) (only : OnlyChanges gaugeParts s t) :
    InterlockLaw t :=
  law.of_evaluates (only.evaluates (congrArg Mode.forcesInterlock only.keepsMode)) only.overrideActive_eq

theorem InterlockLaw.feedTimeout (law : InterlockLaw s) (k : Fin 6) : InterlockLaw (s.feedTimeout k) := by
  have expired : InterlockLaw (s.feedExpired k) := law.of_gauge s (s.feedExpired_only k)
  unfold State.feedTimeout
  dsimp only
  split
  · exact expired.speedUpdate _ k
  · exact expired

theorem InterlockLaw.sleepSample (law : InterlockLaw s) (ign : Bool) (mv : Vector Nat 32) :
    InterlockLaw (s.sleepSample ign mv) := by
  delta State.sleepSample
  extract_lets t s1
  have moved : OnlyChanges [.now, .sched] s s1 := (Advances.atMoment (l := [.sched]) s _ _).only
  have lines : InterlockLaw (s1.sleepLines mv).1 := by
    suffices all : ∀ (l : List (Fin 32)) (q : State × Bool), InterlockLaw q.1 →
        InterlockLaw (l.foldl (fun (s, changed) n =>
          if s.watched n && (s.lineCfg n).fn.classified then
            let s' := s.sampleLine n mv[n]
            (s', changed || s'.logical n != s.logical n)
          else (s, changed)) q).1 from all _ (s1, false) (law.of moved.undisturbed)
    intro l
    induction l with
    | nil => exact fun _ h => h
    | cons n l ih =>
      refine fun q h => ih _ ?_
      dsimp only
      split
      · exact h.sampleLine _ n _
      · exact h
  revert lines
  obtain ⟨s2, changed⟩ := s1.sleepLines mv
  intro lines
  dsimp only
  split
  · exact .wake _
  · exact lines.of (.modMctl s2 _ fun c => Mctl.ignSample_mode _ _ c)

/-- R149: at the end of the release delay no condition has come. -/
theorem InterlockLaw.freed (law : InterlockLaw s) (now : s.dmn.interlock = .delay) :
    InterlockLaw (s.setInterlock .free .stopped) := by
  have out : s.mode.forcesInterlock = false := Bool.eq_false_iff.mpr fun forces =>
    Interlock.noConfusion (now.symm.trans (law.forced.mp forces))
  have none : s.anyCondition = false := law.clear (.inl now)
  have inactive : s.overrideActive = false := Bool.eq_false_iff.mpr fun active =>
    Interlock.noConfusion (now.symm.trans (law.override.mpr ⟨active, by rw [now]; exact Interlock.noConfusion⟩))
  have override : (s.setInterlock .free .stopped).overrideActive = false :=
    (s.setInterlock_only _ _).overrideActive_eq.trans inactive
  refine ⟨?_, ?_, ?_, ?_, ?_⟩ <;>
    simp [State.setInterlock_mode, State.setInterlock_anyCondition, out, none, override, Timer.isRunning]

theorem InterlockLaw.eventEffect (law : InterlockLaw s) (c : Instr) : InterlockLaw (eventEffect c s) := by
  have calm := eventEffect_undisturbed c s
  have ite {p : Prop} [Decidable p] {u v : State} (h : p → InterlockLaw u) (k : InterlockLaw v) :
      InterlockLaw (if p then u else v) := by
    split
    · exact h ‹_›
    · exact k
  have reset (r : ResetCause) (f : Pins → Pins) : InterlockLaw ((s.hardReset r).modPins f) :=
    (InterlockLaw.applyReset s.cutOffWrite r).modPins _ f
  cases c
  case startupEnd =>
    refine ite (fun ended => law.endStartup s ?_) law
    simp only [State.startupOver, Bool.and_eq_true, beq_iff_eq] at ended
    exact ended.1.1
  case ignDebounceExpiry =>
    unfold Machine.eventEffect
    dsimp only
    split
    · exact law.atExpiry s _ _ fun s h => h.acceptIgn s _
    · exact law
  case sleepEntry => exact ite (fun _ => .enterSleep s) law
  case sleepSample ign mv => exact ite (fun _ => law.sleepSample s ign mv) law
  case startOfReception idle =>
    unfold Machine.eventEffect
    dsimp only
    split
    · exact law
    · exact (law.wakeByLink s).modLif _ _
  case byteReceived b stopHigh =>
    have awake : InterlockLaw (s.wakeByLink.byteEnds b stopHigh) :=
      (law.wakeByLink s).of (State.byteEnds_only _ _ _).undisturbed
    unfold Machine.eventEffect
    dsimp only
    repeat' split
    · exact law
    · exact awake
    · exact awake.of (State.takeByte_only _ b).undisturbed
    · exact awake.of (State.stopBitError_only _).undisturbed
  case lineSample n mv =>
    refine ite (fun _ => ?_) law
    have moved : OnlyChanges [.now, .sched] s (s.atLineSample n) := (Advances.atMoment (l := [.sched]) s _ _).only
    exact (law.of moved.undisturbed).scanSample _ n mv
  case channelSample k =>
    refine ite (fun _ => ?_) law
    have moved : OnlyChanges [.now, .sched] s (s.atChannelSample k) :=
      (Advances.atMoment (l := [.sched]) s _ _).only
    exact ((law.of moved.undisturbed).of_gauge _ (State.sampleChannel_only _ k)).speedUpdate _ k
  case feedTimeout k => exact law.atExpiry s _ _ fun s h => h.feedTimeout s k
  case openTimerExpiry d =>
    exact law.atExpiry s _ _ fun s h => h.of_evaluates (s.rederive_evaluates d _) (s.rederive_only d _).overrideActive_eq
  case closeTimerExpiry d =>
    exact law.atExpiry s _ _ fun s h => h.of_evaluates (s.rederive_evaluates d _) (s.rederive_only d _).overrideActive_eq
  case lockTimerExpiry d =>
    exact law.atExpiry s _ _ fun s h => h.of_evaluates (s.rederive_evaluates d _) (s.rederive_only d _).overrideActive_eq
  case inconsistencyTimerExpiry d =>
    exact law.atExpiry s _ _ fun s h =>
      h.of_evaluates (s.inconsistent_evaluates d) (s.inconsistent_only d).overrideActive_eq
  case releaseDelayExpiry =>
    refine atExpiry_cases s _ _ _ InterlockLaw law fun since running => ?_
    have now : s.dmn.interlock = .delay := law.timer.mp (by rw [running]; rfl)
    exact (law.of (.reach s _)).freed _ now
  case powerOnReset =>
    unfold Machine.eventEffect
    exact reset _ _
  case brownOut => exact ite (fun _ => law) (reset _ _)
  case externalReset => exact ite (fun _ => law) (reset _ _)
  case breakRelease =>
    exact ite (fun _ => .applyReset s.cutOffWrite .linkBreak) (law.of s.lineWentHigh_only.undisturbed)
  case restartTakesEffect => exact ite (fun _ => .applyReset s .restart) law
  all_goals exact law.of (calm rfl)

theorem InterlockLaw.setModeService (law : InterlockLaw s) (target : Nat) :
    InterlockLaw (setModeService target s).1 := by
  have leave : InterlockLaw (leaveSetupService s).1 := by
    unfold leaveSetupService
    dsimp only
    split
    · with_reducible exact .exitSetup s _
    · exact law
  have workshop (m : s.mode = .run) : InterlockLaw (s.setMode .workshop) := by
    refine law.of_evaluates (.of ⟨?_, rfl, rfl⟩ rfl) rfl
    rw [m]
    rfl
  unfold Machine.setModeService
  repeat' split
  all_goals first
    | with_reducible exact law
    | with_reducible exact leave
    | with_reducible exact .enterSetup s
    | with_reducible exact workshop ‹_›
    | with_reducible exact law.of (s.leaveWorkshop_undisturbed ‹_›)
    | with_reducible exact law.of (.modMctl s _ (by intro; rfl))

theorem InterlockLaw.served {early : Bool} {ok : Nat → Bool} {p : List Byte} {k : Service} (law : InterlockLaw s)
    (h : InterlockLaw (k s).1) : InterlockLaw (served early ok p k s).1 := by
  unfold Machine.served
  repeat' split
  all_goals assumption

theorem InterlockLaw.requestService (law : InterlockLaw s) (c : Instr) :
    InterlockLaw (requestService c s).1 := by
  have only := requestService_only c s
  have mode := requestService_mode c s
  cases c
  case setMode tag p => exact law.served s (law.setModeService s _)
  case feedValue tag p =>
    have still : KeepsMode s _ := mode (by intros; exact Instr.noConfusion)
    exact law.of_evaluates (only.evaluates (congrArg Mode.forcesInterlock still)) only.overrideActive_eq
  case releaseDoors tag p =>
    refine law.served s ?_
    unfold releaseDoorsService
    dsimp only
    repeat' split
    all_goals first
      | with_reducible exact law
      | with_reducible exact law.of_evaluates (s.grantAll_evaluates _ _) (s.grantAll_only _ _).overrideActive_eq
  case withdrawRelease tag p =>
    refine law.served s ?_
    unfold withdrawReleaseService
    split
    · exact law.of_evaluates (s.grantAll_evaluates _ _) (s.grantAll_only _ _).overrideActive_eq
    · exact law
  case readLines tag p =>
    refine law.served s ?_
    have only : OnlyChanges [.hlm] s (readLinesService s).1 := s.modHlm_only _
    refine law.of (only.undisturbed_lines only.keepsMode fun n => ?_)
    simp only [readLinesService, State.logical, State.line, State.modHlm_hlm, updAll_get]
    rfl
  all_goals exact law.of (only.undisturbed_of_mode (mode (by intros; exact Instr.noConfusion)))

theorem InterlockLaw.serve (law : InterlockLaw s) (f : Frame) (c : Instr) :
    InterlockLaw (s.serve f (Machine.requestService c)) := by
  unfold State.serve
  exact (law.requestService s c).modLif _ _

/-- Settles O56: every stage of a request and every event keeps the law. -/
theorem stepKeepsInterlockLaw : Obligations.StepKeepsInterlockLaw := by
  intro s t h e
  refine step_keeps (P := InterlockLaw) (fun s l h => ⟨h.forced, h.held, h.clear, h.override, h.timer⟩)
    (fun s h => ⟨h.forced, h.held, h.clear, h.override, h.timer⟩)
    (exec_keeps (fun s _ _ => .wake s) (fun s h => h.of s.lineWentHigh_only.undisturbed)
      (fun f s h => h.of (s.frameArrives_only f).undisturbed) (fun c f s _ _ h => h.serve s f c)
      (fun c s _ h => h.eventEffect s c)) h e

end

end Sys2Proof.Machine
end

section
/-! PROOFS. A request command on a part that runs (R194, R195): it comes in over the link and is served at the head
of the queue. -/

namespace Sys2Proof.Machine

set_option Elab.async false

theorem State.heldInReset_eq {l : List Part} {s t : State} (h : OnlyChanges l s t)
    (pins : partsIn [.pins] l = false := by with_unfolding_all rfl) : t.heldInReset = s.heldInReset := by
  have same : t.pins = s.pins := h.same .pins pins
  rw [State.heldInReset, State.heldInReset, same]

section
variable {s : State} {f : Frame}

theorem State.atHead_iff (s : State) (f : Frame) :
    s.atHead f = true ↔ s.lif.queue.head? = some f ∧ s.lif.tx = none := by
  rw [State.atHead, Bool.and_eq_true, Option.isNone_iff_eq_none, beq_iff_eq]
  exact and_comm

theorem ready_iff (live : s.heldInReset = false) : Ready f s ↔ s.atHead f = true := by
  rw [s.atHead_iff]
  exact ⟨fun h => ⟨h.head, h.quiet⟩, fun ⟨head, quiet⟩ => ⟨live, head, quiet⟩⟩

theorem KeepsFrames.atHead {t : State} (h : KeepsFrames s t) : t.atHead f = s.atHead f := by
  have queue : t.lif.queue = s.lif.queue := congrArg Prod.fst h
  have tx : t.lif.tx = s.lif.tx := congrArg (fun x => x.2.1) h
  rw [State.atHead, State.atHead, queue, tx]

end

section
variable (s : State)

/-- The wake ends with the silence timer, the hold and the outputs of PRU; before them it touches no link, and it
leads to STANDBY. -/
theorem State.wake_eq : ∃ u, OnlyChanges awakeParts s u ∧ u.mode = .standby ∧
    s.wake = u.startSilenceTimer.holdIfAsserted.refreshPru := by
  delta State.wake
  extract_lets s1 s2 s3
  have h1 : OnlyChanges awakeParts s s1 :=
    ((s.setMode_only _).andThen (State.attend_only _ _) (n := awakeParts)).andThen (State.modMctl_only _ _)
  have h2 : OnlyChanges [.sched, .hlm, .gve] s1 s2 :=
    ((((s1.startScans_only.andThen (State.startServices_only _) (n := [.sched])).andThen
      (forLines_only _ _) (n := [.sched, .hlm])).andThen (forLines_only _ _) (n := [.sched, .hlm])).andThen
        (State.startComparators_only _) (n := [.sched, .hlm])).andThen (State.wakeGauges_only _)
  have h3 : OnlyChanges [.dmn, .pru] s2 s3 := (s2.gateDoorTimers_only.andThen (State.mapRetries_only _ _)
    (n := [.dmn, .pru])).andThen (State.restartPhase_only _)
  have h4 : OnlyChanges doorParts s3 s3.freeInterlock := s3.freeInterlock_only
  refine ⟨s3.freeInterlock, h1.trans ((h2.mono.trans h3.mono).trans h4.mono), ?_, rfl⟩
  exact Eq.trans ((h2.keepsMode.trans h3.keepsMode).trans h4.keepsMode) rfl

theorem State.wake_mode : s.wake.mode = .standby := by
  obtain ⟨u, -, mode, e⟩ := s.wake_eq
  rw [e]
  exact Eq.trans (((State.startSilenceTimer_only _).andThen (State.holdIfAsserted_only _) (n := [.link])).andThen
    (State.refreshPru_only _) (n := [.link, .pru])).keepsMode mode

/-- The wake leaves the receiver as it was. -/
theorem State.wake_lineFree : s.wake.lineFree = s.lineFree := by
  obtain ⟨u, only, -, e⟩ := s.wake_eq
  have link : s.wake.lif.link = u.startSilenceTimer.holdIfAsserted.lif.link := by
    rw [e]; exact (State.refreshPru_only _).link_eq
  have held : u.startSilenceTimer.holdIfAsserted.lineFree = u.lineFree := by
    unfold State.holdIfAsserted
    split <;> rfl
  have free {v w : State} (h : v.lif.link = w.lif.link) : v.lineFree = w.lineFree := by
    have rx : v.lif.rx = w.lif.rx := (congrArg Lif.rx h :)
    have idle : v.lif.waitIdle = w.lif.waitIdle := (congrArg Lif.waitIdle h :)
    have latched : v.lif.breakLatched = w.lif.breakLatched := (congrArg Lif.breakLatched h :)
    rw [State.lineFree, State.lineFree, State.takesBytes, State.takesBytes, rx, idle, latched]
  rw [free link, held, free only.link_eq]

theorem State.request_of_wake (f : Frame) (k : Service) (head : s.atHead f = false) (free : s.lineFree = true)
    (asleep : s.mode = .sleep) : s.request f k = s.wake.request f k := by
  have waits : s.wake.atHead f = false := (s.wake_frames.atHead).trans head
  have comes : s.wake.receiveWhole f = s.receiveWhole f := by
    have awake : s.wake.mode ≠ .sleep := by rw [s.wake_mode]; exact Mode.noConfusion
    rw [State.receiveWhole, State.receiveWhole, s.wake_lineFree, State.wakeByLink, State.wakeByLink,
      if_neg awake, if_pos asleep, free]
    rfl
  rw [State.request, State.request, head, waits, comes]
  rfl

/-- R194: a frame that comes in where the queue is empty and nothing is being sent stands at the head. -/
theorem State.frameArrives_atHead (f : Frame) (kind : f.kind.toNat < 0x80) (empty : s.lif.queue = [])
    (quiet : s.lif.tx = none) (idle : s.mctl.restart = .idle) : (s.frameArrives f).atHead f = true := by
  have heard := s.hearHost_frames
  have queue : s.hearHost.lif.queue = [] := (congrArg Prod.fst heard).trans empty
  have tx : s.hearHost.lif.tx = none := (congrArg (fun x => x.2.1) heard).trans quiet
  have restart : s.hearHost.mctl = s.mctl := s.hearHost_only.same .mctl
  have arrives : s.frameArrives f = s.hearHost.modLif fun l => { l with queue := l.queue ++ [f] } := by
    delta State.frameArrives
    extract_lets u
    rw [if_neg (by rw [show u.mctl = s.mctl from restart]; exact not_not.mpr idle), if_neg (by omega),
      if_neg (by rw [show u.lif.queue = [] from queue]; decide)]
  rw [arrives, State.atHead_iff]
  exact ⟨by simp [queue], tx⟩

end

/-- A request frame is of a kind that the part takes. -/
theorem requestFrame_kind {c : Instr} {f : Frame} (h : requestFrame c = some f) : f.kind.toNat < 0x80 := by
  cases c
  case noEffectKind kind tag p =>
    obtain ⟨own, rfl⟩ : isNoEffectKind kind = true ∧ (⟨kind, tag, p⟩ : Frame) = f := by
      simpa [requestFrame] using h
    simp only [isNoEffectKind, Bool.and_eq_true, decide_eq_true_eq] at own
    dsimp only
    omega
  case unknownKind kind tag p =>
    obtain ⟨own, rfl⟩ : isUnknownKind kind = true ∧ (⟨kind, tag, p⟩ : Frame) = f := by
      simpa [requestFrame] using h
    simp only [isUnknownKind, Bool.and_eq_true, decide_eq_true_eq] at own
    exact own.1.1
  all_goals first
    | (simp only [requestFrame, reduceCtorEq] at h; done)
    | (cases h; dsimp only; decide)

/-- Settles O18, by the three ways of a request command. -/
theorem requestsComeInOverTheLink : Obligations.RequestsComeInOverTheLink := by
  intro c f s request live notReady
  have head : s.atHead f = false := Bool.eq_false_iff.mpr fun h => notReady ((ready_iff live).mpr h)
  have runs (u : State) (awake : u.heldInReset = false) : exec c u = .next (u.request f (requestService c)) := by
    rw [exec_request u request, awake]
    rfl
  refine ⟨fun busy => ?_, fun free asleep => ?_, fun free awake u hu => ?_⟩
  · rw [runs s live, State.request, head, State.receiveWhole, busy]
    simp [head]
  · have woken : s.wake.heldInReset = false := (State.heldInReset_eq s.wake_only).trans live
    rw [runs s live, runs _ woken, s.request_of_wake f _ head free asleep]
  · have arrived : s.receiveWhole f = u := by
      rw [hu, State.receiveWhole, free, State.wakeByLink, if_neg awake]
      rfl
    have liveU : u.heldInReset = false := by
      have only : OnlyChanges (.link :: arrivalParts) s u := by
        rw [hu]
        exact s.lineWentHigh_only.andThen (State.frameArrives_only _ f)
      exact (State.heldInReset_eq only).trans live
    have requested : s.request f (requestService c) =
        if u.atHead f = true then u.serve f (requestService c) else u := by
      rw [State.request, head, ← arrived]
      rfl
    refine ⟨fun ready => ?_, fun waits => ?_, fun empty quiet idle => ?_⟩
    · have first := (ready_iff liveU).mp ready
      rw [runs s live, runs u liveU, requested, if_pos first, State.request, first]
      simp [first]
    · rw [runs s live, requested, if_neg fun first => waits ((ready_iff liveU).mpr first)]
    · rw [ready_iff liveU, hu]
      exact State.frameArrives_atHead _ f (requestFrame_kind request) empty quiet idle

end Sys2Proof.Machine
end

section
/-! PROOFS. What a property must survive to survive the evaluator: its changes of one rule, its reports and its
sequence counter. -/

namespace Sys2Proof.Machine

set_option Elab.async false

/-- A property that survives every primitive step of the evaluator. A change of a rule that is unacknowledged before
and after it keeps its sequence, as every change that the evaluator makes does. -/
structure RuleStable (P : State → Prop) : Prop where
  /-- A rule's record may change but for its state and its sequence. -/
  quiet : ∀ (s : State) (m : Fin 64) (f : RuleRec → RuleRec),
    (f (s.rule m)).st = (s.rule m).st → (f (s.rule m)).seq = (s.rule m).seq → P s → P (s.modRule m f)
  counter : ∀ (s : State) (n : Nat), P s → P (s.modWev fun w => { w with seq := n })
  report : ∀ (s : State) (c : FaultCode) (active : Bool), P s → P (s.report c active)
  change : ∀ (s : State) (m : Fin 64) (f : RuleRec → RuleRec),
    ((s.rule m).st.isUnacked = true → (f (s.rule m)).st.isUnacked = true →
      (f (s.rule m)).seq = (s.rule m).seq) → P s → P (s.changeRule m f)

namespace RuleStable

variable {P : State → Prop} (stable : RuleStable P) {s : State} (m : Fin 64)
include stable

omit stable in
theorem ite {c : Prop} [Decidable c] {s t : State} (h : P s) (k : P t) : P (if c then s else t) := by
  split <;> assumption

omit stable in
theorem toOff_acked (r : RuleRec) : r.toOff.st.isUnacked = false := rfl

theorem off (h : P s) : P (s.changeRule m RuleRec.toOff) :=
  stable.change s m _ (fun _ unacked => absurd unacked (by simp [toOff_acked])) h

theorem settleRule (h : P s) : P (s.settleRule m) :=
  ite (stable.quiet _ m _ rfl rfl (stable.report _ _ false h)) h

theorem activate (idle : (s.rule m).st.isUnacked = false) (h : P s) : P (s.activate m) := by
  delta State.activate
  extract_lets n s1 s2
  have h1 : P s1 := stable.counter s n h
  have h2 : P s2 := ite (stable.quiet _ m _ rfl rfl (stable.report _ _ true h1)) h1
  have same : (s2.rule m).st = (s.rule m).st := by
    change ((if (s1.ruleCfg m).record then (s1.reportActive (.rule m)).modRule m fun r => { r with mark := true }
      else s1).rule m).st = _
    split
    · rw [State.modRule_same]
      have wev : (s1.reportActive (.rule m)).wev = s1.wev := (s1.reportActive_only _).same .wev
      rw [State.rule, wev]
      rfl
    · rfl
  refine stable.change s2 m _ (fun unacked => ?_) h2
  rw [same, idle] at unacked
  exact absurd unacked Bool.false_ne_true

theorem releaseRule (h : P s) : P (s.releaseRule m) := by
  delta State.releaseRule
  extract_lets new
  refine stable.change s m _ (fun _ after => ?_) h
  split
  case isTrue gone =>
    rw [if_pos gone, toOff_acked] at after
    exact absurd after Bool.false_ne_true
  case isFalse => rfl

theorem remind (h : P s) : P (s.remind m) := by
  delta State.remind
  extract_lets c t
  split
  · refine ite (stable.change s m _ (fun _ _ => rfl) h) (stable.quiet s m _ rfl rfl h)
  · exact h

theorem stepActive (h : P s) : P (s.stepActive m) := by
  delta State.stepActive
  extract_lets c r
  refine ite (stable.remind m (stable.quiet s m _ rfl rfl h)) (ite (stable.releaseRule m h) ?_)
  split
  · exact stable.remind m (stable.quiet s m _ rfl rfl h)
  · exact ite (stable.releaseRule m h) (stable.remind m (stable.quiet s m _ rfl rfl h))

theorem stepRule (h : P s) : P (s.stepRule m) := by
  delta State.stepRule
  extract_lets c r
  split
  case h_1 st =>
    exact ite (ite (stable.activate m (by rw [show (s.rule m).st = .off from st]; rfl) h)
      (stable.change s m _ (fun _ after => absurd after Bool.false_ne_true) h)) h
  case h_2 st =>
    exact ite (ite (stable.activate m (by rw [show (s.rule m).st = .pending from st]; rfl) h)
      (stable.quiet s m _ rfl rfl h)) (stable.off m h)
  case h_3 => exact stable.stepActive m h
  case h_4 => exact stable.stepActive m h
  case h_5 => exact ite (stable.change s m _ (fun _ _ => rfl) h) h
  case h_6 => exact ite (stable.change s m _ (fun _ after => absurd after Bool.false_ne_true) h) h

theorem clearRule (h : P s) : P (s.clearRule m) := by
  unfold State.clearRule
  split
  all_goals first | exact h | exact stable.off m h

theorem settleIfOff (h : P s) : P (s.settleIfOff m) := ite (stable.settleRule m h) h

theorem evaluateRule (h : P s) : P (s.evaluateRule m) := by
  unfold State.evaluateRule
  dsimp only
  refine ite (stable.settleIfOff m (stable.stepRule m (stable.quiet s m _ rfl rfl h)))
    (ite (stable.settleIfOff m (stable.clearRule m (stable.quiet s m _ rfl rfl h)))
      (stable.quiet s m _ rfl rfl h))

omit stable in
theorem forEach {n : Nat} (f : Fin n → State → State) (keeps : ∀ i s, P s → P (f i s)) (h : P s) :
    P (Machine.forEach f s) := by
  suffices all : ∀ (l : List (Fin n)) (u : State), P u → P (l.foldl (fun s i => f i s) u) from all _ s h
  intro l
  induction l with
  | nil => exact fun _ h => h
  | cons i l ih => exact fun u h => ih _ (keeps i u h)

theorem pass (h : P s) : P s.pass :=
  forEach _ (fun m _ h => ite (stable.evaluateRule m h) h) h

theorem ackRule (h : P s) : P (s.ackRule m) := by
  unfold State.ackRule
  split
  · exact stable.change s m _ (fun _ after => absurd after Bool.false_ne_true) h
  · split
    · exact stable.off m h
    · exact stable.change s m _ (fun _ after => absurd after Bool.false_ne_true) h
    · exact h
  · exact h

theorem ackButton (h : P s) : P s.ackButton := by
  unfold State.ackButton
  split
  · exact stable.ackRule _ h
  · exact h

theorem endIgnitionLatches (h : P s) : P s.endIgnitionLatches :=
  forEach _ (fun m _ h => ite (stable.off m h) h) h

theorem allRulesOff (h : P s) : P s.allRulesOff :=
  forEach _ (fun m _ h => ite h (stable.off m h)) h

theorem settleRules (h : P s) : P s.settleRules :=
  forEach _ (fun m _ h => ite h (stable.quiet _ m _ rfl rfl (stable.report _ _ false h))) h

end RuleStable

end Sys2Proof.Machine
end

section
/-! PROOFS. The presentation hold (R67, R116, R124): no command changes what is published while it stays in
force. -/

namespace Sys2Proof.Machine

set_option Elab.async false

/-! ### The relations -/

/-- From `s` to `t` a hold stays, and with it the published list and the published targets. -/
structure FreezesList (s t : State) : Prop where
  hold : s.lif.hold = true → t.lif.hold = true
  shown : s.lif.hold = true → t.pru.shown = s.pru.shown
  targets : s.lif.hold = true → ∀ k, (t.needle k).published = (s.needle k).published

/-- And so do the published telltale levels in RUN and WORKSHOP, which are neither entered nor left. -/
structure Freezes (s t : State) : Prop extends FreezesList s t where
  running : t.mode.isRunning = s.mode.isRunning
  lamps : s.lif.hold = true → s.mode.isRunning = true → ∀ n, (t.lamp n).published = (s.lamp n).published

section
variable {s t u : State}

theorem FreezesList.refl (s : State) : FreezesList s s := ⟨fun h => h, fun _ => rfl, fun _ _ => rfl⟩

theorem FreezesList.trans (h : FreezesList s t) (k : FreezesList t u) : FreezesList s u :=
  ⟨fun held => k.hold (h.hold held), fun held => (k.shown (h.hold held)).trans (h.shown held),
    fun held n => (k.targets (h.hold held) n).trans (h.targets held n)⟩

theorem FreezesList.ite {c : Prop} [Decidable c] (h : FreezesList s t) (k : FreezesList s u) :
    FreezesList s (if c then t else u) := by split <;> assumption

theorem Freezes.refl (s : State) : Freezes s s := ⟨.refl s, rfl, fun _ _ _ => rfl⟩

theorem Freezes.trans (h : Freezes s t) (k : Freezes t u) : Freezes s u :=
  ⟨h.toFreezesList.trans k.toFreezesList, k.running.trans h.running, fun held running n =>
    (k.lamps (h.hold held) (h.running.trans running) n).trans (h.lamps held running n)⟩

theorem Freezes.ite {c : Prop} [Decidable c] (h : Freezes s t) (k : Freezes s u) :
    Freezes s (if c then t else u) := by split <;> assumption

theorem Freezes.foldl {α : Type} (f : State → α → State) (h : ∀ s a, Freezes s (f s a))
    (xs : List α) (s : State) : Freezes s (xs.foldl f s) := by
  induction xs generalizing s with
  | nil => exact .refl s
  | cons a xs ih => exact (h s a).trans (ih (f s a))

/-- Whether a change within these parts cannot publish anything or end a hold. -/
def unpublished (l : List Part) : Bool := !partsIn [.pru] l && !partsIn [.ndr] l && !partsIn [.link] l

theorem OnlyChanges.freezesList {l : List Part} (h : OnlyChanges l s t)
    (k : unpublished l = true := by with_unfolding_all rfl) : FreezesList s t := by
  simp only [unpublished, Bool.and_eq_true, Bool.not_eq_true'] at k
  obtain ⟨⟨pru, ndr⟩, link⟩ := k
  have hold : t.lif.link.hold = s.lif.link.hold := congrArg Lif.hold (h.link_eq link)
  exact ⟨fun held => hold.trans held, fun _ => congrArg Pru.shown (h.same .pru pru), fun _ k =>
    congrArg (fun d : Ndr => (d.needles[k]).published) (h.same .ndr ndr)⟩

theorem OnlyChanges.freezes_of_running {l : List Part} (h : OnlyChanges l s t)
    (running : t.mode.isRunning = s.mode.isRunning)
    (k : unpublished l = true := by with_unfolding_all rfl) : Freezes s t := by
  refine ⟨h.freezesList k, running, fun _ _ n => ?_⟩
  simp only [unpublished, Bool.and_eq_true, Bool.not_eq_true'] at k
  exact congrArg (fun p : Pru => (p.lamps[n]).published) (h.same .pru k.1.1)

theorem OnlyChanges.freezes {l : List Part} (h : OnlyChanges l s t)
    (mctl : partsIn [.mctl] l = false := by with_unfolding_all rfl)
    (k : unpublished l = true := by with_unfolding_all rfl) : Freezes s t :=
  h.freezes_of_running (congrArg Mode.isRunning (h.keepsMode mctl)) k

theorem Freezes.modMctl (s : State) (f : Mctl → Mctl) (h : ∀ c, (f c).mode = c.mode) : Freezes s (s.modMctl f) :=
  (s.modMctl_only f).freezes_of_running (congrArg Mode.isRunning (KeepsMode.modMctl s f h))

theorem Freezes.modLif (s : State) (f : Lif → Lif) (h : s.lif.hold = true → (f s.lif).hold = true) :
    Freezes s (s.modLif f) := ⟨⟨h, fun _ => rfl, fun _ _ => rfl⟩, rfl, fun _ _ _ => rfl⟩

theorem Freezes.modSweep (s : State) (b : Bool) : Freezes s (s.modNdr fun d => { d with sweep := b }) :=
  ⟨⟨fun h => h, fun _ => rfl, fun _ _ => rfl⟩, rfl, fun _ _ _ => rfl⟩

theorem Freezes.modPru (s : State) (f : Pru → Pru) (shown : (f s.pru).shown = s.pru.shown)
    (lamps : ∀ n : Fin 24, ((f s.pru).lamps[n]).published = (s.lamp n).published) : Freezes s (s.modPru f) :=
  ⟨⟨fun h => h, fun _ => shown, fun _ _ => rfl⟩, rfl, fun _ _ n => lamps n⟩

theorem Freezes.modLamp (s : State) (n : Fin 24) (f : Lamp → Lamp) (h : ∀ l, (f l).published = l.published) :
    Freezes s (s.modLamp n f) := by
  refine .modPru s _ rfl fun j => ?_
  by_cases e : n = j
  · subst e
    exact (congrArg Lamp.published (s.modLamp_same n f)).trans (h _)
  · exact congrArg Lamp.published (s.modLamp_other n j f e)

theorem Freezes.forNeedles (s : State) (f : Fin 6 → Needle → Needle)
    (h : ∀ k, (f k (s.needle k)).published = (s.needle k).published) : Freezes s (forNeedles f s) := by
  refine ⟨⟨fun h => h, fun _ => rfl, fun _ k => ?_⟩, rfl, fun _ _ _ => rfl⟩
  rw [State.needle, Machine.forNeedles, State.modNdr_ndr, updAll_get]
  exact h k

theorem Freezes.modNeedle (s : State) (k : Fin 6) (f : Needle → Needle)
    (h : s.lif.hold = true → (f (s.needle k)).published = (s.needle k).published) : Freezes s (s.modNeedle k f) := by
  refine ⟨⟨fun h => h, fun _ => rfl, fun held j => ?_⟩, rfl, fun _ _ _ => rfl⟩
  by_cases e : k = j
  · subst e
    rw [State.modNeedle_same]
    exact h held
  · rw [State.modNeedle_other _ _ _ _ e]

end

/-! ### Needles -/

section
variable (n : Needle)

theorem Needle.become_published (x : NeedleState) : (n.become x).published = n.published := by
  unfold Needle.become; split <;> rfl
theorem Needle.beginHoming_published (p : Nat) : (n.beginHoming p).published = n.published :=
  Needle.become_published _ _
theorem Needle.homingStep_published (m : Mode) (f : Option Nat) : (n.homingStep m f).published = n.published := by
  delta Needle.homingStep
  extract_lets left
  split <;> rfl
theorem Needle.moveTo_published (t p x a : Nat) : (n.moveTo t p x a).published = n.published := by
  unfold Needle.moveTo
  dsimp only
  repeat' split
  all_goals rfl
theorem Needle.turnLeg_published (p : Nat) : (n.turnLeg p).published = n.published := by
  unfold Needle.turnLeg; split <;> rfl
theorem Needle.endLeg_published : n.endLeg.published = n.published := by
  unfold Needle.endLeg
  repeat' split
  all_goals rfl
theorem Needle.interval_published (p x : Nat) (f : Option Nat) : (n.interval p x f).published = n.published := by
  unfold Needle.interval
  split
  · rw [Needle.endLeg_published, Needle.turnLeg_published, Needle.moveTo_published]
  · rfl
theorem Needle.takeForce_published : n.takeForce.published = n.published := n.takeForce_motion.2.2.2.2
theorem Needle.unforce_published : n.unforce.published = n.published := by
  unfold Needle.unforce; split
  · exact n.become_published _
  · rfl
theorem Needle.suspend_published : n.suspend.published = n.published := by unfold Needle.suspend; split <;> rfl
theorem Needle.wakeUp_published : n.wakeUp.published = n.published := by unfold Needle.wakeUp; split <;> rfl
theorem Needle.park_published : n.park.published = n.published := by
  unfold Needle.park; split
  all_goals first | exact n.become_published _ | rfl
theorem Needle.enterRun_published (c : ChannelCfg) : (n.enterRun c).published = n.published := by
  delta Needle.enterRun
  extract_lets u
  have h : u.published = n.published := by
    change (if n.effective = .parked then n.become .tracking else n).published = _
    split
    · exact n.become_published _
    · rfl
  split
  · rw [Needle.beginHoming_published, h]
  · exact h
theorem Needle.toSleep_published : n.toSleep.published = n.published := by unfold Needle.toSleep; split <;> rfl

end

/-! ### The operations -/

section
variable (s : State)

theorem State.endSweep_freezes : Freezes s s.endSweep :=
  .ite ((Freezes.modSweep s false).trans (State.attend_only _ _).freezes) (.refl s)

theorem State.motion_freezes (k : Fin 6) : Freezes s (s.motion k) := by
  delta State.motion
  extract_lets c forced n
  refine .ite (.modNeedle s k _ fun _ => Needle.homingStep_published _ _ _) ?_
  exact .trans (.modNeedle s k _ fun _ => Needle.interval_published _ _ _ _) (State.endSweep_freezes _)

theorem State.needleInput_freezes (k : Fin 6) : Freezes s (s.needleInput k) := by
  have aims (x : Nat) : Freezes s (s.setLatest k x) := .modNeedle s k _ fun held => by simp [Needle.aim, held]
  unfold State.needleInput
  repeat' split
  all_goals first | with_reducible exact .refl s | with_reducible exact aims _

theorem State.startSweep_freezes (named : List (Fin 6)) : Freezes s (s.startSweep named) := by
  refine .trans (.trans (.modSweep s true) (.forNeedles _ _ fun k => ?_)) (State.endSweep_freezes _)
  split
  · exact Needle.become_published _ _
  · rfl

theorem State.needleForced_freezes (k : Fin 6) : Freezes s (s.needleForced k) :=
  .trans (.modNeedle s k _ fun _ => Needle.takeForce_published _) (State.endSweep_freezes _)

theorem State.parkNeedles_freezes : Freezes s s.parkNeedles :=
  .trans (.forNeedles s _ fun _ => Needle.park_published _) (State.endSweep_freezes _)

theorem State.publishList_freezes : Freezes s s.publishList := by
  unfold State.publishList
  split
  · exact .refl s
  case isFalse free =>
    exact ⟨⟨fun h => h, fun held => absurd held free, fun _ _ => rfl⟩, rfl, fun _ _ _ => rfl⟩

theorem State.listChange_freezes (m : Fin 64) (old : RuleState) : Freezes s (s.listChange m old) := by
  have delists : Freezes s (s.delist m) := by
    delta State.delist
    extract_lets u
    refine .ite ?_ (.refl s)
    have h : Freezes s u := .modPru s _ rfl fun _ => rfl
    split
    · exact h.trans (.modPru u _ rfl fun _ => rfl)
    · exact h
  unfold State.listChange
  dsimp only
  repeat' split
  · exact .trans (.modPru s _ rfl fun _ => rfl) (State.publishList_freezes _)
  · exact .trans (.modPru s _ rfl fun _ => rfl) (State.publishList_freezes _)
  · exact delists.trans (State.publishList_freezes _)
  · exact .refl s
  · exact .refl s

theorem Lamp.timeSuccess_published (phase now : Nat) (l : Lamp) :
    (l.timeSuccess phase now).published = l.published := by
  unfold Lamp.timeSuccess
  repeat' split
  all_goals rfl

theorem State.followCalls_freezes : Freezes s s.followCalls :=
  .modPru s _ rfl fun n => by rw [updAll_get, Lamp.timeSuccess_published]; rfl

theorem State.publishLamps_freezesList : FreezesList s s.publishLamps := by
  have only : OnlyChanges [.pru] s s.publishLamps := s.publishLamps_only
  have hold : s.publishLamps.lif.link.hold = s.lif.link.hold := congrArg Lif.hold only.link_eq
  have shown : s.publishLamps.pru.shown = s.pru.shown := by
    simp only [State.publishLamps, State.followCalls, State.modPru_pru]
  have ndr : s.publishLamps.ndr = s.ndr := only.same .ndr
  exact ⟨fun h => Eq.trans hold h, fun _ => shown, fun _ k => by rw [State.needle, ndr, State.needle]⟩

theorem State.refreshLamps_freezes : Freezes s s.refreshLamps := by
  unfold State.refreshLamps
  split
  · exact .refl s
  case isFalse live =>
    refine ⟨s.publishLamps_freezesList, congrArg Mode.isRunning s.publishLamps_only.keepsMode, ?_⟩
    intro held running
    rw [State.lampsFrozen, held, running] at live
    exact absurd rfl live

theorem State.soundOff_freezes : Freezes s s.soundOff := .modPru s _ rfl fun _ => rfl
theorem State.startPattern_freezes : Freezes s s.startPattern := .modPru s _ rfl fun _ => rfl

theorem State.refreshChime_freezes : Freezes s s.refreshChime := by
  delta State.refreshChime
  extract_lets w u
  have h : Freezes s u := .modPru s _ rfl fun _ => rfl
  exact .ite (.refl s) (.ite (h.trans u.startPattern_freezes) (h.trans u.soundOff_freezes))

theorem State.refreshPru_freezes : Freezes s s.refreshPru :=
  s.refreshLamps_freezes.trans (State.refreshChime_freezes _)

theorem State.changeRule_freezes (m : Fin 64) (f : RuleRec → RuleRec) : Freezes s (s.changeRule m f) := by
  delta State.changeRule
  extract_lets old s1 new s2 s3 s4
  have h1 : Freezes s s1 := (s.modRule_only m f).freezes
  have h2 : Freezes s1 s2 := (s1.attend_only _).freezes
  have h3 : Freezes s2 s3 := .ite (.modPru s2 _ rfl fun _ => rfl) (.refl s2)
  have h4 : Freezes s3 s4 := .ite (.ite ((s3.reportCleared_only _).freezes.trans
    (State.modRule_only _ m _).freezes) (.refl s3)) (.refl s3)
  exact .ite h1 (((h1.trans h2).trans (h3.trans h4)).trans
    ((s4.listChange_freezes m old).trans (State.refreshPru_freezes _)))

/-- What the evaluator does it does within the freeze. -/
theorem Freezes.rules : RuleStable (Freezes s) where
  quiet _ _ _ _ _ h := h.trans (State.modRule_only _ _ _).freezes
  counter _ _ h := h.trans (State.modWev_only _ _).freezes
  report _ _ _ h := h.trans (State.report_only _ _ _).freezes
  change _ _ _ _ h := h.trans (State.changeRule_freezes _ _ _)

theorem State.openTest_freezes (n : Fin 24) (low : Bool) : Freezes s (s.openTest n low) := by
  have becomes (b : Bool) : Freezes s (s.openBecomes n b) :=
    (Freezes.trans (.modLamp s n _ (by intro; rfl)) (State.report_only _ _ _).freezes).trans (State.refreshPru_freezes _)
  have counts (x : Int) : Freezes s (s.modLamp n fun l => { l with openCount := x }) := .modLamp s n _ (by intro; rfl)
  delta State.openTest
  extract_lets l c
  split
  · exact .ite (becomes _) (.ite (becomes _) (counts _))
  · exact .ite (becomes _) (counts _)
  · exact .ite (becomes _) (counts _)

theorem State.overcurrent_freezes (n : Fin 24) : Freezes s (s.overcurrent n) := by
  delta State.overcurrent
  extract_lets trip count u
  have h1 : Freezes s trip := .modLamp s n _ (by intro; rfl)
  have h2 : Freezes trip u := .modLamp trip n _ (by intro; rfl)
  have h3 : Freezes u ((u.modLamp n fun l => { l with shortStatus := .confirmed }).reportActive (.lamp n .short)) :=
    .trans (.modLamp u n _ (by intro; rfl)) (State.reportActive_only _ _).freezes
  exact .ite (.ite (((h1.trans h2).trans h3).trans ((State.followCalls_freezes _).trans (State.refreshPru_freezes _)))
    ((h1.trans h2).trans u.followCalls_freezes)) (h1.trans trip.followCalls_freezes)

theorem State.onPeriodGood_freezes (n : Fin 24) : Freezes s (s.onPeriodGood n) := by
  delta State.onPeriodGood
  extract_lets status u
  have h1 : Freezes s u := .modLamp s n _ (by intro; rfl)
  exact .ite h1 ((h1.trans (.trans (.modLamp u n _ (by intro; rfl)) (State.reportCleared_only _ _).freezes)).trans
    (State.refreshPru_freezes _))

theorem State.settleLamps_freezes : Freezes s s.settleLamps :=
  .foldl _ (fun s n => .ite ((s.reportAllCleared_only _).freezes.trans (.modLamp _ n _ (by intro; rfl))) (.refl s)) _ s

theorem State.endAllForcing_freezes : Freezes s s.endAllForcing := by
  have forced (f : Wsv → Wsv) (h : ∀ w, (f w).cursor = w.cursor) (u : State) : Freezes u (u.modWsv f) :=
    (u.modWsv_forcing f h).freezes
  have lamps : Freezes s s.endLampForces := (forced _ (by intro; rfl) s).trans (State.refreshPru_freezes _)
  have needles (u : State) : Freezes u u.endNeedleForces :=
    (forced _ (by intro; rfl) u).trans (.forNeedles _ _ fun _ => Needle.unforce_published _)
  have chime (u : State) : Freezes u u.endChimeIfForced :=
    .ite (((forced _ (by intro; rfl) u).trans (State.soundOff_freezes _)).trans (State.refreshChime_freezes _)) (.refl u)
  exact (lamps.trans (needles _)).trans (chime _)

theorem State.leaveWorkshop_freezes (m : s.mode = .workshop) : Freezes s s.leaveWorkshop := by
  have run : Freezes s (s.setMode .run) := (s.setMode_only _).freezes_of_running (by rw [m]; rfl)
  exact (run.trans (State.endAllForcing_freezes _)).trans (State.refreshPru_freezes _)

theorem State.workshopToRun_freezes (m : s.mode = .workshop) : Freezes s s.workshopToRun :=
  (s.leaveWorkshop_freezes m).trans (State.attend_only _ _).freezes

theorem State.leaveWorkshopIfMoving_freezes : Freezes s s.leaveWorkshopIfMoving := by
  unfold State.leaveWorkshopIfMoving
  split
  case isTrue h => exact s.workshopToRun_freezes h.1
  case isFalse => exact .refl s

theorem State.sampleLine_freezes (n : Fin 32) (mv : Nat) : Freezes s (s.sampleLine n mv) := by
  have buttons (u : State) (press : Bool) : Freezes u (u.buttonRoleChange n press) := by
    delta State.buttonRoleChange
    extract_lets c s1 s2
    have h1 : Freezes u s1 := .ite u.releaseButton_only.freezes (.refl u)
    have h2 : Freezes s1 s2 := .ite s1.leaveWorkshopIfMoving_freezes (.refl s1)
    exact (h1.trans h2).trans (.ite ((Freezes.rules s2).ackButton (.refl s2)) (.refl s2))
  have roles (u : State) (old new : Logical) : Freezes u (u.roleChange n old new) :=
    (u.interlockRoleChange_only n new).freezes.trans (buttons _ _)
  have doors (u : State) (v : Logical) : Freezes u (u.doorLineChange n v) := (u.doorLineChange_only n v).freezes
  unfold State.sampleLine State.handOn
  exact (s.classify_only n mv).freezes.trans (.ite (.refl _) ((doors _ _).trans (roles _ _ _)))

theorem State.speedUpdate_freezes (k : Fin 6) : Freezes s (s.speedUpdate k) :=
  .ite (s.doorSpeedUpdate_only.freezes.trans (State.leaveWorkshopIfMoving_freezes _)) (.refl s)

theorem State.sampleChannel_freezes (k : Fin 6) : Freezes s (s.sampleChannel k) := by
  delta State.sampleChannel
  extract_lets before s1 s2
  have h1 : Freezes s s1 := (s.acquire_only k).freezes
  have h2 : Freezes s1 s2 := (s1.modChannel_only k _).freezes
  exact (h1.trans h2).trans ((s2.gaugeReports_only k before).freezes.trans (State.needleInput_freezes _ k))

theorem State.feedTimeout_freezes (k : Fin 6) : Freezes s (s.feedTimeout k) := by
  have expired : Freezes s (s.feedExpired k) := by
    delta State.feedExpired
    extract_lets s1 s2
    have h1 : Freezes s s1 := (s.modChannel_only k _).freezes
    have h2 : Freezes s1 s2 :=
      .ite (.refl s1) ((s1.reportActive_only _).freezes.trans (State.modChannel_only _ k _).freezes)
    exact .ite (Freezes.trans (s.modChannel_only k _).freezes (State.needleInput_freezes _ k))
      ((h1.trans h2).trans (s2.needleInput_freezes k))
  unfold State.feedTimeout
  exact .ite (expired.trans (State.speedUpdate_freezes _ k)) expired

theorem State.measureVb_freezes (mv : Nat) : Freezes s (s.measureVb mv) := by
  have change (u : State) (new : Supply) : Freezes u (u.changeSupply new) := by
    delta State.changeSupply
    extract_lets old s1 s2
    refine .ite (.refl u) ?_
    have h1 : Freezes u s1 := (Freezes.modMctl u (Mctl.enterSupply new u.now) (by intro; rfl)).trans
      (State.attend_only _ _).freezes
    have h2 : Freezes s1 s2 := .ite (s1.clearSupplyMarks_only.freezes_of_running
      (congrArg Mode.isRunning s1.clearSupplyMarks_mode)) (.refl s1)
    have h3 : Freezes s2 (s2.crankChange old new) :=
      .ite (Freezes.trans (forLines_only s2 _).freezes (.forNeedles _ _ fun _ => Needle.wakeUp_published _))
        (.ite (Freezes.trans (.modMctl s2 Mctl.crankEntry (by intro; rfl))
          (.forNeedles _ _ fun _ => Needle.suspend_published _)) (.refl s2))
    exact (h1.trans (h2.trans h3)).trans
      (((forLines_only _ _).freezes.trans (State.gateDoorTimers_only _).freezes).trans (State.refreshPru_freezes _))
  unfold State.measureVb
  exact .ite (.trans (.modMctl s _ (by intro; rfl)) (change _ _)) (.trans (.modMctl s _ (by intro; rfl)) (change _ _))

/-- Silence begins. -/
theorem State.beginSilence_freezes : Freezes s s.beginSilence := by
  delta State.beginSilence
  extract_lets s1 s2
  have h1 : Freezes s s1 := .trans (.modLif s _ fun h => h) (State.attend_only _ _).freezes
  have h2 : Freezes s1 s2 := ((s1.reportActive_only _).freezes.trans (State.bump_only _ _).freezes).trans
    (State.refreshPru_freezes _)
  refine (h1.trans h2).trans ?_
  split
  case isTrue m => exact s2.workshopToRun_freezes m
  case isFalse => exact .refl s2

theorem State.frameArrives_freezes (f : Frame) : Freezes s (s.frameArrives f) := by
  have error (u : State) : Freezes u u.linkError := .trans (.modLif u _ fun h => h) (State.attend_only _ _).freezes
  have timer (u : State) : Freezes u u.restartSilenceTimer := .ite (.modLif u _ fun h => h) (.refl u)
  have report (u : State) : Freezes u u.silenceReport :=
    .ite (.refl u) ((u.reportCleared_only _).freezes.trans (.modLif _ _ fun h => h))
  have heard : Freezes s s.hearHost :=
    .ite (((report s).trans (.modLif _ _ fun h => h)).trans ((timer _).trans (State.refreshPru_freezes _))) (timer s)
  exact heard.trans (.ite (.refl _) (.ite (error _) (.ite (error _) (.modLif _ _ fun h => h))))

theorem State.takeByte_freezes (b : Byte) : Freezes s (s.takeByte b) := by
  have rx (u : State) (r : Rx) : Freezes u (u.receiver r) := .modLif u _ fun h => h
  have error (u : State) : Freezes u u.linkError := .trans (.modLif u _ fun h => h) (State.attend_only _ _).freezes
  unfold State.takeByte
  split
  · exact .ite (rx s _) (error s)
  · exact .ite (rx s _) ((rx s _).trans (error _))
  · exact rx s _
  · exact rx s _
  · exact rx s _
  · exact rx s _
  · exact (rx s _).trans (.ite (State.frameArrives_freezes _ _) (error _))

/-! ### Changes of mode -/

theorem State.settleLink_freezes : Freezes s s.settleLink := by
  unfold State.settleLink
  exact (s.reportCleared_only _).freezes.trans (.modLif _ _ fun h => h)
theorem State.startSilenceTimer_freezes : Freezes s s.startSilenceTimer := .modLif s _ fun h => h
theorem State.stopSilenceTimer_freezes : Freezes s s.stopSilenceTimer := .modLif s _ fun h => h
theorem State.mapRetries_freezes (f : Timer → Timer) : Freezes s (s.mapRetries f) :=
  .modPru s _ rfl fun _ => by rw [updAll_get]; rfl
theorem State.restartPhase_freezes : Freezes s s.restartPhase := by
  unfold State.restartPhase
  exact .trans (.modPru s _ rfl fun _ => rfl) (State.followCalls_freezes _)
theorem State.endLampCheck_freezes : Freezes s s.endLampCheck := .modPru s _ rfl fun _ => rfl
theorem State.startLampCheck_freezes : Freezes s s.startLampCheck := .modPru s _ rfl fun _ => rfl

theorem State.settleBlocks_freezes : Freezes s s.settleBlocks :=
  (((s.settleLines_only.freezes.trans (State.settleGauges_only _).freezes).trans
    ((Freezes.rules _).settleRules (.refl _))).trans (State.settleLamps_freezes _)).trans
      (State.settleDoors_only _).freezes

/-- An entry to RUN publishes lamps, but no list and no target. -/
theorem State.enterRun_freezes : FreezesList s s.enterRun := by
  have run : FreezesList s (s.setMode .run) := (s.setMode_only _).freezesList
  refine run.trans ?_
  change FreezesList _ (s.setMode .run).ignitionOn
  generalize s.setMode .run = u
  delta State.ignitionOn
  extract_lets s1 s2 s3
  have h2 : FreezesList u s2 := (u.bump_only _).freezesList.trans (s1.modMctl_only _).freezesList
  have h3 : Freezes s2 s3 := (s2.startLampCheck_freezes.trans ((Freezes.rules _).endIgnitionLatches (.refl _))).trans
    (.forNeedles _ _ fun _ => Needle.enterRun_published _ _)
  exact (h2.trans h3.toFreezesList).trans (s3.publishLamps_freezesList.trans (State.refreshChime_freezes _).toFreezesList)

theorem State.runOrStandby_freezes (p : Prop) [Decidable p] :
    FreezesList s (if p then s.enterRun else s.setMode .standby) :=
  .ite s.enterRun_freezes (s.setMode_only _).freezesList

theorem State.holdIfAsserted_freezes : Freezes s s.holdIfAsserted :=
  .ite (.modLif s _ fun _ => rfl) (.refl s)

theorem State.endStartup_freezes : FreezesList s s.endStartup := by
  delta State.endStartup
  extract_lets passed s1 s2 s3 s4
  have h2 : FreezesList s s2 := FreezesList.trans (t := s1) ⟨fun h => h, fun _ => rfl, fun _ _ => rfl⟩
    ((s1.attend_only _).freezesList.trans (State.report_only _ _ _).freezesList)
  have h3 : Freezes s2 s3 := s2.settleBlocks_freezes.trans (State.settleLink_freezes _)
  have h4 : FreezesList s3 s4 :=
    (((s3.dropUnclassified_only.andThen (State.startComparators_only _) (n := [.hlm])).andThen
      (State.startUnits_only _) (n := [.hlm, .gve])).andThen (State.startServices_only _)
        (n := [.hlm, .gve, .sched])).freezesList
  have h5 : FreezesList s4 (s4.leaveStartup passed) := by
    delta State.leaveStartup
    extract_lets u
    have run : FreezesList s4 u := s4.runOrStandby_freezes _
    refine .ite ((run.trans (State.freeInterlock_only _).freezesList).trans (State.startSilenceTimer_freezes _).toFreezesList)
      ((s4.setMode_only _).freezesList.trans (Freezes.forNeedles _ _ fun _ =>
        Needle.beginHoming_published _ _).toFreezesList)
  exact (((h2.trans h3.toFreezesList).trans h4).trans h5).trans
    ((State.holdIfAsserted_freezes _).trans (State.refreshPru_freezes _)).toFreezesList

theorem State.wake_freezes : FreezesList s s.wake := by
  delta State.wake
  extract_lets s1 s2 s3
  have h1 : FreezesList s s1 :=
    ((s.setMode_only _).freezesList.trans (State.attend_only _ _).freezesList).trans (State.modMctl_only _ _).freezesList
  have h2 : FreezesList s1 s2 :=
    ((((s1.startScans_only.andThen (State.startServices_only _) (n := [.sched])).andThen
      (forLines_only _ _) (n := [.sched, .hlm])).andThen (forLines_only _ _) (n := [.sched, .hlm])).andThen
        (State.startComparators_only _) (n := [.sched, .hlm])).andThen (State.wakeGauges_only _)
          (n := [.sched, .hlm, .gve]) |>.freezesList
  have h3 : Freezes s2 s3 := s2.gateDoorTimers_only.freezes.trans
    ((State.mapRetries_freezes _ _).trans (State.restartPhase_freezes _))
  have h4 : Freezes s3 s3.freeInterlock := s3.freeInterlock_only.freezes
  exact ((h1.trans h2).trans (h3.trans h4).toFreezesList).trans
    ((State.startSilenceTimer_freezes _).trans ((State.holdIfAsserted_freezes _).trans
      (State.refreshPru_freezes _))).toFreezesList

theorem State.wakeByLink_freezes : FreezesList s s.wakeByLink ∧ (s.mode.isRunning = true → Freezes s s.wakeByLink) := by
  unfold State.wakeByLink
  split
  case isTrue m => exact ⟨s.wake_freezes, fun running => by rw [m] at running; exact absurd running Bool.false_ne_true⟩
  case isFalse => exact ⟨.refl s, fun _ => .refl s⟩

theorem State.ignitionOff_freezes : FreezesList s s.ignitionOff := by
  delta State.ignitionOff
  extract_lets was s1 s2 s3
  have h2 : FreezesList s s2 := (s.setMode_only _).freezesList.trans (s1.modMctl_only _).freezesList
  have h3 : Freezes s2 s3 := ((s2.endLampCheck_freezes.trans
    (State.ageFaults_only s2.endLampCheck).freezes).trans (State.withdrawAll_only _).freezes).trans
      (State.refreshOutputs_only _).freezes
  have forced (u : State) (m : Mode) : Freezes u (u.endForcingOf m) := .ite u.endAllForcing_freezes (.refl u)
  exact h2.trans (h3.trans (((forced s3 was).trans (State.parkNeedles_freezes _)).trans
    (State.refreshPru_freezes _))).toFreezesList

theorem State.enterSetup_freezes : FreezesList s s.enterSetup := by
  delta State.enterSetup
  extract_lets s1
  have h1 : FreezesList s s1 := (s.setWritten_only _).freezesList.trans (State.setMode_only _ _).freezesList
  have h2 : Freezes s1 s1.allRulesOff.parkNeedles :=
    ((Freezes.rules s1).allRulesOff (.refl s1)).trans (State.parkNeedles_freezes _)
  exact h1.trans (h2.trans ((State.forceInterlock_only _).freezes.trans ((State.stopSilenceTimer_freezes _).trans
    (State.refreshPru_freezes _)))).toFreezesList

/-! ### Commands -/

/-- What a command does to what is published under a hold: it ends the hold, or it freezes the list and the
targets, and the lamps but where RUN and WORKSHOP are entered or left. -/
def Held (s t : State) : Prop :=
  t.lif.hold = false ∨ (FreezesList s t ∧
    (s.mode.isRunning = false ∨ t.mode.isRunning = false ∨ Freezes s t))

section
variable {s} {t u : State}

theorem Freezes.held (h : Freezes s t) : Held s t := .inr ⟨h.toFreezesList, .inr (.inr h)⟩

theorem FreezesList.held_before (h : FreezesList s t) (m : s.mode.isRunning = false) : Held s t :=
  .inr ⟨h, .inl m⟩

theorem Held.ite {c : Prop} [Decidable c] (h : c → Held s t) (k : Held s u) : Held s (if c then t else u) := by
  split
  · exact h ‹_›
  · exact k

theorem Freezes.atExpiry (timer : Timer) (figure : Nat) (k : State → State) (h : ∀ s, Freezes s (k s)) :
    Freezes s (atExpiry timer figure k s) :=
  atExpiry_cases s timer figure k _ (.refl s) fun _ _ => (State.reach_only s _).freezes.trans (h _)

theorem Held.of_reach {x : Int} (h : Held (s.reach x) t) : Held s t := by
  have still : Freezes s (s.reach x) := (State.reach_only s _).freezes
  obtain ended | ⟨list, modes⟩ := h
  · exact .inl ended
  · refine .inr ⟨still.toFreezesList.trans list, ?_⟩
    obtain m | m | whole := modes
    · exact .inl m
    · exact .inr (.inl m)
    · exact .inr (.inr (still.trans whole))

end

theorem State.acceptIgn_held (a : Bool) : Held s (s.acceptIgn a) := by
  delta State.acceptIgn
  extract_lets s1
  have h1 : Freezes s s1 := .modMctl s _ (by intro; rfl)
  have off : Held s (s1.ignitionOff.attend .mode) := by
    refine .inr ⟨h1.toFreezesList.trans (s1.ignitionOff_freezes.trans (State.attend_only _ _).freezesList),
      .inr (.inl ?_)⟩
    have still : KeepsMode (s1.setMode .standby) s1.ignitionOff := by
      delta State.ignitionOff
      extract_lets was s2 s3 s4
      have h3 : KeepsMode s2 s3 := .modMctl s2 _ (by intro; rfl)
      have h4 : KeepsMode s3 s4 := ((((s3.endLampCheck_only.andThen (State.ageFaults_only _)
        (n := .pru :: faultParts)).andThen (State.withdrawAll_only _) (n := .dmn :: .pru :: faultParts))).andThen
          (State.refreshOutputs_only _) (n := .dmn :: .pru :: faultParts)).keepsMode
      exact (h3.trans h4).trans (((State.endForcingOf_only _ _).andThen (State.parkNeedles_only _)
        (n := .attention :: forcingParts)).andThen (State.refreshPru_only _)
          (n := .attention :: forcingParts)).keepsMode
    have mode : s1.ignitionOff.mode = .standby := Eq.trans still rfl
    have attended : KeepsMode s1.ignitionOff (s1.ignitionOff.attend .mode) := (State.attend_only _ _).keepsMode
    rw [show (s1.ignitionOff.attend .mode).mode = .standby from Eq.trans attended mode]
    rfl
  split
  case h_1 m =>
    refine (h1.toFreezesList.trans (s1.enterRun_freezes.trans (State.attend_only _ _).freezesList)).held_before ?_
    rw [← h1.running, m]
    rfl
  case h_2 => exact off
  case h_3 => exact off
  case h_4 => exact (h1.trans (State.refreshPru_freezes _)).held

theorem State.endHold_hold : s.endHold.lif.hold = false := by
  have only : OnlyChanges [.pru, .ndr] (s.modLif fun l => { l with hold := false, holdTimer := .stopped }) s.endHold :=
    ((State.publishList_only _).andThen (State.publishTargets_only _) (n := [.pru, .ndr])).andThen
      (State.refreshPru_only _)
  have kept : s.endHold.lif.link.hold = false := congrArg Lif.hold only.link_eq
  exact kept

/-- R207: SLEEP entry ends a hold in force. -/
theorem State.enterSleep_hold : s.enterSleep.lif.hold = false := by
  have ended : s.endHoldForSleep.lif.hold = false := by
    unfold State.endHoldForSleep
    rw [State.modLif_lif]
    split
    · exact s.endHold_hold
    case isFalse free => exact Bool.eq_false_iff.mpr free
  delta State.enterSleep
  extract_lets s1 s2 s3 s4
  have h1 : OnlyChanges [.mctl] s.endHoldForSleep s1 :=
    (State.setMode_only _ _).andThen (State.modMctl_only _ _)
  have h2 : OnlyChanges awakeParts s1 s2 :=
    (((s1.makeCounterDue_only.andThen (forLines_only _ _) (n := [.fmy, .hlm])).andThen
      (State.stopComparators_only _) (n := [.fmy, .hlm])).andThen (State.stopGauges_only _)
        (n := [.fmy, .hlm, .gve])).mono
  have h3 : OnlyChanges awakeParts s2 s3 :=
    (((forNeedles_only s2 _).andThen (State.gateDoorTimers_only _) (n := awakeParts)).andThen
      (State.forceInterlock_only _) (n := awakeParts)).andThen (State.refreshOutputs_only _)
  have before : s3.lif.link = s.endHoldForSleep.lif.link :=
    (h2.trans h3).link_eq.trans h1.link_eq
  have timer : (s3.mapRetries fun t => t.pause s3.now).stopSilenceTimer.lif.link =
      { s3.lif.link with silenceTimer := .stopped } := rfl
  have after : s4.lif.link = { s3.lif.link with silenceTimer := .stopped } :=
    (State.refreshPru_only _).link_eq.trans timer
  have kept : s4.lif.link.hold = s3.lif.link.hold := by rw [after]
  exact (kept.trans (congrArg Lif.hold before)).trans ended

theorem State.applyReset_hold (c : ResetCause) : (s.applyReset c).lif.hold = false := rfl

theorem eventEffect_held (c : Instr) : Held s (eventEffect c s) := by
  have only := (eventEffect_advances c s).only
  have mode := eventEffect_mode c s
  have moment (v : State) (h : OnlyChanges [.now, .sched] s v) : Freezes s v := h.freezes
  have reset (r : ResetCause) (f : Pins → Pins) : Held s ((s.hardReset r).modPins f) :=
    .inl (State.applyReset_hold s.cutOffWrite r)
  have keeps (h : Freezes s (eventEffect c s)) : Held s (eventEffect c s) := h.held
  cases c
  case startupEnd =>
    refine .ite (fun ended => s.endStartup_freezes.held_before ?_) (Freezes.refl s).held
    have m : s.mode = .startup := by
      simp only [State.startupOver, Bool.and_eq_true, beq_iff_eq] at ended
      exact ended.1.1
    rw [m]; rfl
  case vbMeasurement mv ign =>
    refine keeps (.ite (.refl s) (.trans (moment s.atVbMeasurement (Advances.atMoment (l := [.sched]) s _ _).only) ?_))
    exact .trans (.modMctl _ _ fun c => Mctl.ignSample_mode _ _ c) (State.measureVb_freezes _ mv)
  case ignDebounceExpiry =>
    unfold eventEffect
    dsimp only
    split
    · exact atExpiry_cases s _ _ _ (Held s) (Freezes.refl s).held fun _ _ => (State.acceptIgn_held _ _).of_reach
    · exact (Freezes.refl s).held
  case sleepEntry => exact .ite (fun _ => .inl s.enterSleep_hold) (Freezes.refl s).held
  case sleepSample ign mv =>
    refine .ite (fun m => FreezesList.held_before ?_ (by rw [m]; rfl)) (Freezes.refl s).held
    delta State.sleepSample
    extract_lets t s1
    have h1 : Freezes s s1 := moment s1 (Advances.atMoment (l := [.sched]) s _ _).only
    have lines : Freezes s1 (s1.sleepLines mv).1 := by
      suffices all : ∀ (l : List (Fin 32)) (q : State × Bool), Freezes s1 q.1 →
          Freezes s1 (l.foldl (fun (s, changed) n =>
            if s.watched n && (s.lineCfg n).fn.classified then
              let s' := s.sampleLine n mv[n]
              (s', changed || s'.logical n != s.logical n)
            else (s, changed)) q).1 from all _ (s1, false) (.refl s1)
      intro l
      induction l with
      | nil => exact fun _ h => h
      | cons n l ih =>
        refine fun q h => ih _ ?_
        dsimp only
        split
        · exact h.trans (q.1.sampleLine_freezes n _)
        · exact h
    revert lines
    obtain ⟨s2, changed⟩ := s1.sleepLines mv
    intro lines
    have read : FreezesList s (s2.modMctl (Mctl.ignSample ign s2.now)) :=
      (h1.trans lines).toFreezesList.trans (s2.modMctl_only _).freezesList
    exact .ite (read.trans (State.wake_freezes _)) read
  case startOfReception idle =>
    refine .ite (fun _ => (Freezes.refl s).held) ?_
    obtain ⟨list, whole⟩ := s.wakeByLink_freezes
    have starts (u : State) : Freezes u (u.modLif fun l =>
      { l with gap := .stopped, lowTimer := .running s.now, waitIdle := l.waitIdle && !idle }) := .modLif u _ fun h => h
    by_cases running : s.mode.isRunning = true
    · exact ((whole running).trans (starts _)).held
    · exact (list.trans (starts _).toFreezesList).held_before (Bool.eq_false_iff.mpr running)
  case byteReceived b stopHigh =>
    obtain ⟨list, whole⟩ := s.wakeByLink_freezes
    have ends : Freezes s.wakeByLink (s.wakeByLink.byteEnds b stopHigh) := .modLif _ _ fun h => h
    have error (u : State) : Freezes u u.stopBitError := by
      have abandon : Freezes u u.abandon :=
        .trans (.trans (.modLif u _ fun h => h) (.modLif _ _ fun h => h)) (State.attend_only _ _).freezes
      exact abandon.trans (.modLif _ _ fun h => h)
    have rest : Freezes s.wakeByLink (if (s.wakeByLink.byteEnds b stopHigh).lif.waitIdle then
          s.wakeByLink.byteEnds b stopHigh
        else if stopHigh then (s.wakeByLink.byteEnds b stopHigh).takeByte b
        else (s.wakeByLink.byteEnds b stopHigh).stopBitError) :=
      ends.trans (.ite (.refl _) (.ite (State.takeByte_freezes _ b) (error _)))
    refine .ite (fun _ => (Freezes.refl s).held) ?_
    by_cases running : s.mode.isRunning = true
    · exact ((whole running).trans rest).held
    · exact (list.trans rest.toFreezesList).held_before (Bool.eq_false_iff.mpr running)
  case gapTimerExpiry =>
    refine keeps (.atExpiry _ _ _ fun s => ?_)
    exact .trans (.trans (.modLif s _ fun h => h) (.modLif _ _ fun h => h)) (State.attend_only _ _).freezes
  case replySent => exact keeps (.ite (.modLif s _ fun h => h) (.refl s))
  case breakLatch => exact keeps (.atExpiry _ _ _ fun s => .modLif s _ fun h => h)
  case breakRelease => exact .ite (fun _ => .inl rfl) (Freezes.modLif s _ fun h => h).held
  case hostSilenceBegins => exact keeps (.atExpiry _ _ _ fun s => s.beginSilence_freezes)
  case holdLineChange a =>
    refine .ite (fun _ => (Freezes.refl s).held) ?_
    have pins : Freezes s (s.modPins fun p => { p with holdAsserted := a }) := (s.modPins_only _).freezes
    refine .ite (fun _ => pins.held) ?_
    generalize s.modPins (fun p => { p with holdAsserted := a }) = u at pins
    unfold State.holdChange
    split
    · refine .ite (fun _ => pins.held) (pins.trans (.modLif u _ fun _ => rfl)).held
    · refine .ite (fun _ => .inl u.endHold_hold) (pins.trans (.modLif u _ fun h => h)).held
  case holdLimitExpiry =>
    exact atExpiry_cases s _ _ _ (Held s) (Freezes.refl s).held fun _ _ => .inl (State.endHold_hold _)
  case restartTakesEffect => exact .ite (fun _ => .inl rfl) (Freezes.refl s).held
  case lineSample n mv =>
    refine keeps (.ite (.trans (moment (s.atLineSample n) (Advances.atMoment (l := [.sched]) s _ _).only) ?_) (.refl s))
    exact .ite (.refl _) (.ite (State.measureOnly_only _ n mv).freezes (State.sampleLine_freezes _ n mv))
  case channelSample k =>
    refine keeps (.ite (.trans (moment (s.atChannelSample k) (Advances.atMoment (l := [.sched]) s _ _).only) ?_) (.refl s))
    exact (State.sampleChannel_freezes _ k).trans (State.speedUpdate_freezes _ k)
  case feedTimeout k => exact keeps (.atExpiry _ _ _ fun s => s.feedTimeout_freezes k)
  case motionInterval k =>
    refine keeps (.ite (.trans (moment (s.atMotionInterval k) (Advances.atMoment (l := [.sched]) s _ _).only) ?_) (.refl s))
    exact State.motion_freezes _ k
  case evaluationPass =>
    refine keeps (.ite (.trans (moment s.atPass (Advances.atMoment (l := [.sched]) s _ _).only) ?_) (.refl s))
    exact (Freezes.rules _).pass (.refl _)
  case lampCheckEnd =>
    exact keeps (.atExpiry _ _ _ fun s => s.endLampCheck_freezes.trans (State.refreshPru_freezes _))
  case lampDiagnosticTick n low =>
    refine keeps (.ite (.trans (moment (s.atLampTick n) (Advances.atMoment (l := [.sched]) s _ _).only) ?_) (.refl s))
    exact State.openTest_freezes _ n low
  case lampOvercurrent n => exact keeps (.ite (s.overcurrent_freezes n) (.refl s))
  case lampRetryExpiry n =>
    exact keeps (.atExpiry _ _ _ fun s => .trans (.modLamp s n _ (by intro; rfl)) (State.followCalls_freezes _))
  case lampSuccessTimerExpiry n => exact keeps (.atExpiry _ _ _ fun s => s.onPeriodGood_freezes n)
  case singleToneComplete =>
    refine keeps (.ite (.atExpiry _ _ _ fun s => ?_) (.refl s))
    unfold State.singleDone
    refine .ite s.soundOff_freezes ?_
    split
    · exact .trans (.modPru s _ rfl fun _ => rfl) (State.refreshChime_freezes _)
    · exact .refl s
  case chimeToneEdge =>
    refine keeps ?_
    unfold eventEffect
    dsimp only
    split
    · exact .ite ((State.reach_only s _).freezes.trans (State.soundOff_freezes _))
        ((State.reach_only s _).freezes.trans (.modPru _ _ rfl fun _ => rfl))
    · exact .refl s
  case lampForcingExpiry n =>
    refine keeps ?_
    unfold eventEffect
    dsimp only
    split
    · exact .atExpiry _ _ _ fun s => (s.modWsv_forcing _ (by intro; rfl)).freezes.trans (State.refreshPru_freezes _)
    · exact .refl s
  case chimeForcingExpiry =>
    refine keeps ?_
    unfold eventEffect
    dsimp only
    split
    · exact .atExpiry _ _ _ fun s => ((s.modWsv_forcing _ (by intro; rfl)).freezes.trans
        (State.soundOff_freezes _)).trans (State.refreshChime_freezes _)
    · exact .refl s
  case flashPhaseAdvance =>
    refine keeps (.ite (.trans (moment s.atFlash (Advances.atMoment (l := [.sched]) s _ _).only) ?_) (.refl s))
    exact .trans (.modPru _ _ rfl fun _ => rfl) (State.followCalls_freezes _)
  case powerOnReset => unfold eventEffect; exact reset _ _
  case brownOut => exact .ite (fun _ => (Freezes.refl s).held) (reset _ _)
  case externalReset => exact .ite (fun _ => (Freezes.refl s).held) (reset _ _)
  all_goals exact (only.freezes_of_running (congrArg Mode.isRunning (mode rfl))).held

theorem setModeService_freezes (target : Nat) (m : s.mode ≠ .setup) :
    FreezesList s (setModeService target s).1 ∧
      (s.mode.isRunning = true → Freezes s (setModeService target s).1) := by
  have enter (m : s.mode = .standby ∨ s.mode = .unconfigured) :
      FreezesList s s.enterSetup ∧ (s.mode.isRunning = true → Freezes s s.enterSetup) := by
    refine ⟨s.enterSetup_freezes, fun running => ?_⟩
    obtain m | m := m <;> rw [m] at running <;> exact absurd running Bool.false_ne_true
  have workshop (m : s.mode = .run) :
      FreezesList s (s.setMode .workshop) ∧ (s.mode.isRunning = true → Freezes s (s.setMode .workshop)) :=
    ⟨(s.setMode_only _).freezesList, fun running => (s.setMode_only _).freezes_of_running (by rw [running]; rfl)⟩
  have whole {t : State} (h : Freezes s t) : FreezesList s t ∧ (s.mode.isRunning = true → Freezes s t) :=
    ⟨h.toFreezesList, fun _ => h⟩
  unfold setModeService
  repeat' split
  all_goals first
    | exact absurd ‹s.mode = .setup› m
    | with_reducible exact whole (.refl s)
    | with_reducible exact enter ‹_›
    | with_reducible exact workshop ‹_›
    | with_reducible exact whole (s.leaveWorkshop_freezes ‹_›)
    | with_reducible exact whole (.modMctl s _ (by intro; rfl))

variable {s} in
theorem Freezes.served {early : Bool} {ok : Nat → Bool} {p : List Byte} {k : Service}
    (h : Freezes s (k s).1) : Freezes s (served early ok p k s).1 := by
  unfold Machine.served
  repeat' split
  all_goals first | exact h | exact .refl s

variable {s} in
theorem Freezes.servedInWorkshop {ok : Nat → Bool} {p : List Byte} {k : Service}
    (h : Freezes s (k s).1) : Freezes s (servedInWorkshop ok p k s).1 := by
  unfold Machine.servedInWorkshop
  repeat' split
  all_goals first | exact h | exact .refl s

/-- Every request but SET_MODE is served within the freeze. -/
theorem requestService_freezes (c : Instr) (other : ∀ tag p, c ≠ .setMode tag p) :
    Freezes s (requestService c s).1 := by
  have only := requestService_only c s
  have mode := requestService_mode c s
  have force (f : Wsv → Wsv) (h : ∀ w, (f w).cursor = w.cursor) (u : State) : Freezes u (u.modWsv f) :=
    (u.modWsv_forcing f h).freezes
  cases c
  case setMode tag p => exact absurd rfl (other tag p)
  case restart tag p =>
    have waits : Freezes s (restartService s).1 := by
      have marked : Freezes s (s.modMctl fun c => { c with restart := .waiting }) := .modMctl s _ (by intro; rfl)
      exact (marked.trans (.modLif _ _ fun h => h)).trans (State.makeCounterDue_only _).freezes
    exact waits.served
  case sweep tag p =>
    refine Freezes.served ?_
    unfold sweepService
    dsimp only
    repeat' split
    all_goals first | with_reducible exact .refl s | with_reducible exact s.startSweep_freezes _
  case acknowledge tag p =>
    refine Freezes.served ?_
    unfold acknowledgeService
    repeat' split
    all_goals first | with_reducible exact .refl s | with_reducible exact (Freezes.rules s).ackRule _ (.refl s)
  case forceLamp tag p =>
    refine Freezes.servedInWorkshop ?_
    unfold forceLampService
    repeat' split
    · exact (force _ (by intro; rfl) s).trans (State.refreshPru_freezes _)
    all_goals exact .refl s
  case forceNeedle tag p =>
    refine Freezes.servedInWorkshop ?_
    unfold forceNeedleService
    repeat' split
    · exact (force _ (by intro; rfl) s).trans (State.needleForced_freezes _ _)
    all_goals exact .refl s
  case forceChime tag p =>
    refine Freezes.servedInWorkshop ?_
    unfold forceChimeService
    repeat' split
    · exact ((force _ (by intro; rfl) s).trans (State.refreshChime_freezes _)).trans (State.startPattern_freezes _)
    all_goals exact .refl s
  case endForcing tag p =>
    refine Freezes.servedInWorkshop ?_
    unfold endForcingService
    split
    · unfold State.endTarget
      refine .ite (.refl s) ?_
      split
      · exact s.endAllForcing_freezes
      · exact (force _ (by intro; rfl) s).trans (State.refreshPru_freezes _)
      · exact (force _ (by intro; rfl) s).trans (.modNeedle _ _ _ fun _ => Needle.unforce_published _)
      · exact ((force _ (by intro; rfl) s).trans (State.soundOff_freezes _)).trans (State.refreshChime_freezes _)
    · exact .refl s
  all_goals exact only.freezes_of_running (congrArg Mode.isRunning (mode (by intros; exact Instr.noConfusion)))

theorem State.serve_freezes (f : Frame) (c : Instr) (h : s.mode = .setup → ∀ tag p, c ≠ .setMode tag p) :
    FreezesList s (s.serve f (requestService c)) ∧
      (s.mode.isRunning = true → Freezes s (s.serve f (requestService c))) := by
  have sent (u : State) (x : Option Frame) : Freezes u (u.modLif fun l => { l with tx := x }) := .modLif u _ fun h => h
  have service : FreezesList s (requestService c s).1 ∧
      (s.mode.isRunning = true → Freezes s (requestService c s).1) := by
    by_cases other : ∀ tag p, c ≠ .setMode tag p
    · have whole := requestService_freezes s c other
      exact ⟨whole.toFreezesList, fun _ => whole⟩
    · push Not at other
      obtain ⟨tag, p, rfl⟩ := other
      have m : s.mode ≠ .setup := fun m => h m tag p rfl
      obtain ⟨list, whole⟩ := setModeService_freezes s (rd8 p 0) m
      change FreezesList s (served _ _ _ _ s).1 ∧ (_ → Freezes s (served _ _ _ _ s).1)
      unfold served
      repeat' split
      all_goals first
        | exact ⟨.refl s, fun _ => .refl s⟩
        | exact ⟨list, whole⟩
  exact ⟨service.1.trans (sent _ _).toFreezesList, fun running => (service.2 running).trans (sent _ _)⟩

theorem State.request_held (f : Frame) (c : Instr) (h : s.mode = .setup → ∀ tag p, c ≠ .setMode tag p) :
    Held s (s.request f (requestService c)) := by
  suffices all : FreezesList s (s.request f (requestService c)) ∧
      (s.mode.isRunning = true → Freezes s (s.request f (requestService c))) by
    by_cases running : s.mode.isRunning = true
    · exact (all.2 running).held
    · exact all.1.held_before (Bool.eq_false_iff.mpr running)
  have serves (u : State) (setup : u.mode = .setup → s.mode = .setup) := u.serve_freezes f c fun m => h (setup m)
  obtain ⟨-, e⟩ | ⟨-, -, e⟩ | ⟨-, -, e⟩ := s.request_cases f (requestService c) <;> rw [e]
  · exact serves s fun m => m
  · exact ⟨.refl s, fun _ => .refl s⟩
  · have woken := s.wakeByLink_freezes
    have arrived : Freezes s.wakeByLink (s.wakeByLink.lineWentHigh.frameArrives f) :=
      (Freezes.modLif _ _ fun h => h).trans (State.frameArrives_freezes _ f)
    have mode : (s.wakeByLink.lineWentHigh.frameArrives f).mode = s.wakeByLink.mode :=
      KeepsMode.trans (State.lineWentHigh_only _).keepsMode (State.frameArrives_only _ f).keepsMode
    have setup (m : (s.wakeByLink.lineWentHigh.frameArrives f).mode = .setup) : s.mode = .setup := by
      have m' : s.wakeByLink.mode = .setup := mode.symm.trans m
      unfold State.wakeByLink at m'
      split at m'
      · exact absurd (s.wake_mode.symm.trans m') (by decide)
      · exact m'
    have served := serves _ setup
    split
    · refine ⟨(woken.1.trans arrived.toFreezesList).trans served.1, fun run => ?_⟩
      have here := (woken.2 run).trans arrived
      exact here.trans (served.2 (by rw [here.running]; exact run))
    · exact ⟨woken.1.trans arrived.toFreezesList, fun run => (woken.2 run).trans arrived⟩

/-- Settles O17, from what each command does to what is published under a hold. -/
theorem holdFreezesWhatIsPublished : Obligations.HoldFreezesWhatIsPublished := by
  intro c s t setup hold e still
  have held : Held s t := by
    obtain ⟨f, -, e'⟩ | ⟨-, e'⟩ := exec_cases c s
    all_goals
      rw [e'] at e
      cases e
      split
      · exact (Freezes.refl s).held
    · exact s.request_held f c setup
    · exact eventEffect_held s c
  obtain ended | ⟨list, modes⟩ := held
  · exact absurd (ended.symm.trans still) Bool.false_ne_true
  · refine ⟨list.shown hold, list.targets hold, fun before after => ?_⟩
    obtain m | m | whole := modes
    · exact absurd (m.symm.trans before) Bool.false_ne_true
    · exact absurd (m.symm.trans after) Bool.false_ne_true
    · exact whole.lamps hold before

end

end Sys2Proof.Machine
end

section
/-! PROOFS. The resets: a part at its reset values, the laws that hold there, what each reset leaves of the part
and the store, and a part held in reset. -/

namespace Sys2Proof.Machine

set_option Elab.async false

/-! ### A part at its reset values -/

/-- Every block, the receiver and the tables at their reset values; time, pins, schedule and store are free. -/
structure Afresh (cause : ResetCause) (t : State) : Prop where
  mctl : t.mctl = { cause := cause }
  hlm : t.hlm = {}
  gve : t.gve = {}
  ndr : t.ndr = {}
  wev : t.wev = {}
  pru : t.pru = {}
  dmn : t.dmn = {}
  fmy : t.fmy = {}
  wsv : t.wsv = {}
  lif : t.lif = {}
  tables : t.tables = {}
  written : t.written = none

theorem State.applyReset_afresh (s : State) (c : ResetCause) : Afresh c (s.applyReset c) :=
  ⟨rfl, rfl, rfl, rfl, rfl, rfl, rfl, rfl, rfl, rfl, rfl, rfl⟩

theorem State.reset_afresh : Afresh .powerOn State.reset :=
  ⟨rfl, rfl, rfl, rfl, rfl, rfl, rfl, rfl, rfl, rfl, rfl, rfl⟩

theorem Afresh.modPins {c : ResetCause} {s : State} (h : Afresh c s) (f : Pins → Pins) :
    Afresh c (s.modPins f) := by
  obtain ⟨h1, h2, h3, h4, h5, h6, h7, h8, h9, h10, h11, h12⟩ := h
  exact ⟨h1, h2, h3, h4, h5, h6, h7, h8, h9, h10, h11, h12⟩

section
variable {c : ResetCause} {t : State}

theorem Afresh.mode (h : Afresh c t) : t.mode = .startup := congrArg Mctl.mode h.mctl
theorem Afresh.line (h : Afresh c t) (n : Fin 32) : t.line n = {} := by simp [State.line, h.hlm]
theorem Afresh.channel (h : Afresh c t) (k : Fin 6) : t.channel k = {} := by simp [State.channel, h.gve]
theorem Afresh.needle (h : Afresh c t) (k : Fin 6) : t.needle k = {} := by simp [State.needle, h.ndr]
theorem Afresh.rule (h : Afresh c t) (m : Fin 64) : t.rule m = {} := by simp [State.rule, h.wev]
theorem Afresh.lamp (h : Afresh c t) (n : Fin 24) : t.lamp n = {} := by simp [State.lamp, h.pru]
theorem Afresh.door (h : Afresh c t) (d : Fin 4) : t.door d = {} := by simp [State.door, h.dmn]

theorem Afresh.afterReset (h : Afresh c t) {s : State} (pending : t.pending = s.pending) (now : t.now = s.now) :
    AfterReset c s t where
  pending := pending
  now := now
  mctl := h.mctl
  line := h.line
  summary := by simp [h.hlm]
  unit u := by simp [State.unit, h.gve]
  channel := h.channel
  needle := h.needle
  sweep := by simp [h.ndr]
  rule := h.rule
  sequence := by simp [h.wev]
  list := by simp [h.pru]
  lamp := h.lamp
  dash := by simp [h.pru]
  single m := by simp [h.pru]
  door d := by rw [h.door]; exact ⟨rfl, rfl, rfl, rfl, rfl, rfl, rfl, rfl, rfl, rfl, rfl, rfl,
    fun y => by cases y <;> decide, rfl, rfl⟩
  interlock := by simp [State.ilk, h.dmn]; rfl
  table := by simp [h.fmy]
  store := by simp [h.fmy]
  forcing := by simp [h.wsv]
  receiver := by simp [h.lif]
  attention x := by rw [h.lif]; cases x <;> rfl
  silence := by simp [h.lif]
  hold := by simp [h.lif]
  tables := ⟨h.tables, h.written⟩

/-! ### The laws at reset -/

theorem Afresh.releaseLaw (h : Afresh c t) : ReleaseLaw t :=
  Withdrawn.law fun d => by simp [h.door d]

theorem Afresh.interlockLaw (h : Afresh c t) : InterlockLaw t := by
  refine ⟨?_, ?_, ?_, ?_, ?_⟩ <;> simp [h.mode, h.dmn, Mode.forcesInterlock, Timer.isRunning]

theorem Afresh.linkLaw (h : Afresh c t) : LinkLaw t := by
  refine ⟨?_, ?_, ?_⟩ <;> simp [h.lif]

theorem recordCount_table {a n : Nat} (h : recordCount a = some n) : a < 9 := by
  by_contra beyond
  obtain ⟨k, rfl⟩ : ∃ k, a = k + 9 := ⟨a - 9, by omega⟩
  cases h

/-- The list of the record names holds every name of a record. -/
theorem mem_recordNames_of {a i : Nat} (names : namesRecord a i = true) : (a, i) ∈ recordNames := by
  unfold namesRecord at names
  split at names
  case h_1 n count =>
    simp only [recordNames, List.mem_flatMap, List.mem_range, List.mem_map, Prod.mk.injEq]
    exact ⟨a, recordCount_table count, i, by simpa [count] using names, rfl, rfl⟩
  case h_2 => cases names

/-- What the checks of a load look at is all that there is to check. -/
theorem Tables.sound_of_checks {t : Tables} (records : ∀ q ∈ recordNames, t.recordOk q.1 q.2 = true)
    (cross : t.crossOk = true) : t.Sound :=
  ⟨fun a i names => records (a, i) (mem_recordNames_of names), cross⟩

theorem Tables.default_sound : Tables.Sound {} :=
  Tables.sound_of_checks (by decide +kernel) (by decide +kernel)

theorem Afresh.tablesLaw (h : Afresh c t) : TablesLaw t where
  inForce := by rw [h.tables]; exact Tables.default_sound
  loaded w e := by simp [h.mctl] at e
  written w e := by simp [h.written] at e

theorem Afresh.faultLaw (h : Afresh c t) (saved : ∀ v : Vector Nat 12,
    ((∃ no, t.nv.copyA = .good v no) ∨ ∃ no, t.nv.copyB = .good v no) → ∀ i : Fin 12, v[i] ≤ counterMax) :
    FaultLaw t := by
  refine ⟨?_, ?_, ?_, ?_, ?_, ?_, ?_, ?_, ?_, ?_, ?_, ?_, fun v good => ?_, ?_⟩
  case refine_13 =>
    refine saved v (good.resolve_left fun w => ?_)
    simp [h.fmy] at w
  all_goals simp [State.counter, h.fmy, h.wsv, Write.slotNo]

theorem Afresh.needleLaw (h : Afresh c t) : NeedleLaw t := by
  refine ⟨?_, ?_, ?_, ?_, ?_⟩ <;> simp [h.needle, h.wsv]

theorem Afresh.listLaw (h : Afresh c t) : ListLaw t := by
  refine ⟨?_, ?_, ?_, ?_, ?_, ?_, ?_⟩ <;> simp [h.rule, h.pru]

theorem Afresh.telltaleLaw (h : Afresh c t) : TelltaleLaw t := by
  refine ⟨?_, ?_, ?_, ?_, ?_⟩ <;> simp [h.mode, h.lamp, Mode.isRunning]

theorem Afresh.chimeLaw (h : Afresh c t) : ChimeLaw t := by
  refine ⟨?_, ?_, ?_⟩ <;> simp [h.mode, h.pru, Mode.isRunning]

end

/-- Settles O54: the state after a power-on reset stands at the reset values. -/
theorem lawsHoldAtReset : Obligations.LawsHoldAtReset := by
  have h := State.reset_afresh
  refine ⟨h.releaseLaw, h.interlockLaw, h.linkLaw, h.tablesLaw, h.faultLaw fun v good => ?_, h.needleLaw, h.listLaw,
    h.telltaleLaw, h.chimeLaw, h.afterReset rfl rfl⟩
  obtain ⟨_, e⟩ | ⟨_, e⟩ := good <;> cases e

/-! ### What each reset leaves -/

/-- A reset cuts a write off in its place of the store and leaves the queue, time and pins alone. -/
theorem State.cutOffWrite_cutOff (s : State) : CutOff s s.cutOffWrite ∧ s.cutOffWrite.pending = s.pending ∧
    s.cutOffWrite.now = s.now ∧ s.cutOffWrite.pins = s.pins := by
  have only := s.cutOffWrite_only
  refine ⟨?_, only.same .pending rfl, only.same .now rfl, only.same .pins rfl⟩
  unfold CutOff State.cutOffWrite
  dsimp only
  cases s.fmy.write <;> dsimp only
  case slot => cases Config.cutWriteIsTorn _ <;> simp
  case counters => cases Config.cutWriteIsTorn _ <;> cases s.fmy.lastIsB <;> simp
  case image => cases Config.cutWriteIsTorn _ <;> simp

/-- What a reset that may cut off a write leaves. -/
theorem State.hardReset_leaves (s : State) (c : ResetCause) (f : Pins → Pins) :
    AfterReset c s ((s.hardReset c).modPins f) ∧ CutOff s ((s.hardReset c).modPins f) ∧
      ((s.hardReset c).modPins f).pins = f s.pins := by
  obtain ⟨cut, pending, now, pins⟩ := s.cutOffWrite_cutOff
  exact ⟨((s.cutOffWrite.applyReset_afresh c).modPins f).afterReset pending now, cut, congrArg f pins⟩

/-- A level that no longer holds the part lets STARTUP begin where no other does. -/
theorem State.startIfReleased_pins (s : State) (f : Pins → Pins) :
    (s.modPins f).startIfReleased.pins = f s.pins ∧
      ((s.modPins f).heldInReset = false → (s.modPins f).startIfReleased.heldInReset = false ∧
        (s.modPins f).startIfReleased.sched.vb = s.now + 2000) ∧
      OnlyChanges [.pins, .sched] s (s.modPins f).startIfReleased := by
  have only := (s.modPins f).startIfReleased_only
  refine ⟨only.same .pins rfl, fun free => ?_, (s.modPins_only f).andThen only⟩
  have starts : (s.modPins f).startIfReleased = (s.modPins f).startScans := by
    simp [State.startIfReleased, free]
  rw [starts]
  exact ⟨free, rfl⟩

/-- A part that runs does the effect of an event. -/
theorem exec_runs (c : Instr) (s : State) (event : requestFrame c = none) (live : s.heldInReset = false) :
    exec c s = .next (eventEffect c s) := by
  rw [exec_event c s event, if_neg (by simp [live])]

/-- Settles O3, from the reset values of a part afresh and the torn writes of `cutOffWrite`. -/
theorem resetsLeaveTheResetState : Obligations.ResetsLeaveTheResetState := by
  refine ⟨⟨fun c s held => ⟨fun p b x r e l => ?_, fun a => ?_⟩, fun s low => ?_, fun s low => ?_⟩, fun s => ?_,
    fun s up => ?_, fun s high => ?_, fun s live latched => ?_, fun s live free => ?_, fun s live ready tx write writes
    store due => ?_, fun s not => ?_⟩
  · have quiet : actsInReset c = false := by
      cases c <;> first | rfl | simp_all
    obtain ⟨f, -, e⟩ | ⟨-, e⟩ := exec_cases c s
    · rw [e, if_pos held]
    · rw [e, if_pos ⟨held, quiet⟩]
  · refine ⟨_, exec_event _ s rfl, ?_⟩
    rw [if_neg (by simp [actsInReset])]
    unfold eventEffect
    dsimp only
    split
    · exact ⟨‹_›, .refl _ _⟩
    · have stays : s.holdLineChange a = s.modPins fun p => { p with holdAsserted := a } :=
        if_pos (.inl held)
      rw [stays]
      exact ⟨rfl, s.modPins_only _⟩
  · obtain ⟨pins, starts, only⟩ := s.startIfReleased_pins fun p => { p with nrstLow := false }
    refine ⟨_, congrArg Host.Outcome.next (if_pos low), pins, fun up => starts ?_, only⟩
    simp [State.heldInReset, State.modPins, up]
  · obtain ⟨pins, starts, only⟩ := s.startIfReleased_pins fun p => { p with brownOut := false }
    refine ⟨_, congrArg Host.Outcome.next (if_pos low), pins, fun up => starts ?_, only⟩
    simp [State.heldInReset, State.modPins, up]
  · exact ⟨_, rfl, s.hardReset_leaves .powerOn _⟩
  · exact ⟨_, congrArg Host.Outcome.next (if_neg (by simp [up])), s.hardReset_leaves .brownOut _⟩
  · exact ⟨_, congrArg Host.Outcome.next (if_neg (by simp [high])), s.hardReset_leaves .pin _⟩
  · refine ⟨_, (exec_runs .breakRelease s rfl live).trans (congrArg Host.Outcome.next (if_pos latched)), ?_⟩
    exact s.hardReset_leaves .linkBreak id
  · exact (exec_runs .breakRelease s rfl live).trans (congrArg Host.Outcome.next (if_neg (by simp [free])))
  · have go : s.restartReady = true := by simp [State.restartReady, ready, tx, write, writes, store, due]
    exact ⟨_, (exec_runs .restartTakesEffect s rfl live).trans (congrArg Host.Outcome.next (if_pos go)),
      (s.applyReset_afresh .restart).afterReset rfl rfl, rfl, rfl⟩
  · have stop : s.restartReady = false := by
      rw [Bool.eq_false_iff]
      intro go
      simp [State.restartReady] at go
      obtain ⟨⟨⟨⟨⟨h1, h2⟩, h3⟩, h4⟩, h5⟩, h6⟩ := go
      simp [h1, h2, h3, h4, h5, h6] at not
    cases live : s.heldInReset
    case true => exact live_held s _ live
    case false => exact (exec_runs .restartTakesEffect s rfl live).trans (congrArg Host.Outcome.next (if_neg (by simp [stop])))

end Sys2Proof.Machine
end

section
/-! PROOFS. What a report does to the fault memory depends on the fault memory, the tables and, for a new entry, the
vehicle conditions, and on nothing else. -/

namespace Sys2Proof.Machine

set_option Elab.async false

section
variable {s t : State}

theorem OnlyChanges.takeSnapshot {l : List Part} (h : OnlyChanges l s t)
    (mctl : partsIn [.mctl] l = false := by with_unfolding_all rfl)
    (gve : partsIn [.gve] l = false := by with_unfolding_all rfl)
    (dmn : partsIn [.dmn] l = false := by with_unfolding_all rfl)
    (tables : partsIn [.tables] l = false := by with_unfolding_all rfl) : t.takeSnapshot = s.takeSnapshot := by
  have hm : t.mctl = s.mctl := h.same .mctl mctl
  have hg : t.gve = s.gve := h.same .gve gve
  have hd : t.dmn = s.dmn := h.same .dmn dmn
  have ht : t.tables = s.tables := h.same .tables tables
  have hk : t.knownE = s.knownE := h.knownE gve
  simp only [State.takeSnapshot, State.supply, State.mode, State.speed, State.speedChannel,
    State.knownF, State.channel, State.channelCfg, State.door, State.ilk, hm, hg, hd, ht, hk]
  rfl

variable (fmy : t.fmy = s.fmy)
include fmy

theorem State.changeEntry_fmy_congr (i : Nat) (f : FaultEntry → FaultEntry) :
    (t.changeEntry i f).fmy = (s.changeEntry i f).fmy := by
  unfold State.changeEntry
  rw [fmy]
  split
  · exact fmy
  · simp [fmy]

theorem State.removeEntry_fmy_congr (i : Nat) : (t.removeEntry i).fmy = (s.removeEntry i).fmy := by
  unfold State.removeEntry
  rw [fmy]
  split
  · exact fmy
  · simp [fmy]

theorem State.createEntry_fmy_congr (c : FaultCode) (snap : c.sourceClass.hasSnapshot = true → t.takeSnapshot = s.takeSnapshot)
    (p : Nat) (n : Fin 48) : (t.createEntry c p n).fmy = (s.createEntry c p n).fmy := by
  simp only [State.createEntry, State.tableChanged_fmy, State.modFmy_fmy, State.stamp, State.counter, fmy]
  cases shows : c.sourceClass.hasSnapshot
  · rfl
  · rw [snap shows]

theorem State.clearedReport_fmy_congr (c : FaultCode) : (t.clearedReport c).fmy = (s.clearedReport c).fmy := by
  unfold State.clearedReport
  rw [fmy]
  split
  · split
    · exact State.changeEntry_fmy_congr fmy _ _
    · exact fmy
  · exact fmy

theorem State.activeReport_fmy_congr (c : FaultCode) (snap : c.sourceClass.hasSnapshot = true → t.takeSnapshot = s.takeSnapshot)
    (p : Nat) : (t.activeReport c p).fmy = (s.activeReport c p).fmy := by
  have stamp : t.stamp = s.stamp := by simp only [State.stamp, State.counter, fmy]
  have lost : t.reportLost.fmy = s.reportLost.fmy := by simp [State.reportLost, fmy]
  unfold State.activeReport
  rw [fmy, stamp]
  split
  · split
    · exact fmy
    · exact State.changeEntry_fmy_congr fmy _ _
  · split
    · exact State.createEntry_fmy_congr fmy _ snap _ _
    · split
      · split
        · refine State.createEntry_fmy_congr (State.removeEntry_fmy_congr fmy _) _ (fun shows => ?_) _ _
          rw [(t.removeEntry_only _).takeSnapshot, (s.removeEntry_only _).takeSnapshot, snap shows]
        · exact lost
      · exact lost

theorem State.handleReport_fmy_congr (c : FaultCode) (snap : c.sourceClass.hasSnapshot = true → t.takeSnapshot = s.takeSnapshot)
    (p : Nat) (a : Bool) : (t.handleReport c p a).fmy = (s.handleReport c p a).fmy := by
  unfold State.handleReport
  split
  · exact State.activeReport_fmy_congr fmy _ snap _
  · exact State.clearedReport_fmy_congr fmy _

theorem State.reportActive_fmy_congr (c : FaultCode) (snap : c.sourceClass.hasSnapshot = true → t.takeSnapshot = s.takeSnapshot)
    (tables : t.tables = s.tables) : (t.reportActive c).fmy = (s.reportActive c).fmy := by
  simp only [State.reportActive, State.report, tables, fmy]
  split
  · simp [fmy]
  · exact State.handleReport_fmy_congr fmy _ snap _ _

theorem State.reportCleared_fmy_congr (tables : t.tables = s.tables) (c : FaultCode) :
    (t.reportCleared c).fmy = (s.reportCleared c).fmy := by
  simp only [State.reportCleared, State.report, tables, fmy]
  split
  · simp [fmy]
  · exact State.clearedReport_fmy_congr fmy _

end

section
variable {s t : State} {l : List Part} (h : OnlyChanges l s t)
  (fmy : partsIn [.fmy] l = false := by with_unfolding_all rfl)
  (tables : partsIn [.tables] l = false := by with_unfolding_all rfl)
include h fmy tables

/-- A report of a fault that ends does the same to the fault memory after other parts have changed. -/
theorem OnlyChanges.reportCleared_fmy (c : FaultCode) : (t.reportCleared c).fmy = (s.reportCleared c).fmy :=
  State.reportCleared_fmy_congr (h.same .fmy fmy) (h.same .tables tables) c

/-- A report of a fault does the same to the fault memory after parts that no snapshot shows have changed. -/
theorem OnlyChanges.reportActive_fmy (c : FaultCode)
    (mctl : partsIn [.mctl] l = false := by with_unfolding_all rfl)
    (gve : partsIn [.gve] l = false := by with_unfolding_all rfl)
    (dmn : partsIn [.dmn] l = false := by with_unfolding_all rfl) :
    (t.reportActive c).fmy = (s.reportActive c).fmy :=
  State.reportActive_fmy_congr (h.same .fmy fmy) c (fun _ => h.takeSnapshot mctl gve dmn tables) (h.same .tables tables)

end

/-! ### The attention causes that an operation raises -/

/-- From `s` to `t` every attention cause stays, and only those named are new. -/
structure Raises (cs : List Cause) (s t : State) : Prop where
  keeps : ∀ d, s.lif.attention.has d = true → t.lif.attention.has d = true
  only : ∀ d, d ∉ cs → t.lif.attention.has d = s.lif.attention.has d

section
variable {cs ds : List Cause} {s t u : State}

theorem Raises.refl (cs : List Cause) (s : State) : Raises cs s s := ⟨fun _ h => h, fun _ _ => rfl⟩

theorem Raises.trans (h : Raises cs s t) (k : Raises cs t u) : Raises cs s u :=
  ⟨fun d e => k.keeps d (h.keeps d e), fun d e => (k.only d e).trans (h.only d e)⟩

theorem Raises.mono (h : Raises cs s t) (sub : cs ⊆ ds) : Raises ds s t :=
  ⟨h.keeps, fun d e => h.only d fun m => e (sub m)⟩

theorem Raises.ite {c : Prop} [Decidable c] (h : Raises cs s t) (k : Raises cs s u) :
    Raises cs s (if c then t else u) := by split <;> assumption

theorem Raises.foldl {α : Type} (f : State → α → State) (h : ∀ s a, Raises cs s (f s a)) (l : List α) (s : State) :
    Raises cs s (l.foldl f s) := by
  induction l generalizing s with
  | nil => exact .refl _ s
  | cons a l ih => exact (h s a).trans (ih _)

theorem OnlyChanges.raises {l : List Part} (h : OnlyChanges l s t)
    (k : partsIn [.attention] l = false := by with_unfolding_all rfl) : Raises cs s t := by
  have same : t.lif.attention = s.lif.attention := h.same .attention k
  exact ⟨fun d e => by rw [same]; exact e, fun d _ => by rw [same]⟩

theorem Raises.modLif (cs : List Cause) (s : State) (f : Lif → Lif) (h : ∀ l, (f l).attention = l.attention) :
    Raises cs s (s.modLif f) :=
  ⟨fun d e => by rw [State.modLif_lif, h]; exact e, fun d _ => by rw [State.modLif_lif, h]⟩

/-- A part of the state beside LIF is changed. -/
theorem Raises.of_lif (h : t.lif = s.lif) : Raises cs s t :=
  ⟨fun d e => by rw [h]; exact e, fun d _ => by rw [h]⟩

theorem Raises.attend (s : State) (c : Cause) (h : c ∈ cs) : Raises cs s (s.attend c) :=
  ⟨fun _ e => Attention.raise_keeps _ _ _ e, fun _ e => Attention.raise_only _ _ _ fun same => e (same ▸ h)⟩

variable (s)

theorem Raises.tableChanged {v : State} (h : v.lif = s.lif) (n : Fin 48) :
    Raises [.fault, .lost] s (v.tableChanged n) :=
  .trans (t := v.modFmy (Fmy.dirty n)) (.of_lif h) (.attend _ .fault (by decide))

theorem Raises.modWsv {v : State} (h : Raises cs s v) (f : Wsv → Wsv) : Raises cs s (v.modWsv f) :=
  h.trans (.of_lif rfl)

theorem State.createEntry_raises (c : FaultCode) (p : Nat) (n : Fin 48) :
    Raises [.fault, .lost] s (s.createEntry c p n) :=
  .tableChanged s (by rfl) n

theorem State.removeEntry_raises (i : Nat) : Raises [.fault, .lost] s (s.removeEntry i) := by
  unfold State.removeEntry
  split
  · exact .refl _ _
  · exact .modWsv s (.tableChanged s (by rfl) _) _

theorem State.changeEntry_raises (i : Nat) (f : FaultEntry → FaultEntry) :
    Raises [.fault, .lost] s (s.changeEntry i f) := by
  unfold State.changeEntry
  split
  · exact .refl _ _
  · exact .tableChanged s (by rfl) _

theorem State.reportLost_raises : Raises [.fault, .lost] s s.reportLost :=
  .trans (t := s.modFmy fun m => { m with lost := min (m.lost + 1) 65535 }) (.of_lif rfl) (.attend _ .lost (by decide))

theorem State.handleReport_raises (c : FaultCode) (p : Nat) (a : Bool) :
    Raises [.fault, .lost] s (s.handleReport c p a) := by
  unfold State.handleReport State.activeReport State.clearedReport
  repeat' split
  all_goals first
    | with_reducible exact .refl _ _
    | with_reducible exact s.changeEntry_raises _ _
    | with_reducible exact s.createEntry_raises _ _ _
    | with_reducible exact s.reportLost_raises
    | exact (s.removeEntry_raises _).trans (State.createEntry_raises _ _ _ _)

/-- A report raises no cause but FAULT and LOST (R159, R163). -/
theorem State.report_raises (c : FaultCode) (a : Bool) : Raises [.fault, .lost] s (s.report c a) :=
  .ite (.of_lif rfl) (s.handleReport_raises _ _ _)

theorem State.reportActive_raises (c : FaultCode) : Raises [.fault, .lost] s (s.reportActive c) :=
  s.report_raises c true
theorem State.reportCleared_raises (c : FaultCode) : Raises [.fault, .lost] s (s.reportCleared c) :=
  s.report_raises c false

end

end Sys2Proof.Machine
end

section
/-! PROOFS. Events that fall due by a timer of MCTL or of the link: supply reports, operating minutes, an abandoned
frame, a reply sent, a break, host silence and its end of WORKSHOP. -/

namespace Sys2Proof.Machine

set_option Elab.async false

section
variable {s t : State}

/-! ### Reports at another moment -/

theorem State.reach_reportActive_fmy (s : State) (x : Int) (c : FaultCode) :
    ((s.reach x).reportActive c).fmy = (s.reportActive c).fmy :=
  (s.reach_only x).reportActive_fmy (c := c)

/-! ### Forcing records -/

theorem Wsv.eq_of_parts {v w : Wsv} (forcing : v.forcing = w.forcing) (cursor : v.cursor = w.cursor) : v = w := by
  obtain ⟨l1, n1, c1, k1⟩ := v
  obtain ⟨l2, n2, c2, k2⟩ := w
  simp only [Wsv.forcing, Wsv.mk.injEq] at forcing cursor ⊢
  exact ⟨forcing.1, forcing.2.1, forcing.2.2.1, cursor⟩

theorem OnlyChanges.wsv_eq {l : List Part} (h : OnlyChanges l s t)
    (k : partsIn [.forcing] l = false := by with_unfolding_all rfl)
    (c : partsIn [.cursor] l = false := by with_unfolding_all rfl) : t.wsv = s.wsv :=
  Wsv.eq_of_parts (h.same .forcing k) (h.same .cursor c)

/-- R183: the end of all forcing leaves no record. -/
theorem State.endAllForcing_wsv (s : State) : s.endAllForcing.wsv =
    { s.wsv with lamps := .replicate 24 none, needles := .replicate 6 none, chime := none } := by
  have lamps : s.endLampForces.wsv = { s.wsv with lamps := .replicate 24 none } :=
    (State.refreshPru_only _).wsv_eq
  have needles : s.endLampForces.endNeedleForces.wsv =
      { s.wsv with lamps := .replicate 24 none, needles := .replicate 6 none } :=
    (forNeedles_only _ _).wsv_eq.trans (by simp [lamps])
  unfold State.endAllForcing State.endChimeIfForced
  split
  · exact ((State.soundOff_only _).trans (State.refreshChime_only _)).wsv_eq.trans (by simp [needles])
  case isFalse free =>
    have chime : s.wsv.chime = none := by simpa [needles] using free
    rw [needles, ← chime]

theorem Wsv.records_empty (w : Wsv) :
    ({ w with lamps := .replicate 24 none, needles := .replicate 6 none, chime := none } : Wsv).records = 0 := by
  rfl

theorem State.leaveWorkshop_wsv (s : State) : s.leaveWorkshop.wsv =
    { s.wsv with lamps := .replicate 24 none, needles := .replicate 6 none, chime := none } :=
  (State.refreshPru_only _).wsv_eq.trans (State.endAllForcing_wsv _)

/-- R13: WORKSHOP is left for RUN, and a SLEEP entry still to come is dropped. -/
theorem State.leaveWorkshop_mctl (s : State) :
    s.leaveWorkshop.mctl = { s.mctl with mode := .run, sleepPending := false } := by
  have only : OnlyChanges forcingParts (s.setMode .run) s.leaveWorkshop :=
    (State.endAllForcing_only _).andThen (State.refreshPru_only _)
  refine (only.same .mctl).trans ?_
  simp [State.setMode]

/-! ### Supply reports and minutes -/

/-- Settles O7: each timer's operation at the moment at which it reaches its figure. -/
theorem supplyReportsAndMinutesFallDue : Obligations.SupplyReportsAndMinutesFallDue := by
  refine ⟨⟨fun s since live running => ?_, fun s since live running => ?_⟩, fun s since live running => ?_⟩
  · refine ⟨(s.reach (since + ms 10000)).reportLow, ?_, ?_, ?_, ?_, ?_⟩
    · rw [exec_runs _ s rfl live, eventEffect, running]
      rfl
    · exact ((State.reportLow_only _).same .now).trans rfl
    · have only := (s.reach (since + ms 10000)).reportActive_only (.supply .low)
      rw [State.reportLow, State.modMctl_mctl, show _ = s.mctl from only.same .mctl]
    · exact s.reach_reportActive_fmy _ _
    · exact (s.reach_only _).andThen (State.reportLow_only _)
  · refine ⟨(s.reach (since + ms 1000)).reportHigh, ?_, ?_, ?_, ?_, ?_⟩
    · rw [exec_runs _ s rfl live, eventEffect, running]
      rfl
    · exact ((State.reportHigh_only _).same .now).trans rfl
    · have only := (s.reach (since + ms 1000)).reportActive_only (.supply .high)
      rw [State.reportHigh, State.modMctl_mctl, show _ = s.mctl from only.same .mctl]
    · exact s.reach_reportActive_fmy _ _
    · exact (s.reach_only _).andThen (State.reportHigh_only _)
  · refine ⟨((s.reach (since + ms 60000)).bump minutePlace).modMctl fun c =>
      { c with minute := .running (since + ms 60000) }, ?_, rfl, rfl, ?_, fun c other => ?_, rfl,
      ((s.reach_only _).andThen (State.bump_only _ _) (n := [.now, .fmy])).andThen (State.modMctl_only _ _)⟩
    · rw [exec_runs _ s rfl live]
      simp only [eventEffect, running]
    · exact updAt_same _ _ _
    · exact updAt_other _ _ _ _ other.symm

/-! ### The link -/

/-- Settles O14: the abandoned frame, the reply that has left the part, and the latch of a break. -/
theorem framesAreAbandonedAndAnswered : Obligations.FramesAreAbandonedAndAnswered := by
  refine ⟨fun s since live running => ?_, fun s r f rest live tx queue => ?_, fun s since live running => ?_⟩
  · rw [exec_runs _ s rfl live, eventEffect, running]
    rfl
  · rw [exec_runs _ s rfl live, eventEffect, if_pos (by simp [tx])]
    simp [State.modLif, queue]
  · rw [exec_runs _ s rfl live, eventEffect, running]
    rfl

/-- R203: host silence has begun, before the mode is looked at. -/
def State.silenceBegun (s : State) : State :=
  (((s.modLif fun l => { l with silence := true, startupSilence := false, silenceTimer := .stopped,
                                linkMark := true }).attend .hostsil).reportActive .hostSilent
    |>.bump silencePlace).refreshPru

theorem State.beginSilence_eq (s : State) : s.beginSilence =
    if s.silenceBegun.mode = .workshop then s.silenceBegun.workshopToRun else s.silenceBegun := rfl

theorem State.silenceBegun_only (s : State) :
    OnlyChanges [.pru, .fmy, .cursor, .attention, .link] s s.silenceBegun :=
  ((((s.modLif_only _ (by intro; rfl)).andThen (State.attend_only _ _)
    (n := [.attention, .link])).andThen (State.reportActive_only _ _) (n := .link :: faultParts)).andThen
    (State.bump_only _ _) (n := .link :: faultParts)).andThen (State.refreshPru_only _)

theorem State.silenceBegun_link (s : State) : s.silenceBegun.lif.link = { s.lif.link with
    silence := true, startupSilence := false, silenceTimer := .stopped, linkMark := true } :=
  (((State.reportActive_only _ _).andThen (State.bump_only _ _) (n := faultParts)).andThen
    (State.refreshPru_only _) (n := .pru :: faultParts)).link_eq

theorem State.silenceBegun_raises (s : State) : Raises [.hostsil, .fault, .lost] s s.silenceBegun :=
  .trans (.trans (.trans (.modLif _ s _ (by intro; rfl)) (.attend _ .hostsil (by decide)))
    ((State.reportActive_raises _ _).mono (by decide)))
    (((State.bump_only _ _).andThen (State.refreshPru_only _) (n := [.fmy, .pru])).raises)

theorem State.silenceBegun_hostsil (s : State) : s.silenceBegun.lif.attention.has .hostsil = true := by
  have later (u : State) : Raises [.fault, .lost] u ((u.reportActive .hostSilent).bump silencePlace).refreshPru :=
    (State.reportActive_raises _ _).trans
      (((State.bump_only _ _).andThen (State.refreshPru_only _) (n := [.fmy, .pru])).raises)
  exact (later _).keeps .hostsil (Attention.has_raise s.lif.attention .hostsil)

theorem State.silenceBegun_fmy (s : State) :
    s.silenceBegun.fmy = ((s.reportActive .hostSilent).bump silencePlace).fmy := by
  refine ((State.refreshPru_only _).same .fmy).trans ?_
  simp only [State.bump, State.modFmy_fmy]
  have begun : OnlyChanges [.attention, .link] s ((s.modLif fun l =>
      { l with silence := true, startupSilence := false, silenceTimer := .stopped, linkMark := true }).attend
        .hostsil) := (s.modLif_only _ (by intro; rfl)).andThen (State.attend_only _ _)
  rw [begun.reportActive_fmy (c := .hostSilent)]

/-- R120: the demand of a rule reads the rule, its record and host silence. -/
theorem State.demand_silent {s t : State} (wev : t.wev = s.wev) (tables : t.tables = s.tables)
    (silence : t.lif.silence = true) (m : Fin 64) :
    t.demand m = if (s.rule m).st.isUnacked = true ∧ (s.ruleCfg m).popup = true
      then (s.ruleCfg m).lampNew.max .flashSlow else s.demand m := by
  have rule : t.rule m = s.rule m := by rw [State.rule, State.rule, wev]
  have cfg : t.ruleCfg m = s.ruleCfg m := by rw [State.ruleCfg, State.ruleCfg, tables]
  simp only [State.demand, rule, cfg, silence, Bool.true_and]
  cases (s.rule m).st.isUnacked <;> cases (s.ruleCfg m).popup <;> simp

/-- Settles O15: the beginning of host silence, and the end of WORKSHOP on top of it. -/
theorem hostSilenceBegins : Obligations.HostSilenceBegins := by
  intro s since live running
  let r := s.reach (since + ms s.tables.general.hostSilence)
  have step : exec .hostSilenceBegins s = .next r.beginSilence := by
    rw [exec_runs _ s rfl live, eventEffect, running]
    rfl
  have later := s.reach_only (since + ms s.tables.general.hostSilence)
  have begun := r.silenceBegun_only
  have whole : OnlyChanges [.now, .pru, .fmy, .cursor, .attention, .link] s r.silenceBegun := later.andThen begun
  have parts := later.andThen r.beginSilence_only (n := .now :: eventParts .hostSilenceBegins)
  have mode : r.silenceBegun.mode = s.mode := whole.keepsMode
  have now : r.beginSilence.now = max s.now (since + 1000 * s.tables.general.hostSilence).toNat :=
    (r.beginSilence_only.same .now).trans rfl
  have link : r.silenceBegun.lif.link = { s.lif.link with
      silence := true, startupSilence := false, silenceTimer := .stopped, linkMark := true } := r.silenceBegun_link
  have fmy : r.silenceBegun.fmy = ((s.reportActive .hostSilent).bump silencePlace).fmy := by
    rw [r.silenceBegun_fmy, State.bump, State.bump, State.modFmy_fmy, State.modFmy_fmy,
      s.reach_reportActive_fmy]
  have mctl : r.silenceBegun.mctl = s.mctl := whole.same .mctl
  refine ⟨_, step, now, ?_⟩
  rw [r.beginSilence_eq, mode] at parts ⊢
  split at parts
  case isTrue w =>
    rw [if_pos w]
    have exit := r.silenceBegun.workshopToRun_only
    have silent : r.silenceBegun.workshopToRun.lif.silence = true :=
      congrArg Lif.silence (exit.link_eq.trans link)
    have left : r.silenceBegun.workshopToRun.mctl = { s.mctl with mode := .run, sleepPending := false } :=
      r.silenceBegun.leaveWorkshop_mctl.trans (by rw [mctl])
    refine ⟨exit.link_eq.trans link, ?_, (exit.same .fmy).trans fmy,
      State.demand_silent (parts.same .wev) (parts.same .tables) silent, ?_, ?_, fun _ => ⟨?_, rfl⟩,
      fun m => absurd w m, parts⟩
    · exact (Raises.attend (cs := [.mode]) _ .mode (by decide)).keeps .hostsil
        ((State.leaveWorkshop_only _).raises (cs := []) |>.keeps .hostsil r.silenceBegun_hostsil)
    · rw [if_pos w, State.mode, left]
    · rw [State.mode, left]
    · exact congrArg Wsv.records r.silenceBegun.leaveWorkshop_wsv
  case isFalse w =>
    rw [if_neg w]
    refine ⟨link, r.silenceBegun_hostsil, fmy,
      State.demand_silent (whole.same .wev) (whole.same .tables) (congrArg Lif.silence link),
      by rw [if_neg w, mode], by rw [mode, mctl]; rfl, fun m => absurd m w, fun _ => whole, parts⟩

end

end Sys2Proof.Machine
end

section
/-! PROOFS. What PRU reads and what it puts out: the published levels, the chime's winner and its tone follow the
presented levels and the due winner at every refresh. -/

namespace Sys2Proof.Machine

set_option Elab.async false

/-! ### What PRU reads -/

/-- What PRU reads besides its own outputs is the same in `t` as in `s`. -/
structure ReadsSame (s t : State) : Prop where
  mode : t.mode = s.mode
  supply : t.supply = s.supply
  ign : t.mctl.ign = s.mctl.ign
  rules : ∀ m, (t.rule m).st = (s.rule m).st ∧ (t.rule m).seq = (s.rule m).seq
  tables : t.tables = s.tables
  silence : t.lif.silence = s.lif.silence
  hold : t.lif.hold = s.lif.hold
  forced : t.wsv.lamps = s.wsv.lamps
  chime : t.wsv.chime = s.wsv.chime
  check : t.pru.lampCheck = s.pru.lampCheck
  marks : t.pru.singleMarks = s.pru.singleMarks
  failed : ∀ n, (t.lamp n).failed = (s.lamp n).failed

section
variable {s t u : State}

theorem ReadsSame.refl (s : State) : ReadsSame s s :=
  ⟨rfl, rfl, rfl, fun _ => ⟨rfl, rfl⟩, rfl, rfl, rfl, rfl, rfl, rfl, rfl, fun _ => rfl⟩

theorem ReadsSame.trans (h : ReadsSame s t) (k : ReadsSame t u) : ReadsSame s u where
  mode := k.mode.trans h.mode
  supply := k.supply.trans h.supply
  ign := k.ign.trans h.ign
  rules m := ⟨(k.rules m).1.trans (h.rules m).1, (k.rules m).2.trans (h.rules m).2⟩
  tables := k.tables.trans h.tables
  silence := k.silence.trans h.silence
  hold := k.hold.trans h.hold
  forced := k.forced.trans h.forced
  chime := k.chime.trans h.chime
  check := k.check.trans h.check
  marks := k.marks.trans h.marks
  failed n := (k.failed n).trans (h.failed n)

/-- A change outside the parts that PRU reads. -/
theorem OnlyChanges.readsSame {l : List Part} (h : OnlyChanges l s t)
    (mctl : partsIn [.mctl] l = false := by with_unfolding_all rfl)
    (wev : partsIn [.wev] l = false := by with_unfolding_all rfl)
    (pru : partsIn [.pru] l = false := by with_unfolding_all rfl)
    (forcing : partsIn [.forcing] l = false := by with_unfolding_all rfl)
    (link : partsIn [.link] l = false := by with_unfolding_all rfl)
    (tables : partsIn [.tables] l = false := by with_unfolding_all rfl) : ReadsSame s t := by
  have hm : t.mctl = s.mctl := h.same .mctl mctl
  have hw : t.wev = s.wev := h.same .wev wev
  have hp : t.pru = s.pru := h.same .pru pru
  have hl : t.lif.link = s.lif.link := h.same .link link
  have hf : t.wsv.forcing = s.wsv.forcing := h.same .forcing forcing
  have hr (m : Fin 64) : t.rule m = s.rule m := by rw [State.rule, State.rule, hw]
  exact ⟨by rw [State.mode, State.mode, hm], by rw [State.supply, State.supply, hm], by rw [hm],
    fun m => by rw [hr m]; exact ⟨rfl, rfl⟩, h.same .tables tables, (congrArg Lif.silence hl :), (congrArg Lif.hold hl :),
    (congrArg Wsv.lamps hf :), (congrArg Wsv.chime hf :), by rw [hp], by rw [hp],
    fun n => by rw [State.lamp, State.lamp, hp]⟩

theorem ReadsSame.modLif (s : State) (f : Lif → Lif) (silence : (f s.lif).silence = s.lif.silence)
    (hold : (f s.lif).hold = s.lif.hold) : ReadsSame s (s.modLif f) :=
  ⟨rfl, rfl, rfl, fun _ => ⟨rfl, rfl⟩, rfl, silence, hold, rfl, rfl, rfl, rfl, fun _ => rfl⟩

theorem ReadsSame.attend (s : State) (c : Cause) : ReadsSame s (s.attend c) := .modLif s _ rfl rfl

theorem ReadsSame.ruleCfg (h : ReadsSame s t) (m : Fin 64) : t.ruleCfg m = s.ruleCfg m := by
  rw [State.ruleCfg, State.ruleCfg, h.tables]
theorem ReadsSame.lampCfg (h : ReadsSame s t) (n : Fin 24) : t.lampCfg n = s.lampCfg n := by
  rw [State.lampCfg, State.lampCfg, h.tables]

theorem ReadsSame.demand (h : ReadsSame s t) (m : Fin 64) : t.demand m = s.demand m := by
  simp only [State.demand, h.ruleCfg, (h.rules m).1, h.silence]

theorem ReadsSame.demandOn (h : ReadsSame s t) (n : Fin 24) (pick : RuleCfg → Bool) :
    t.demandOn n pick = s.demandOn n pick := by
  have demands : t.demand = s.demand := funext h.demand
  simp only [State.demandOn, demands, h.ruleCfg]

theorem ReadsSame.lampLevel (h : ReadsSame s t) (n : Fin 24) : t.lampLevel n = s.lampLevel n := by
  have own : t.ownDemand = s.ownDemand := funext fun n => h.demandOn n _
  simp only [State.lampLevel, own, h.lampCfg, h.failed]

theorem ReadsSame.presentedLevel (h : ReadsSame s t) (n : Fin 24) : t.presentedLevel n = s.presentedLevel n := by
  simp only [State.presentedLevel, h.mode, h.ign, h.check, h.lampCfg, h.forced, State.criticalDemand, h.demandOn,
    h.lampLevel]

theorem ReadsSame.lampsFrozen (h : ReadsSame s t) : t.lampsFrozen = s.lampsFrozen := by
  simp only [State.lampsFrozen, h.mode, h.hold, h.supply]

theorem ReadsSame.isCandidate (h : ReadsSame s t) (m : Fin 64) : t.isCandidate m = s.isCandidate m := by
  simp only [State.isCandidate, (h.rules m).1, h.ruleCfg, h.marks]

theorem ReadsSame.entryOf (h : ReadsSame s t) (m : Fin 64) : t.entryOf m = s.entryOf m := by
  simp only [State.entryOf, (h.rules m).1, (h.rules m).2, h.ruleCfg]

theorem ReadsSame.dueWinner (h : ReadsSame s t) : t.dueWinner = s.dueWinner := by
  have candidates : t.isCandidate = s.isCandidate := funext h.isCandidate
  have entries : t.entryOf = s.entryOf := funext h.entryOf
  simp only [State.dueWinner, State.chimeSilenced, h.mode, h.check, h.chime, candidates, entries]
  rfl

end

/-! ### What PRU puts out -/

/-- From `s` to `t` only the outputs of PRU change: published levels with the success timers, and the chime's winner
and tone. -/
structure PutsOut (s t : State) : Prop where
  only : OnlyChanges [.pru] s t
  list : t.pru.list = s.pru.list
  shown : t.pru.shown = s.pru.shown
  phase : t.pru.phase = s.pru.phase
  check : t.pru.lampCheck = s.pru.lampCheck
  marks : t.pru.singleMarks = s.pru.singleMarks
  lamp : ∀ n, t.lamp n =
    { s.lamp n with published := (t.lamp n).published, success := (t.lamp n).success }

section
variable {s t u : State}

theorem PutsOut.refl (s : State) : PutsOut s s := ⟨.refl _ s, rfl, rfl, rfl, rfl, rfl, fun _ => rfl⟩

theorem PutsOut.trans (h : PutsOut s t) (k : PutsOut t u) : PutsOut s u where
  only := h.only.trans k.only
  list := k.list.trans h.list
  shown := k.shown.trans h.shown
  phase := k.phase.trans h.phase
  check := k.check.trans h.check
  marks := k.marks.trans h.marks
  lamp n := by rw [k.lamp n, h.lamp n]

theorem PutsOut.ite {c : Prop} [Decidable c] (h : PutsOut s t) (k : PutsOut s u) :
    PutsOut s (if c then t else u) := by split <;> assumption

theorem PutsOut.readsSame (h : PutsOut s t) : ReadsSame s t where
  mode := h.only.keepsMode
  supply := congrArg Mctl.supply (h.only.same .mctl)
  ign := congrArg Mctl.ign (h.only.same .mctl)
  rules m := by
    have wev : t.wev = s.wev := h.only.same .wev
    rw [State.rule, State.rule, wev]
    exact ⟨rfl, rfl⟩
  tables := h.only.same .tables
  silence := (congrArg Lif.silence (h.only.same .link) :)
  hold := (congrArg Lif.hold (h.only.same .link) :)
  forced := (congrArg Wsv.lamps (h.only.same .forcing) :)
  chime := (congrArg Wsv.chime (h.only.same .forcing) :)
  check := h.check
  marks := h.marks
  failed n := by rw [h.lamp n]; rfl

variable (s)

theorem State.modPru_lamp (f : Pru → Pru) (n : Fin 24) : (s.modPru f).lamp n = (f s.pru).lamps[n] := rfl

theorem State.followCalls_lamp (n : Fin 24) :
    s.followCalls.lamp n = (s.lamp n).timeSuccess s.pru.phase s.now := by
  exact updAll_get _ _ _

theorem Lamp.timeSuccess_eq (phase now : Nat) (l : Lamp) :
    l.timeSuccess phase now = { l with success := (l.timeSuccess phase now).success } := by
  unfold Lamp.timeSuccess
  repeat' split
  all_goals rfl

theorem State.followCalls_putsOut : PutsOut s s.followCalls := by
  refine ⟨s.followCalls_only, ?_, ?_, ?_, ?_, ?_, fun n => ?_⟩
  iterate 5 simp only [State.followCalls, State.modPru_pru]
  rw [s.followCalls_lamp, Lamp.timeSuccess_eq]

/-- The levels are published before the drivers follow. -/
def State.withPresented : State :=
  s.modPru fun p => { p with lamps := updAll p.lamps fun n l => { l with published := s.presentedLevel n } }

theorem State.withPresented_lamp (n : Fin 24) :
    s.withPresented.lamp n = { s.lamp n with published := s.presentedLevel n } := by
  rw [State.withPresented, State.modPru_lamp]
  dsimp only
  rw [updAll_get, State.lamp]

theorem State.publishLamps_lamp (n : Fin 24) : s.publishLamps.lamp n =
    { s.lamp n with published := s.presentedLevel n }.timeSuccess s.pru.phase s.now := by
  have phase : s.withPresented.pru.phase = s.pru.phase := by simp only [State.withPresented, State.modPru_pru]
  have now : s.withPresented.now = s.now := by simp only [State.withPresented, State.modPru_now]
  have calls : s.publishLamps = s.withPresented.followCalls := by rw [State.publishLamps, State.withPresented]
  rw [calls, State.followCalls_lamp, s.withPresented_lamp, phase, now]

theorem State.publishLamps_putsOut : PutsOut s s.publishLamps := by
  refine ⟨s.publishLamps_only, ?_, ?_, ?_, ?_, ?_, fun n => ?_⟩
  iterate 5 simp only [State.publishLamps, State.followCalls, State.modPru_pru]
  rw [s.publishLamps_lamp, Lamp.timeSuccess_eq]

theorem State.publishLamps_published (n : Fin 24) : (s.publishLamps.lamp n).published = s.presentedLevel n := by
  rw [s.publishLamps_lamp, Lamp.timeSuccess_eq]

theorem State.refreshLamps_putsOut : PutsOut s s.refreshLamps := .ite (.refl s) s.publishLamps_putsOut

theorem State.refreshLamps_published (n : Fin 24) : (s.refreshLamps.lamp n).published =
    if s.lampsFrozen = true then (s.lamp n).published else s.presentedLevel n := by
  unfold State.refreshLamps
  split
  · rfl
  · exact s.publishLamps_published n

theorem State.soundOff_putsOut : PutsOut s s.soundOff := ⟨s.soundOff_only, rfl, rfl, rfl, rfl, rfl, fun _ => rfl⟩

/-- R128: the winner is the one that is due; where it changes the sounder starts its pattern or stops. -/
theorem State.refreshChime_pru : s.refreshChime.pru = { s.pru with
    winner := s.dueWinner,
    tone := if s.dueWinner = s.pru.winner then s.pru.tone else s.dueWinner.isSome,
    patternStart := if s.dueWinner = s.pru.winner ∨ s.dueWinner = none then s.pru.patternStart else s.now } := by
  unfold State.refreshChime
  dsimp only
  by_cases same : s.dueWinner = s.pru.winner
  · simp [same]
  · cases due : s.dueWinner with
    | none =>
      rw [due] at same
      simp [same, State.soundOff]
    | some m =>
      rw [due] at same
      simp [same, State.startPattern, State.modPru]

theorem State.refreshChime_lamp (n : Fin 24) : s.refreshChime.lamp n = s.lamp n := by
  rw [State.lamp, s.refreshChime_pru, State.lamp]

theorem State.refreshChime_putsOut : PutsOut s s.refreshChime := by
  refine ⟨s.refreshChime_only, ?_, ?_, ?_, ?_, ?_, fun n => by rw [s.refreshChime_lamp]⟩ <;> rw [s.refreshChime_pru]

theorem State.refreshPru_putsOut : PutsOut s s.refreshPru := s.refreshLamps_putsOut.trans (State.refreshChime_putsOut _)

/-- R124: a refresh publishes the presented level where no freeze holds the published one. -/
theorem State.refreshPru_published (n : Fin 24) : (s.refreshPru.lamp n).published =
    if s.lampsFrozen = true then (s.lamp n).published else s.presentedLevel n := by
  rw [State.refreshPru, State.refreshChime_lamp, s.refreshLamps_published]

theorem State.refreshLamps_sounder : s.refreshLamps.pru.winner = s.pru.winner ∧
    s.refreshLamps.pru.tone = s.pru.tone ∧ s.refreshLamps.pru.patternStart = s.pru.patternStart := by
  unfold State.refreshLamps
  split
  · exact ⟨rfl, rfl, rfl⟩
  · simp only [State.publishLamps, State.followCalls, State.modPru_pru, and_self]

theorem State.refreshPru_winner : s.refreshPru.pru.winner = s.dueWinner := by
  rw [State.refreshPru, State.refreshChime_pru]
  exact s.refreshLamps_putsOut.readsSame.dueWinner

end

end Sys2Proof.Machine
end

section
/-! PROOFS. The table of the presentation hold (R206): what its end publishes. -/

namespace Sys2Proof.Machine

set_option Elab.async false

section
variable {s t : State}

theorem Lif.eq_of_parts {v w : Lif} (link : v.link = w.link) (attention : v.attention = w.attention) : v = w := by
  calc v = { v.link with attention := v.attention } := rfl
    _ = { w.link with attention := w.attention } := by rw [link, attention]
    _ = w := rfl

theorem OnlyChanges.lif_eq {l : List Part} (h : OnlyChanges l s t)
    (link : partsIn [.link] l = false := by with_unfolding_all rfl)
    (attention : partsIn [.attention] l = false := by with_unfolding_all rfl) : t.lif = s.lif :=
  Lif.eq_of_parts (h.same .link link) (h.same .attention attention)

end

section
variable (s : State)

/-- R67, R116, R124, R206: an end of the hold publishes the list, the targets and, outside CRANK, the levels. -/
structure EndsHold (s t : State) : Prop where
  lif : t.lif = { s.lif with hold := false, holdTimer := .stopped }
  list : t.pru.list = s.pru.list
  shown : t.pru.shown = s.pru.list
  needle : ∀ k, t.needle k = { s.needle k with published := (s.needle k).latest }
  lamp : ∀ n, (t.lamp n).published = if s.mode.isRunning = true ∧ s.supply = .crank
    then (s.lamp n).published else t.presentedLevel n

/-- The hold has ended, and the list and the targets are published. -/
def State.holdReleased : State :=
  (s.modLif fun l => { l with hold := false, holdTimer := .stopped }).publishList.publishTargets

theorem State.endHold_endsHold : EndsHold s s.endHold := by
  have free : s.holdReleased.lif = { s.lif with hold := false, holdTimer := .stopped } :=
    ((State.publishList_only _).andThen (State.publishTargets_only _) (n := [.pru, .ndr])).lif_eq
  have before : OnlyChanges [.link, .pru, .ndr] s s.holdReleased :=
    ((s.modLif_only _ (by intro; rfl)).andThen (State.publishList_only _) (n := [.link, .pru])).andThen
      (State.publishTargets_only _)
  have out : PutsOut s.holdReleased s.endHold := s.holdReleased.refreshPru_putsOut
  have frozen : s.holdReleased.lampsFrozen = (s.mode.isRunning && s.supply == .crank) := by
    rw [State.lampsFrozen, free, show s.holdReleased.mode = s.mode from before.keepsMode,
      show s.holdReleased.supply = s.supply from congrArg Mctl.supply (before.same .mctl)]
    rfl
  refine ⟨out.only.lif_eq.trans free, out.list.trans rfl, out.shown.trans rfl, fun k => ?_, fun n => ?_⟩
  · have ndr : s.endHold.ndr = s.holdReleased.ndr := out.only.same .ndr
    rw [State.needle, ndr]
    exact updAll_get s.ndr.needles (fun _ n => { n with published := n.latest }) k
  · rw [out.readsSame.presentedLevel n]
    refine (s.holdReleased.refreshPru_published n).trans ?_
    rw [frozen]
    simp only [Bool.and_eq_true, beq_iff_eq]
    rfl

end

/-- Settles O16: the columns of the table, with what the end of a hold publishes. -/
theorem holdFollowsItsTable : Obligations.HoldFollowsItsTable := by
  refine ⟨fun s a live change => ?_, fun s since live running => ?_⟩
  · have step : exec (.holdLineChange a) s = .next (s.holdLineChange a) := by
      rw [exec_runs _ s rfl live, eventEffect, if_neg (by simp [change])]
    let u := s.modPins fun p => { p with holdAsserted := a }
    have pins : OnlyChanges [.pins] s u := s.modPins_only _
    have held : u.heldInReset = false := live
    have only := s.holdLineChange_only a
    have unfolded : s.holdLineChange a =
        if u.heldInReset = true ∨ u.mode = .startup ∨ u.mode = .sleep then u else u.holdChange a := rfl
    have acts (m : s.mode ≠ .startup) (m' : s.mode ≠ .sleep) : s.holdLineChange a = u.holdChange a :=
      unfolded.trans (if_neg (by rintro (h | h | h); exacts [absurd (held.symm.trans h) Bool.false_ne_true, m h, m' h]))
    have samePins : (s.holdLineChange a).pins = { s.pins with holdAsserted := a } := by
      rw [unfolded]
      split
      · rfl
      · exact (u.holdChange_only a).same .pins
    refine ⟨_, step, samePins, fun m => ?_, fun m m' => ⟨?_, fun low hold => ?_, fun not => ?_, only.mono⟩⟩
    · rw [unfolded, if_pos (.inr m)]
      exact pins
    · rw [acts m m', State.holdChange]
      have ended : u.endHold.lif = { s.lif with hold := false, holdTimer := .stopped } := u.endHold_endsHold.lif
      cases a <;> cases hold : s.lif.hold <;> cases spent : s.lif.spent <;>
        simp [u, hold, spent, ended, State.beginHold]
    · subst low
      have ends : s.holdLineChange false = u.endHold := by
        rw [acts m m', State.holdChange, if_neg Bool.false_ne_true, if_pos (show u.lif.hold = true from hold)]
      rw [ends]
      have h := u.endHold_endsHold
      exact ⟨h.list, h.shown, h.needle, h.lamp⟩
    · rw [acts m m', State.holdChange]
      have begins : OnlyChanges [.pins, .link] s u.beginHold := pins.andThen u.beginHold_only
      have unspent : OnlyChanges [.pins, .link] s (u.modLif fun l => { l with spent := false }) :=
        pins.andThen (u.modLif_only _ (by intro; rfl))
      split
      · exact .ite pins.mono begins
      case isFalse low =>
        rw [if_neg (by rintro h; exact absurd (not.resolve_left low) (by simp [show s.lif.hold = true from h]))]
        exact unspent
  · let r := s.reach (since + ms 2000)
    have h := r.endHold_endsHold
    refine ⟨r.holdLimit, ?_, ?_, ?_, h.list, h.shown, h.needle, fun n => ?_, ?_⟩
    · rw [exec_runs _ s rfl live, eventEffect, running]
      rfl
    · exact (r.holdLimit_only.same .now).trans rfl
    · have lif : r.endHold.lif = { s.lif with hold := false, holdTimer := .stopped } := h.lif
      simp only [State.holdLimit, State.attend, State.modLif_lif, lif]
    · have spent : ReadsSame r.endHold r.holdLimit :=
        (ReadsSame.modLif r.endHold (fun l => { l with spent := true }) rfl rfl).trans (.attend _ _)
      rw [spent.presentedLevel n]
      exact h.lamp n
    · exact (s.reach_only _).andThen r.holdLimit_only

end Sys2Proof.Machine
end

section
/-! PROOFS. The wake (R15): what it leaves of the modes, the schedule, the interlock and the link. -/

namespace Sys2Proof.Machine

set_option Elab.async false

/-! ### The interlock when a mode lets go of it -/

section
variable (s : State)

theorem State.setInterlock_raises (i : Interlock) (x : Timer) : Raises [.door] s (s.setInterlock i x) := by
  have same := s.setInterlock_attention i x
  refine ⟨fun d h => ?_, fun d h => ?_⟩ <;> rw [same] <;> split
  · exact h
  · exact Attention.raise_keeps _ _ _ h
  · rfl
  · exact Attention.raise_only _ _ _ fun e => h (e ▸ List.mem_singleton_self _)

theorem State.beginOverride_raises : Raises [.door, .fault, .lost] s s.beginOverride := by
  have bumped (u : State) : Raises [.door, .fault, .lost] u (u.bump overridePlace) := .of_lif rfl
  exact ((((s.setInterlock_raises _ _).mono (by decide)).trans (bumped _)).trans (.attend _ _ (by decide))).trans
    ((State.reportActive_raises _ _).mono (by decide))

theorem State.beginOverride_interlock : s.beginOverride.dmn.interlock = .overridden := by
  have only := (State.reportActive_only (((s.setInterlock .overridden .stopped).bump overridePlace).attend .door)
    .override)
  have same : s.beginOverride.dmn = (s.setInterlock .overridden .stopped).dmn := only.same .dmn
  rw [same, s.setInterlock_dmn]

theorem State.freeInterlock_raises : Raises [.door, .fault, .lost] s s.freeInterlock :=
  .ite s.beginOverride_raises
    (.ite ((s.setInterlock_raises _ _).mono (by decide)) ((s.setInterlock_raises _ _).mono (by decide)))

/-- R151: out of FORCED the interlock is OVERRIDDEN, HELD or in DELAY. -/
theorem State.freeInterlock_interlock : s.freeInterlock.dmn.interlock =
    if s.overrideActive = true then .overridden else if s.anyCondition = true then .held else .delay := by
  unfold State.freeInterlock
  split
  · exact s.beginOverride_interlock
  · split <;> rw [State.setInterlock_dmn]

theorem State.freeInterlock_not_forced : s.freeInterlock.dmn.interlock ≠ .forced := by
  rw [s.freeInterlock_interlock]
  repeat' split
  all_goals exact Interlock.noConfusion

end

/-! ### The wake -/

section
variable (s : State)

/-- The wake in MCTL, with the attention cause and the schedule. -/
def State.inStandby : State :=
  (((s.setMode .standby).attend .mode).modMctl (Mctl.wakeUp s.now)).startScans.startServices

/-- The wake as far as the interlock is FORCED. -/
def State.awakened : State :=
  let u := s.inStandby.wakeLines.wakeGauges
  (u.gateDoorTimers.mapRetries fun t => t.resume u.now).restartPhase

theorem State.wake_awakened :
    s.wake = s.awakened.freeInterlock.startSilenceTimer.holdIfAsserted.refreshPru := rfl

theorem State.inStandby_only : OnlyChanges [.sched, .mctl, .attention] s s.inStandby :=
  ((((s.setMode_only _).andThen (State.attend_only _ _) (n := [.mctl, .attention])).andThen
    (State.modMctl_only _ _) (n := [.mctl, .attention])).andThen (State.startScans_only _)
    (n := [.sched, .mctl, .attention])).andThen (State.startServices_only _)

theorem State.awakened_after : OnlyChanges [.hlm, .gve, .dmn, .pru] s.inStandby s.awakened :=
  ((((s.inStandby.wakeLines_only.andThen (State.wakeGauges_only _) (n := [.hlm, .gve])).andThen
    (State.gateDoorTimers_only _) (n := [.hlm, .gve, .dmn])).andThen (State.mapRetries_only _ _)
    (n := [.hlm, .gve, .dmn, .pru])).andThen (State.restartPhase_only _))

theorem State.awakened_only : OnlyChanges [.sched, .mctl, .hlm, .gve, .pru, .dmn, .attention] s s.awakened :=
  s.inStandby_only.andThen s.awakened_after

/-- R3, R15: the wake to STANDBY, with the report timer of the held supply state. -/
theorem State.awakened_mctl : s.awakened.mctl = Mctl.wakeUp s.now { s.mctl with mode := .standby } :=
  (s.awakened_after.same .mctl).trans (by simp [State.inStandby, State.setMode, State.startScans, State.startServices])

/-- What the end of the wake can change besides the link. -/
theorem State.wake_after : OnlyChanges [.pru, .dmn, .fmy, .cursor, .attention, .link] s.awakened s.wake :=
  (((State.freeInterlock_only _).andThen (State.startSilenceTimer_only _)
    (n := [.dmn, .fmy, .cursor, .attention, .link])).andThen (State.holdIfAsserted_only _)
    (n := [.dmn, .fmy, .cursor, .attention, .link])).andThen (State.refreshPru_only _)

theorem State.wake_parts :
    OnlyChanges [.sched, .mctl, .hlm, .gve, .pru, .dmn, .fmy, .cursor, .attention, .link] s s.wake :=
  s.awakened_only.andThen s.wake_after

theorem State.wake_mctl : s.wake.mctl = Mctl.wakeUp s.now { s.mctl with mode := .standby } :=
  (s.wake_after.same .mctl).trans s.awakened_mctl

/-- R1: the first VB measurement 2 ms after the wake. -/
theorem State.wake_vb : s.wake.sched.vb = s.now + 2000 :=
  congrArg Sched.vb ((s.wake_after.same .sched).trans (s.awakened_after.same .sched))

theorem State.wake_interlock : s.wake.dmn.interlock ≠ .forced := by
  have after : OnlyChanges [.link, .pru] s.awakened.freeInterlock s.wake :=
    ((State.startSilenceTimer_only _).andThen (State.holdIfAsserted_only _) (n := [.link])).andThen
      (State.refreshPru_only _)
  have dmn : s.wake.dmn = s.awakened.freeInterlock.dmn := after.same .dmn
  rw [dmn]
  exact State.freeInterlock_not_forced _

theorem State.wake_attends : s.wake.lif.attention.mode = true := by
  have set : s.inStandby.lif.attention.has .mode = true := Attention.has_raise s.lif.attention .mode
  have after : OnlyChanges [.link, .pru] s.awakened.freeInterlock s.wake :=
    ((State.startSilenceTimer_only _).andThen (State.holdIfAsserted_only _) (n := [.link])).andThen
      (State.refreshPru_only _)
  exact (((s.awakened_after.raises).trans (State.freeInterlock_raises _)).trans after.raises).keeps .mode set

/-- R15: what the wake leaves of the link. -/
theorem State.wake_link : s.wake.lif.link = { s.lif.link with
    silenceTimer := if s.lif.silence then .stopped else .running s.now,
    hold := s.lif.hold || s.pins.holdAsserted,
    holdTimer := if s.pins.holdAsserted then .running s.now else s.lif.holdTimer } := by
  have only : OnlyChanges [.sched, .mctl, .hlm, .gve, .pru, .dmn, .fmy, .cursor, .attention] s
      s.awakened.freeInterlock := s.awakened_only.andThen (State.freeInterlock_only _)
  have end_ : s.wake.lif.link = s.awakened.freeInterlock.startSilenceTimer.holdIfAsserted.lif.link :=
    (State.refreshPru_only _).link_eq
  rw [end_]
  generalize s.awakened.freeInterlock = u at only
  have link : u.lif.link = s.lif.link := only.link_eq
  have now : u.now = s.now := only.same .now
  have pins : u.pins = s.pins := only.same .pins
  have silence : u.lif.silence = s.lif.silence := (congrArg Lif.silence link :)
  have timer : u.startSilenceTimer.lif.link = { s.lif.link with
      silenceTimer := if s.lif.silence then .stopped else .running s.now } := by
    rw [← link, ← silence, ← now]
    rfl
  unfold State.holdIfAsserted
  rw [show u.startSilenceTimer.pins = s.pins from pins]
  cases s.pins.holdAsserted
  · simp only [Bool.false_eq_true, if_false, Bool.or_false]
    exact timer
  · rw [if_pos rfl, show u.startSilenceTimer.beginHold.lif.link = { u.startSilenceTimer.lif.link with
      hold := true, holdTimer := .running u.now } from rfl, timer, now]
    simp

end

end Sys2Proof.Machine
end

section
/-! PROOFS. The receiver (R192 to R194, R209): the start of a byte, its table, and a frame that comes in byte by
byte. -/

namespace Sys2Proof.Machine

set_option Elab.async false

section
variable {s : State} {b : Byte}

/-- The receiver moves on after a byte whose stop bit reads high. -/
def State.taken (r : Rx) (s : State) : State :=
  { s with lif := { s.lif with rx := r, gap := .running s.now, lowTimer := .stopped } }

theorem takesBytes_iff : s.takesBytes = true ↔ s.lif.waitIdle = false ∧ s.lif.breakLatched = false := by
  simp [State.takesBytes]

theorem exec_byteReceived_high (live : s.heldInReset = false) (awake : s.mode ≠ .sleep)
    (takes : s.takesBytes = true) : exec (.byteReceived b true) s = .next (s.lineWentHigh.takeByte b) := by
  obtain ⟨idle, free⟩ := takesBytes_iff.mp takes
  rw [exec_byteReceived, execByteReceived, live_runs s _ live]
  simp [State.wakeByLink, awake, free, State.lineWentHigh, idle]

theorem exec_byteReceived_low (live : s.heldInReset = false) (awake : s.mode ≠ .sleep)
    (takes : s.takesBytes = true) : exec (.byteReceived b false) s = .next (s.byteEnds b false).stopBitError := by
  obtain ⟨idle, free⟩ := takesBytes_iff.mp takes
  rw [exec_byteReceived, execByteReceived, live_runs s _ live]
  simp [State.wakeByLink, awake, free, State.byteEnds_low, idle]

/-- R192: the table of the receiver up to the check; none where the byte is a link error. -/
def Rx.after (b : Byte) : Rx → Option Rx
  | .hunt => if b = 0x5A then some .length else none
  | .length => if b.toNat ≤ 48 then some (.kind b.toNat) else none
  | .kind n => some (.tag n b)
  | .tag n k => if 0 < n then some (.payload n k b []) else some (.checkHigh ⟨k, b, []⟩)
  | .payload n k t got =>
    if got.length + 1 < n then some (.payload n k t (got ++ [b])) else some (.checkHigh ⟨k, t, got ++ [b]⟩)
  | .checkHigh f => some (.checkLow f b)
  | .checkLow _ _ => none

theorem Rx.afterByte_tag (n : Nat) (kind : Byte) :
    some (Rx.afterByte n kind b []) = (Rx.tag n kind).after b := by
  unfold Rx.afterByte Rx.after
  split <;> simp_all

theorem Rx.afterByte_payload (n : Nat) (kind tag : Byte) (got : List Byte) :
    some (Rx.afterByte n kind tag (got ++ [b])) = (Rx.payload n kind tag got).after b := by
  unfold Rx.afterByte Rx.after
  split <;> simp_all

/-- A byte whose stop bit reads high moves the receiver on. -/
theorem takeByte_advances {r : Rx} (next : s.lif.rx.after b = some r) : s.lineWentHigh.takeByte b = s.taken r := by
  have rx : s.lineWentHigh.lif.rx = s.lif.rx := rfl
  have moves (r : Rx) (inside : r ≠ .hunt) : s.lineWentHigh.receiver r = s.taken r := by
    simp [State.receiver, inside, State.lineWentHigh, State.modLif, State.taken]
  unfold State.takeByte
  rw [rx]
  cases state : s.lif.rx <;> rw [state] at next
  case hunt =>
    simp only [Rx.after] at next ⊢
    split at next <;> cases next
    rename_i marker
    rw [if_pos marker, moves _ Rx.noConfusion]
  case length =>
    simp only [Rx.after] at next ⊢
    split at next <;> cases next
    rename_i short
    rw [if_pos short, moves _ Rx.noConfusion]
  case kind n => cases next; exact moves _ Rx.noConfusion
  case tag n kind =>
    rw [← Rx.afterByte_tag] at next
    cases next
    exact moves _ (by unfold Rx.afterByte; split <;> exact Rx.noConfusion)
  case payload n kind tag got =>
    rw [← Rx.afterByte_payload] at next
    cases next
    exact moves _ (by unfold Rx.afterByte; split <;> exact Rx.noConfusion)
  case checkHigh f => cases next; exact moves _ Rx.noConfusion
  case checkLow f high => cases next

/-- A byte that the table does not take is a link error, which leaves the receiver in HUNT. -/
theorem takeByte_fails (next : s.lif.rx.after b = none) (before : ∀ f high, s.lif.rx ≠ .checkLow f high) :
    s.lineWentHigh.takeByte b = { s with lif := { s.lif with
      rx := .hunt, gap := (if s.lif.rx = .hunt then s.lif.gap else .stopped), lowTimer := .stopped,
      errors := min (s.lif.errors + 1) 65535, attention := s.lif.attention.raise .link } } := by
  have rx : s.lineWentHigh.lif.rx = s.lif.rx := rfl
  unfold State.takeByte
  rw [rx]
  cases state : s.lif.rx <;> rw [state] at next
  case hunt =>
    simp only [Rx.after] at next ⊢
    split at next <;> cases next
    rename_i stray
    rw [if_neg stray, if_pos trivial]
    simp [State.linkError, State.lineWentHigh, State.attend, State.modLif, state]
  case length =>
    simp only [Rx.after] at next ⊢
    split at next <;> cases next
    rename_i long
    rw [if_neg long, if_neg Rx.noConfusion]
    rfl
  case kind => cases next
  case tag n kind => rw [← Rx.afterByte_tag] at next; cases next
  case payload n kind tag got => rw [← Rx.afterByte_payload] at next; cases next
  case checkHigh => cases next
  case checkLow f high => exact absurd state (before f high)

end

/-- Settles O11: the table of the receiver, the low stop bits and the bytes that it does not take. -/
theorem receiverFollowsItsTable : Obligations.ReceiverFollowsItsTable := by
  refine ⟨fun s b live awake takes before => ?_, fun s b live awake takes => ?_, fun s b h latched => ?_,
    fun s b h live awake free waits => ?_, fun s b h live asleep free => ⟨s.wake_mode, ?_⟩⟩
  · rw [exec_byteReceived_high live awake takes]
    change _ = Host.Outcome.next { s with lif := match s.lif.rx.after b with
      | some r => { s.lif with rx := r, gap := .running s.now, lowTimer := .stopped }
      | none => { s.lif with
          rx := Rx.hunt, gap := (if s.lif.rx = Rx.hunt then s.lif.gap else Timer.stopped), lowTimer := Timer.stopped,
          errors := min (s.lif.errors + 1) 65535, attention := s.lif.attention.raise .link } }
    cases next : s.lif.rx.after b with
    | some r => rw [takeByte_advances next]; rfl
    | none => rw [takeByte_fails next before]
  · rw [exec_byteReceived_low live awake takes]
    simp [State.byteEnds_low, State.stopBitError, State.abandon, State.receiver, State.linkError, State.attend,
      State.modLif]
  · cases live : s.heldInReset
    · rw [exec_byteReceived, execByteReceived, live_runs s _ live, if_pos latched]
    · rw [exec_byteReceived, execByteReceived]
      exact live_held s _ live
  · have waits' : exec (.byteReceived b h) s = .next (s.byteEnds b h) := by
      rw [exec_byteReceived, execByteReceived, live_runs s _ live]
      simp [State.wakeByLink, awake, free, State.byteEnds, waits]
    rw [waits']
    rfl
  · have woken : s.wake.heldInReset = false := (State.heldInReset_eq s.wake_only).trans live
    have awake : s.wake.mode ≠ .sleep := by rw [s.wake_mode]; exact Mode.noConfusion
    have latched : s.wake.lif.breakLatched = false :=
      (congrArg Lif.breakLatched s.wake_link).trans free
    have again : s.wakeByLink = s.wake.wakeByLink := by
      rw [State.wakeByLink, State.wakeByLink, if_pos asleep, if_neg awake]
    rw [exec_byteReceived, exec_byteReceived, execByteReceived, live_runs s _ live, live_runs _ _ woken,
      if_neg (show ¬ s.lif.breakLatched = true by simp [free]),
      if_neg (show ¬ s.wake.lif.breakLatched = true by simp [latched]), again]

/-- Settles O10: the fall of the line on a part awake, and the wake before it on a sleeping one. -/
theorem receptionStarts : Obligations.ReceptionStarts := by
  intro s idle live
  have step : exec (.startOfReception idle) s =
      .next (if s.lif.breakLatched then s else s.receptionStarts idle) := exec_runs _ s rfl live
  refine ⟨fun latched => by rw [step, if_pos latched], fun free => ⟨_, by rw [step, if_neg (by simp [free])], ?_⟩⟩
  by_cases asleep : s.mode = .sleep
  · have woken : s.receptionStarts idle = s.wake.modLif fun l =>
        { l with gap := .stopped, lowTimer := .running s.now, waitIdle := l.waitIdle && !idle } := by
      rw [State.receptionStarts, State.wakeByLink, if_pos asleep]
    have link := s.wake_link
    have silence : s.wake.lif.silenceTimer = _ := (congrArg Lif.silenceTimer link :)
    have hold : s.wake.lif.hold = _ := (congrArg Lif.hold link :)
    have waits : s.wake.lif.waitIdle = s.lif.waitIdle := (congrArg Lif.waitIdle link :)
    rw [woken]
    refine ⟨?_, fun awake => absurd asleep awake, fun _ => ⟨s.wake_mode, s.wake_attends,
      show s.wake.mctl.ign = s.mctl.ign by rw [s.wake_mctl]; rfl, s.wake_vb, hold, silence, s.wake_interlock, ?_⟩⟩
    · have timer : s.wake.lif.holdTimer = _ := (congrArg Lif.holdTimer link :)
      change ({ s.wake.lif.link with gap := .stopped, lowTimer := .running s.now,
                                     waitIdle := s.wake.lif.waitIdle && !idle } : Lif) =
        { s.lif.link with
          gap := .stopped, lowTimer := .running s.now, waitIdle := s.lif.waitIdle && !idle,
          silenceTimer := s.wake.lif.silenceTimer, hold := s.wake.lif.hold, holdTimer := s.wake.lif.holdTimer }
      rw [silence, hold, timer, waits, link]
    · exact s.wake_parts.andThen (State.modLif_only _ _ (by intro; rfl))
  · have same : s.receptionStarts idle = s.modLif fun l =>
        { l with gap := .stopped, lowTimer := .running s.now, waitIdle := l.waitIdle && !idle } := by
      rw [State.receptionStarts, State.wakeByLink, if_neg asleep]
    rw [same]
    exact ⟨rfl, fun _ => ⟨rfl, rfl, rfl, rfl, s.modLif_only _ (by intro; rfl)⟩, fun m => absurd m asleep⟩

/-! ### A frame byte by byte (R192 to R195, R210) -/

/-- The commands of some bytes with high stop bits. -/
def byteCommands (l : List Byte) : List Instr := l.map fun b => .byteReceived b true

section
variable {s : State} {b : Byte}

theorem runAll_next {c : Instr} {t : State} (h : exec c s = .next t) (rest : List Instr) :
    runAll (c :: rest) s = runAll rest t := by
  simp only [runAll, h]

theorem runAll_byte {r : Rx} (live : s.heldInReset = false) (awake : s.mode ≠ .sleep) (takes : s.takesBytes = true)
    (next : s.lif.rx.after b = some r) (rest : List Byte) :
    runAll (byteCommands (b :: rest)) s = runAll (byteCommands rest) (s.taken r) := by
  refine runAll_next ?_ _
  rw [exec_byteReceived_high live awake takes, takeByte_advances next]

variable (live : s.heldInReset = false) (awake : s.mode ≠ .sleep) (takes : s.takesBytes = true)
include live awake takes

theorem runAll_taken {r r' : Rx} (next : r.after b = some r') (rest : List Byte) :
    runAll (byteCommands (b :: rest)) (s.taken r) = runAll (byteCommands rest) (s.taken r') :=
  runAll_byte (s := s.taken r) live awake takes next rest

/-- The payload goes on until the frame is whole but for its check. -/
theorem runAll_payload (n : Nat) (k t : Byte) (rest check : List Byte) : ∀ got : List Byte,
    rest ≠ [] → got.length + rest.length = n →
    runAll (byteCommands (rest ++ check)) (s.taken (.payload n k t got)) =
      runAll (byteCommands check) (s.taken (.checkHigh ⟨k, t, got ++ rest⟩)) := by
  induction rest with
  | nil => exact fun _ some => absurd rfl some
  | cons b rest ih =>
    intro got _ whole
    rw [List.length_cons] at whole
    cases rest with
    | nil =>
      have last : (Rx.payload n k t got).after b = some (.checkHigh ⟨k, t, got ++ [b]⟩) := by
        rw [Rx.after, if_neg (by simp at whole; omega)]
      exact runAll_taken live awake takes last _
    | cons b' rest =>
      have more : (Rx.payload n k t got).after b = some (.payload n k t (got ++ [b])) := by
        rw [Rx.after, if_pos (by simp at whole; omega)]
      rw [List.cons_append, runAll_taken live awake takes more, ih _ (List.cons_ne_nil _ _) (by simp at whole ⊢; omega),
        List.append_assoc, List.singleton_append]

/-- After the tag the payload, of no byte or more, leads to the check. -/
theorem runAll_tag (k t : Byte) (payload check : List Byte) :
    runAll (byteCommands (t :: payload ++ check)) (s.taken (.tag payload.length k)) =
      runAll (byteCommands check) (s.taken (.checkHigh ⟨k, t, payload⟩)) := by
  cases payload with
  | nil => exact runAll_taken live awake takes rfl _
  | cons b rest =>
    have first : (Rx.tag (b :: rest).length k).after t = some (.payload (b :: rest).length k t []) := by
      rw [Rx.after, if_pos (by simp)]
    rw [List.cons_append, runAll_taken live awake takes first, runAll_payload live awake takes _ k t _ check [] (List.cons_ne_nil _ _) (by simp),
      List.nil_append]

/-- The marker, the length, the kind, the tag and the payload bring the receiver to the check. -/
theorem runAll_covered (hunt : s.lif.rx = .hunt) (f : Frame) (short : f.payload.length ≤ 48) (check : List Byte) :
    runAll (byteCommands (0x5A :: f.covered ++ check)) s = runAll (byteCommands check) (s.taken (.checkHigh f)) := by
  have length : (BitVec.ofNat 8 f.payload.length).toNat = f.payload.length := by
    rw [BitVec.toNat_ofNat, Nat.mod_eq_of_lt (by omega)]
  have marker : s.lif.rx.after 0x5A = some .length := by rw [hunt, Rx.after, if_pos rfl]
  have long : Rx.length.after (BitVec.ofNat 8 f.payload.length) = some (.kind f.payload.length) := by
    rw [Rx.after, length, if_pos short]
  rw [Frame.covered, List.cons_append, runAll_byte live awake takes marker, List.cons_append,
    runAll_taken live awake takes long, List.cons_append,
    runAll_taken live awake takes (r' := .tag f.payload.length f.kind) rfl]
  exact runAll_tag live awake takes f.kind f.tag f.payload check

end

theorem append_bytes_u16 (v : BitVec 16) :
    (BitVec.ofNat 8 (v.toNat / 256) ++ BitVec.ofNat 8 v.toNat : BitVec 16) = v := by
  refine BitVec.eq_of_toNat_eq ?_
  have small := v.isLt
  rw [BitVec.toNat_append, BitVec.toNat_ofNat, BitVec.toNat_ofNat, ← Nat.shiftLeft_add_eq_or_of_lt (by omega),
    Nat.shiftLeft_eq]
  omega

/-- Settles O13: the receiver goes through the frame, and what passes its check arrives. -/
theorem frameSurvivesTheLink : Obligations.FrameSurvivesTheLink := by
  intro s f live awake takes hunt idle room kind short
  have check : runAll (byteCommands f.bytes) s =
      runAll (byteCommands [BitVec.ofNat 8 f.check.toNat])
        (s.taken (.checkLow f (BitVec.ofNat 8 (f.check.toNat / 256)))) := by
    rw [Frame.bytes, runAll_covered live awake takes hunt f short, u16, runAll_taken live awake takes rfl]
  let u := s.taken (.checkLow f (BitVec.ofNat 8 (f.check.toNat / 256)))
  have last : exec (.byteReceived (BitVec.ofNat 8 f.check.toNat) true) u = .next (u.frameEnds.frameArrives f) := by
    rw [exec_byteReceived_checkLow (s := u) live awake takes rfl, if_pos (append_bytes_u16 _)]
  have link := u.frameEnds.frameArrives_link f
  rw [State.hearHost_link] at link
  have queue : (u.frameEnds.frameArrives f).lif.queue = _ := (congrArg Lif.queue link :)
  have errors : (u.frameEnds.frameArrives f).lif.errors = _ := (congrArg Lif.errors link :)
  have restart : u.frameEnds.mctl.restart = .idle := idle
  have places : u.frameEnds.lif.queue.length < 2 := room
  refine ⟨_, check.trans ((runAll_next last []).trans rfl), ?_, (congrArg Lif.rx link :), ?_⟩
  · rw [queue]
    exact if_pos ⟨restart, kind, places⟩
  · rw [errors]
    exact if_neg (by rintro ⟨-, h | h⟩ <;> omega)

end Sys2Proof.Machine
end

section
/-! PROOFS. Served requests (R195, R197, R198): the checks before any field, and the requests of MCTL, the
configuration, the lines, the attention summary and the fault readout. -/

namespace Sys2Proof.Machine

set_option Elab.async false

section
variable {s t : State} {c : Instr} {f : Frame} {x : Status} {items : List Byte}

/-- A request at the head of the queue is served, and its reply begins to be sent. -/
theorem exec_ready (request : requestFrame c = some f) (ready : Ready f s)
    (h : requestService c s = (t, x, items)) : exec c s = .next (t.replying f x items) := by
  rw [exec_request s request, if_neg (by rw [ready.live]; exact Bool.false_ne_true), s.request_ready f _ ready,
    State.serve, h]
  rfl

end

/-! ### The checks before any field (R198, R211) -/

/-- How the service of a frame is chosen by its kind: OK with no effect, UNKNOWN_KIND, or the checks of an assigned
kind with its lengths. -/
inductive Handled (kind : Byte) (payload : List Byte) (k : Service) : Prop
  | noEffect (h : isNoEffectKind kind = true) (e : k = noEffectService)
  | unknown (h : isUnknownKind kind = true) (e : k = unknownKindService kind)
  | assigned (early : Bool) (service : Service) (h : kind.toNat ∈ assignedKinds) (low : kind.toNat < 0x60)
    (first : early = true ↔ kind = 0x01 ∨ kind = 0x02 ∨ kind = 0x03)
    (e : k = served early (lengthAllowed kind) payload service)
  | workshop (service : Service) (h : kind.toNat ∈ assignedKinds) (high : 0x70 ≤ kind.toNat)
    (e : k = servedInWorkshop (lengthAllowed kind) payload service)

/-- R211: the lengths of WRITE_TABLE are those of the records. -/
theorem writeTableLength_eq : writeTableLength = lengthAllowed 0x08 := by
  funext l
  have any : (List.range 9).any (fun t => l == 2 + recordSize t) = [13, 26, 7, 24, 35, 36, 5, 16].contains l := by
    rw [Bool.eq_iff_iff]
    simp only [List.any_eq_true, List.mem_range, beq_iff_eq, List.contains_iff_mem, List.mem_cons, List.not_mem_nil]
    constructor
    · rintro ⟨t, small, rfl⟩
      interval_cases t <;> decide
    · rintro (rfl | rfl | rfl | rfl | rfl | rfl | rfl | rfl | h)
      · exact ⟨0, by decide, rfl⟩
      · exact ⟨1, by decide, rfl⟩
      · exact ⟨2, by decide, rfl⟩
      · exact ⟨3, by decide, rfl⟩
      · exact ⟨4, by decide, rfl⟩
      · exact ⟨6, by decide, rfl⟩
      · exact ⟨7, by decide, rfl⟩
      · exact ⟨8, by decide, rfl⟩
      · exact h.elim
  exact any

theorem requestService_handled {c : Instr} {f : Frame} (request : requestFrame c = some f) :
    Handled f.kind f.payload (requestService c) := by
  cases c
  case noEffectKind kind tag p =>
    obtain ⟨own, rfl⟩ : isNoEffectKind kind = true ∧ (⟨kind, tag, p⟩ : Frame) = f := by
      simpa [requestFrame] using request
    exact .noEffect own rfl
  case unknownKind kind tag p =>
    obtain ⟨own, rfl⟩ : isUnknownKind kind = true ∧ (⟨kind, tag, p⟩ : Frame) = f := by
      simpa [requestFrame] using request
    exact .unknown own rfl
  case writeTable tag p =>
    cases request
    dsimp only
    refine .assigned false (writeTableService p) (by decide) (by decide) (by decide) ?_
    change served false writeTableLength p (writeTableService p) = _
    rw [writeTableLength_eq]
  case forceLamp | forceNeedle | forceChime | endForcing | clearFaults | resetCounter | readRawLine =>
    cases request
    dsimp only
    exact .workshop _ (by decide) (by decide) rfl
  case ping | readStatus | readAttention =>
    cases request
    dsimp only
    exact .assigned true _ (by decide) (by decide) (by decide) rfl
  all_goals first
    | (simp only [requestFrame, reduceCtorEq] at request; done)
    | (cases request; dsimp only; exact .assigned false _ (by decide) (by decide) (by decide) rfl)

section
variable {s : State} {early : Bool} {ok : Nat → Bool} {p : List Byte} {k : Service}

theorem served_refusedMode (m : s.mode = .startup) (e : early = false) :
    served early ok p k s = (s, .refusedMode, []) := by
  rw [served, if_pos ⟨m, by simp [e]⟩]

theorem served_refusedArg (m : s.mode = .startup → early = true) (long : ok p.length = false) :
    served early ok p k s = (s, .refusedArg, []) := by
  rw [served, if_neg (fun h => h.2 (m h.1)), if_neg (by simp [long])]

theorem servedInWorkshop_refusedMode (m : s.mode ≠ .workshop) :
    servedInWorkshop ok p k s = (s, .refusedMode, []) := by
  rw [servedInWorkshop, if_pos m]

theorem servedInWorkshop_refusedArg (m : s.mode = .workshop) (long : ok p.length = false) :
    servedInWorkshop ok p k s = (s, .refusedArg, []) := by
  rw [servedInWorkshop, if_neg (not_not.mpr m), if_neg (by simp [long])]

theorem unknownKindService_refusedMode {kind : Byte} (high : 0x70 ≤ kind.toNat) (m : s.mode ≠ .workshop) :
    unknownKindService kind s = (s, .refusedMode, []) := by
  rw [unknownKindService, if_pos ⟨high, m⟩]

theorem unknownKindService_unknown {kind : Byte} (m : 0x70 ≤ kind.toNat → s.mode = .workshop) :
    unknownKindService kind s = (s, .unknownKind, []) := by
  rw [unknownKindService, if_neg fun h => h.2 (m h.1)]

end

theorem isNoEffectKind_iff {kind : Byte} : isNoEffectKind kind = true ↔ 0x60 ≤ kind.toNat ∧ kind.toNat ≤ 0x6F := by
  simp [isNoEffectKind]

theorem isUnknownKind_iff {kind : Byte} : isUnknownKind kind = true ↔
    kind.toNat < 0x80 ∧ ¬ (0x60 ≤ kind.toNat ∧ kind.toNat ≤ 0x6F) ∧ kind.toNat ∉ assignedKinds := by
  simp only [isUnknownKind, Bool.and_eq_true, decide_eq_true_eq, Bool.not_eq_true', List.contains_eq_mem,
    decide_eq_false_iff_not, and_assoc, ← isNoEffectKind_iff, Bool.not_eq_true]

/-- The readout requests are the three of kinds 0x20 to 0x22. -/
theorem requestService_readout {c : Instr} {f : Frame} (request : requestFrame c = some f)
    (kind : f.kind = 0x20 ∨ f.kind = 0x21 ∨ f.kind = 0x22) :
    ∃ k, requestService c = served false (lengthAllowed f.kind) f.payload (readout k) := by
  cases c
  case readFaults | setFaultCursor | readFaultDetail => cases request; exact ⟨_, rfl⟩
  case noEffectKind k tag p =>
    obtain ⟨own, rfl⟩ : isNoEffectKind k = true ∧ (⟨k, tag, p⟩ : Frame) = f := by
      simpa [requestFrame] using request
    obtain rfl | rfl | rfl := kind <;> exact absurd own (by decide)
  case unknownKind k tag p =>
    obtain ⟨own, rfl⟩ : isUnknownKind k = true ∧ (⟨k, tag, p⟩ : Frame) = f := by
      simpa [requestFrame] using request
    obtain rfl | rfl | rfl := kind <;> exact absurd own (by decide)
  all_goals first
    | (simp only [requestFrame, reduceCtorEq] at request; done)
    | (cases request; exact absurd kind (by dsimp only; decide))

/-- Settles O19, by the four ways in which a kind is handled. -/
theorem servedFramesAreHandledByKind : Obligations.ServedFramesAreHandledByKind := by
  refine ⟨fun c f s request ready => ?_, fun c f s request ready assigned long high early => ?_,
    fun c f s request ready kind length standby run workshop => ?_, fun kind tag p s ready => ⟨fun low high => ?_,
    fun small other free m => ?_⟩⟩
  · have answers {x : Status} (h : requestService c s = (s, x, [])) : exec c s = .next (s.replying f x []) :=
      exec_ready request ready h
    obtain ⟨h, e⟩ | ⟨h, e⟩ | ⟨early, service, h, low, first, e⟩ | ⟨service, h, high, e⟩ :=
      requestService_handled request
    · obtain ⟨h60, h6F⟩ := isNoEffectKind_iff.mp h
      refine ⟨fun _ _ => answers (by rw [e]; rfl), fun h70 => ?_, fun h70 => ?_, fun h60' => ?_, fun h60' => ?_⟩ <;>
        omega
    · obtain ⟨small, other, free⟩ := isUnknownKind_iff.mp h
      refine ⟨fun h60 h6F => absurd ⟨h60, h6F⟩ other, fun high m => answers ?_, fun _ m _ => answers ?_,
        fun low _ => answers ?_, fun _ h => absurd h free⟩
      · rw [e, unknownKindService_refusedMode high m]
      · rw [e, unknownKindService_unknown fun _ => m]
      · rw [e, unknownKindService_unknown fun h => by omega]
    · refine ⟨fun h60 => by omega, fun h70 => by omega, fun h70 => by omega, fun _ free => absurd h free,
        fun _ _ m h1 h2 h3 => answers ?_⟩
      rw [e, served_refusedMode m]
      exact Bool.eq_false_iff.mpr fun t => (first.mp t).elim h1 fun t => t.elim h2 h3
    · refine ⟨fun _ h6F => by omega, fun _ m => answers ?_, fun _ _ free => absurd h free, fun h60 => by omega,
        fun h60 => by omega⟩
      rw [e, servedInWorkshop_refusedMode m]
  · refine exec_ready request ready ?_
    obtain ⟨h, e⟩ | ⟨h, e⟩ | ⟨first, service, h, low, which, e⟩ | ⟨service, h, h70, e⟩ :=
      requestService_handled request
    · obtain ⟨h60, h6F⟩ := isNoEffectKind_iff.mp h
      have none' : ∀ k ∈ assignedKinds, ¬ (0x60 ≤ k ∧ k ≤ 0x6F) := by decide
      exact absurd ⟨h60, h6F⟩ (none' _ assigned)
    · exact absurd assigned (isUnknownKind_iff.mp h).2.2
    · rw [e, served_refusedArg (fun m => which.mpr (early m)) long]
    · rw [e, servedInWorkshop_refusedArg (high h70) long]
  · obtain ⟨k, e⟩ := requestService_readout request kind
    refine exec_ready request ready ?_
    by_cases m : s.mode = .startup
    · rw [e, served_refusedMode m rfl]
    · have untimed : s.mode.isTimed = false := by
        cases h : s.mode <;> first | rfl | contradiction
      rw [e, served_ok s _ _ _ _ (.inl m) length, readout, if_neg (by simp [untimed])]
  · have own := isNoEffectKind_iff.mpr ⟨low, high⟩
    exact exec_ready (by simp [requestFrame, own]) ready rfl
  · have own := isUnknownKind_iff.mpr ⟨small, other, free⟩
    exact exec_ready (by simp [requestFrame, own]) ready (unknownKindService_unknown m)

/-! ### The attention summary and the lines -/

section
variable (s : State) (f : Frame) (x : Status) (items : List Byte)

theorem State.replying_only : OnlyChanges [.link] s (s.replying f x items) := s.modLif_only _ (by intro; rfl)

end

/-- Settles O23: what `Attention.afterRead` leaves. -/
theorem readAttentionClearsTheCauses : Obligations.ReadAttentionClearsTheCauses := by
  intro s tag ready
  let u := s.modLif fun l => { l with attention := l.attention.afterRead (s.supply != .normal) l.silence }
  have step : exec (.readAttention tag []) s = .next (u.replying ⟨0x03, tag, []⟩ .ok (u16 s.lif.attention.set)) :=
    exec_ready rfl ready (served_ok s true _ _ _ (.inr rfl) rfl)
  refine ⟨_, step, rfl, fun c => ?_, ?_, rfl, ?_⟩
  · change (s.lif.attention.afterRead (s.supply != .normal) s.lif.silence).has c = _
    have apart : (Cause.supply == Cause.hostsil) = false ∧ (Cause.hostsil == Cause.supply) = false := ⟨rfl, rfl⟩
    cases c <;> simp [Attention.has, Attention.afterRead, apart]
  · simp [State.attn, u, State.replying, Attention.afterRead]
  · refine OnlyChanges.andThen (l := [.attention]) ?_ (u.replying_only _ _ _)
    intro p hp; cases p <;> first | rfl | exact absurd (by simp) hp

/-- Settles O22: what the service of READ_LINES leaves of HLM. -/
theorem readLinesTakesASnapshot : Obligations.ReadLinesTakesASnapshot := by
  intro s tag ready m
  let u := (readLinesService s).1
  have hlm : u.hlm = { lines := updAll s.hlm.lines fun _ r => r.afterRead, summaryNo := nextSummary s.hlm.summaryNo,
                       detail := some (nextSummary s.hlm.summaryNo, .ofFn fun n => s.hlm.lines[n].snap) } := rfl
  have step : exec (.readLines tag []) s =
      .next (u.replying ⟨0x10, tag, []⟩ .ok (s.summaryItems (nextSummary s.hlm.summaryNo))) :=
    exec_ready rfl ready (served_ok s _ _ _ _ (.inl m) rfl)
  refine ⟨_, step, rfl, ⟨_, rfl, fun n => ?_⟩, fun n => ?_, rfl, rfl, ?_⟩
  · simp [LineRec.snap, State.line]
  · change u.hlm.lines[n] = _
    rw [hlm]
    exact updAll_get _ _ _
  · exact (s.modHlm_only _).andThen (State.replying_only _ _ _ _)

/-! ### SET_MODE, RESTART and the configuration -/

section
variable {s : State} {tag x : Byte} {t : State} {y : Status}

theorem exec_setMode (ready : Ready ⟨0x04, tag, [x]⟩ s) (m : s.mode ≠ .startup)
    (h : setModeService x.toNat s = (t, y, [])) :
    exec (.setMode tag [x]) s = .next (t.replying ⟨0x04, tag, [x]⟩ y []) :=
  exec_ready rfl ready ((served_ok s _ _ _ _ (.inl m) rfl).trans h)

theorem Mode.ofCode_beyond {v : Nat} (h : 7 ≤ v) : Mode.ofCode v = none := by
  obtain ⟨k, rfl⟩ : ∃ k, v = k + 7 := ⟨v - 7, by omega⟩
  rfl

/-- R12 to R14: the targets that are refused in a mode. -/
theorem setModeService_refusedMode (h : (x = 0x02 ∧ s.mode ≠ .standby ∧ s.mode ≠ .unconfigured) ∨
    (x = 0x03 ∧ s.mode ≠ .setup) ∨ (x = 0x04 ∧ s.mode ≠ .setup ∧ s.mode ≠ .workshop) ∨
    (x = 0x05 ∧ s.mode ≠ .run) ∨ (x = 0x06 ∧ s.mode ≠ .standby)) :
    setModeService x.toNat s = (s, .refusedMode, []) := by
  obtain ⟨rfl, a, b⟩ | ⟨rfl, a⟩ | ⟨rfl, a, b⟩ | ⟨rfl, a⟩ | ⟨rfl, a⟩ := h
  · exact if_neg (not_or.mpr ⟨a, b⟩)
  · exact if_neg a
  · exact (if_neg a).trans (if_neg b)
  · exact if_neg a
  · exact if_neg a

end

/-- R77, R183: the end of all forcing lets go of the needles. -/
theorem State.leaveWorkshop_needle (s : State) (k : Fin 6) : s.leaveWorkshop.needle k = (s.needle k).unforce := by
  have before : OnlyChanges [.mctl, .forcing, .pru] s (s.setMode .run).endLampForces :=
    (s.setMode_only _).andThen (State.endLampForces_only _)
  have after : OnlyChanges [.forcing, .pru] (s.setMode .run).endLampForces.endNeedleForces s.leaveWorkshop :=
    (State.endChimeIfForced_only _).andThen (State.refreshPru_only _)
  have ndr : s.leaveWorkshop.ndr = (s.setMode .run).endLampForces.endNeedleForces.ndr := after.same .ndr
  have ndr' : (s.setMode .run).endLampForces.ndr = s.ndr := before.same .ndr
  rw [State.needle, ndr, State.needle, ← ndr']
  exact updAll_get _ _ _

/-- Settles O24, by target and mode. -/
theorem setModeFollowsItsTable : Obligations.SetModeFollowsItsTable := by
  refine ⟨fun s tag x ready m => ⟨?_, ?_, fun h => exec_setMode ready m (setModeService_refusedMode h), fun h => ?_⟩,
    fun s tag ready m => ?_⟩
  · rintro rfl run
    have service : setModeService (0x05 : Byte).toNat s =
        if s.standing then (s.setMode .workshop, .ok, []) else (s, .denied, []) := if_pos run
    split
    case isTrue stands =>
      rw [if_pos stands] at service
      have left : s.setMode .workshop = { s with mctl := { s.mctl with mode := .workshop, sleepPending := false } } := by
        rw [State.setMode, State.modMctl, show (Mode.workshop == Mode.standby) = false from rfl, Bool.and_false]
      rw [exec_setMode ready m service, left]
    case isFalse moves =>
      rw [if_neg moves] at service
      exact exec_setMode ready m service
  · rintro rfl standby
    have service : setModeService (0x06 : Byte).toNat s =
        if s.supply.allowsWrite then (s.modMctl fun c => { c with sleepPending := true }, .ok, [])
        else (s, .denied, []) := if_pos standby
    have allows : s.supply.allowsWrite = true ↔ s.supply = .normal ∨ s.supply = .low := by
      cases s.supply <;> simp [Supply.allowsWrite]
    by_cases h : s.supply.allowsWrite = true
    · rw [if_pos h] at service
      rw [if_pos (allows.mp h)]
      exact exec_setMode ready m service
    · rw [if_neg h] at service
      rw [if_neg (mt allows.mpr h)]
      exact exec_setMode ready m service
  · refine exec_setMode ready m ?_
    obtain rfl | rfl | beyond := h
    · rfl
    · rfl
    · rw [setModeService, Mode.ofCode_beyond beyond]
  · have startup : s.mode ≠ .startup := by rw [m]; exact Mode.noConfusion
    have service : setModeService (0x04 : Byte).toNat s = (s.leaveWorkshop, .ok, []) :=
      (if_neg (by rw [m]; exact Mode.noConfusion)).trans (if_pos m)
    have only := s.leaveWorkshop_only
    refine ⟨_, exec_setMode ready startup service, s.leaveWorkshop_mctl, congrArg Wsv.records s.leaveWorkshop_wsv, ?_,
      s.leaveWorkshop_needle, ?_⟩
    · change ({ s.leaveWorkshop.lif.link with tx := _ } : Lif) = _
      rw [only.link_eq]
      rfl
    · exact only.andThen (State.replying_only _ _ _ _)

/-- Settles O27, from the three services. -/
theorem restartAndConfigurationRequests : Obligations.RestartAndConfigurationRequests := by
  refine ⟨fun s tag ready m => ?_, fun s tag ready m => ?_, fun s tag a i r w ready m length => ⟨fun mode => ?_,
    fun mode copy => ?_⟩⟩
  · have queue : s.lif.queue.take 1 = [⟨0x05, tag, []⟩] := by
      obtain ⟨rest, e⟩ := List.head?_eq_some_iff.mp ready.head
      simp [e]
    have step := exec_ready (c := .restart tag []) rfl ready (served_ok s _ _ _ _ (.inl m) rfl)
    rw [step]
    simp [State.makeCounterDue, State.modFmy, State.modLif, State.modMctl, queue]
  · have inFlight : s.storeInFlight = true ↔ s.fmy.storeRequested = true ∨ s.fmy.write.isImage = true := by
      simp [State.storeInFlight]
    have answers {t : State} {x : Status} (h : storeConfigService s = (t, x, [])) :
        exec (.storeConfig tag []) s = .next (t.replying ⟨0x0A, tag, []⟩ x []) :=
      exec_ready rfl ready ((served_ok s _ _ _ _ (.inl m) rfl).trans h)
    split
    case isTrue setup => exact answers (if_pos setup)
    case isFalse other =>
      split
      case isTrue busy => exact answers ((if_neg other).trans (if_pos (inFlight.mpr busy)))
      case isFalse free => exact answers ((if_neg other).trans (if_neg (mt inFlight.mp free)))
  all_goals
    have answers {t : State} {x : Status} (h : writeTableService (a :: i :: r) s = (t, x, [])) :
        exec (.writeTable tag (a :: i :: r)) s = .next (t.replying ⟨0x08, tag, a :: i :: r⟩ x []) := by
      refine exec_ready rfl ready ((served_ok s _ _ _ _ (.inl m) ?_).trans h)
      rw [writeTableLength_eq]
      exact length
  · exact answers (if_pos mode)
  · have service : writeTableService (a :: i :: r) s = match w.write a.toNat i.toNat r with
        | some t => ({ s with written := some t }, .ok, [])
        | none => (s, .refusedArg, []) := by
      rw [writeTableService, if_neg (not_not.mpr mode), copy]
      rfl
    cases taken : w.write a.toNat i.toNat r with
    | some t => exact answers (service.trans (by rw [taken]))
    | none => exact answers (service.trans (by rw [taken]))

end Sys2Proof.Machine
end

section
/-! PROOFS. Codes and the fault readout: a code names its mnemonic and no other, the wire form of a fault code names
that code (8.1), and READ_FAULTS walks the table (R185 to R187). -/

namespace Sys2Proof.Machine

set_option Elab.async false

/-! ### Codes -/

section
variable {n : Nat}

theorem SourceClass.ofCode_code (x : SourceClass) : SourceClass.ofCode x.code = some x := by cases x <;> rfl
theorem SourceClass.code_ofCode {x : SourceClass} (h : SourceClass.ofCode n = some x) : x.code = n := by
  unfold SourceClass.ofCode at h; split at h <;> cases h <;> rfl
theorem LineSym.ofCode_code (x : LineSym) : LineSym.ofCode x.code = some x := by cases x <;> rfl
theorem LineSym.code_ofCode {x : LineSym} (h : LineSym.ofCode n = some x) : x.code = n := by
  unfold LineSym.ofCode at h; split at h <;> cases h <;> rfl
theorem GaugeSym.ofCode_code (x : GaugeSym) : GaugeSym.ofCode x.code = some x := by cases x <;> rfl
theorem GaugeSym.code_ofCode {x : GaugeSym} (h : GaugeSym.ofCode n = some x) : x.code = n := by
  unfold GaugeSym.ofCode at h; split at h <;> cases h <;> rfl
theorem LampSym.ofCode_code (x : LampSym) : LampSym.ofCode x.code = some x := by cases x <;> rfl
theorem LampSym.code_ofCode {x : LampSym} (h : LampSym.ofCode n = some x) : x.code = n := by
  unfold LampSym.ofCode at h; split at h <;> cases h <;> rfl
theorem DoorSym.ofCode_code (x : DoorSym) : DoorSym.ofCode x.code = some x := by cases x <;> rfl
theorem DoorSym.code_ofCode {x : DoorSym} (h : DoorSym.ofCode n = some x) : x.code = n := by
  unfold DoorSym.ofCode at h; split at h <;> cases h <;> rfl
theorem SupplySym.ofCode_code (x : SupplySym) : SupplySym.ofCode x.code = some x := by cases x <;> rfl
theorem SupplySym.code_ofCode {x : SupplySym} (h : SupplySym.ofCode n = some x) : x.code = n := by
  unfold SupplySym.ofCode at h; split at h <;> cases h <;> rfl
theorem DoorSym.code_lt (x : DoorSym) : x.code < 6 := by cases x <;> decide
theorem finOf_val (k : Fin n) : finOf n k.val = some k := dif_pos k.isLt

end

/-! ### Fault codes on the wire (8.1) -/

theorem FaultCode.ofWire_names (c : FaultCode) : FaultCode.ofWire c.sourceClass.code c.index c.symptom = some c := by
  rw [FaultCode.ofWire, SourceClass.ofCode_code]
  cases c
  case line n y => simp [FaultCode.sourceClass, FaultCode.index, FaultCode.symptom, finOf_val, LineSym.ofCode_code]
  case gauge k y => simp [FaultCode.sourceClass, FaultCode.index, FaultCode.symptom, finOf_val, GaugeSym.ofCode_code]
  case lamp n y => simp [FaultCode.sourceClass, FaultCode.index, FaultCode.symptom, finOf_val, LampSym.ofCode_code]
  case door d y =>
    have other : y.code ≠ 6 := (y.code_lt).ne
    simp [FaultCode.sourceClass, FaultCode.index, FaultCode.symptom, finOf_val, DoorSym.ofCode_code, other]
  case rule m => simp [FaultCode.sourceClass, FaultCode.index, FaultCode.symptom, finOf_val]
  case supply y => simp [FaultCode.sourceClass, FaultCode.index, FaultCode.symptom, SupplySym.ofCode_code]
  case slotLost n => simp [FaultCode.sourceClass, FaultCode.index, FaultCode.symptom, finOf_val]
  case override | hostSilent | imageBad => rfl

theorem FaultCode.of_ofWire {a i y : Nat} {c : FaultCode} (h : FaultCode.ofWire a i y = some c) :
    a = c.sourceClass.code ∧ i = c.index ∧ y = c.symptom := by
  unfold FaultCode.ofWire at h
  split at h
  case h_1 cls | h_2 cls | h_3 cls =>
    rw [← SourceClass.code_ofCode cls]
    simp only [Option.bind_eq_bind, Option.bind_eq_some_iff, Option.pure_def, Option.some.injEq] at h
    obtain ⟨n, hn, y', hy, rfl⟩ := h
    refine ⟨rfl, finOf_eq_some_iff.mp hn, ?_⟩
    first
      | exact (LineSym.code_ofCode hy).symm
      | exact (GaugeSym.code_ofCode hy).symm
      | exact (LampSym.code_ofCode hy).symm
  case h_4 cls =>
    rw [← SourceClass.code_ofCode cls]
    split at h
    · split at h <;> cases h
      exact ⟨rfl, ‹_›, ‹_›⟩
    · split at h
      · cases h
      case isFalse zero =>
        simp only [Option.bind_eq_bind, Option.bind_eq_some_iff, Option.pure_def, Option.some.injEq] at h
        obtain ⟨d, hd, y', hy, rfl⟩ := h
        have place := finOf_eq_some_iff.mp hd
        exact ⟨rfl, show i = d.val + 1 by omega, (DoorSym.code_ofCode hy).symm⟩
  case h_5 cls =>
    rw [← SourceClass.code_ofCode cls]
    split at h
    case isFalse => cases h
    case isTrue zero =>
      obtain ⟨m, hm, rfl⟩ := Option.map_eq_some_iff.mp h
      exact ⟨rfl, finOf_eq_some_iff.mp hm, zero⟩
  case h_6 cls =>
    rw [← SourceClass.code_ofCode cls]
    split at h
    case isFalse => cases h
    case isTrue zero =>
      obtain ⟨y', hy, rfl⟩ := Option.map_eq_some_iff.mp h
      exact ⟨rfl, zero, (SupplySym.code_ofCode hy).symm⟩
  case h_7 cls =>
    rw [← SourceClass.code_ofCode cls]
    split at h <;> cases h
    rename_i zero
    exact ⟨rfl, zero.1, zero.2⟩
  case h_8 cls =>
    rw [← SourceClass.code_ofCode cls]
    split at h
    · split at h <;> cases h
      exact ⟨rfl, ‹_›, ‹_›⟩
    · split at h
      case isFalse => cases h
      case isTrue one =>
        obtain ⟨n, hn, rfl⟩ := Option.map_eq_some_iff.mp h
        exact ⟨rfl, finOf_eq_some_iff.mp hn, one⟩
  case h_9 => cases h

/-! ### The readout (R185 to R187) -/

/-- Some entries by their positions, and the entries with their positions. -/
theorem flatMap_range_getElem {α β : Type} (g : Nat → α → List β) (n : Nat) : ∀ (l : List α) (k : Nat),
    (List.range n).flatMap (fun i => ((l[i]?).map (g (k + i))).getD []) =
      ((l.take n).zipIdx k).flatMap fun q => g q.2 q.1 := by
  induction n with
  | zero => exact fun _ _ => rfl
  | succ n ih =>
    intro l k
    cases l with
    | nil => simp
    | cons a l =>
      rw [List.range_succ_eq_map, List.flatMap_cons, List.flatMap_map, List.take_succ_cons, List.zipIdx_cons,
        List.flatMap_cons, ← ih l (k + 1)]
      simp [Nat.add_assoc, Nat.add_comm 1]

theorem Fmy.entriesFrom_eq (m : Fmy) (c n : Nat) : m.entriesFrom c n =
    (((m.table.drop c).take n).zipIdx c).flatMap fun q => FaultEntry.bytes q.2 q.1 := by
  rw [← flatMap_range_getElem (fun i e => FaultEntry.bytes i e) n (m.table.drop c) c]
  simp only [Fmy.entriesFrom, List.getElem?_drop]

theorem Mode.not_startup_of_isTimed {m : Mode} (h : m.isTimed = true) : m ≠ .startup := by
  rintro rfl
  cases h

theorem readout_timed {s : State} {k : Service} (h : s.mode.isTimed = true) : readout k s = k s := if_pos h

/-- Settles O34: the three readout requests, and the wire form of a fault code both ways. -/
theorem faultsAreReadOut : Obligations.FaultsAreReadOut := by
  refine ⟨⟨fun s tag ready timed within => ?_, fun s tag x ready timed => ?_, fun s tag a i y ready timed => ?_⟩,
    FaultCode.ofWire_names, fun a i y c => FaultCode.of_ofWire⟩
  · have m := Mode.not_startup_of_isTimed timed
    have service := (served_ok s false (ofLength 0) [] (readout readFaultsService) (.inl m) rfl).trans
      (readout_timed timed)
    refine ⟨_, min 4 (s.fmy.table.length - s.wsv.cursor), _, exec_ready rfl ready service, rfl, rfl, rfl, ?_, ?_⟩
    · have flag (a b : Nat) : bits [a == b] = if a = b then 1 else 0 := by
        by_cases h : a = b <;> simp [bits, h]
      rw [← flag, ← Fmy.entriesFrom_eq]
      rfl
    · exact (s.modWsv_cursor _ (by intro; rfl)).andThen (State.replying_only _ _ _ _)
  · have m := Mode.not_startup_of_isTimed timed
    have service := (served_ok s false (ofLength 1) [x] (readout (setFaultCursorService x.toNat)) (.inl m) rfl).trans
      (readout_timed timed)
    split
    case isTrue h => exact exec_ready rfl ready (service.trans (if_pos h))
    case isFalse h => exact exec_ready rfl ready (service.trans (if_neg h))
  · have m := Mode.not_startup_of_isTimed timed
    have service := (served_ok s false (ofLength 3) [a, i, y] (readout (readFaultDetailService [a, i, y])) (.inl m)
      rfl).trans (readout_timed timed)
    have detail : readFaultDetailService [a, i, y] s = match FaultCode.ofWire a.toNat i.toNat y.toNat with
      | some code => (s, .ok, s.fmy.detailItems code)
      | none => (s, .refusedArg, []) := rfl
    cases h : FaultCode.ofWire a.toNat i.toNat y.toNat with
    | some code => exact exec_ready rfl ready (service.trans (detail.trans (by rw [h])))
    | none => exact exec_ready rfl ready (service.trans (detail.trans (by rw [h])))

end Sys2Proof.Machine
end

section
/-! PROOFS. The forcing records (9.2): the three requests that create them, and the ways in which they end. -/

namespace Sys2Proof.Machine

set_option Elab.async false

/-! ### Fields -/

theorem toNat_append_bytes (hi lo : Byte) : (hi ++ lo : BitVec 16).toNat = 256 * hi.toNat + lo.toNat := by
  have small := lo.isLt
  rw [BitVec.toNat_append, ← Nat.shiftLeft_add_eq_or_of_lt small, Nat.shiftLeft_eq]
  omega

theorem Level.ofCode_code (x : Level) : Level.ofCode x.code = some x := by cases x <;> rfl
theorem Level.ofCode_beyond {v : Nat} (h : 4 ≤ v) : Level.ofCode v = none := by
  obtain ⟨k, rfl⟩ : ∃ k, v = k + 4 := ⟨v - 4, by omega⟩
  rfl
theorem patternOfCode_code (x : Option Pattern) : patternOfCode (patternCode x) = some x := by
  cases x with
  | none => rfl
  | some p => cases p <;> rfl
theorem patternOfCode_beyond {v : Nat} (h : 5 ≤ v) : patternOfCode v = none := by
  obtain ⟨k, rfl⟩ : ∃ k, v = k + 5 := ⟨v - 5, by omega⟩
  rfl
theorem finOf_beyond {n v : Nat} (h : n ≤ v) : finOf n v = none := dif_neg (by omega)

theorem durationOk_iff {d limit : Nat} : durationOk d limit = true ↔ 100 ≤ d ∧ d ≤ limit ∧ d % 100 = 0 := by
  simp [durationOk, within, and_assoc]

/-! ### The services -/

section
variable {s t : State} {f : Frame} {c : Instr} {ok : Nat → Bool} {k : Service} {x : Status} {items : List Byte}

/-- A workshop request that is served leaves the state of its service, with the reply begun. -/
theorem exec_inWorkshop (request : requestFrame c = some f) (ready : Ready f s) (m : s.mode = .workshop)
    (service : requestService c = servedInWorkshop ok f.payload k) (length : ok f.payload.length = true)
    (h : k s = (t, x, items)) : exec c s = .next (t.replying f x items) :=
  exec_ready request ready (by rw [service, servedInWorkshop_ok s _ _ _ m length, h])

variable {a b hi lo : Byte}

theorem forceLampService_creates {n : Fin 24} {l : Level} (ha : a.toNat = n.val) (hb : b.toNat = l.code)
    (ok : durationOk (hi ++ lo : BitVec 16).toNat 30000 = true) :
    forceLampService [a, b, hi, lo] s = (s.forceLamp n l (hi ++ lo : BitVec 16).toNat, .ok, []) := by
  have place : finOf 24 (rd8 [a, b, hi, lo] 0) = some n := finOf_eq_some_iff.mpr ha
  have level : Level.ofCode (rd8 [a, b, hi, lo] 1) = some l := (congrArg Level.ofCode hb).trans l.ofCode_code
  have time : rd16 [a, b, hi, lo] 2 = (hi ++ lo : BitVec 16).toNat := (toNat_append_bytes hi lo).symm
  rw [forceLampService, place, level]
  dsimp only
  rw [time, if_pos ok]

theorem forceLampService_refuses (h : 24 ≤ a.toNat ∨ 4 ≤ b.toNat ∨ durationOk (hi ++ lo : BitVec 16).toNat 30000 = false) :
    forceLampService [a, b, hi, lo] s = (s, .refusedArg, []) := by
  have time : rd16 [a, b, hi, lo] 2 = (hi ++ lo : BitVec 16).toNat := (toNat_append_bytes hi lo).symm
  unfold forceLampService
  split
  case h_1 n l place level =>
    have bad : durationOk (hi ++ lo : BitVec 16).toNat 30000 = false := by
      obtain high | high | bad := h
      · exact absurd (place.symm.trans (finOf_beyond high)) (by simp)
      · exact absurd (level.symm.trans (Level.ofCode_beyond high)) (by simp)
      · exact bad
    rw [time, if_neg (by simp [bad])]
  case h_2 => rfl

theorem forceNeedleService_creates {k : Fin 6} (ha : a.toNat = k.val)
    (within : (hi ++ lo : BitVec 16).toNat ≤ (s.channelCfg k).pmax) :
    forceNeedleService [a, hi, lo] s = (s.forceNeedle k (hi ++ lo : BitVec 16).toNat, .ok, []) := by
  have place : finOf 6 (rd8 [a, hi, lo] 0) = some k := finOf_eq_some_iff.mpr ha
  have position : rd16 [a, hi, lo] 1 = (hi ++ lo : BitVec 16).toNat := (toNat_append_bytes hi lo).symm
  rw [forceNeedleService, place]
  dsimp only
  rw [position, if_pos within]

theorem forceNeedleService_refuses
    (h : 6 ≤ a.toNat ∨ ∃ k : Fin 6, a.toNat = k.val ∧ (s.channelCfg k).pmax < (hi ++ lo : BitVec 16).toNat) :
    forceNeedleService [a, hi, lo] s = (s, .refusedArg, []) := by
  have position : rd16 [a, hi, lo] 1 = (hi ++ lo : BitVec 16).toNat := (toNat_append_bytes hi lo).symm
  unfold forceNeedleService
  obtain high | ⟨k, ha, beyond⟩ := h
  · have place : finOf 6 (rd8 [a, hi, lo] 0) = none := finOf_beyond high
    rw [place]
  · have place : finOf 6 (rd8 [a, hi, lo] 0) = some k := finOf_eq_some_iff.mpr ha
    rw [place]
    dsimp only
    rw [position, if_neg beyond.not_ge]

theorem forceChimeService_creates {p : Pattern} (ha : a.toNat = patternCode (some p))
    (ok : durationOk (hi ++ lo : BitVec 16).toNat 10000 = true) :
    forceChimeService [a, hi, lo] s = (s.forceChime p (hi ++ lo : BitVec 16).toNat, .ok, []) := by
  have pattern : patternOfCode (rd8 [a, hi, lo] 0) = some (some p) :=
    (congrArg patternOfCode ha).trans (patternOfCode_code _)
  have time : rd16 [a, hi, lo] 1 = (hi ++ lo : BitVec 16).toNat := (toNat_append_bytes hi lo).symm
  rw [forceChimeService, pattern]
  dsimp only
  rw [time, if_pos ok]

theorem forceChimeService_refuses
    (h : a = 0 ∨ 5 ≤ a.toNat ∨ durationOk (hi ++ lo : BitVec 16).toNat 10000 = false) :
    forceChimeService [a, hi, lo] s = (s, .refusedArg, []) := by
  have time : rd16 [a, hi, lo] 1 = (hi ++ lo : BitVec 16).toNat := (toNat_append_bytes hi lo).symm
  unfold forceChimeService
  split
  case h_1 p pattern =>
    have bad : durationOk (hi ++ lo : BitVec 16).toNat 10000 = false := by
      obtain rfl | high | bad := h
      · cases pattern
      · exact absurd (pattern.symm.trans (patternOfCode_beyond high)) (by simp)
      · exact bad
    rw [time, if_neg (by simp [bad])]
  case h_2 => rfl

end

/-! ### What a record brings about -/

section
variable (s : State)

/-- R178, R179: a forced lamp shows its record, or a higher critical demand, where nothing holds its level. -/
theorem State.forceLamp_published (n : Fin 24) (l : Level) (d : Nat) (m : s.mode = .workshop) :
    ((s.forceLamp n l d).lamp n).published = if s.lampsFrozen = true then (s.lamp n).published
      else if s.pru.lampCheck.isRunning = true ∧ (s.lampCfg n).participates = true then .on
      else l.max (s.criticalDemand n) := by
  let v := s.modWsv fun w => { w with lamps := w.lamps.set n (some ⟨l, d, .running s.now⟩) }
  have published := v.refreshPru_published n
  have mode : v.mode = .workshop := m
  have record : v.wsv.lamps[n] = some ⟨l, d, .running s.now⟩ := by simp [v]
  have level : v.presentedLevel n =
      if s.pru.lampCheck.isRunning = true ∧ (s.lampCfg n).participates = true then .on
      else l.max (s.criticalDemand n) := by
    rw [State.presentedLevel, mode, record]
    simp only [Bool.and_eq_true]
    rfl
  rw [level] at published
  exact published

theorem State.forceLamp_wsv (n : Fin 24) (l : Level) (d : Nat) : (s.forceLamp n l d).wsv =
    { s.wsv with lamps := s.wsv.lamps.set n (some ⟨l, d, .running s.now⟩) } :=
  (State.refreshPru_only _).wsv_eq

/-- R182: a forced chime silences the arbiter and starts its pattern. -/
theorem State.forceChime_pru (p : Pattern) (d : Nat) : (s.forceChime p d).pru =
    { s.pru with winner := none, tone := true, patternStart := s.now } := by
  let v := s.modWsv fun w => { w with chime := some ⟨p, d, .running s.now⟩ }
  have due : v.dueWinner = none := by
    rw [State.dueWinner, if_pos (by simp [State.chimeSilenced, v])]
  have now : v.refreshChime.now = s.now := v.refreshChime_only.same .now
  have chime : (s.forceChime p d).pru = { v.refreshChime.pru with patternStart := v.refreshChime.now, tone := true } :=
    rfl
  rw [chime, now, v.refreshChime_pru, due]
  rfl

theorem State.forceChime_wsv (p : Pattern) (d : Nat) : (s.forceChime p d).wsv =
    { s.wsv with chime := some ⟨p, d, .running s.now⟩ } :=
  ((State.refreshChime_only _).trans (State.startPattern_only _)).wsv_eq

theorem State.forceNeedle_ndr (k : Fin 6) (p : Nat) :
    ((s.forceNeedle k p).needle k = (s.needle k).takeForce) ∧
      ∀ j, j ≠ k → (s.forceNeedle k p).needle j = s.needle j := by
  have ended (u : State) (j : Fin 6) : u.endSweep.needle j = u.needle j := by
    obtain ⟨-, -, e⟩ | ⟨-, e⟩ := u.endSweep_cases
    · rw [e]; rfl
    · rw [e]
  refine ⟨?_, fun j other => ?_⟩
  · rw [State.forceNeedle, State.needleForced, ended, State.modNeedle_same]
    rfl
  · rw [State.forceNeedle, State.needleForced, ended, State.modNeedle_other _ _ _ _ other.symm]
    rfl

theorem State.forceNeedle_wsv (k : Fin 6) (p : Nat) : (s.forceNeedle k p).wsv =
    { s.wsv with needles := s.wsv.needles.set k (some p) } :=
  (State.needleForced_only _ _).wsv_eq

end

/-- Settles O35: each request with its fields in range creates its record, and is refused otherwise. -/
theorem forcingCreatesRecords : Obligations.ForcingCreatesRecords := by
  refine ⟨fun s tag a x hi lo ready m => ⟨fun n l ha hx low high step => ?_, fun bad => ?_⟩,
    fun s tag a hi lo ready m => ⟨fun k ha within => ?_, fun bad => ?_⟩,
    fun s tag x hi lo ready m => ⟨fun p hx low high step => ?_, fun bad => ?_⟩⟩
  · have service := forceLampService_creates (s := s) ha hx (durationOk_iff.mpr ⟨low, high, step⟩)
    have only := s.forceLamp_only n l (hi ++ lo : BitVec 16).toNat
    have published := s.forceLamp_published n l (hi ++ lo : BitVec 16).toNat m
    refine ⟨_, exec_inWorkshop rfl ready m rfl rfl service, s.forceLamp_wsv n l _, ?_, fun frozen => ?_,
      fun free => ?_, only.andThen (State.replying_only _ _ _ _)⟩
    · rw [State.replying, State.modLif_lif, only.lif_eq]
    · exact published.trans (if_pos frozen)
    · exact published.trans (if_neg (by simp [free]))
  · refine exec_inWorkshop rfl ready m rfl rfl (forceLampService_refuses ?_)
    obtain h | h | h := bad
    · exact .inl h
    · exact .inr (.inl h)
    · refine .inr (.inr (Bool.eq_false_iff.mpr fun ok => ?_))
      have := durationOk_iff.mp ok
      omega
  · have service := forceNeedleService_creates (s := s) ha within
    have only := s.forceNeedle_only k (hi ++ lo : BitVec 16).toNat
    obtain ⟨own, others⟩ := s.forceNeedle_ndr k (hi ++ lo : BitVec 16).toNat
    refine ⟨_, exec_inWorkshop rfl ready m rfl rfl service, s.forceNeedle_wsv k _, ?_, others, rfl, ?_,
      only.andThen (State.replying_only _ _ _ _)⟩
    · refine own.trans ?_
      unfold Needle.takeForce
      split <;> simp_all
    · change ({ (s.forceNeedle k _).lif.link with tx := _ } : Lif) = _
      rw [only.link_eq]
  · exact exec_inWorkshop rfl ready m rfl rfl (forceNeedleService_refuses bad)
  · have service := forceChimeService_creates (s := s) hx (durationOk_iff.mpr ⟨low, high, step⟩)
    have only := s.forceChime_only p (hi ++ lo : BitVec 16).toNat
    refine ⟨_, exec_inWorkshop rfl ready m rfl rfl service, s.forceChime_wsv p _, s.forceChime_pru p _, ?_, ?_,
      only.andThen (State.replying_only _ _ _ _)⟩
    · rw [State.pattern, show (State.replying _ _ _ (s.forceChime p _)).wsv.chime = _ from
        congrArg Wsv.chime (s.forceChime_wsv p (hi ++ lo : BitVec 16).toNat)]
    · rw [State.replying, State.modLif_lif, only.lif_eq]
  · refine exec_inWorkshop rfl ready m rfl rfl (forceChimeService_refuses ?_)
    obtain h | h | h := bad
    · exact .inl h
    · exact .inr (.inl h)
    · refine .inr (.inr (Bool.eq_false_iff.mpr fun ok => ?_))
      have := durationOk_iff.mp ok
      omega

/-! ### The ends of the records (R183) -/

section
variable {s : State}

theorem Vector.set_eq_self {α : Type} {N : Nat} {v : Vector α N} {k : Nat} {x : α} (lt : k < N) (h : v[k] = x) :
    v.set k x = v := by rw [← h, Vector.set_getElem_self]

/-- R183: END_FORCING takes the record of the lamp away, whether there was one or not. -/
theorem State.endTarget_lamp_wsv (n : Fin 24) :
    (s.endTarget (.lamp n)).wsv = { s.wsv with lamps := s.wsv.lamps.set n none } := by
  unfold State.endTarget
  split
  case isTrue none_held =>
    have none_there : s.wsv.lamps[n] = none := by simpa [Wsv.held] using none_held
    rw [Vector.set_eq_self n.isLt none_there]
  case isFalse => exact (State.refreshPru_only _).wsv_eq

theorem State.endTarget_needle_wsv (k : Fin 6) :
    (s.endTarget (.needle k)).wsv = { s.wsv with needles := s.wsv.needles.set k none } := by
  unfold State.endTarget
  split
  case isTrue none_held =>
    have none_there : s.wsv.needles[k] = none := by simpa [Wsv.held] using none_held
    rw [Vector.set_eq_self k.isLt none_there]
  case isFalse => exact (State.modNeedle_only _ _ _).wsv_eq

theorem State.endChimeForce_wsv : s.endChimeForce.wsv = { s.wsv with chime := none } :=
  ((State.soundOff_only _).trans (State.refreshChime_only _)).wsv_eq

theorem State.endTarget_chime_wsv : (s.endTarget .chime).wsv = { s.wsv with chime := none } := by
  unfold State.endTarget
  split
  case isTrue none_held =>
    have none_there : s.wsv.chime = none := by simpa [Wsv.held] using none_held
    rw [← none_there]
  case isFalse => exact s.endChimeForce_wsv

/-- R183: nothing is held once every record has ended. -/
theorem State.endTarget_all_records : (s.endTarget .all).wsv.records = 0 := by
  unfold State.endTarget
  split
  case isTrue none_held => exact none_held
  case isFalse => rw [s.endAllForcing_wsv]; rfl

/-- R77: the forced needle whose record ends tracks its target; the others stay. -/
theorem State.endTarget_needle (k : Fin 6) :
    ((s.wsv.needles[k]).isSome = true → (s.endTarget (.needle k)).needle k = (s.needle k).unforce) ∧
      ∀ j, j ≠ k → (s.endTarget (.needle k)).needle j = s.needle j := by
  unfold State.endTarget
  split
  case isTrue none_held =>
    refine ⟨fun some_there => ?_, fun _ _ => rfl⟩
    have none_there : s.wsv.needles[k] = none := by simpa [Wsv.held] using none_held
    rw [none_there] at some_there
    cases some_there
  case isFalse =>
    exact ⟨fun _ => State.modNeedle_same _ _ _, fun j other => State.modNeedle_other _ _ _ _ other.symm⟩

/-- R129: the sounder that was silent stays so when no winner is found. -/
theorem State.refreshChime_silent (quiet : s.pru.tone = false) (none_won : s.refreshChime.pru.winner = none) :
    s.refreshChime.pru.tone = false := by
  rw [s.refreshChime_pru] at none_won ⊢
  dsimp only at none_won ⊢
  split
  · exact quiet
  · rw [none_won]; rfl

/-- R128, R182: the arbiter decides a winner again. -/
theorem State.endChimeForce_winner : s.endChimeForce.pru.winner = s.endChimeForce.dueWinner := by
  have settled (u : State) : u.refreshChime.pru.winner = u.refreshChime.dueWinner := by
    rw [u.refreshChime_putsOut.readsSame.dueWinner, u.refreshChime_pru]
  exact settled _

theorem ForceTarget.ofByte_lamp {v : Nat} {n : Fin 24} (h : v = 0x20 + n.val) :
    ForceTarget.ofByte v = some (.lamp n) := by
  have place : finOf 24 (v - 0x20) = some n := finOf_eq_some_iff.mpr (by omega)
  rw [ForceTarget.ofByte, if_neg (by omega), if_neg (by omega), if_neg (by omega), if_pos (by omega), place]
  rfl

theorem ForceTarget.ofByte_needle {v : Nat} {k : Fin 6} (h : v = 0x40 + k.val) :
    ForceTarget.ofByte v = some (.needle k) := by
  have place : finOf 6 (v - 0x40) = some k := finOf_eq_some_iff.mpr (by omega)
  rw [ForceTarget.ofByte, if_neg (by omega), if_neg (by omega), if_pos (by omega), place]
  rfl

theorem ForceTarget.ofByte_none {v : Nat} (all : v ≠ 0) (chime : v ≠ 0x60) (lamp : ¬ (0x20 ≤ v ∧ v < 0x38))
    (needle : ¬ (0x40 ≤ v ∧ v < 0x46)) : ForceTarget.ofByte v = none := by
  rw [ForceTarget.ofByte, if_neg all, if_neg chime]
  split
  · rw [finOf_beyond (by omega)]; rfl
  · split
    · rw [finOf_beyond (by omega)]; rfl
    · rfl

variable {tag x : Byte}

/-- R183: END_FORCING counts the records that its target names, and ends them. -/
theorem exec_endForcing (ready : Ready ⟨0x73, tag, [x]⟩ s) (m : s.mode = .workshop) {target : ForceTarget}
    (named : ForceTarget.ofByte x.toNat = some target) :
    exec (.endForcing tag [x]) s =
      .next ((s.endTarget target).replying ⟨0x73, tag, [x]⟩ .ok [BitVec.ofNat 8 (s.wsv.held target)]) := by
  refine exec_inWorkshop rfl ready m rfl rfl ?_
  have named : ForceTarget.ofByte (rd8 [x] 0) = some target := named
  rw [endForcingService, named]
  rfl

theorem exec_endForcing_refuses (ready : Ready ⟨0x73, tag, [x]⟩ s) (m : s.mode = .workshop)
    (named : ForceTarget.ofByte x.toNat = none) :
    exec (.endForcing tag [x]) s = .next (s.replying ⟨0x73, tag, [x]⟩ .refusedArg []) := by
  refine exec_inWorkshop rfl ready m rfl rfl ?_
  have named : ForceTarget.ofByte (rd8 [x] 0) = none := named
  rw [endForcingService, named]

theorem ofNat_ite_one {p : Prop} [Decidable p] :
    BitVec.ofNat 8 (if p then 1 else 0) = if p then (1 : Byte) else 0 := by split <;> rfl

theorem OnlyChanges.replying_lif {ps : List Part} {t : State} (only : OnlyChanges ps s t) (f : Frame) (y : Status)
    (items : List Byte) (link : partsIn [.link] ps = false := by rfl) (attention : partsIn [.attention] ps = false := by rfl) :
    (t.replying f y items).lif = { s.lif with tx := some (f.reply y items) } := by
  rw [State.replying, State.modLif_lif, only.lif_eq link attention]

end

/-- Settles O36: END_FORCING by its target, and the two ends by time. -/
theorem forcingEnds : Obligations.ForcingEnds := by
  refine ⟨fun s tag ready m => ?_, fun s tag x n ready m hx => ?_, fun s tag x k ready m hx => ?_,
    fun s tag ready m => ?_, fun s tag x ready m all chime lamp needle => ?_,
    fun s n r since live there running => ?_, fun s r since live there running => ?_⟩
  · have only := s.endTarget_only .all
    exact ⟨_, exec_endForcing ready m rfl, s.endTarget_all_records, only.replying_lif _ _ _,
      only.andThen (State.replying_only _ _ _ _)⟩
  · have only : OnlyChanges [.pru, .forcing] s (s.endTarget (.lamp n)) :=
      .ite (.refl _ _) (s.endLampForce_only n).mono
    refine ⟨_, exec_endForcing ready m (ForceTarget.ofByte_lamp hx), s.endTarget_lamp_wsv n, ?_,
      only.andThen (State.replying_only _ _ _ _)⟩
    rw [only.replying_lif, Wsv.held, ofNat_ite_one]
  · have only : OnlyChanges [.ndr, .forcing] s (s.endTarget (.needle k)) :=
      .ite (.refl _ _) (s.endNeedleForce_only k).mono
    obtain ⟨own, others⟩ := s.endTarget_needle k
    refine ⟨_, exec_endForcing ready m (ForceTarget.ofByte_needle hx), s.endTarget_needle_wsv k, own, others, ?_,
      only.andThen (State.replying_only _ _ _ _)⟩
    rw [only.replying_lif, Wsv.held, ofNat_ite_one]
  · have only : OnlyChanges [.pru, .forcing] s (s.endTarget .chime) :=
      .ite (.refl _ _) s.endChimeForce_only.mono
    refine ⟨_, exec_endForcing ready m rfl, s.endTarget_chime_wsv, ?_, only.andThen (State.replying_only _ _ _ _)⟩
    rw [only.replying_lif, Wsv.held, ofNat_ite_one]
  · have (v : Byte) (h : x ≠ v) : x.toNat ≠ v.toNat := mt BitVec.eq_of_toNat_eq h
    exact exec_endForcing_refuses ready m (ForceTarget.ofByte_none (this 0 all) (this 0x60 chime) lamp needle)
  · have only := (s.reach_only (since + ms r.duration)).andThen (State.endLampForce_only _ n) (n := [.now, .pru, .forcing])
    refine ⟨(s.reach (since + ms r.duration)).endLampForce n, ?_, ?_, (State.refreshPru_only _).wsv_eq, only⟩
    · rw [exec_runs _ s rfl live, eventEffect, there]
      dsimp only
      rw [running, atExpiry_running]
    · exact (State.endLampForce_only _ n).same .now
  · have only := (s.reach_only (since + ms r.duration)).andThen (State.endChimeForce_only _) (n := [.now, .pru, .forcing])
    refine ⟨(s.reach (since + ms r.duration)).endChimeForce, ?_, ?_, State.endChimeForce_wsv,
      State.endChimeForce_winner, State.refreshChime_silent rfl, only⟩
    · rw [exec_runs _ s rfl live, eventEffect, there]
      dsimp only
      rw [running, atExpiry_running]
    · exact (State.endChimeForce_only _).same .now

end Sys2Proof.Machine
end

section
/-! PROOFS. The line records (2.3, 2.4): the fault status as a walk of the record, with the reports that it makes, and
the comparator of a PULSE line. -/

namespace Sys2Proof.Machine

set_option Elab.async false

/-! ### Two states in which a report does the same to the fault memory -/

/-- The two states agree in all that a report reads. -/
structure ReportsAlike (s t : State) : Prop where
  fmy : t.fmy = s.fmy
  snapshot : t.takeSnapshot = s.takeSnapshot
  tables : t.tables = s.tables

section
variable {s t : State}

theorem OnlyChanges.reportsAlike {l : List Part} (h : OnlyChanges l s t)
    (fmy : partsIn [.fmy] l = false := by with_unfolding_all rfl)
    (mctl : partsIn [.mctl] l = false := by with_unfolding_all rfl)
    (gve : partsIn [.gve] l = false := by with_unfolding_all rfl)
    (dmn : partsIn [.dmn] l = false := by with_unfolding_all rfl)
    (tables : partsIn [.tables] l = false := by with_unfolding_all rfl) : ReportsAlike s t :=
  ⟨h.same .fmy fmy, h.takeSnapshot mctl gve dmn tables, h.same .tables tables⟩

theorem ReportsAlike.trans {u : State} (h : ReportsAlike s t) (k : ReportsAlike t u) : ReportsAlike s u :=
  ⟨k.fmy.trans h.fmy, k.snapshot.trans h.snapshot, k.tables.trans h.tables⟩

theorem ReportsAlike.active (h : ReportsAlike s t) (c : FaultCode) :
    ReportsAlike (s.reportActive c) (t.reportActive c) where
  fmy := State.reportActive_fmy_congr h.fmy c (fun _ => h.snapshot) h.tables
  snapshot := by rw [(t.reportActive_only c).takeSnapshot, h.snapshot, (s.reportActive_only c).takeSnapshot]
  tables := ((t.reportActive_only c).same .tables).trans (h.tables.trans ((s.reportActive_only c).same .tables).symm)

theorem ReportsAlike.cleared (h : ReportsAlike s t) (c : FaultCode) :
    ReportsAlike (s.reportCleared c) (t.reportCleared c) where
  fmy := State.reportCleared_fmy_congr h.fmy h.tables c
  snapshot := by rw [(t.reportCleared_only c).takeSnapshot, h.snapshot, (s.reportCleared_only c).takeSnapshot]
  tables := ((t.reportCleared_only c).same .tables).trans (h.tables.trans ((s.reportCleared_only c).same .tables).symm)

theorem ReportsAlike.allCleared (h : ReportsAlike s t) (l : List FaultCode) :
    ReportsAlike (s.reportAllCleared l) (t.reportAllCleared l) := by
  induction l generalizing s t with
  | nil => exact h
  | cons c l ih => exact ih (h.cleared c)

theorem State.reportAllCleared_raises (l : List FaultCode) :
    Raises [.fault, .lost] s (s.reportAllCleared l) :=
  .foldl _ (fun s c => s.reportCleared_raises c) l s

end

/-! ### The record of a line -/

/-- R33: what becomes of the record of a line that settles. -/
def LineRec.settled (r : LineRec) : LineRec := if r.symptom = .any then { r with symptom := .nothing } else r

/-- R30, R34: the record of a line whose symptom is confirmed. -/
def LineRec.confirmed (y : LineSym) (r : LineRec) : LineRec :=
  { r with status := .confirmed, timer := .stopped, symptom := .sym y, flag := true }

/-- R29 to R33: the walk of the fault status as the record shows it. -/
def LineRec.walked (start : Timer) (k : LineClass) (r : LineRec) : LineRec :=
  match r.status, k.symptom with
  | .clear, some _ => { r with status := .pending, timer := start, flag := true }
  | .clear, none => r.settled
  | .pending, some _ => r
  | .pending, none => LineRec.settled { r with status := .clear, timer := .stopped }
  | .confirmed, some y => if r.symptom = .sym y then r else r.confirmed y
  | .confirmed, none => { r with status := .healing, timer := start }
  | .healing, some y => r.confirmed y
  | .healing, none => r

/-- R30, R32: the CLEARED reports of what was reported before the symptom `y`. -/
def State.clearFormer (n : Fin 32) (y : LineSym) (s : State) : State :=
  match (s.line n).symptom with
  | .any => s.reportAllCleared ((lineSyms.filter (· ≠ y)).map (.line n))
  | .sym x => s.reportCleared (.line n x)
  | .nothing => s

section
variable (s : State) (n : Fin 32)

theorem State.clearFormer_only (y : LineSym) : OnlyChanges faultParts s (s.clearFormer n y) := by
  unfold State.clearFormer
  split
  · exact s.reportAllCleared_only _
  · exact s.reportCleared_only _
  · exact .refl _ s

theorem State.clearFormer_raises (y : LineSym) : Raises [.fault, .lost] s (s.clearFormer n y) := by
  unfold State.clearFormer
  split
  · exact State.reportAllCleared_raises _
  · exact s.reportCleared_raises _
  · exact .refl _ s

theorem State.reportSymptom_eq (y : LineSym) : s.reportSymptom n y =
    ((s.clearFormer n y).reportActive (.line n y)).modLine n fun r => { r with symptom := .sym y } := by rfl

/-- R30, R32: the reports at a confirmed symptom, as one change of the record and of the fault memory. -/
theorem State.reportSymptom_parts (y : LineSym) :
    (s.reportSymptom n y).line n = { s.line n with symptom := .sym y } ∧
    (∀ j, j ≠ n → (s.reportSymptom n y).line j = s.line j) ∧
    (s.reportSymptom n y).fmy = ((s.clearFormer n y).reportActive (.line n y)).fmy ∧
    Raises [.fault, .lost] s (s.reportSymptom n y) := by
  have only := (s.clearFormer_only n y).trans (State.reportActive_only _ (.line n y))
  have lines (j : Fin 32) : ((s.clearFormer n y).reportActive (.line n y)).line j = s.line j :=
    congrArg (fun h : Hlm => h.lines[j]) (only.same .hlm :)
  have raises := (s.clearFormer_raises n y).trans (State.reportActive_raises _ (.line n y))
  rw [s.reportSymptom_eq n y]
  refine ⟨?_, fun j other => ?_, rfl, raises.trans (.of_lif rfl)⟩
  · rw [State.modLine_same, lines]
  · rw [State.modLine_other _ _ _ _ other.symm, lines]

theorem State.settleIfAny_parts :
    (s.settleIfAny n).line n = (s.line n).settled ∧
    (∀ j, j ≠ n → (s.settleIfAny n).line j = s.line j) ∧
    (s.settleIfAny n).fmy =
      (if (s.line n).symptom = .any then s.reportAllCleared (lineSyms.map (.line n)) else s).fmy ∧
    Raises [.fault, .lost] s (s.settleIfAny n) := by
  unfold State.settleIfAny LineRec.settled
  split
  case isTrue any =>
    have lines (j : Fin 32) : (s.reportAllCleared (lineSyms.map (.line n))).line j = s.line j :=
      congrArg (fun h : Hlm => h.lines[j]) ((s.reportAllCleared_only _).same .hlm :)
    refine ⟨?_, fun j other => ?_, rfl, (State.reportAllCleared_raises _).trans (.of_lif rfl)⟩
    · rw [State.settleLine, State.modLine_same, lines]
    · rw [State.settleLine, State.modLine_other _ _ _ _ other.symm, lines]
  case isFalse => exact ⟨rfl, fun _ _ => rfl, rfl, .refl _ _⟩

/-- R34: the line of a status entry raises attention cause LINE. -/
theorem Attention.raise_has (a : Attention) (c : Cause) : (a.raise c).has c = true := by cases c <;> rfl

/-- R30: the confirmation of a symptom that had not been reported. -/
theorem State.confirmSymptom_parts (y : LineSym) :
    ((s.reportSymptom n y).enterConfirmed n).line n = (s.line n).confirmed y ∧
    (∀ j, j ≠ n → ((s.reportSymptom n y).enterConfirmed n).line j = s.line j) ∧
    ((s.reportSymptom n y).enterConfirmed n).fmy = ((s.clearFormer n y).reportActive (.line n y)).fmy ∧
    ((s.reportSymptom n y).enterConfirmed n).lif.attention.line = true := by
  obtain ⟨own, others, fmy, -⟩ := s.reportSymptom_parts n y
  refine ⟨?_, fun j other => ?_, fmy, rfl⟩
  · refine (State.modLine_same _ _ _).trans ?_
    rw [own]
    rfl
  · exact (State.modLine_other _ _ _ _ other.symm).trans (others j other)

theorem State.confirmLine_eq {y : LineSym} (h : (s.line n).acceptedSym = some y) :
    s.confirmLine n = (s.reportSymptom n y).enterConfirmed n := by rw [State.confirmLine, h]

/-- R31: the CLEARED report of the symptom that heals. -/
def State.clearHealed (n : Fin 32) (s : State) : State :=
  match (s.line n).symptom with
  | .sym y => s.reportCleared (.line n y)
  | _ => s

theorem State.clearHealed_only : OnlyChanges faultParts s (s.clearHealed n) := by
  unfold State.clearHealed
  split
  · exact s.reportCleared_only _
  · exact .refl _ s

theorem State.healLine_eq : s.healLine n =
    (((s.clearHealed n).modLine n fun r => { r with symptom := .nothing }).returnToNone n) := by rfl

theorem State.healLine_parts :
    (s.healLine n).line n = { s.line n with status := .clear, timer := .stopped, symptom := .nothing } ∧
    (∀ j, j ≠ n → (s.healLine n).line j = s.line j) ∧
    (s.healLine n).fmy = (s.clearHealed n).fmy ∧ (s.healLine n).lif.attention.line = true := by
  have lines (j : Fin 32) : (s.clearHealed n).line j = s.line j :=
    congrArg (fun h : Hlm => h.lines[j]) ((s.clearHealed_only n).same .hlm :)
  rw [s.healLine_eq n]
  refine ⟨?_, fun j other => ?_, rfl, rfl⟩
  · refine (State.modLine_same _ _ _).trans ?_
    rw [State.modLine_same, lines]
  · exact (State.modLine_other _ _ _ _ other.symm).trans ((State.modLine_other _ _ _ _ other.symm).trans (lines j))

end

/-- Settles O39: the two expiries of a line's fault timer. -/
theorem lineFaultsAreConfirmedAndHealed : Obligations.LineFaultsAreConfirmedAndHealed := by
  refine ⟨fun s n y since live pending running sym => ?_, fun s n since live healing running => ?_⟩
  · let u := s.reach (since + ms (s.lineCfg n).qualify)
    have alike : ReportsAlike s u := (s.reach_only _).reportsAlike
    have confirm : u.confirmLine n = (u.reportSymptom n y).enterConfirmed n := u.confirmLine_eq n sym
    obtain ⟨own, others, fmy, attention⟩ := u.confirmSymptom_parts n y
    refine ⟨u.confirmLine n, ?_, ?_, ?_, ?_, ?_, ?_, (s.reach_only _).andThen (u.confirmLine_only n)⟩
    · rw [exec_runs _ s rfl live, eventEffect, if_pos pending, running, atExpiry_running]
    · exact (u.confirmLine_only n).same .now
    · rw [confirm]; exact own
    · rw [confirm, fmy]
      refine ReportsAlike.fmy (.active ?_ (.line n y))
      unfold State.clearFormer
      change ReportsAlike _ (match (s.line n).symptom with | .any => _ | .sym x => _ | .nothing => _)
      cases (s.line n).symptom with
      | any => exact alike.allCleared _
      | sym x => exact alike.cleared _
      | nothing => exact alike
    · rw [confirm]; exact others
    · rw [confirm]; exact attention
  · let u := s.reach (since + ms (s.lineCfg n).heal)
    have alike : ReportsAlike s u := (s.reach_only _).reportsAlike
    obtain ⟨own, others, fmy, attention⟩ := u.healLine_parts n
    refine ⟨u.healLine n, ?_, (u.healLine_only n).same .now, own, ?_, others, attention,
      (s.reach_only _).andThen (u.healLine_only n)⟩
    · rw [exec_runs _ s rfl live, eventEffect, if_pos healing, running, atExpiry_running]
    · rw [fmy, State.clearHealed]
      change (match (s.line n).symptom with | .sym y => _ | _ => u).fmy = _
      cases (s.line n).symptom with
      | any => exact alike.fmy
      | sym x => exact (alike.cleared _).fmy
      | nothing => exact alike.fmy

/-! ### The comparator of a PULSE line (R28, R45) -/

/-- R23: with VB measured a voltage has its ratio, and nothing is left free. -/
theorem State.measure_vb (s : State) (mv : Nat) {vb : Nat} (measured : s.mctl.vb = some vb) (positive : 0 < vb) :
    s.measure mv = (s, (min mv 40000, ratioOf (min mv 40000) vb)) := by
  rw [State.measure, measured]
  exact if_neg positive.ne'

/-- R28: a running comparator switches at w1 when it is high and at w2 otherwise. -/
theorem Comparator.next_running {x : Comparator} (running : x ≠ .stopped) (c : LineCfg) (r : Nat) :
    x.next c r = match (generalizing := false) x with
      | .high => if r < c.w1 then .low else .high
      | _ => if c.w2 ≤ r then .high else .low := by
  cases x
  case stopped => exact absurd rfl running
  case fresh => rfl
  case low => rfl
  case high => rfl

/-- R28: an edge in the configured direction is the change between the two levels in that direction. -/
theorem edgeOf_iff (falling : Bool) (before after : Comparator) : edgeOf falling before after = true ↔
    before = (if falling then .high else .low) ∧ after = (if falling then .low else .high) := by
  cases falling <;> simp [edgeOf]

section
variable (s : State) (n : Fin 32)

/-- The record of the line with its comparator at a ratio. -/
def State.compared (r : Nat) (s : State) : State :=
  s.modLine n fun l => { l with comparator := (s.line n).comparator.next (s.lineCfg n) r }

theorem State.compare_vb (mv : Nat) {vb : Nat} (measured : s.mctl.vb = some vb) (positive : 0 < vb) :
    s.compare n mv =
      let r := ratioOf (min mv 40000) vb
      if edgeOf (s.lineCfg n).falling (s.line n).comparator ((s.line n).comparator.next (s.lineCfg n) r) = true then
        (s.compared n r).modUnit (s.lineCfg n).unit
          (Capture.edge (s.timeBase (s.lineCfg n).unit) (s.unitPMin (s.lineCfg n).unit))
      else s.compared n r := by
  rw [State.compare, s.measure_vb mv measured positive]
  rfl

end

/-- Settles O41: a comparator that switches hands an edge to its unit. -/
theorem pulseEdgesReachTheCaptureUnit : Obligations.PulseEdgesReachTheCaptureUnit := by
  intro s n mv wait vb r u x live pulse running measured positive ratio unit stamp
  let v : State := { s with now := s.now + wait }
  have effect := v.compare_vb n mv measured positive
  dsimp only at effect
  rw [show ratioOf (min mv 40000) vb = r from ratio.symm, show (v.lineCfg n).unit = u from unit.symm] at effect
  have line : (v.compared n r).line n = { s.line n with comparator := (s.line n).comparator.next (s.lineCfg n) r } :=
    State.modLine_same _ _ _
  have others (j : Fin 32) (other : j ≠ n) : (v.compared n r).line j = s.line j :=
    State.modLine_other _ _ _ _ other.symm
  have lines : (v.compare n mv).hlm = (v.compared n r).hlm := by
    rw [effect]
    split <;> rfl
  have own : (v.compare n mv).line n = { s.line n with comparator := (s.line n).comparator.next (s.lineCfg n) r } :=
    (congrArg (fun h : Hlm => h.lines[n]) lines).trans line
  refine ⟨v.compare n mv, ?_, ?_, ?_, ?_, fun j other => ?_, fun w other => ?_, ?_, ?_⟩
  · rw [exec_runs _ s rfl live, eventEffect, if_pos ⟨pulse, running⟩]
  · rw [effect]
    split <;> rfl
  · exact own.trans (congrArg (fun x => { s.line n with comparator := x }) (Comparator.next_running running _ _))
  · rw [own]
    dsimp only
    rw [effect]
    split
    case isTrue edge =>
      refine Eq.trans ?_ (if_pos ((edgeOf_iff _ _ _).mp edge)).symm
      rw [State.modUnit_same, stamp]
      rfl
    case isFalse no_edge =>
      exact (if_neg (mt (edgeOf_iff _ _ _).mpr no_edge)).symm
  · exact (congrArg (fun h : Hlm => h.lines[j]) lines).trans (others j other)
  · rw [effect]
    split
    · exact State.modUnit_other _ _ _ _ other.symm
    · rfl
  · rw [effect]
    split <;> rfl
  · have stamped : OnlyChanges [.now] s v := by intro p h; cases p <;> first | rfl | exact absurd (by simp) h
    have compared : OnlyChanges [.now, .hlm, .gve] s (v.compared n r) :=
      stamped.andThen (State.modLine_only _ _ _)
    rw [effect]
    split
    · exact compared.andThen (State.modUnit_only _ _ _)
    · exact compared

end Sys2Proof.Machine
end

section
/-! PROOFS. What the part does to its fault memory between a start-up load, the writes of the store and the
requests that name it: reports, counts, agings and clears, in some order. -/

namespace Sys2Proof.Machine

set_option Elab.async false

/-! ### The steps of the fault memory -/

/-- The fault memory without what neither its law nor its counters read. -/
def Fmy.core (m : Fmy) : Fmy :=
  { m with writeTimer := .stopped, storeRequested := false, counterDue := false, clear := none, held := [],
           lost := 0, saveNo := 0, lastIsB := false }

/-- From `s` to `t` the core of the fault memory stays, with the cursor, the store, the tables and whether the part is
in STARTUP. -/
structure FaultQuiet (s t : State) : Prop where
  fmy : t.fmy.core = s.fmy.core
  cursor : t.wsv.cursor = s.wsv.cursor
  nv : t.nv = s.nv
  tables : t.tables = s.tables
  loaded : t.mctl.loaded = s.mctl.loaded
  startup : t.mode = .startup ↔ s.mode = .startup

/-- `t` follows from `s` by reports, counts, agings and clears, with changes between them that leave the fault memory
alone. -/
inductive FaultSteps : State → State → Prop
  | quiet {s t : State} (h : FaultQuiet s t) : FaultSteps s t
  | trans {s t u : State} (h : FaultSteps s t) (k : FaultSteps t u) : FaultSteps s u
  | report (s : State) (c : FaultCode) (active : Bool) : FaultSteps s (s.report c active)
  | count (s : State) (i : Fin 12) : FaultSteps s (s.bump i)
  | age (s : State) (m : s.mode ≠ .startup) : FaultSteps s s.ageFaults
  | clear (s : State) (pick : SourceClass → Bool) : FaultSteps s (s.clearClasses pick)

section
variable {s t u : State}

/-- Whether a change within these parts leaves alone what `FaultQuiet` names. -/
def faultFree (l : List Part) : Bool :=
  !partsIn [.fmy] l && !partsIn [.cursor] l && !partsIn [.nv] l && !partsIn [.tables] l

theorem OnlyChanges.faultQuiet_of {l : List Part} (h : OnlyChanges l s t) (loaded : t.mctl.loaded = s.mctl.loaded)
    (startup : t.mode = .startup ↔ s.mode = .startup) (k : faultFree l = true := by with_unfolding_all rfl) :
    FaultQuiet s t := by
  simp only [faultFree, Bool.and_eq_true, Bool.not_eq_true'] at k
  obtain ⟨⟨⟨fmy, cursor⟩, nv⟩, tables⟩ := k
  exact ⟨congrArg Fmy.core (h.same .fmy fmy), h.same .cursor cursor, h.same .nv nv, h.same .tables tables, loaded, startup⟩

namespace FaultSteps

theorem refl (s : State) : FaultSteps s s := .quiet ⟨rfl, rfl, rfl, rfl, rfl, Iff.rfl⟩

theorem ite {c : Prop} [Decidable c] (h : FaultSteps s t) (k : FaultSteps s u) : FaultSteps s (if c then t else u) := by
  split <;> assumption

theorem foldl {α : Type} (f : State → α → State) (h : ∀ s a, FaultSteps s (f s a)) (xs : List α) (s : State) :
    FaultSteps s (xs.foldl f s) := by
  induction xs generalizing s with
  | nil => exact .refl s
  | cons a xs ih => exact (h s a).trans (ih (f s a))

theorem forEach {n : Nat} (f : Fin n → State → State) (h : ∀ i s, FaultSteps s (f i s)) (s : State) :
    FaultSteps s (Machine.forEach f s) := foldl _ (fun s i => h i s) _ s

theorem modMctl (s : State) (f : Mctl → Mctl) (mode : ∀ c, (f c).mode = c.mode) (loaded : ∀ c, (f c).loaded = c.loaded) :
    FaultSteps s (s.modMctl f) :=
  .quiet ((s.modMctl_only f).faultQuiet_of (loaded _) (by rw [KeepsMode.modMctl s f mode]))

theorem modFmy (s : State) (f : Fmy → Fmy) (h : (f s.fmy).core = s.fmy.core) : FaultSteps s (s.modFmy f) :=
  .quiet ⟨h, rfl, rfl, rfl, rfl, Iff.rfl⟩

/-- A change between two modes of a part that has started up. -/
theorem setMode (m : Mode) (before : s.mode ≠ .startup) (after : m ≠ .startup) : FaultSteps s (s.setMode m) :=
  .quiet ((s.setMode_only m).faultQuiet_of rfl (iff_of_false after before))

theorem atExpiry (timer : Timer) (figure : Nat) (k : State → State)
    (h : ∀ t : State, t.mode = s.mode → FaultSteps t (k t)) : FaultSteps s (atExpiry timer figure k s) :=
  atExpiry_cases s timer figure k _ (.refl s) fun x _ =>
    .trans (t := s.reach (x + figure)) (.quiet ⟨rfl, rfl, rfl, rfl, rfl, Iff.rfl⟩) (h _ rfl)

end FaultSteps

/-- What every step of the fault memory leaves alone. -/
theorem FaultSteps.keeps (h : FaultSteps s t) : t.nv = s.nv ∧ t.tables = s.tables ∧
    t.mctl.loaded = s.mctl.loaded ∧ (t.mode = .startup ↔ s.mode = .startup) := by
  have fault {u v : State} (h : OnlyChanges faultParts u v) : v.nv = u.nv ∧ v.tables = u.tables ∧
      v.mctl.loaded = u.mctl.loaded ∧ (v.mode = .startup ↔ u.mode = .startup) :=
    ⟨h.same .nv, h.same .tables, congrArg Mctl.loaded (h.same .mctl), by rw [h.keepsMode]⟩
  induction h with
  | quiet h => exact ⟨h.nv, h.tables, h.loaded, h.startup⟩
  | trans _ _ h k =>
    obtain ⟨nv, tables, loaded, startup⟩ := h
    obtain ⟨nv', tables', loaded', startup'⟩ := k
    exact ⟨nv'.trans nv, tables'.trans tables, loaded'.trans loaded, startup'.trans startup⟩
  | report s c a => exact fault (s.report_only c a)
  | count s i => exact ⟨rfl, rfl, rfl, Iff.rfl⟩
  | age s m => exact fault s.ageFaults_only
  | clear s pick => exact fault (s.clearClasses_only pick)

theorem FaultSteps.startup (h : FaultSteps s t) : t.mode = .startup ↔ s.mode = .startup := h.keeps.2.2.2

theorem OnlyChanges.faultSteps {l : List Part} (h : OnlyChanges l s t)
    (mctl : partsIn [.mctl] l = false := by with_unfolding_all rfl)
    (k : faultFree l = true := by with_unfolding_all rfl) : FaultSteps s t :=
  .quiet (h.faultQuiet_of (congrArg Mctl.loaded (h.same .mctl mctl)) (by rw [h.keepsMode mctl]) k)

end

/-! ### The operations -/

section
variable (s : State)

theorem State.makeCounterDue_faults : FaultSteps s s.makeCounterDue := .modFmy s _ rfl

theorem State.reportAllCleared_faults (l : List FaultCode) : FaultSteps s (s.reportAllCleared l) :=
  .foldl _ (fun s c => .report s c false) l s

theorem FaultSteps.rules : RuleStable (FaultSteps s) where
  quiet _ _ _ _ _ h := h.trans (State.modRule_only _ _ _).faultSteps
  counter _ _ h := h.trans (State.modWev_only _ _).faultSteps
  report _ _ _ h := h.trans (.report _ _ _)
  change u m f _ h := by
    refine h.trans ?_
    delta State.changeRule
    extract_lets old s1 new s2 s3 s4
    have h1 : FaultSteps u s1 := (u.modRule_only m f).faultSteps
    have h2 : FaultSteps s1 s2 := (s1.attend_only _).faultSteps
    have h3 : FaultSteps s2 s3 := .ite (s2.modPru_only _).faultSteps (.refl s2)
    have h4 : FaultSteps s3 s4 := .ite (.ite (.trans (.report s3 _ false)
      (State.modRule_only _ m _).faultSteps) (.refl s3)) (.refl s3)
    exact .ite h1 (((h1.trans h2).trans (h3.trans h4)).trans
      ((s4.listChange_only m old).faultSteps.trans (State.refreshPru_only _).faultSteps))

/-! Sense lines -/

theorem State.settleLine_faults (n : Fin 32) : FaultSteps s (s.settleLine n) :=
  (s.reportAllCleared_faults _).trans (State.modLine_only _ n _).faultSteps

theorem State.settleIfAny_faults (n : Fin 32) : FaultSteps s (s.settleIfAny n) :=
  .ite (s.settleLine_faults n) (.refl s)

theorem State.reportSymptom_faults (n : Fin 32) (y : LineSym) : FaultSteps s (s.reportSymptom n y) := by
  delta State.reportSymptom
  extract_lets s1
  have h1 : FaultSteps s s1 := by
    change FaultSteps s (match (s.line n).symptom with | .any => _ | .sym x => _ | .nothing => _)
    split
    · exact s.reportAllCleared_faults _
    · exact .report s _ false
    · exact .refl s
  exact (h1.trans (.report s1 _ true)).trans (State.modLine_only _ n _).faultSteps

theorem State.walkStatus_faults (n : Fin 32) (k : LineClass) : FaultSteps s (s.walkStatus n k) := by
  have confirmed (u : State) : FaultSteps u (u.enterConfirmed n) := ((u.modLine_only n _).andThen (State.attend_only _ _) (n := [.hlm, .attention])).faultSteps
  unfold State.walkStatus
  dsimp only
  split
  case h_1 => exact (s.modLine_only n _).faultSteps
  case h_2 => exact s.settleIfAny_faults n
  case h_3 => exact .refl s
  case h_4 => exact (((s.modLine_only n _).andThen (State.attend_only _ _) (n := [.hlm, .attention])).faultSteps).trans (State.settleIfAny_faults _ n)
  case h_5 => exact .ite (.refl s) ((s.reportSymptom_faults n _).trans (confirmed _))
  case h_6 => exact (s.modLine_only n _).faultSteps
  case h_7 => exact .trans (.ite (.refl s) (s.reportSymptom_faults n _)) (confirmed _)
  case h_8 => exact .refl s

theorem State.confirmLine_faults (n : Fin 32) : FaultSteps s (s.confirmLine n) := by
  unfold State.confirmLine
  split
  · exact (s.reportSymptom_faults n _).trans
      ((State.modLine_only _ n _).andThen (State.attend_only _ _) (n := [.hlm, .attention])).faultSteps
  · exact .refl s

theorem State.healLine_faults (n : Fin 32) : FaultSteps s (s.healLine n) := by
  delta State.healLine
  extract_lets s1
  have h1 : FaultSteps s s1 := by
    change FaultSteps s (match (s.line n).symptom with | .sym y => _ | _ => s)
    split
    · exact .report s _ false
    · exact .refl s
  exact h1.trans (((s1.modLine_only n _).andThen (State.modLine_only _ n _) (n := [.hlm])).andThen
    (State.attend_only _ _) (n := [.hlm, .attention])).faultSteps

theorem State.classify_faults (n : Fin 32) (mv : Nat) : FaultSteps s (s.classify n mv) := by
  have accepts (u : State) (k : LineClass) : FaultSteps u (u.acceptIfDue n k) :=
    .ite ((u.modLine_only n _).faultSteps.trans (State.walkStatus_faults _ n k)) (.refl u)
  delta State.classify
  extract_lets c
  have measured : FaultSteps s (s.measure mv).1 := (s.measure_only mv).faultSteps
  revert measured
  obtain ⟨s0, m⟩ := s.measure mv
  intro measured
  exact (measured.trans ((State.modLine_only _ n _).andThen (State.modLine_only _ n _) (n := [.hlm])).faultSteps).trans
    (accepts _ _)

theorem State.settleLines_faults : FaultSteps s s.settleLines :=
  .forEach _ (fun n s => .ite (s.settleLine_faults n) (.refl s)) s

/-! Doors -/

theorem State.doorReport_faults (y : DoorSym) (d : Fin 4) : FaultSteps s (s.doorReport y d) :=
  .ite (.refl s) ((s.modDoor_only d _).faultSteps.trans (.report _ _ true))

theorem State.beginOverride_faults : FaultSteps s s.beginOverride :=
  (((s.setInterlock_only _ _).faultSteps.trans (.count _ _)).trans (State.attend_only _ _).faultSteps).trans
    (.report _ _ true)

theorem State.freeInterlock_faults : FaultSteps s s.freeInterlock :=
  .ite s.beginOverride_faults (.ite (s.setInterlock_only _ _).faultSteps (s.setInterlock_only _ _).faultSteps)

theorem State.forceInterlock_faults : FaultSteps s s.forceInterlock := by
  unfold State.forceInterlock
  exact .trans (.ite (.trans (.report s _ false) (State.attend_only _ _).faultSteps) (.refl s))
    (State.setInterlock_only _ _ _).faultSteps

theorem State.overrideChange_faults (v : Logical) : FaultSteps s (s.overrideChange v) := by
  have ends : FaultSteps s s.endOverride := by
    unfold State.endOverride
    exact .trans (.trans (.report s _ false) (State.attend_only _ _).faultSteps)
      (.ite (State.setInterlock_only _ _ _).faultSteps (State.setInterlock_only _ _ _).faultSteps)
  unfold State.overrideChange
  split
  case h_4 => exact .ite (.refl s) ends
  case h_5 => exact .refl s
  all_goals exact .ite s.beginOverride_faults (.refl s)

theorem State.enterDoorState_faults (d : Fin 4) (new : DoorState) : FaultSteps s (s.enterDoorState d new) := by
  have cycle (u : State) : FaultSteps u (u.countCycle d) :=
    .ite (.trans (.count u _) (State.modDoor_only _ d _).faultSteps) (.refl u)
  have obstruction (u : State) : FaultSteps u (u.countObstruction d) := by
    delta State.countObstruction
    extract_lets u1 u2
    have h : FaultSteps u u2 := .trans (u.modDoor_only d _).faultSteps (.count u1 _)
    exact .ite (h.trans ((u2.modDoor_only d _).faultSteps.trans (State.doorReport_faults _ _ d))) h
  have opening (u : State) : FaultSteps u (u.flagOpening d) :=
    .ite ((u.modDoor_only d _).faultSteps.trans (State.doorReport_faults _ _ d)) (.refl u)
  have shut (u : State) : FaultSteps u (u.shutAndLocked d) :=
    (u.reportAllCleared_faults _).trans (State.modDoor_only _ d _).faultSteps
  delta State.enterDoorState
  extract_lets old start s1 s2 s3 s4 s5 s6 s7
  have h2 : FaultSteps s s2 := ((s.modDoor_only d _).faultSteps).trans (s1.attend_only _).faultSteps
  have h3 : FaultSteps s2 s3 := .ite s2.withdrawAll_only.faultSteps (.refl s2)
  have h4 : FaultSteps s3 s4 := s3.evalInterlock_only.faultSteps.trans (State.refreshOutput_only _ d).faultSteps
  have h5 : FaultSteps s4 s5 := .ite (opening s4) (.refl s4)
  have h6 : FaultSteps s5 s6 := .ite (shut s5) (.refl s5)
  have h7 : FaultSteps s6 s7 := .ite (cycle s6) (.refl s6)
  exact .ite (.refl s) ((((h2.trans h3).trans h4).trans (h5.trans (h6.trans h7))).trans
    (.ite (obstruction s7) (.refl s7)))

theorem State.rederive_faults (d : Fin 4) (ev : DoorEvent) : FaultSteps s (s.rederive d ev) := by
  have flag (u : State) (p : Door → Bool) (f : Door → Door) : FaultSteps u (u.raiseFlag p f d) :=
    .ite (.refl u) ((u.modDoor_only d _).faultSteps.trans (State.attend_only _ _).faultSteps)
  have report (u : State) (before : DoorState) : FaultSteps u (u.expiryReport d ev before) := by
    delta State.expiryReport
    extract_lets after
    split
    · exact .ite (u.doorReport_faults _ d) (.refl u)
    · exact .ite (((u.modDoor_only d _).faultSteps.trans (flag _ _ _)).trans (State.doorReport_faults _ _ d)) (.refl u)
    · exact .ite (((u.modDoor_only d _).faultSteps.trans (flag _ _ _)).trans (State.doorReport_faults _ _ d)) (.refl u)
    · exact u.doorReport_faults _ d
    · exact .refl u
  delta State.rederive
  extract_lets before s1
  have h1 : FaultSteps s s1 := .ite (.refl s) (.ite (s.modDoor_only d _).faultSteps (s.modDoor_only d _).faultSteps)
  exact (h1.trans (s1.enterDoorState_faults d _)).trans (report _ before)

theorem State.doorLineChange_faults (n : Fin 32) (v : Logical) : FaultSteps s (s.doorLineChange n v) := by
  refine .forEach _ (fun d u => .foldl _ (fun u k => ?_) _ u) s
  exact .trans (u.rederive_faults d _) (.ite (State.evalInterlock_only _).faultSteps (.refl _))

theorem State.settleDoors_faults : FaultSteps s s.settleDoors :=
  .trans (.forEach _ (fun d u => .ite (.refl u) ((u.reportAllCleared_faults _).trans
    (State.modDoor_only _ d _).faultSteps)) s) (.report _ _ false)

/-! Lamps -/

theorem State.openTest_faults (n : Fin 24) (low : Bool) : FaultSteps s (s.openTest n low) := by
  have becomes (b : Bool) : FaultSteps s (s.openBecomes n b) :=
    ((s.modLamp_only n _).faultSteps.trans (.report _ _ _)).trans (State.refreshPru_only _).faultSteps
  have counts (x : Int) : FaultSteps s (s.modLamp n fun l => { l with openCount := x }) := (s.modLamp_only n _).faultSteps
  delta State.openTest
  extract_lets l c
  split
  · exact .ite (becomes _) (.ite (becomes _) (counts _))
  · exact .ite (becomes _) (counts _)
  · exact .ite (becomes _) (counts _)

theorem State.overcurrent_faults (n : Fin 24) : FaultSteps s (s.overcurrent n) := by
  delta State.overcurrent
  extract_lets trip count u
  have h1 : FaultSteps s trip := (s.modLamp_only n _).faultSteps
  have h2 : FaultSteps trip u := (trip.modLamp_only n _).faultSteps
  have h3 : FaultSteps u ((u.modLamp n fun l => { l with shortStatus := .confirmed }).reportActive (.lamp n .short)) :=
    .trans (u.modLamp_only n _).faultSteps (.report _ _ true)
  exact .ite (.ite (((h1.trans h2).trans h3).trans ((State.followCalls_only _).faultSteps.trans
    (State.refreshPru_only _).faultSteps)) ((h1.trans h2).trans u.followCalls_only.faultSteps))
      (h1.trans trip.followCalls_only.faultSteps)

theorem State.onPeriodGood_faults (n : Fin 24) : FaultSteps s (s.onPeriodGood n) := by
  delta State.onPeriodGood
  extract_lets status u
  have h1 : FaultSteps s u := (s.modLamp_only n _).faultSteps
  exact .ite h1 ((h1.trans (.trans (u.modLamp_only n _).faultSteps (.report _ _ false))).trans
    (State.refreshPru_only _).faultSteps)

theorem State.settleLamps_faults : FaultSteps s s.settleLamps :=
  .foldl _ (fun s n => .ite ((s.reportAllCleared_faults _).trans (State.modLamp_only _ n _).faultSteps) (.refl s)) _ s

/-! Channels -/

theorem State.gaugeReports_faults (k : Fin 6) (before : ChannelState) : FaultSteps s (s.gaugeReports k before) := by
  have valid : FaultSteps s (s.gaugeValid k) := by
    delta State.gaugeValid
    extract_lets s1 s2
    have h1 : FaultSteps s s1 := .ite (.report s _ false) (.refl s)
    have h2 : FaultSteps s1 s2 := .ite (.report s1 _ false) (.refl s1)
    exact (h1.trans h2).trans (s2.modChannel_only k _).faultSteps
  have noise : FaultSteps s (s.noiseReport k) :=
    .ite (.refl s) (.trans (.report s _ true) (State.modChannel_only _ k _).faultSteps)
  delta State.gaugeReports
  extract_lets after
  exact .ite (.refl s) (.ite valid (.ite noise (.refl s)))

theorem State.sampleChannel_faults (k : Fin 6) : FaultSteps s (s.sampleChannel k) := by
  delta State.sampleChannel
  extract_lets before s1 s2
  have h1 : FaultSteps s s1 := (s.acquire_only k).faultSteps
  have h2 : FaultSteps s1 s2 := (s1.modChannel_only k _).faultSteps
  exact (h1.trans h2).trans ((s2.gaugeReports_faults k before).trans (State.needleInput_only _ k).faultSteps)

theorem State.settleGauges_faults : FaultSteps s s.settleGauges := by
  refine .forEach _ (fun k u => ?_) s
  have h (lost noise : Bool) : FaultSteps u (
      let u1 := if lost then u.reportCleared (.gauge k .lost) else u
      let u2 := if noise then u1.reportCleared (.gauge k .pulseNoise) else u1
      u2.modChannel k fun h => { h with lostMark := h.lostMark && !lost, noiseMark := h.noiseMark && !noise }) :=
    .trans (.trans (.ite (.report u _ false) (.refl u)) (.ite (.report _ _ false) (.refl _)))
      (State.modChannel_only _ k _).faultSteps
  exact h _ _

/-! Modes -/

theorem State.endAllForcing_faults : FaultSteps s s.endAllForcing := s.endAllForcing_only.faultSteps

theorem State.leaveWorkshop_faults (m : s.mode = .workshop) : FaultSteps s s.leaveWorkshop :=
  ((FaultSteps.setMode .run (by simp [m]) (by decide)).trans (State.endAllForcing_faults _)).trans
    (State.refreshPru_only _).faultSteps

theorem State.workshopToRun_faults (m : s.mode = .workshop) : FaultSteps s s.workshopToRun :=
  (s.leaveWorkshop_faults m).trans (State.attend_only _ _).faultSteps

theorem State.leaveWorkshopIfMoving_faults : FaultSteps s s.leaveWorkshopIfMoving := by
  unfold State.leaveWorkshopIfMoving
  split
  case isTrue h => exact s.workshopToRun_faults h.1
  case isFalse => exact .refl s

theorem State.sampleLine_faults (n : Fin 32) (mv : Nat) : FaultSteps s (s.sampleLine n mv) := by
  have buttons (u : State) (press : Bool) : FaultSteps u (u.buttonRoleChange n press) := by
    delta State.buttonRoleChange
    extract_lets c s1 s2
    have h1 : FaultSteps u s1 := .ite u.releaseButton_only.faultSteps (.refl u)
    have h2 : FaultSteps s1 s2 := .ite s1.leaveWorkshopIfMoving_faults (.refl s1)
    exact (h1.trans h2).trans (.ite ((FaultSteps.rules s2).ackButton (.refl s2)) (.refl s2))
  have interlock (u : State) (v : Logical) : FaultSteps u (u.interlockRoleChange n v) := by
    delta State.interlockRoleChange
    extract_lets c u1
    have h1 : FaultSteps u u1 := .ite u.evalInterlock_only.faultSteps (.refl u)
    exact h1.trans (.ite (u1.overrideChange_faults v) (.refl u1))
  unfold State.sampleLine State.handOn
  exact (s.classify_faults n mv).trans (.ite (.refl _) ((State.doorLineChange_faults _ n _).trans
    ((interlock _ _).trans (buttons _ _))))

theorem State.speedUpdate_faults (k : Fin 6) : FaultSteps s (s.speedUpdate k) :=
  .ite (s.doorSpeedUpdate_only.faultSteps.trans (State.leaveWorkshopIfMoving_faults _)) (.refl s)

theorem State.feedTimeout_faults (k : Fin 6) : FaultSteps s (s.feedTimeout k) := by
  have expired : FaultSteps s (s.feedExpired k) := by
    delta State.feedExpired
    extract_lets s1 s2
    have h1 : FaultSteps s s1 := (s.modChannel_only k _).faultSteps
    have h2 : FaultSteps s1 s2 :=
      .ite (.refl s1) (.trans (.report s1 _ true) (State.modChannel_only _ k _).faultSteps)
    exact .ite (.trans (s.modChannel_only k _).faultSteps (State.needleInput_only _ k).faultSteps)
      ((h1.trans h2).trans (s2.needleInput_only k).faultSteps)
  unfold State.feedTimeout
  exact .ite (expired.trans (State.speedUpdate_faults _ k)) expired

theorem State.clearSupplyMarks_faults : FaultSteps s s.clearSupplyMarks := by
  delta State.clearSupplyMarks
  extract_lets s1 s2
  have h1 : FaultSteps s s1 := .ite (.report s _ false) (.refl s)
  have h2 : FaultSteps s1 s2 := .ite (.report s1 _ false) (.refl s1)
  exact (h1.trans h2).trans (.modMctl s2 _ (by intro; rfl) (by intro; rfl))

theorem State.measureVb_faults (mv : Nat) : FaultSteps s (s.measureVb mv) := by
  have change (u : State) (new : Supply) : FaultSteps u (u.changeSupply new) := by
    delta State.changeSupply
    extract_lets old s1 s2
    refine .ite (.refl u) ?_
    have h1 : FaultSteps u s1 := (FaultSteps.modMctl u (Mctl.enterSupply new u.now) (by intro; rfl) (by intro; rfl)).trans
      (State.attend_only _ _).faultSteps
    have h2 : FaultSteps s1 s2 := .ite s1.clearSupplyMarks_faults (.refl s1)
    have h3 : FaultSteps s2 (s2.crankChange old new) :=
      .ite ((forLines_only s2 _).andThen (forNeedles_only _ _) (n := [.hlm, .ndr])).faultSteps
        (.ite (.trans (.modMctl s2 Mctl.crankEntry (by intro; rfl) (by intro; rfl)) (forNeedles_only _ _).faultSteps)
          (.refl s2))
    exact (h1.trans (h2.trans h3)).trans
      (((forLines_only _ _).faultSteps.trans (State.gateDoorTimers_only _).faultSteps).trans
        (State.refreshPru_only _).faultSteps)
  unfold State.measureVb
  exact .ite (.trans (.modMctl s _ (by intro; rfl) (by intro; rfl)) (change _ _))
    (.trans (.modMctl s _ (by intro; rfl) (by intro; rfl)) (change _ _))

theorem State.beginSilence_faults : FaultSteps s s.beginSilence := by
  delta State.beginSilence
  extract_lets s1 s2
  have h1 : FaultSteps s s1 := .trans (s.modLif_only _ (by intro; rfl)).faultSteps (State.attend_only _ _).faultSteps
  have h2 : FaultSteps s1 s2 := .trans (.trans (.report s1 _ true) (.count _ _)) (State.refreshPru_only _).faultSteps
  refine (h1.trans h2).trans ?_
  split
  case isTrue m => exact s2.workshopToRun_faults m
  case isFalse => exact .refl s2

theorem State.frameArrives_faults (f : Frame) : FaultSteps s (s.frameArrives f) := by
  have lif (u : State) (f : Lif → Lif) (h : ∀ l, (f l).attention = l.attention) : FaultSteps u (u.modLif f) :=
    (u.modLif_only f h).faultSteps
  have error (u : State) : FaultSteps u u.linkError := (lif u _ (by intro; rfl)).trans (State.attend_only _ _).faultSteps
  have timer (u : State) : FaultSteps u u.restartSilenceTimer := .ite (lif u _ (by intro; rfl)) (.refl u)
  have report (u : State) : FaultSteps u u.silenceReport :=
    .ite (.refl u) (.trans (.report u _ false) (lif _ _ (by intro; rfl)))
  have heard : FaultSteps s s.hearHost :=
    .ite (((report s).trans (lif _ _ (by intro; rfl))).trans ((timer _).trans (State.refreshPru_only _).faultSteps))
      (timer s)
  exact heard.trans (.ite (.refl _) (.ite (error _) (.ite (error _) (lif _ _ (by intro; rfl)))))

theorem State.takeByte_faults (b : Byte) : FaultSteps s (s.takeByte b) := by
  have rx (u : State) (r : Rx) : FaultSteps u (u.receiver r) := (u.modLif_only _ (by intro; rfl)).faultSteps
  have error (u : State) : FaultSteps u u.linkError :=
    (u.modLif_only _ (by intro; rfl)).faultSteps.trans (State.attend_only _ _).faultSteps
  unfold State.takeByte
  split
  · exact .ite (rx s _) (error s)
  · exact .ite (rx s _) ((rx s _).trans (error _))
  · exact rx s _
  · exact rx s _
  · exact rx s _
  · exact rx s _
  · exact (rx s _).trans (.ite (State.frameArrives_faults _ _) (error _))

theorem State.settleBlocks_faults : FaultSteps s s.settleBlocks :=
  (((s.settleLines_faults.trans (State.settleGauges_faults _)).trans
    ((FaultSteps.rules _).settleRules (.refl _))).trans (State.settleLamps_faults _)).trans (State.settleDoors_faults _)

theorem State.settleLink_faults : FaultSteps s s.settleLink :=
  .trans (.report s _ false) (State.modLif_only _ _ (by intro; rfl)).faultSteps

theorem State.ignitionOn_faults : FaultSteps s s.ignitionOn := by
  delta State.ignitionOn
  extract_lets s1 s2 s3
  have h2 : FaultSteps s s2 := .trans (.count s _) (.modMctl s1 _ (by intro; rfl) (by intro; rfl))
  have h3 : FaultSteps s2 s3 := (s2.startLampCheck_only.faultSteps.trans
    ((FaultSteps.rules _).endIgnitionLatches (.refl _))).trans (State.runNeedles_only _).faultSteps
  exact (h2.trans h3).trans (s3.publishLamps_only.faultSteps.trans (State.refreshChime_only _).faultSteps)

theorem State.enterRun_faults (m : s.mode ≠ .startup) : FaultSteps s s.enterRun :=
  (FaultSteps.setMode .run m (by decide)).trans (State.ignitionOn_faults _)

theorem State.ignitionOff_faults (m : s.mode ≠ .startup) : FaultSteps s s.ignitionOff := by
  delta State.ignitionOff
  extract_lets was s1 s2 s3
  have h2 : FaultSteps s s2 := (FaultSteps.setMode .standby m (by decide)).trans
    (.modMctl s1 _ (by intro; rfl) (by intro; rfl))
  have mode : s2.endLampCheck.mode = .standby := rfl
  have h3 : FaultSteps s2 s3 := ((s2.endLampCheck_only.faultSteps.trans (.age _ (by simp [mode]))).trans
    (State.withdrawAll_only _).faultSteps).trans (State.refreshOutputs_only _).faultSteps
  exact (h2.trans h3).trans ((((s3.endForcingOf_only was).faultSteps).trans (State.parkNeedles_only _).faultSteps).trans
    (State.refreshPru_only _).faultSteps)

theorem State.acceptIgn_faults (a : Bool) : FaultSteps s (s.acceptIgn a) := by
  delta State.acceptIgn
  extract_lets s1
  have h1 : FaultSteps s s1 := .modMctl s _ (by intro; rfl) (by intro; rfl)
  have off (m : s1.mode ≠ .startup) : FaultSteps s (s1.ignitionOff.attend .mode) :=
    (h1.trans (s1.ignitionOff_faults m)).trans (State.attend_only _ _).faultSteps
  split
  case h_1 m =>
    exact (h1.trans (s1.enterRun_faults (by simp [show s1.mode = _ from m]))).trans (State.attend_only _ _).faultSteps
  case h_2 m => exact off (by simp [show s1.mode = _ from m])
  case h_3 m => exact off (by simp [show s1.mode = _ from m])
  case h_4 => exact h1.trans (State.refreshPru_only _).faultSteps

theorem State.enterSetup_faults (m : s.mode ≠ .startup) : FaultSteps s s.enterSetup := by
  delta State.enterSetup
  extract_lets s1
  have h1 : FaultSteps s s1 := (s.setWritten_only _).faultSteps.trans (.setMode .setup m (by decide))
  exact (h1.trans (((FaultSteps.rules s1).allRulesOff (.refl s1)).trans (State.parkNeedles_only _).faultSteps)).trans
    ((State.forceInterlock_faults _).trans ((State.stopSilenceTimer_only _).faultSteps.trans
      (State.refreshPru_only _).faultSteps))

theorem State.wake_faults (m : s.mode ≠ .startup) : FaultSteps s s.wake := by
  delta State.wake
  extract_lets s1 s2 s3
  have h1 : FaultSteps s s1 := ((FaultSteps.setMode .standby m (by decide)).trans (State.attend_only _ _).faultSteps).trans
    (.modMctl _ _ (by intro; rfl) (by intro; rfl))
  have h2 : FaultSteps s1 s2 :=
    ((((s1.startScans_only.andThen (State.startServices_only _) (n := [.sched])).andThen
      (forLines_only _ _) (n := [.sched, .hlm])).andThen (forLines_only _ _) (n := [.sched, .hlm])).andThen
        (State.startComparators_only _) (n := [.sched, .hlm])).andThen (State.wakeGauges_only _)
          (n := [.sched, .hlm, .gve]) |>.faultSteps
  have h3 : FaultSteps s2 s3 := s2.gateDoorTimers_only.faultSteps.trans
    ((State.mapRetries_only _ _).faultSteps.trans (State.restartPhase_only _).faultSteps)
  exact ((h1.trans h2).trans (h3.trans s3.freeInterlock_faults)).trans
    ((State.startSilenceTimer_only _).faultSteps.trans ((State.holdIfAsserted_only _).faultSteps.trans
      (State.refreshPru_only _).faultSteps))

theorem State.wakeByLink_faults : FaultSteps s s.wakeByLink := by
  unfold State.wakeByLink
  split
  case isTrue m => exact s.wake_faults (by simp [m])
  case isFalse => exact .refl s

theorem State.enterSleep_faults (m : s.mode ≠ .startup) : FaultSteps s s.enterSleep := by
  have ended : FaultSteps s s.endHoldForSleep :=
    .trans (.ite s.endHold_only.faultSteps (.refl s)) (State.modLif_only _ _ (by intro; rfl)).faultSteps
  have mode : s.endHoldForSleep.mode = s.mode := by
    unfold State.endHoldForSleep
    exact KeepsMode.trans (.ite s.endHold_only.keepsMode (.refl s)) (State.modLif_only _ _ (by intro; rfl)).keepsMode
  delta State.enterSleep
  extract_lets s1 s2 s3 s4
  have h1 : FaultSteps s s1 := (ended.trans (.setMode .sleep (by rw [mode]; exact m) (by decide))).trans
    (.modMctl _ _ (by intro; rfl) (by intro; rfl))
  have h2 : FaultSteps s1 s2 := s1.makeCounterDue_faults.trans
    (((forLines_only _ _).andThen (State.stopComparators_only _) (n := [.hlm])).andThen (State.stopGauges_only _)
      (n := [.hlm, .gve])).faultSteps
  have h3 : FaultSteps s2 s3 := (((forNeedles_only s2 _).andThen (State.gateDoorTimers_only _)
    (n := [.ndr, .dmn])).faultSteps.trans (State.forceInterlock_faults _)).trans (State.refreshOutputs_only _).faultSteps
  have h4 : FaultSteps s3 s4 := ((s3.mapRetries_only _).faultSteps.trans (State.stopSilenceTimer_only _).faultSteps).trans
    (State.refreshPru_only _).faultSteps
  exact ((h1.trans h2).trans (h3.trans h4)).trans (s4.modSched_only _).faultSteps

theorem State.sleepLines_faults (mv : Vector Nat 32) : FaultSteps s (s.sleepLines mv).1 := by
  suffices all : ∀ (l : List (Fin 32)) (q : State × Bool), FaultSteps s q.1 →
      FaultSteps s (l.foldl (fun (s, changed) n =>
        if s.watched n && (s.lineCfg n).fn.classified then
          let s' := s.sampleLine n mv[n]
          (s', changed || s'.logical n != s.logical n)
        else (s, changed)) q).1 from all _ (s, false) (.refl s)
  intro l
  induction l with
  | nil => exact fun _ h => h
  | cons n l ih =>
    refine fun q h => ih _ ?_
    dsimp only
    split
    · exact h.trans (q.1.sampleLine_faults n _)
    · exact h

end

/-! ### The events -/

/-- The events that write the store, load it or take up tables, and the resets. -/
def storesOrLoads : Instr → Bool
  | .powerOnReset | .brownOut | .externalReset | .breakRelease | .restartTakesEffect => true
  | .startupLoadComplete | .startupEnd => true
  | .writeStart | .slotWriteComplete | .counterSaveComplete | .configStoreComplete => true
  | _ => false

theorem Mctl.ignSample_loaded (active : Bool) (now : Nat) (c : Mctl) : (c.ignSample active now).loaded = c.loaded := by
  unfold Mctl.ignSample
  dsimp only
  repeat' split
  all_goals rfl

theorem eventEffect_faults (c : Instr) (s : State) (plain : storesOrLoads c = false) :
    FaultSteps s (eventEffect c s) := by
  have only := (eventEffect_advances c s).only
  have moment (v : State) (h : OnlyChanges [.now, .sched] s v) : FaultSteps s v := h.faultSteps
  have lif (u : State) (f : Lif → Lif) (h : ∀ l, (f l).attention = l.attention) : FaultSteps u (u.modLif f) :=
    (u.modLif_only f h).faultSteps
  cases c
  case supplyLowReportExpiry =>
    exact .atExpiry _ _ _ fun u _ => .trans (.report u _ true) (.modMctl _ _ (by intro; rfl) (by intro; rfl))
  case supplyHighReportExpiry =>
    exact .atExpiry _ _ _ fun u _ => .trans (.report u _ true) (.modMctl _ _ (by intro; rfl) (by intro; rfl))
  case vbMeasurement mv ign =>
    refine .ite (.refl s) (.trans (moment s.atVbMeasurement (Advances.atMoment (l := [.sched]) s _ _).only) ?_)
    exact .trans (.modMctl _ _ (fun c => Mctl.ignSample_mode _ _ c) fun c => Mctl.ignSample_loaded _ _ c)
      (State.measureVb_faults _ mv)
  case ignDebounceExpiry =>
    unfold eventEffect
    dsimp only
    split
    · exact .atExpiry _ _ _ fun u _ => u.acceptIgn_faults _
    · exact .refl s
  case operatingMinuteElapsed =>
    unfold eventEffect
    dsimp only
    split
    · exact .trans (.trans (s.reach_only _).faultSteps (.count _ _)) (.modMctl _ _ (by intro; rfl) (by intro; rfl))
    · exact .refl s
  case sleepEntry =>
    unfold eventEffect
    dsimp only
    split
    case isTrue may =>
      have m : s.mode = .standby := by simp [State.mayEnterSleep] at may; exact may.1.1.1.2
      exact s.enterSleep_faults (by simp [m])
    case isFalse => exact .refl s
  case sleepSample ign mv =>
    unfold eventEffect
    dsimp only
    split
    case isFalse => exact .refl s
    case isTrue m =>
      delta State.sleepSample
      extract_lets t s1
      have h1 : FaultSteps s s1 := moment s1 (Advances.atMoment (l := [.sched]) s _ _).only
      have lines := s1.sleepLines_faults mv
      revert lines
      obtain ⟨s2, changed⟩ := s1.sleepLines mv
      intro lines
      have read : FaultSteps s (s2.modMctl (Mctl.ignSample ign s2.now)) :=
        (h1.trans lines).trans (.modMctl _ _ (fun c => Mctl.ignSample_mode _ _ c) fun c => Mctl.ignSample_loaded _ _ c)
      refine .ite (read.trans (State.wake_faults _ ?_)) read
      exact mt read.startup.mp (by simp [m])
  case startOfReception idle =>
    exact .ite (.refl s) (s.wakeByLink_faults.trans (lif _ _ (by intro; rfl)))
  case byteReceived b stopHigh =>
    have ends : FaultSteps s (s.wakeByLink.byteEnds b stopHigh) := s.wakeByLink_faults.trans (lif _ _ (by intro; rfl))
    have error (u : State) : FaultSteps u u.stopBitError :=
      (((lif u _ (by intro; rfl)).trans (lif _ _ (by intro; rfl))).trans (State.attend_only _ _).faultSteps).trans
        (lif _ _ (by intro; rfl))
    exact .ite (.refl s) (.ite ends (.ite (ends.trans (State.takeByte_faults _ b)) (ends.trans (error _))))
  case hostSilenceBegins => exact .atExpiry _ _ _ fun u _ => u.beginSilence_faults
  case lineSample n mv =>
    refine .ite (.trans (moment (s.atLineSample n) (Advances.atMoment (l := [.sched]) s _ _).only) ?_) (.refl s)
    exact .ite (.refl _) (.ite (State.measureOnly_only _ n mv).faultSteps (State.sampleLine_faults _ n mv))
  case qualifyTimerExpiry n => exact .ite (.atExpiry _ _ _ fun u _ => u.confirmLine_faults n) (.refl s)
  case healTimerExpiry n => exact .ite (.atExpiry _ _ _ fun u _ => u.healLine_faults n) (.refl s)
  case channelSample k =>
    refine .ite (.trans (moment (s.atChannelSample k) (Advances.atMoment (l := [.sched]) s _ _).only) ?_) (.refl s)
    exact (State.sampleChannel_faults _ k).trans (State.speedUpdate_faults _ k)
  case feedTimeout k => exact .atExpiry _ _ _ fun u _ => u.feedTimeout_faults k
  case evaluationPass =>
    refine .ite (.trans (moment s.atPass (Advances.atMoment (l := [.sched]) s _ _).only) ?_) (.refl s)
    exact (FaultSteps.rules _).pass (.refl _)
  case lampDiagnosticTick n low =>
    refine .ite (.trans (moment (s.atLampTick n) (Advances.atMoment (l := [.sched]) s _ _).only) ?_) (.refl s)
    exact State.openTest_faults _ n low
  case lampOvercurrent n => exact .ite (s.overcurrent_faults n) (.refl s)
  case lampSuccessTimerExpiry n => exact .atExpiry _ _ _ fun u _ => u.onPeriodGood_faults n
  case openTimerExpiry d => exact .atExpiry _ _ _ fun u _ => u.rederive_faults d _
  case closeTimerExpiry d => exact .atExpiry _ _ _ fun u _ => u.rederive_faults d _
  case lockTimerExpiry d => exact .atExpiry _ _ _ fun u _ => u.rederive_faults d _
  case inconsistencyTimerExpiry d =>
    exact .atExpiry _ _ _ fun u _ => (u.modDoor_only d _).faultSteps.trans (State.rederive_faults _ d _)
  case powerOnReset => cases plain
  case brownOut => cases plain
  case externalReset => cases plain
  case breakRelease => cases plain
  case restartTakesEffect => cases plain
  case startupLoadComplete => cases plain
  case startupEnd => cases plain
  case writeStart => cases plain
  case slotWriteComplete => cases plain
  case counterSaveComplete => cases plain
  case configStoreComplete => cases plain
  all_goals exact only.faultSteps

/-! ### The requests -/

variable {s : State} in
theorem FaultSteps.served {early : Bool} {ok : Nat → Bool} {p : List Byte} {k : Service}
    (h : s.mode ≠ .startup ∨ early = true → FaultSteps s (k s).1) : FaultSteps s (served early ok p k s).1 := by
  unfold Machine.served
  split
  case isTrue => exact .refl s
  case isFalse free =>
    split
    · refine h ?_
      by_cases m : s.mode = .startup
      · exact .inr (by simpa [m] using free)
      · exact .inl m
    · exact .refl s

variable {s : State} in
theorem FaultSteps.servedInWorkshop {ok : Nat → Bool} {p : List Byte} {k : Service}
    (h : FaultSteps s (k s).1) : FaultSteps s (servedInWorkshop ok p k s).1 := by
  unfold Machine.servedInWorkshop
  repeat' split
  all_goals first | exact h | exact .refl s

theorem setModeService_faults (s : State) (target : Nat) (started : s.mode ≠ .startup) (m : s.mode ≠ .setup) :
    FaultSteps s (setModeService target s).1 := by
  unfold setModeService
  repeat' split
  all_goals first
    | exact absurd ‹s.mode = .setup› m
    | with_reducible exact .refl s
    | with_reducible exact s.enterSetup_faults started
    | with_reducible exact .setMode .workshop started (by decide)
    | with_reducible exact s.leaveWorkshop_faults ‹_›
    | with_reducible exact .modMctl s _ (by intro; rfl) (by intro; rfl)

/-- The requests that move the cursor, set a counter to 0, or leave SETUP. -/
def touchesMemory (m : Mode) : Instr → Bool
  | .readFaults _ _ | .setFaultCursor _ _ | .resetCounter _ _ => true
  | .setMode _ _ => m == .setup
  | _ => false

theorem requestService_faults (c : Instr) (s : State) (plain : touchesMemory s.mode c = false) :
    FaultSteps s (requestService c s).1 := by
  have only := requestService_only c s
  cases c
  case readFaults => cases plain
  case setFaultCursor => cases plain
  case resetCounter => cases plain
  case setMode tag p =>
    refine .served fun started => ?_
    exact setModeService_faults s _ (by simpa using started) (by simpa [touchesMemory] using plain)
  case restart tag p =>
    refine .served fun _ => ?_
    exact .trans (.trans (.modMctl s _ (by intro; rfl) (by intro; rfl)) (State.modLif_only _ _ (by intro; rfl)).faultSteps)
      (State.makeCounterDue_faults _)
  case storeConfig tag p =>
    refine .served fun _ => ?_
    unfold storeConfigService
    repeat' split
    all_goals first
      | with_reducible exact .refl s
      | exact FaultSteps.modFmy s (fun m => { m with storeRequested := true }) rfl
  case acknowledge tag p =>
    refine .served fun _ => ?_
    unfold acknowledgeService
    repeat' split
    all_goals first | with_reducible exact .refl s | with_reducible exact (FaultSteps.rules s).ackRule _ (.refl s)
  case clearFaults tag p =>
    refine .servedInWorkshop ?_
    unfold clearFaultsService
    repeat' split
    all_goals first | with_reducible exact .refl s | with_reducible exact .clear s _
  all_goals exact only.faultSteps

/-- A request brings its frame in, which may wake the part, and then is served or not. -/
theorem State.request_faults (s : State) (f : Frame) (k : Service) :
    ∃ u, FaultSteps s u ∧ (u.mode = s.mode ∨ u.mode = .standby) ∧ (s.request f k = u ∨ s.request f k = u.serve f k) := by
  obtain ⟨-, e⟩ | ⟨-, -, e⟩ | ⟨-, -, e⟩ := s.request_cases f k
  · exact ⟨s, .refl s, .inl rfl, .inr e⟩
  · exact ⟨s, .refl s, .inl rfl, .inl e⟩
  · have mode : (s.wakeByLink.lineWentHigh.frameArrives f).mode = s.wakeByLink.mode :=
      KeepsMode.trans (State.lineWentHigh_only _).keepsMode (State.frameArrives_only _ f).keepsMode
    refine ⟨s.wakeByLink.lineWentHigh.frameArrives f, ?_, ?_, ?_⟩
    · exact (s.wakeByLink_faults.trans (State.lineWentHigh_only _).faultSteps).trans (State.frameArrives_faults _ f)
    · rw [mode, State.wakeByLink]
      split
      · exact .inr s.wake_mode
      · exact .inl rfl
    · rw [e]
      split
      · exact .inr rfl
      · exact .inl rfl

/-! ### The counters -/

/-- The counters that stand within their range stay there and do not fall. -/
def CountersGrow (s t : State) : Prop :=
  ∀ i, s.counter i ≤ counterMax → s.counter i ≤ t.counter i ∧ t.counter i ≤ counterMax

section
variable (s : State)

theorem State.removeEntry_counters (i : Nat) : (s.removeEntry i).fmy.counters = s.fmy.counters := by
  unfold State.removeEntry
  split <;> simp

theorem State.changeEntry_counters (i : Nat) (f : FaultEntry → FaultEntry) :
    (s.changeEntry i f).fmy.counters = s.fmy.counters := by
  unfold State.changeEntry
  split <;> simp

theorem State.createEntry_counters (c : FaultCode) (p : Nat) (n : Fin 48) :
    (s.createEntry c p n).fmy.counters = s.fmy.counters := by
  simp [State.createEntry]

theorem State.activeReport_counters (c : FaultCode) (p : Nat) :
    (s.activeReport c p).fmy.counters = s.fmy.counters := by
  unfold State.activeReport
  split
  case h_1 i found =>
    split
    · with_reducible rfl
    · exact s.changeEntry_counters _ _
  case h_2 =>
    split
    · exact s.createEntry_counters _ _ _
    · split
      case h_1 =>
        split
        · exact (State.createEntry_counters _ _ _ _).trans (s.removeEntry_counters _)
        · rfl
      case h_2 => rfl

theorem State.clearedReport_counters (c : FaultCode) : (s.clearedReport c).fmy.counters = s.fmy.counters := by
  unfold State.clearedReport
  split
  · split
    · exact s.changeEntry_counters _ _
    · with_reducible rfl
  · with_reducible rfl

theorem State.handleReport_counters (c : FaultCode) (p : Nat) (a : Bool) :
    (s.handleReport c p a).fmy.counters = s.fmy.counters := by
  unfold State.handleReport
  split
  · exact s.activeReport_counters c p
  · exact s.clearedReport_counters c

theorem State.report_counters (c : FaultCode) (a : Bool) : (s.report c a).fmy.counters = s.fmy.counters := by
  unfold State.report
  dsimp only
  split
  · rfl
  · exact s.handleReport_counters _ _ _

theorem removeWhere_counters (pick : FaultEntry → Bool) (k i : Nat) :
    (removeWhere pick k i s).fmy.counters = s.fmy.counters := by
  induction k generalizing i s with
  | zero => rfl
  | succ k ih =>
    unfold removeWhere
    split
    · rfl
    · split
      · exact (ih _ _).trans (s.removeEntry_counters _)
      · exact ih _ _

theorem State.changeEntries_counters (pick : FaultEntry → Bool) (f : FaultEntry → FaultEntry) :
    (s.changeEntries pick f).fmy.counters = s.fmy.counters := by
  unfold State.changeEntries
  generalize List.range s.fmy.table.length = l
  induction l generalizing s with
  | nil => rfl
  | cons i l ih =>
    refine (ih _).trans ?_
    dsimp only
    split
    · exact s.changeEntry_counters _ _
    · rfl

theorem State.ageFaults_counters : s.ageFaults.fmy.counters = s.fmy.counters :=
  (State.changeEntries_counters _ _ _).trans ((removeWhere_counters _ _ _ _).trans (s.changeEntries_counters _ _))

theorem State.clearClasses_counters (pick : SourceClass → Bool) :
    (s.clearClasses pick).fmy.counters = s.fmy.counters := by
  have removed := removeWhere_counters s (fun e => pick e.code.sourceClass) s.fmy.table.length 0
  unfold State.clearClasses
  dsimp only
  split <;> exact removed

end

section
variable {s t : State}

theorem CountersGrow.of_eq (h : t.fmy.counters = s.fmy.counters) : CountersGrow s t := fun i bound => by
  have same : t.counter i = s.counter i := by rw [State.counter, h, State.counter]
  rw [same]
  exact ⟨le_rfl, bound⟩

theorem FaultSteps.counters (h : FaultSteps s t) : CountersGrow s t := by
  induction h with
  | quiet h => exact .of_eq (congrArg Fmy.counters h.fmy :)
  | trans _ _ h k => exact fun i bound => ⟨(h i bound).1.trans (k i (h i bound).2).1, (k i (h i bound).2).2⟩
  | report s c a => exact .of_eq (s.report_counters c a)
  | count s j =>
    intro i bound
    by_cases same : j = i
    · subst same
      have value : (s.bump j).counter j = min (s.counter j + 1) counterMax := updAt_same ..
      rw [value]
      exact ⟨le_min (Nat.le_succ _) bound, Nat.min_le_right _ _⟩
    · have value : (s.bump j).counter i = s.counter i := updAt_other _ _ _ _ same
      rw [value]
      exact ⟨le_rfl, bound⟩
  | age s m => exact .of_eq s.ageFaults_counters
  | clear s pick => exact .of_eq (s.clearClasses_counters pick)

end

end Sys2Proof.Machine
end

section
/-! PROOFS. Where the tables, the store and the counters may change. -/

namespace Sys2Proof.Machine

set_option Elab.async false

section
variable (s : State)

/-- R7: the tables taken at the end of STARTUP, before anything else. -/
def State.tablesTaken (s : State) : State :=
  { s with tables := s.mctl.loaded.getD {} }.modMctl fun c => { c with loaded := none }

/-- The end of STARTUP: the tables, the steps in STARTUP, the new mode, and the steps in it. -/
theorem State.endStartup_phases : ∃ (v : State) (m : Mode), FaultSteps s.tablesTaken v ∧ m ≠ .startup ∧
    FaultSteps (v.setMode m) s.endStartup := by
  delta State.endStartup
  extract_lets passed s1 s2 s3 s4
  have h2 : FaultSteps s.tablesTaken s2 := .trans (s1.attend_only _).faultSteps (.report _ _ _)
  have h3 : FaultSteps s2 s3 := s2.settleBlocks_faults.trans (State.settleLink_faults _)
  have h4 : FaultSteps s3 s4 :=
    (((s3.dropUnclassified_only.andThen (State.startComparators_only _) (n := [.hlm])).andThen
      (State.startUnits_only _) (n := [.hlm, .gve])).andThen (State.startServices_only _)
        (n := [.hlm, .gve, .sched])).faultSteps
  have ends (u : State) : FaultSteps u u.holdIfAsserted.refreshPru :=
    u.holdIfAsserted_only.faultSteps.trans (State.refreshPru_only _).faultSteps
  have begins (u : State) : FaultSteps u u.freeInterlock.startSilenceTimer :=
    u.freeInterlock_faults.trans (State.startSilenceTimer_only _).faultSteps
  have phases := (h2.trans h3).trans h4
  unfold State.leaveStartup
  dsimp only
  split
  · split
    · exact ⟨s4, .run, phases, by decide, ((State.ignitionOn_faults _).trans (begins _)).trans (ends _)⟩
    · exact ⟨s4, .standby, phases, by decide, (begins _).trans (ends _)⟩
  · exact ⟨s4, .unconfigured, phases, by decide, (State.homeAllNeedles_only _).faultSteps.trans (ends _)⟩

/-- The exit from SETUP: the tables and the reset of the blocks, the over-aged entries, and the steps after them. -/
theorem State.exitSetup_phases (t : Tables) (m : s.mode = .setup) :
    FaultSteps ((s.takeUpTables t).removeOverAged t.general.agingLimit) (s.exitSetup t) := by
  delta State.exitSetup
  extract_lets s1 s2 s3 s4
  have still : KeepsMode s s1 := .trans (t := s.takeUpTables t) (by rfl) (State.removeEntries_only _ _).keepsMode
  have h2 : FaultSteps s1 s2 := s1.settleBlocks_faults.trans (State.startComparators_only _).faultSteps
  have h3 : FaultSteps s2 s3 := (s2.modSched_only _).faultSteps
  have started : s3.mode ≠ .startup := by
    rw [Ne, (h2.trans h3).startup, still, m]
    decide
  have h4 : FaultSteps s3 s4 := .ite (s3.enterRun_faults started) (.setMode .standby started (by decide))
  exact ((h2.trans h3).trans h4).trans ((s4.freeInterlock_faults.trans (State.startSilenceTimer_only _).faultSteps).trans
    (State.refreshPru_only _).faultSteps)

end

/-! ### The writes of the store leave the counters alone -/

section
variable (s : State)

theorem State.startWrite_counters : s.startWrite.fmy.counters = s.fmy.counters := by
  unfold State.startWrite
  repeat' split
  all_goals rfl

theorem State.leaveClear_counters (n : Fin 48) : (s.leaveClear n).fmy.counters = s.fmy.counters := by
  unfold State.leaveClear
  split
  · rfl
  · dsimp only
    split <;> rfl

theorem State.completeSlotWrite_counters (n : Fin 48) (c : SlotContent) (old : Bool) :
    (s.completeSlotWrite n c old).fmy.counters = s.fmy.counters := by
  have written (m : Fmy) : (m.slotWritten n).counters = m.counters := by
    unfold Fmy.slotWritten
    repeat' split
    all_goals rfl
  unfold State.completeSlotWrite
  dsimp only
  split
  · exact written _
  · exact (State.leaveClear_counters _ n).trans (written _)

theorem State.completeCounterSave_counters (c : Vector Nat 12) :
    (s.completeCounterSave c).restartAfterSave.fmy.counters = s.fmy.counters := by
  unfold State.restartAfterSave
  repeat' split
  all_goals rfl

theorem State.completeStore_counters (l : List Byte) : (s.completeStore l).fmy.counters = s.fmy.counters := by
  unfold State.completeStore
  dsimp only
  split
  · exact State.report_counters _ _ _
  · rfl

end

section
variable {s : State}

theorem CountersGrow.trans {t u : State} (h : CountersGrow s t) (k : CountersGrow t u) : CountersGrow s u :=
  fun i bound => ⟨(h i bound).1.trans (k i (h i bound).2).1, (k i (h i bound).2).2⟩

theorem CountersGrow.atExpiry (timer : Timer) (figure : Nat) (k : State → State)
    (h : ∀ t : State, (k t).fmy.counters = t.fmy.counters) : CountersGrow s (atExpiry timer figure k s) :=
  atExpiry_cases s timer figure k _ (.of_eq rfl) fun _ _ => .of_eq (h _)

/-- The resets and the load that follows them. -/
def resetsOrLoads (s : State) : Instr → Bool
  | .powerOnReset | .brownOut | .externalReset | .restartTakesEffect | .startupLoadComplete => true
  | .breakRelease => s.lif.breakLatched
  | _ => false

/-- R173: no event but a reset, with its load, lets a counter fall. -/
theorem eventEffect_counters (c : Instr) (plain : resetsOrLoads s c = false) : CountersGrow s (eventEffect c s) := by
  cases c
  case startupEnd =>
    unfold eventEffect
    dsimp only
    split
    · obtain ⟨v, m, before, -, after⟩ := s.endStartup_phases
      have taken : CountersGrow s s.tablesTaken := .of_eq rfl
      have mode : CountersGrow v (v.setMode m) := .of_eq rfl
      exact (taken.trans before.counters).trans (mode.trans after.counters)
    · exact .of_eq rfl
  case writeStart => exact .of_eq s.startWrite_counters
  case slotWriteComplete =>
    unfold eventEffect
    dsimp only
    split
    · exact .atExpiry _ _ _ fun u => u.completeSlotWrite_counters _ _ _
    · exact .of_eq rfl
  case counterSaveComplete =>
    unfold eventEffect
    dsimp only
    split
    · exact .atExpiry _ _ _ fun u => u.completeCounterSave_counters _
    · exact .of_eq rfl
  case configStoreComplete =>
    unfold eventEffect
    dsimp only
    split
    · exact .atExpiry _ _ _ fun u => u.completeStore_counters _
    · exact .of_eq rfl
  case breakRelease =>
    have free : s.lif.breakLatched = false := plain
    rw [eventEffect, if_neg (by simp [free])]
    exact .of_eq rfl
  case powerOnReset => cases plain
  case brownOut => cases plain
  case externalReset => cases plain
  case restartTakesEffect => cases plain
  case startupLoadComplete => cases plain
  all_goals exact (eventEffect_faults _ s rfl).counters

/-- R12: a SET_MODE in SETUP leaves it for the written tables, where they pass their checks, or changes nothing. -/
theorem setMode_in_setup (tag : Byte) (p : List Byte) (m : s.mode = .setup) :
    (requestService (.setMode tag p) s).1 = s ∨ ((s.written.getD s.tables).crossOk = true ∧
      (requestService (.setMode tag p) s).1 = s.exitSetup (s.written.getD s.tables)) := by
  have leave : (leaveSetupService s).1 = s ∨ ((s.written.getD s.tables).crossOk = true ∧
      (leaveSetupService s).1 = s.exitSetup (s.written.getD s.tables)) := by
    unfold leaveSetupService
    dsimp only
    split
    case isTrue ok =>
      refine .inr ⟨ok, ?_⟩
      with_reducible rfl
    case isFalse => exact .inl rfl
  have service (target : Nat) : (setModeService target s).1 = s ∨ (setModeService target s).1 = (leaveSetupService s).1 := by
    unfold setModeService
    simp only [m]
    split <;> first | exact .inl rfl | exact .inr rfl
  change (served false (ofLength 1) p (setModeService (rd8 p 0)) s).1 = s ∨ (_ ∧
    (served false (ofLength 1) p (setModeService (rd8 p 0)) s).1 = _)
  unfold served
  repeat' split
  · exact .inl rfl
  · obtain same | left := service (rd8 p 0)
    · exact .inl same
    · rw [left]; exact leave
  · exact .inl rfl

/-- R173: no request but RESET_COUNTER lets a counter fall. -/
theorem requestService_counters (c : Instr) (plain : ∀ tag p, c ≠ .resetCounter tag p) :
    CountersGrow s (requestService c s).1 := by
  have only := requestService_only c s
  have same (fmy : (requestService c s).1.fmy = s.fmy) : CountersGrow s (requestService c s).1 :=
    .of_eq (congrArg Fmy.counters fmy)
  cases c
  case resetCounter tag p => exact absurd rfl (plain tag p)
  case readFaults => exact same (only.same .fmy)
  case setFaultCursor => exact same (only.same .fmy)
  case setMode tag p =>
    by_cases m : s.mode = .setup
    · obtain e | ⟨-, e⟩ := setMode_in_setup tag p m <;> rw [e]
      · exact .of_eq rfl
      · have taken : CountersGrow s (s.takeUpTables (s.written.getD s.tables)) := .of_eq rfl
        have removed (u : State) (limit : Nat) : CountersGrow u (u.removeOverAged limit) :=
          .of_eq (removeWhere_counters _ _ _ _)
        exact (taken.trans (removed _ _)).trans (s.exitSetup_phases _ m).counters
    · exact (requestService_faults _ s (by simp [touchesMemory, m])).counters
  all_goals exact (requestService_faults _ s rfl).counters

/-- R189: RESET_COUNTER sets the counter that it names to 0, in WORKSHOP, and no other. -/
theorem resetCounter_counters (tag : Byte) (p : List Byte) (i : Fin 12) :
    (requestService (.resetCounter tag p) s).1.counter i = s.counter i ∨ (s.mode = .workshop ∧ i ≠ ignitionPlace ∧
      i ≠ minutePlace ∧ (requestService (.resetCounter tag p) s).1.counter i = 0 ∧ p = [BitVec.ofNat 8 i.val]) := by
  change (servedInWorkshop (ofLength 1) p (resetCounterService p) s).1.counter i = _ ∨ (_ ∧ _ ∧ _ ∧
    (servedInWorkshop (ofLength 1) p (resetCounterService p) s).1.counter i = 0 ∧ _)
  unfold servedInWorkshop resetCounterService
  split
  · exact .inl rfl
  case isFalse m =>
    split
    case isFalse => exact .inl rfl
    case isTrue one =>
      split
      case h_2 => exact .inl rfl
      case h_1 c place =>
        split
        case isFalse => exact .inl rfl
        case isTrue may =>
          have byte : p = [BitVec.ofNat 8 c.val] := by
            obtain ⟨b, rfl⟩ := List.length_eq_one_iff.mp (by simpa [ofLength] using one)
            have value : b.toNat = c.val := finOf_eq_some_iff.mp place
            rw [← value, BitVec.ofNat_toNat, BitVec.setWidth_eq]
          simp only [resettable, Bool.and_eq_true, bne_iff_ne] at may
          by_cases same : c = i
          · subst same
            exact .inr ⟨not_not.mp m, may.1, may.2, Vector.getElem_set_self _, byte⟩
          · exact .inl (Vector.getElem_set_ne c.isLt i.isLt fun e => same (Fin.ext e))

end

theorem requestService_nv (c : Instr) (s : State) : (requestService c s).1.nv = s.nv := by
  have only := requestService_only c s
  cases c <;> exact only.same .nv

theorem requestService_tables (c : Instr) (s : State) (plain : s.mode = .setup → ∀ tag p, c ≠ .setMode tag p) :
    (requestService c s).1.tables = s.tables := by
  have only := requestService_only c s
  cases c
  case setMode tag p =>
    have other : s.mode ≠ .setup := fun m => plain m tag p rfl
    exact (requestService_faults _ s (by simp [touchesMemory, other])).keeps.2.1
  all_goals exact only.same .tables

/-- A part that runs on keeps its tables but at the end of STARTUP, and its store but where a write completes. -/
theorem eventEffect_stores (c : Instr) (s : State) (power : c ≠ .powerOnReset) (brown : c ≠ .brownOut)
    (pin : c ≠ .externalReset) (link : c ≠ .breakRelease) :
    (c ≠ .restartTakesEffect → c ≠ .startupEnd → (eventEffect c s).tables = s.tables) ∧
      (c ≠ .slotWriteComplete → c ≠ .counterSaveComplete → c ≠ .configStoreComplete →
        (eventEffect c s).nv = s.nv) := by
  have only := (eventEffect_advances c s).only
  cases c
  case powerOnReset => exact absurd rfl power
  case brownOut => exact absurd rfl brown
  case externalReset => exact absurd rfl pin
  case breakRelease => exact absurd rfl link
  case restartTakesEffect =>
    refine ⟨fun restart => absurd rfl restart, fun _ _ _ => ?_⟩
    unfold eventEffect
    dsimp only
    split <;> rfl
  case startupEnd => exact ⟨fun _ startup => absurd rfl startup, fun _ _ _ => only.same .nv⟩
  case slotWriteComplete => exact ⟨fun _ _ => only.same .tables, fun slot => absurd rfl slot⟩
  case counterSaveComplete => exact ⟨fun _ _ => only.same .tables, fun _ save => absurd rfl save⟩
  case configStoreComplete => exact ⟨fun _ _ => only.same .tables, fun _ _ store => absurd rfl store⟩
  all_goals exact ⟨fun _ _ => only.same .tables, fun _ _ _ => only.same .nv⟩

/-- Settles O53, from the frames of the commands and what each does to the counters. -/
theorem tablesAndStoreChangeOnlyWhereTheyMay : Obligations.TablesAndStoreChangeOnlyWhereTheyMay := by
  intro c s t e
  obtain ⟨f, -, e'⟩ | ⟨-, e'⟩ := exec_cases c s
  all_goals
    rw [e'] at e
    cases e
  · split
    case isTrue => exact ⟨fun _ _ _ _ => ⟨fun _ _ _ => rfl, fun _ _ _ => rfl⟩, fun _ _ _ _ _ _ i _ => .inl le_rfl⟩
    case isFalse =>
      obtain ⟨u, arrived, mode, same | served⟩ := s.request_faults f (requestService c)
      · rw [same]
        exact ⟨fun _ _ _ _ => ⟨fun _ _ _ => arrived.keeps.2.1, fun _ _ _ => arrived.keeps.1⟩,
          fun _ _ _ _ _ _ i bound => .inl (arrived.counters i bound).1⟩
      · rw [served]
        refine ⟨fun _ _ _ _ => ⟨fun _ _ plain => ?_, fun _ _ _ => (requestService_nv c u).trans arrived.keeps.1⟩,
          fun _ _ _ _ _ _ i bound => ?_⟩
        · refine (requestService_tables c u fun m => plain ?_).trans arrived.keeps.2.1
          exact mode.elim (fun same => same.symm.trans m) fun woken => absurd (woken.symm.trans m) (by decide)
        · have here := arrived.counters i bound
          by_cases plain : ∀ tag p, c ≠ .resetCounter tag p
          · exact .inl (here.1.trans (requestService_counters c plain i here.2).1)
          · push Not at plain
            obtain ⟨tag, p, rfl⟩ := plain
            obtain kept | ⟨m, cycles, minutes, zero, rfl⟩ := resetCounter_counters (s := u) tag p i
            · exact .inl (here.1.trans kept.ge)
            · refine .inr ⟨?_, cycles, minutes, zero, tag, rfl⟩
              exact mode.elim (fun same => same.symm.trans m) fun woken => absurd (woken.symm.trans m) (by decide)
  · split
    case isTrue => exact ⟨fun _ _ _ _ => ⟨fun _ _ _ => rfl, fun _ _ _ => rfl⟩, fun _ _ _ _ _ _ i _ => .inl le_rfl⟩
    case isFalse =>
      refine ⟨fun power brown pin link => ?_, fun power brown pin link restart load i bound => .inl ?_⟩
      · obtain ⟨tables, nv⟩ := eventEffect_stores c s power brown pin link
        exact ⟨fun restart startup _ => tables restart startup, nv⟩
      · refine (eventEffect_counters c ?_ i bound).1
        cases c <;> first | rfl | exact link rfl | contradiction

end Sys2Proof.Machine
end

section
/-! PROOFS. The law of the fault memory under reports, agings and clears: each edits the table at one slot and dirties
that slot. -/

namespace Sys2Proof.Machine

set_option Elab.async false

/-! ### The law in two halves, for an aging limit -/

/-- What the law says of the fault table. -/
structure Fmy.TableHolds (limit : Nat) (m : Fmy) : Prop where
  room : m.table.length ≤ 48
  codes : (m.table.map (·.code)).Nodup
  slots : (m.table.map (·.slot)).Nodup
  order : m.table.Pairwise fun a b => a.created < b.created ∨
    (a.created = b.created ∧ (a.slot < b.slot ∨ a.created = counterMax))
  created : m.created ≤ counterMax ∧ ∀ e ∈ m.table, 1 ≤ e.created ∧ e.created ≤ m.created
  ranges : ∀ e ∈ m.table, 1 ≤ e.occurrences ∧ e.occurrences ≤ 255 ∧ e.aging < limit

/-- What the law says of the way from the table to the store. -/
structure Fmy.StoreHolds (m : Fmy) (nv : Nv) : Prop where
  items : m.writes.Nodup
  flight : ∀ n, m.write.slotNo = some n → n ∉ m.writes
  mirror : m.loading = false → ∀ n, m.Mirrors n nv.slots[n] ∨ m.awaits n
  taken : ∀ n c stale, m.write = .slot n c stale → m.reappend = false → m.Mirrors n c
  load : m.loading = true → m.table = [] ∧ m.write = .idle

/-- The law of the fault memory with an aging limit named. -/
structure FaultHolds (limit : Nat) (s : State) : Prop where
  table : s.fmy.TableHolds limit
  store : s.fmy.StoreHolds s.nv
  cursor : s.wsv.cursor ≤ s.fmy.table.length
  counters : ∀ c, s.counter c ≤ counterMax
  saved : ∀ v : Vector Nat 12, s.fmy.write = .counters v ∨ (∃ no, s.nv.copyA = .good v no) ∨
    (∃ no, s.nv.copyB = .good v no) → ∀ c : Fin 12, v[c] ≤ counterMax

theorem faultLaw_iff {s : State} : FaultLaw s ↔ FaultHolds s.agingLimit s :=
  ⟨fun h => ⟨⟨h.room, h.codes, h.slots, h.order, h.created, h.ranges⟩, ⟨h.items, h.flight, h.mirror, h.taken, h.load⟩,
      h.cursor, h.counters, h.saved⟩,
    fun ⟨⟨room, codes, slots, order, created, ranges⟩, ⟨items, flight, mirror, taken, load⟩, cursor, counters, saved⟩ =>
      ⟨room, codes, slots, order, created, ranges, items, flight, mirror, taken, cursor, counters, saved, load⟩⟩

/-! ### The table -/

section
variable {limit : Nat} {m : Fmy}

theorem Fmy.TableHolds.tighten {l : Nat} (h : m.TableHolds limit) (within : ∀ e ∈ m.table, e.aging < l) :
    m.TableHolds l :=
  ⟨h.room, h.codes, h.slots, h.order, h.created, fun e mem => ⟨(h.ranges e mem).1, (h.ranges e mem).2.1, within e mem⟩⟩

/-- The table's half of the law reads the table and the creation counter. -/
theorem Fmy.TableHolds.congr {m' : Fmy} (h : m.TableHolds limit) (table : m'.table = m.table)
    (created : m'.created = m.created) : m'.TableHolds limit := by
  refine ⟨?_, ?_, ?_, ?_, ?_, ?_⟩
  all_goals rw [table]
  · exact h.room
  · exact h.codes
  · exact h.slots
  · exact h.order
  · rw [created]; exact h.created
  · exact h.ranges

/-- A change of one entry that keeps its code, slot and number. -/
theorem Fmy.TableHolds.set (h : m.TableHolds limit) {m' : Fmy} {i : Nat} {e x : FaultEntry} (found : m.table[i]? = some e)
    (table : m'.table = m.table.set i x) (number : m'.created = m.created) (code : x.code = e.code)
    (slot : x.slot = e.slot) (created : x.created = e.created)
    (ranges : 1 ≤ x.occurrences ∧ x.occurrences ≤ 255 ∧ x.aging < limit) : m'.TableHolds limit := by
  have mapped {α : Type} (g : FaultEntry → α) (same : g x = g e) : (m.table.set i x).map g = m.table.map g := by
    obtain ⟨bound, rfl⟩ := List.getElem?_eq_some_iff.mp found
    have here : (m.table.map g)[i]'(by simpa using bound) = g m.table[i] := List.getElem_map _
    rw [List.map_set, same, ← here, List.set_getElem_self]
  have members (y : FaultEntry) (mem : y ∈ m.table.set i x) : y = x ∨ y ∈ m.table := (List.mem_or_eq_of_mem_set mem).symm
  have there : e ∈ m.table := List.mem_of_getElem? found
  refine ⟨?_, ?_, ?_, ?_, ?_, ?_⟩
  all_goals rw [table]
  · rw [List.length_set]; exact h.room
  · rw [mapped (·.code) code]; exact h.codes
  · rw [mapped (·.slot) slot]; exact h.slots
  · let R (a b : Nat × Fin 48) : Prop := a.1 < b.1 ∨ (a.1 = b.1 ∧ (a.2 < b.2 ∨ a.1 = counterMax))
    have order : (m.table.map fun y => (y.created, y.slot)).Pairwise R := List.pairwise_map.mpr h.order
    rw [← mapped (fun y => (y.created, y.slot)) (by rw [created, slot])] at order
    exact List.pairwise_map.mp order
  · rw [number]
    refine ⟨h.created.1, fun y mem => ?_⟩
    obtain rfl | mem := members y mem
    · rw [created]; exact h.created.2 e there
    · exact h.created.2 y mem
  · intro y mem
    obtain rfl | mem := members y mem
    · exact ranges
    · exact h.ranges y mem

theorem Fmy.TableHolds.sublist (h : m.TableHolds limit) {m' : Fmy} (sub : m'.table.Sublist m.table)
    (number : m'.created = m.created) : m'.TableHolds limit :=
  ⟨sub.length_le.trans h.room, h.codes.sublist (sub.map _), h.slots.sublist (sub.map _), h.order.sublist sub,
    number ▸ ⟨h.created.1, fun e mem => h.created.2 e (sub.subset mem)⟩, fun e mem => h.ranges e (sub.subset mem)⟩

/-- R158: a new entry behind the others, with the next number. -/
theorem Fmy.TableHolds.append (h : m.TableHolds limit) (positive : 0 < limit) {m' : Fmy} {x : FaultEntry}
    (table : m'.table = m.table ++ [x]) (number : m'.created = min (m.created + 1) counterMax)
    (created : x.created = min (m.created + 1) counterMax) (room : m.table.length < 48)
    (code : ∀ e ∈ m.table, e.code ≠ x.code) (slot : ∀ e ∈ m.table, e.slot ≠ x.slot)
    (occurrences : x.occurrences = 1) (aging : x.aging = 0) : m'.TableHolds limit := by
  have top : (0 : Nat) < counterMax := by decide
  have below := h.created.1
  refine ⟨?_, ?_, ?_, ?_, ?_, ?_⟩
  all_goals rw [table]
  · rw [List.length_append, List.length_singleton]; exact room
  · rw [List.map_append, List.nodup_append]
    exact ⟨h.codes, List.nodup_singleton _, by simpa using code⟩
  · rw [List.map_append, List.nodup_append]
    exact ⟨h.slots, List.nodup_singleton _, by simpa using slot⟩
  · refine List.pairwise_append.mpr ⟨h.order, List.pairwise_singleton _ _, fun a mem b last => ?_⟩
    obtain rfl := List.mem_singleton.mp last
    have range := h.created.2 a mem
    rw [created]
    by_cases full : m.created < counterMax
    · exact .inl (by omega)
    · by_cases equal : a.created = counterMax
      · exact .inr ⟨by omega, .inr equal⟩
      · exact .inl (by omega)
  · rw [number]
    refine ⟨Nat.min_le_right _ _, fun e mem => ?_⟩
    obtain mem | last := List.mem_append.mp mem
    · have range := h.created.2 e mem
      omega
    · obtain rfl := List.mem_singleton.mp last
      omega
  · intro e mem
    obtain mem | last := List.mem_append.mp mem
    · exact h.ranges e mem
    · obtain rfl := List.mem_singleton.mp last
      rw [occurrences, aging]
      exact ⟨le_rfl, by decide, positive⟩

end

/-! ### The store -/

section
variable {m : Fmy} {nv : Nv}

theorem Fmy.Mirrors.congr {m' : Fmy} {n : Fin 48} {c : SlotContent} (h : m.Mirrors n c)
    (same : ∀ e, e.slot = n → (e ∈ m'.table ↔ e ∈ m.table)) : m'.Mirrors n c := by
  refine ⟨fun e mem slot => h.1 e ((same e slot).mp mem) slot, fun none => h.2 fun e mem slot => ?_⟩
  exact none e ((same e slot).mpr mem) slot

/-- R165: an edit of the table at one slot, with that slot dirtied, keeps the store in step. -/
theorem Fmy.StoreHolds.edit (h : m.StoreHolds nv) {m' : Fmy} (n : Fin 48) (writes : m'.writes = m.writes)
    (write : m'.write = m.write) (reappend : m'.reappend = m.reappend) (loaded : m'.loading = false)
    (loading : m.loading = false) (others : ∀ e, e.slot ≠ n → (e ∈ m'.table ↔ e ∈ m.table)) :
    (m'.dirty n).StoreHolds nv := by
  have mirrors {k : Fin 48} {c : SlotContent} (other : k ≠ n) (mirrored : m.Mirrors k c) : (m'.dirty n).Mirrors k c :=
    mirrored.congr fun e slot => by rw [Fmy.dirty_table]; exact others e (slot ▸ other)
  unfold Fmy.dirty at mirrors ⊢
  split at mirrors
  case isTrue inFlight =>
    rw [if_pos inFlight]
    refine ⟨writes ▸ h.items, fun k at_ => by rw [writes]; exact h.flight k (write ▸ at_), fun _ k => ?_,
      fun _ _ _ _ marked => absurd marked (by simp), fun busy => ?_⟩
    · by_cases same : k = n
      · exact .inr (.inr (same ▸ inFlight))
      · refine (h.mirror loading k).imp (mirrors same) fun waits => ?_
        exact waits.imp (fun listed => by rw [writes]; exact listed) fun at_ => by rw [← write] at at_; exact at_
    · exact absurd (loaded.symm.trans busy) Bool.false_ne_true
  case isFalse resting =>
    rw [if_neg resting]
    have taken {w : List (Fin 48)} : ∀ k c stale, m'.write = .slot k c stale → m'.reappend = false →
        Fmy.Mirrors { m' with writes := w } k c := by
      intro k c stale at_ unmarked
      have other : k ≠ n := by
        rintro rfl
        exact resting (by rw [at_]; rfl)
      have kept := h.taken k c stale (write ▸ at_) (reappend ▸ unmarked)
      exact kept.congr fun e slot => others e (slot ▸ other)
    split at mirrors
    case isTrue listed =>
      rw [if_pos listed]
      refine ⟨writes ▸ h.items, fun k at_ => by rw [writes]; exact h.flight k (write ▸ at_), fun _ k => ?_,
        taken (w := m'.writes), fun busy => absurd (loaded.symm.trans busy) Bool.false_ne_true⟩
      by_cases same : k = n
      · exact .inr (.inl (same ▸ listed))
      · refine (h.mirror loading k).imp (mirrors same) fun waits => ?_
        exact waits.imp (fun there => by rw [writes]; exact there) fun at_ => by rw [← write] at at_; exact at_
    case isFalse unlisted =>
      rw [if_neg unlisted]
      refine ⟨?_, fun k at_ => ?_, fun _ k => ?_, taken, fun busy => absurd (loaded.symm.trans busy) Bool.false_ne_true⟩
      · exact List.nodup_append.mpr ⟨writes ▸ h.items, List.nodup_singleton _, fun a mem b last => by
          rintro rfl
          exact unlisted (List.mem_singleton.mp last ▸ mem)⟩
      · rw [List.mem_append, List.mem_singleton, not_or, writes]
        refine ⟨h.flight k (write ▸ at_), ?_⟩
        rintro rfl
        exact resting at_
      · by_cases same : k = n
        · exact .inr (.inl (by simp [same]))
        · refine (h.mirror loading k).imp (mirrors same) fun waits => ?_
          exact waits.imp (fun there => by rw [writes]; exact List.mem_append_left _ there)
            fun at_ => by rw [← write] at at_; exact at_

end

/-! ### Edits of the table -/

section
variable {limit : Nat} {s : State}

theorem FaultHolds.tighten {l : Nat} (h : FaultHolds limit s) (within : ∀ e ∈ s.fmy.table, e.aging < l) :
    FaultHolds l s := ⟨h.table.tighten within, h.store, h.cursor, h.counters, h.saved⟩

/-- An index of the table is there once the load is complete only. -/
theorem FaultHolds.loaded {i : Nat} {e : FaultEntry} (h : FaultHolds limit s) (found : s.fmy.table[i]? = some e) :
    s.fmy.loading = false := by
  by_contra loading
  obtain ⟨empty, -⟩ := h.store.load (by simpa using loading)
  simp [empty] at found

/-- The law through an operation on the fault memory that leaves the counters, the store and the write alone. -/
theorem FaultHolds.of_parts {t : State} (h : FaultHolds limit s) (table : t.fmy.TableHolds limit)
    (store : t.fmy.StoreHolds t.nv) (cursor : t.wsv.cursor ≤ t.fmy.table.length)
    (counters : t.fmy.counters = s.fmy.counters)
    (write : ∀ v, t.fmy.write = .counters v → s.fmy.write = .counters v) (nv : t.nv = s.nv) : FaultHolds limit t := by
  refine ⟨table, store, cursor, fun c => ?_, fun v at_ => ?_⟩
  · rw [State.counter, counters]
    exact h.counters c
  · rw [nv] at at_
    exact h.saved v (at_.imp_left (write v))

theorem State.changeEntry_found {i : Nat} {e : FaultEntry} (found : s.fmy.table[i]? = some e)
    (f : FaultEntry → FaultEntry) : s.changeEntry i f =
      (s.modFmy fun m => { m with table := m.table.set i (f e) }).tableChanged e.slot := by
  rw [State.changeEntry, found]

theorem FaultHolds.changeEntry (h : FaultHolds limit s) {i : Nat} {e : FaultEntry} (found : s.fmy.table[i]? = some e)
    (f : FaultEntry → FaultEntry) (code : (f e).code = e.code) (slot : (f e).slot = e.slot)
    (created : (f e).created = e.created)
    (ranges : 1 ≤ (f e).occurrences ∧ (f e).occurrences ≤ 255 ∧ (f e).aging < limit) :
    FaultHolds limit (s.changeEntry i f) := by
  have loading := h.loaded found
  have only := s.changeEntry_only i f
  have table := State.changeEntry_table_set found f
  have others (x : FaultEntry) (other : x.slot ≠ e.slot) :
      x ∈ s.fmy.table.set i (f e) ↔ x ∈ s.fmy.table := by
    obtain ⟨bound, rfl⟩ := List.getElem?_eq_some_iff.mp found
    refine ⟨fun mem => (List.mem_or_eq_of_mem_set mem).resolve_right ?_, fun mem => ?_⟩
    · rintro rfl
      exact other slot
    · obtain ⟨j, hj, rfl⟩ := List.mem_iff_getElem.mp mem
      refine List.mem_iff_getElem.mpr ⟨j, by simpa using hj, List.getElem_set_ne ?_ _⟩
      rintro rfl
      exact other rfl
  refine h.of_parts (h.table.set found table ?_ code slot created ranges) ?_ ?_ (s.changeEntry_counters i f) ?_
    (only.same .nv)
  all_goals rw [State.changeEntry_found found f]
  · rw [State.tableChanged_fmy]
    unfold Fmy.dirty
    repeat' split
    all_goals rfl
  · exact h.store.edit e.slot rfl rfl rfl loading loading others
  · rw [State.tableChanged_table, State.modFmy_fmy, List.length_set]
    exact h.cursor
  · rw [State.tableChanged_fmy, Fmy.dirty_write]; exact fun _ at_ => at_

theorem FaultHolds.removeEntry (h : FaultHolds limit s) (i : Nat) : FaultHolds limit (s.removeEntry i) := by
  cases found : s.fmy.table[i]? with
  | none =>
    rw [State.removeEntry, found]
    exact h
  | some e =>
    have loading := h.loaded found
    have only := s.removeEntry_only i
    have table := s.removeEntry_table i
    have eq : s.removeEntry i = ((s.modFmy fun m =>
        { m with table := m.table.eraseIdx i, formers := m.formers.set e.slot (some e.code) }).tableChanged
          e.slot).modWsv (Wsv.entryRemoved i) := by rw [State.removeEntry, found]
    obtain ⟨bound, here⟩ := List.getElem?_eq_some_iff.mp found
    have others (x : FaultEntry) (other : x.slot ≠ e.slot) : x ∈ s.fmy.table.eraseIdx i ↔ x ∈ s.fmy.table := by
      refine ⟨fun mem => List.mem_of_mem_eraseIdx mem, fun mem => ?_⟩
      obtain ⟨j, hj⟩ := List.mem_iff_getElem?.mp mem
      refine List.mem_eraseIdx_iff_getElem?.mpr ⟨j, ?_, hj⟩
      rintro rfl
      rw [found] at hj
      exact other (by cases hj; rfl)
    have length : (s.removeEntry i).fmy.table.length = s.fmy.table.length - 1 := by
      rw [table, List.length_eraseIdx_of_lt bound]
    refine h.of_parts (h.table.sublist (table ▸ List.eraseIdx_sublist ..) ?_) ?_ ?_ (s.removeEntry_counters i)
      (fun _ at_ => (s.removeEntry_write i).symm.trans at_) (only.same .nv)
    · rw [eq, State.modWsv_fmy, State.tableChanged_fmy]
      unfold Fmy.dirty
      repeat' split
      all_goals rfl
    · rw [eq]
      exact h.store.edit e.slot rfl rfl rfl loading loading others
    · rw [length, s.removeEntry_cursor i found]
      have := h.cursor
      split <;> omega

theorem FaultHolds.createEntry (h : FaultHolds limit s) (positive : 0 < limit) (loading : s.fmy.loading = false)
    (c : FaultCode) (p : Nat) (n : Fin 48) (room : s.fmy.table.length < 48) (code : ∀ e ∈ s.fmy.table, e.code ≠ c)
    (slot : ∀ e ∈ s.fmy.table, e.slot ≠ n) : FaultHolds limit (s.createEntry c p n) := by
  obtain ⟨x, table, rfl, -, -, occurrences, aging, -, -, rfl, -, created⟩ := s.createEntry_table c p n
  have number : (s.createEntry x.code p x.slot).fmy.created = min (s.fmy.created + 1) counterMax := by
    rw [State.createEntry, State.tableChanged_fmy]
    unfold Fmy.dirty
    repeat' split
    all_goals rfl
  have others (e : FaultEntry) (other : e.slot ≠ x.slot) : e ∈ s.fmy.table ++ [x] ↔ e ∈ s.fmy.table := by
    rw [List.mem_append, List.mem_singleton]
    refine ⟨fun mem => mem.resolve_right ?_, .inl⟩
    rintro rfl
    exact other rfl
  refine h.of_parts (h.table.append positive table number created room code slot occurrences aging) ?_ ?_
    (s.createEntry_counters _ p _) ?_ rfl
  · have list : (s.modFmy fun m => { m with table := m.table ++ [x] }).fmy.table = s.fmy.table ++ [x] := rfl
    refine h.store.edit x.slot rfl rfl rfl loading loading fun e other => ?_
    rw [← others e other, ← table, State.createEntry, State.tableChanged_table]
  · rw [table, List.length_append]
    exact h.cursor.trans (Nat.le_add_right _ _)
  · rw [State.createEntry, State.tableChanged_fmy, Fmy.dirty_write]; exact fun _ at_ => at_

end

/-! ### Reports (R158 to R160) -/

section
variable {limit : Nat} {s : State}

/-- The law reads the core of the fault memory, the cursor and the store. -/
theorem FaultHolds.congr {t : State} (h : FaultHolds limit s) (core : t.fmy.core = s.fmy.core)
    (cursor : t.wsv.cursor = s.wsv.cursor) (nv : t.nv = s.nv) : FaultHolds limit t := by
  have table : t.fmy.table = s.fmy.table := (congrArg Fmy.table core :)
  have writes : t.fmy.writes = s.fmy.writes := (congrArg Fmy.writes core :)
  have write : t.fmy.write = s.fmy.write := (congrArg Fmy.write core :)
  have reappend : t.fmy.reappend = s.fmy.reappend := (congrArg Fmy.reappend core :)
  have loading : t.fmy.loading = s.fmy.loading := (congrArg Fmy.loading core :)
  have mirrors (n : Fin 48) (c : SlotContent) (k : s.fmy.Mirrors n c) : t.fmy.Mirrors n c :=
    k.congr fun e _ => by rw [table]
  refine h.of_parts (h.table.congr table (congrArg Fmy.created core :)) ⟨?_, ?_, ?_, ?_, ?_⟩ ?_
    (congrArg Fmy.counters core :) (fun _ at_ => write.symm.trans at_) nv
  · rw [writes]; exact h.store.items
  · rw [writes, write]; exact h.store.flight
  · rw [loading, nv]
    intro free n
    refine (h.store.mirror free n).imp (mirrors n _) fun waits => ?_
    exact waits.imp (fun listed => by rw [writes]; exact listed) fun at_ => by rw [write]; exact at_
  · rw [write, reappend]
    exact fun n c stale at_ unmarked => mirrors n c (h.store.taken n c stale at_ unmarked)
  · rw [loading, table, write]; exact h.store.load
  · rw [cursor, table]; exact h.cursor

theorem FaultHolds.activeReport (h : FaultHolds limit s) (positive : 0 < limit) (loading : s.fmy.loading = false)
    (c : FaultCode) (p : Nat) : FaultHolds limit (s.activeReport c p) := by
  have lost : FaultHolds limit s.reportLost := h.congr rfl rfl rfl
  unfold State.activeReport
  split
  case h_1 i found =>
    obtain ⟨e, at_⟩ := Fmy.exists_of_position found
    split
    · exact h
    · refine h.changeEntry at_ _ rfl rfl rfl ⟨?_, Nat.min_le_right _ _, positive⟩
      have := (h.table.ranges e (List.mem_of_getElem? at_)).1
      simp only [FaultEntry.reactivate]
      omega
  case h_2 absent =>
    have absent := Fmy.position_eq_none_iff.mp absent
    split
    case isTrue room => exact h.createEntry positive loading c p _ room absent (Fmy.slotFor_free room)
    case isFalse full =>
      split
      case h_2 => exact lost
      case h_1 i e candidate =>
        split
        case isFalse => exact lost
        case isTrue =>
          obtain ⟨mem, -⟩ := candidateFrom_isCandidate candidate
          have found : s.fmy.table[i]? = some e := List.mk_mem_zipIdx_iff_getElem?.mp mem
          have removed := h.removeEntry i
          have table := s.removeEntry_table i
          obtain ⟨bound, here⟩ := List.getElem?_eq_some_iff.mp found
          refine removed.createEntry positive ?_ c p e.slot ?_ ?_ ?_
          · have only : (s.removeEntry i).fmy.loading = s.fmy.loading := by
              rw [State.removeEntry, found]
              dsimp only
              rw [State.modWsv_fmy, State.tableChanged_fmy]
              unfold Fmy.dirty
              repeat' split
              all_goals rfl
            exact only.trans loading
          · rw [table, List.length_eraseIdx_of_lt bound]
            have := h.table.room
            omega
          · intro x mem'
            rw [table] at mem'
            exact absent x (List.mem_of_mem_eraseIdx mem')
          · intro x mem' same
            rw [table] at mem'
            obtain ⟨j, other, at_⟩ := List.mem_eraseIdx_iff_getElem?.mp mem'
            refine other ?_
            have slots := h.table.slots
            obtain ⟨bound', here'⟩ := List.getElem?_eq_some_iff.mp at_
            refine (List.Nodup.getElem_inj_iff slots (hi := by simpa using bound') (hj := by simpa using bound)).mp ?_
            rw [List.getElem_map, List.getElem_map, here, here', same]

theorem FaultHolds.clearedReport (h : FaultHolds limit s) (c : FaultCode) : FaultHolds limit (s.clearedReport c) := by
  unfold State.clearedReport
  split
  case h_1 i found =>
    obtain ⟨e, at_⟩ := Fmy.exists_of_position found
    split
    · exact h.changeEntry at_ _ rfl rfl rfl (h.table.ranges e (List.mem_of_getElem? at_))
    · exact h
  case h_2 => exact h

theorem FaultHolds.handleReport (h : FaultHolds limit s) (positive : 0 < limit) (loading : s.fmy.loading = false)
    (c : FaultCode) (p : Nat) (a : Bool) : FaultHolds limit (s.handleReport c p a) := by
  unfold State.handleReport
  split
  · exact h.activeReport positive loading c p
  · exact h.clearedReport c

theorem FaultHolds.report (h : FaultHolds limit s) (positive : 0 < limit) (c : FaultCode) (a : Bool) :
    FaultHolds limit (s.report c a) := by
  unfold State.report
  dsimp only
  split
  · exact h.congr rfl rfl rfl
  case isFalse loading => exact h.handleReport positive (by simpa using loading) _ _ _

/-! ### Aging and clearing (R161, R162, R172) -/

theorem FaultHolds.removeEntries (h : FaultHolds limit s) (pick : FaultEntry → Bool) :
    FaultHolds limit (s.removeEntries pick) := by
  have run := s.removeEntries_removal (pick := pick)
  generalize s.removeEntries pick = t at run
  generalize ([] : List FaultEntry) = kept at run
  generalize s.fmy.table = rest at run
  induction run with
  | done => exact h
  | remove table picked run ih => exact ih (h.removeEntry _)
  | keep table stays run ih => exact ih h

/-- What changing the picked entries makes of the table. -/
def changed (pick : FaultEntry → Bool) (f : FaultEntry → FaultEntry) (e : FaultEntry) : FaultEntry :=
  if pick e then f e else e

/-- A change of the picked entries that keeps code, slot and number, and the ranges for a limit. -/
theorem FaultHolds.changeEntries (h : FaultHolds limit s) (pick : FaultEntry → Bool) (f : FaultEntry → FaultEntry)
    (keeps : ∀ e, (f e).code = e.code ∧ (f e).slot = e.slot ∧ (f e).created = e.created)
    (ranges : ∀ e ∈ s.fmy.table, pick e = true → 1 ≤ (f e).occurrences ∧ (f e).occurrences ≤ 255 ∧
      (f e).aging < limit) :
    FaultHolds limit (s.changeEntries pick f) ∧ (s.changeEntries pick f).fmy.table = s.fmy.table.map (changed pick f) := by
  let step (u : State) (i : Nat) : State :=
    if (u.fmy.table[i]?.map pick).getD false then u.changeEntry i f else u
  have prefixes (k : Nat) (bound : k ≤ s.fmy.table.length) : FaultHolds limit ((List.range k).foldl step s) ∧
      ((List.range k).foldl step s).fmy.table = (s.fmy.table.take k).map (changed pick f) ++ s.fmy.table.drop k := by
    induction k with
    | zero => exact ⟨h, rfl⟩
    | succ k ih =>
      obtain ⟨holds, table⟩ := ih (by omega)
      rw [List.range_succ, List.foldl_append, List.foldl_cons, List.foldl_nil]
      generalize (List.range k).foldl step s = u at holds table
      have here : u.fmy.table[k]? = some s.fmy.table[k] := by
        rw [table, List.getElem?_append_right (by simp)]
        simp [Nat.min_eq_left (show k ≤ s.fmy.table.length by omega)]
      have rest : (s.fmy.table.take (k + 1)).map (changed pick f) ++ s.fmy.table.drop (k + 1) =
          u.fmy.table.set k (changed pick f s.fmy.table[k]) := by
        have length : ((s.fmy.table.take k).map (changed pick f)).length = k := by simp; omega
        rw [table, List.drop_eq_getElem_cons bound, List.set_append_right _ _ length.le, length, Nat.sub_self,
          List.set_cons_zero, List.take_succ_eq_append_getElem bound, List.map_append, List.append_assoc]
        rfl
      rw [rest]
      change FaultHolds limit (if (u.fmy.table[k]?.map pick).getD false then u.changeEntry k f else u) ∧
        (if (u.fmy.table[k]?.map pick).getD false then u.changeEntry k f else u).fmy.table = _
      rw [here, Option.map_some, Option.getD_some]
      by_cases picked : pick s.fmy.table[k] = true
      · obtain ⟨code, slot, created⟩ := keeps s.fmy.table[k]
        rw [if_pos picked, changed, if_pos picked]
        exact ⟨holds.changeEntry here f code slot created (ranges _ (List.getElem_mem _) picked),
          State.changeEntry_table_set here f⟩
      · rw [if_neg picked, changed, if_neg picked]
        obtain ⟨inside, same⟩ := List.getElem?_eq_some_iff.mp here
        refine ⟨holds, ?_⟩
        rw [← same, List.set_getElem_self]
  have whole := prefixes s.fmy.table.length le_rfl
  rw [List.take_length, List.drop_length, List.append_nil] at whole
  exact whole

theorem FaultHolds.ageFaults (h : FaultHolds limit s) (positive : 0 < limit)
    (same : limit = s.tables.general.agingLimit) : FaultHolds limit s.ageFaults := by
  let older (e : FaultEntry) : FaultEntry := { e with aging := e.aging + 1 }
  have loose : FaultHolds (limit + 1) s := h.tighten fun e mem => Nat.lt_succ_of_lt (h.table.ranges e mem).2.2
  obtain ⟨aged, agedTable⟩ := loose.changeEntries (!·.active) older (fun _ => ⟨rfl, rfl, rfl⟩) fun e mem _ => by
    obtain ⟨low, high, aging⟩ := h.table.ranges e mem
    exact ⟨low, high, Nat.succ_lt_succ aging⟩
  have run := (s.changeEntries (!·.active) older).removeEntries_removal
    (pick := fun e => !e.active && s.tables.general.agingLimit ≤ e.aging)
  have left := run.table_eq
  have removed := aged.removeEntries fun e => !e.active && s.tables.general.agingLimit ≤ e.aging
  unfold State.ageFaults
  generalize (s.changeEntries (!·.active) older).removeEntries
    (fun e => !e.active && s.tables.general.agingLimit ≤ e.aging) = v at left removed run
  have fresh : FaultHolds limit v := by
    refine removed.tighten fun e mem => ?_
    rw [left, List.nil_append, List.mem_filter, agedTable] at mem
    obtain ⟨mem, stays⟩ := mem
    obtain ⟨x, there, rfl⟩ := List.mem_map.mp mem
    have range := (h.table.ranges x there).2.2
    rw [changed] at stays ⊢
    split at stays
    case isTrue inactive =>
      rw [if_pos inactive]
      simp only [older] at stays ⊢
      have off : x.active = false := by simpa using inactive
      simp [off] at stays
      omega
    case isFalse active =>
      rw [if_neg active]
      exact range
  have settled := (fresh.changeEntries (fun e => e.active && e.code.isSlotLost)
    (fun e => { e with active := false, aging := 0 }) (fun _ => ⟨rfl, rfl, rfl⟩) fun e mem _ => by
      obtain ⟨low, high, -⟩ := fresh.table.ranges e mem
      exact ⟨low, high, positive⟩).1
  exact settled.congr rfl rfl rfl

theorem FaultHolds.removeOverAged {l : Nat} (h : FaultHolds limit s) : FaultHolds l (s.removeOverAged l) := by
  refine (h.removeEntries _).tighten fun e mem => ?_
  have left := (s.removeEntries_removal (pick := fun e => l ≤ e.aging)).table_eq
  rw [left, List.nil_append, List.mem_filter] at mem
  simpa using mem.2

/-- R172: the mark that a write is out of date is not read by the law. -/
theorem Fmy.StoreHolds.outdate {m : Fmy} {nv : Nv} (h : m.StoreHolds nv) (freed : List (Fin 48)) (l : Option (List (Fin 48))) :
    Fmy.StoreHolds { m with clear := l, write := m.write.outdate freed } nv := by
  have slot : (m.write.outdate freed).slotNo = m.write.slotNo := by cases m.write <;> rfl
  have same (n : Fin 48) (c : SlotContent) (k : m.Mirrors n c) :
      Fmy.Mirrors { m with clear := l, write := m.write.outdate freed } n c := k
  refine ⟨h.items, ?_, ?_, ?_, ?_⟩
  · rw [slot]; exact h.flight
  · refine fun free n => (h.mirror free n).imp (same n _) fun waits => waits.imp id fun at_ => ?_
    exact slot.trans at_
  · intro n c stale at_ unmarked
    cases write : m.write
    case slot k x old =>
      rw [write] at at_
      cases at_
      exact h.taken n c old write unmarked
    all_goals
      rw [write] at at_
      cases at_
  · intro busy
    obtain ⟨empty, idle⟩ := h.load busy
    refine ⟨empty, ?_⟩
    rw [idle]
    rfl

theorem FaultHolds.clearClasses (h : FaultHolds limit s) (pick : SourceClass → Bool) :
    FaultHolds limit (s.clearClasses pick) := by
  have removed := h.removeEntries fun e => pick e.code.sourceClass
  unfold State.clearClasses
  dsimp only
  split
  · exact removed.congr rfl rfl rfl
  · refine removed.of_parts (removed.table.congr rfl rfl) (removed.store.outdate _ _) removed.cursor rfl (fun v at_ => ?_) rfl
    revert at_
    change (s.removeEntries fun e => pick e.code.sourceClass).fmy.write.outdate _ = _ → _
    cases (s.removeEntries fun e => pick e.code.sourceClass).fmy.write <;> intro at_ <;> first | exact at_ | cases at_

/-! ### The steps -/

/-- The law of the fault memory through its steps: outside STARTUP the aging limit is that of the tables. -/
theorem FaultSteps.holds {t : State} (steps : FaultSteps s t) (positive : 0 < limit)
    (same : s.mode ≠ .startup → limit = s.tables.general.agingLimit) (h : FaultHolds limit s) : FaultHolds limit t := by
  induction steps with
  | quiet q => exact h.congr q.fmy q.cursor q.nv
  | trans first second ih ih' =>
    refine ih' (fun m => ?_) (ih same h)
    obtain ⟨-, tables, -, startup⟩ := first.keeps
    rw [tables]
    exact same (mt startup.mpr m)
  | report s c a => exact h.report positive c a
  | count s i =>
    refine ⟨h.table.congr rfl rfl, ?_, h.cursor, fun c => ((FaultSteps.count s i).counters c (h.counters c)).2, h.saved⟩
    exact ⟨h.store.items, h.store.flight, h.store.mirror, h.store.taken, h.store.load⟩
  | age s m => exact h.ageFaults positive (same m)
  | clear s pick => exact h.clearClasses pick

end

end Sys2Proof.Machine
end

section
/-! PROOFS. The law of the fault memory through the writes of the store and the start-up load. -/

namespace Sys2Proof.Machine

set_option Elab.async false

section
variable {limit : Nat} {s : State}

/-! ### The writes (R166 to R168, R174) -/

/-- R165: what a slot's write takes is what is due in the slot. -/
theorem Fmy.mirrors_slotContent {m : Fmy} (slots : (m.table.map (·.slot)).Nodup) (n : Fin 48) :
    m.Mirrors n (m.slotContent n) := by
  unfold Fmy.slotContent
  split
  case h_1 e found =>
    have here : e.slot = n := by simpa using List.find?_some found
    have there := List.mem_of_find?_eq_some found
    refine ⟨fun x mem slot => ⟨e, rfl, ?_⟩, fun none => absurd here (none e there)⟩
    have same : x = e := List.inj_on_of_nodup_map slots mem there (slot.trans here.symm)
    rw [same, ← here]
  case h_2 none =>
    have none := List.find?_eq_none.mp none
    exact ⟨fun x mem slot => absurd slot (by simpa using none x mem), fun _ => rfl⟩

/-- The writes for which a free controller waits are those on the list. -/
theorem Fmy.awaits_of_idle {m : Fmy} {n : Fin 48} (idle : m.write = .idle) (h : m.awaits n) : n ∈ m.writes :=
  h.resolve_right (by rw [idle]; exact fun e => by cases e)

/-- A write that is not of a slot starts or ends where none of a slot is in flight. -/
theorem Fmy.StoreHolds.writes {m m' : Fmy} {nv nv' : Nv} (h : m.StoreHolds nv) (before : m.write.slotNo = none)
    (after : m'.write.slotNo = none) (table : m'.table = m.table) (list : m'.writes = m.writes)
    (loading : m'.loading = m.loading) (loaded : m.loading = false) (slots : nv'.slots = nv.slots) : m'.StoreHolds nv' := by
  refine ⟨list ▸ h.items, fun n at_ => ?_, fun _ n => ?_, fun n c stale at_ => ?_, fun busy => ?_⟩
  · rw [after] at at_; cases at_
  · rw [slots]
    refine (h.mirror loaded n).imp (fun k => k.congr fun e _ => by rw [table]) fun waits => .inl ?_
    rw [list]
    exact waits.resolve_right (by rw [before]; exact fun e => by cases e)
  · rw [at_] at after; cases after
  · exact absurd ((loading.trans loaded).symm.trans busy) Bool.false_ne_true

theorem State.restartAtWrite_parts (b : Bool) :
    (s.restartAtWrite b).fmy.core = s.fmy.core ∧ (s.restartAtWrite b).wsv = s.wsv ∧ (s.restartAtWrite b).nv = s.nv :=
  ⟨rfl, rfl, rfl⟩

theorem FaultHolds.startWrite (h : FaultHolds limit s) : FaultHolds limit s.startWrite := by
  have restarts (u : State) (b : Bool) (k : FaultHolds limit u) : FaultHolds limit (u.restartAtWrite b) := by
    obtain ⟨core, wsv, nv⟩ := u.restartAtWrite_parts b
    exact k.congr core (congrArg Wsv.cursor wsv) nv
  unfold State.startWrite
  split
  case isTrue => exact h
  case isFalse free =>
    have idle : s.fmy.write = .idle := by by_contra busy; exact free (.inl busy)
    have loaded : s.fmy.loading = false := by simpa using fun busy => free (.inr (.inl busy))
    have resting : s.fmy.write.slotNo = none := by rw [idle]; rfl
    split
    · refine restarts _ false ⟨h.table.congr rfl rfl, ?_, h.cursor, h.counters, fun v at_ => ?_⟩
      · exact h.store.writes resting rfl rfl rfl rfl loaded rfl
      · exact h.saved v (at_.imp_left fun e => by cases e)
    · split
      case h_1 n rest list =>
        refine restarts _ false ⟨h.table.congr rfl rfl, ?_, h.cursor, h.counters, fun v at_ => ?_⟩
        · have items := h.store.items
          rw [list] at items
          obtain ⟨unlisted, items⟩ := List.nodup_cons.mp items
          refine ⟨items, fun k at_ => ?_, fun free k => ?_, fun k c stale at_ _ => ?_, fun busy => ?_⟩
          · cases at_; exact unlisted
          · refine (h.store.mirror free k).imp id fun waits => ?_
            have listed := Fmy.awaits_of_idle idle waits
            rw [list] at listed
            obtain rfl | listed := List.mem_cons.mp listed
            · exact .inr rfl
            · exact .inl listed
          · cases at_
            exact (Fmy.mirrors_slotContent h.table.slots n).congr fun _ _ => Iff.rfl
          · exact absurd (loaded.symm.trans busy) Bool.false_ne_true
        · exact h.saved v (at_.imp_left fun e => by cases e)
      case h_2 =>
        split
        · refine restarts _ true ⟨h.table.congr rfl rfl, ?_, h.cursor, h.counters, fun v at_ => ?_⟩
          · exact h.store.writes resting rfl rfl rfl rfl loaded rfl
          · intro c
            obtain started | saved := at_
            · cases started; exact h.counters c
            · exact h.saved v (.inr saved) c
        · exact h

/-- R165, R167: a slot written holds what is due, or is listed again. -/
theorem Fmy.StoreHolds.slotWritten {m : Fmy} {nv : Nv} (h : m.StoreHolds nv) {n : Fin 48} {c : SlotContent} {old : Bool}
    (write : m.write = .slot n c old) : (m.slotWritten n).StoreHolds { nv with slots := nv.slots.set n c } := by
  have loaded : m.loading = false := by
    by_contra busy
    have := (h.load (by simpa using busy)).2
    rw [write] at this; cases this
  have unlisted : n ∉ m.writes := h.flight n (by rw [write]; rfl)
  have others (k : Fin 48) (other : k ≠ n) : m.Mirrors k (nv.slots.set n c)[k] ∨ k ∈ m.writes := by
    have same : (nv.slots.set n c)[k] = nv.slots[k] := Vector.getElem_set_ne n.isLt k.isLt fun e => other (Fin.ext e.symm)
    rw [same]
    refine (h.mirror loaded k).imp id fun waits => waits.resolve_right fun at_ => ?_
    rw [write] at at_
    cases at_
    exact other rfl
  have ends (m' : Fmy) (idle : m'.write = .idle) (table : m'.table = m.table) (items : m'.writes.Nodup)
      (listed : ∀ k ∈ m.writes, k ∈ m'.writes) (free : m'.loading = false) (own : m'.Mirrors n c ∨ n ∈ m'.writes) :
      m'.StoreHolds { nv with slots := nv.slots.set n c } := by
    refine ⟨items, fun k at_ => ?_, fun _ k => ?_, fun k c' stale at_ => ?_, fun busy => ?_⟩
    · rw [idle] at at_; cases at_
    · by_cases same : k = n
      · subst same
        rw [show (nv.slots.set k c)[k] = c from Vector.getElem_set_self _]
        exact own.imp id .inl
      · exact (others k same).imp (fun k => k.congr fun e _ => by rw [table]) fun there => .inl (listed k there)
    · rw [idle] at at_; cases at_
    · exact absurd (free.symm.trans busy) Bool.false_ne_true
  unfold Fmy.slotWritten
  split
  case isTrue =>
    refine ends _ rfl rfl ?_ (fun k there => ?_) loaded (.inr ?_)
    all_goals dsimp only
    · exact List.nodup_append.mpr ⟨h.items, List.nodup_singleton _, fun a mem b last => by
        rintro rfl
        exact unlisted (List.mem_singleton.mp last ▸ mem)⟩
    · exact List.mem_append_left _ there
    · simp
  case isFalse unmarked =>
    have due := h.taken n c old write (by simpa using unmarked)
    split
    · exact ends _ rfl rfl h.items (fun _ there => there) loaded (.inl (due.congr fun _ _ => Iff.rfl))
    · exact ends _ rfl rfl h.items (fun _ there => there) loaded (.inl (due.congr fun _ _ => Iff.rfl))

theorem FaultHolds.completeSlotWrite (h : FaultHolds limit s) {n : Fin 48} {c : SlotContent} {old : Bool}
    (write : s.fmy.write = .slot n c old) : FaultHolds limit (s.completeSlotWrite n c old) := by
  have written : (s.fmy.slotWritten n).table = s.fmy.table ∧ (s.fmy.slotWritten n).created = s.fmy.created ∧
      (s.fmy.slotWritten n).counters = s.fmy.counters ∧ (s.fmy.slotWritten n).write = .idle := by
    unfold Fmy.slotWritten
    repeat' split
    all_goals exact ⟨rfl, rfl, rfl, rfl⟩
  obtain ⟨table, created, counters, idle⟩ := written
  have done : FaultHolds limit
      (({ s with nv := { s.nv with slots := s.nv.slots.set n c } } : State).modFmy (Fmy.slotWritten n)) := by
    refine ⟨h.table.congr table created, h.store.slotWritten write, ?_, fun i => ?_, fun v at_ => ?_⟩
    · exact table ▸ h.cursor
    · refine le_of_eq_of_le ?_ (h.counters i)
      exact congrArg (fun v : Vector Nat 12 => v[i]) counters
    · exact h.saved v (at_.imp_left fun e => by
        have : (s.fmy.slotWritten n).write = .counters v := e
        rw [idle] at this
        cases this)
  unfold State.completeSlotWrite
  dsimp only
  split
  · exact done
  · unfold State.leaveClear
    split
    · exact done
    · dsimp only
      split
      · exact done.congr rfl rfl rfl
      · exact done.congr rfl rfl rfl

theorem FaultHolds.completeCounterSave (h : FaultHolds limit s) {c : Vector Nat 12} (write : s.fmy.write = .counters c) :
    FaultHolds limit (s.completeCounterSave c).restartAfterSave := by
  have loaded : s.fmy.loading = false := by
    by_contra busy
    have := (h.store.load (by simpa using busy)).2
    rw [write] at this; cases this
  have range := h.saved c (.inl write)
  have done : FaultHolds limit (s.completeCounterSave c) := by
    unfold State.completeCounterSave
    dsimp only
    refine ⟨h.table.congr rfl rfl, ?_, h.cursor, h.counters, fun v at_ => ?_⟩
    · refine h.store.writes (by rw [write]; rfl) rfl rfl rfl rfl loaded ?_
      dsimp only [State.modFmy]
      split <;> rfl
    · obtain started | a | b := at_
      · cases started
      · obtain ⟨no, a⟩ := a
        revert a
        dsimp only [State.modFmy]
        split
        · intro a; cases a; exact range
        · exact fun a => h.saved v (.inr (.inl ⟨no, a⟩))
      · obtain ⟨no, b⟩ := b
        revert b
        dsimp only [State.modFmy]
        split
        · exact fun b => h.saved v (.inr (.inr ⟨no, b⟩))
        · intro b; cases b; exact range
  unfold State.restartAfterSave
  repeat' split
  all_goals exact done.congr rfl rfl rfl

theorem FaultHolds.completeStore (h : FaultHolds limit s) (positive : 0 < limit) {l : List Byte}
    (write : s.fmy.write = .image l) : FaultHolds limit (s.completeStore l) := by
  have loaded : s.fmy.loading = false := by
    by_contra busy
    have := (h.store.load (by simpa using busy)).2
    rw [write] at this; cases this
  have done : FaultHolds limit
      ((({ s with nv := { s.nv with image := .bytes l } } : State).modFmy Fmy.writeDone).attend .opdone) :=
    ⟨h.table.congr rfl rfl, h.store.writes (by rw [write]; rfl) rfl rfl rfl rfl loaded rfl, h.cursor, h.counters,
      fun v at_ => h.saved v (at_.imp_left fun e => by cases e)⟩
  unfold State.completeStore
  dsimp only
  split
  · exact done.report positive _ _
  · exact done

end

end Sys2Proof.Machine
end

section
/-! PROOFS. The start-up load (R169, R170, R174): what it makes of the store. -/

namespace Sys2Proof.Machine

set_option Elab.async false

/-! ### The table of the load (R169) -/

section
variable {nv : Nv}

/-- R169: the entries found are the slots' contents in range, each in its slot. -/
theorem mem_foundEntries {e : FaultEntry} : e ∈ foundEntries nv ↔
    ∃ f : FaultEntry, nv.slots[e.slot] = .entry f ∧ f.inRange = true ∧ e = { f with slot := e.slot } := by
  simp only [foundEntries, List.mem_filterMap, List.mem_finRange, true_and]
  constructor
  · rintro ⟨n, found⟩
    cases slot : nv.slots[n] with
    | empty => simp [findSlot, slot] at found
    | bad => simp [findSlot, slot] at found
    | entry f =>
      cases range : f.inRange
      · simp [findSlot, slot, range] at found
      · simp only [findSlot, slot, range, if_true, Option.some.injEq] at found
        subst found
        exact ⟨f, slot, range, rfl⟩
  · rintro ⟨f, slot, range, own⟩
    refine ⟨e.slot, ?_⟩
    simp only [findSlot, slot, range, if_true]
    rw [← own]

/-- The entries found stand in the order of their slots. -/
theorem foundEntries_ascend : (foundEntries nv).Pairwise fun a b => a.slot < b.slot := by
  have slot {n : Fin 48} {e : FaultEntry} (found : (match findSlot nv.slots[n] n with
      | .entry e => some e
      | _ => none) = some e) : e.slot = n := by
    cases content : nv.slots[n] with
    | empty => simp [findSlot, content] at found
    | bad => simp [findSlot, content] at found
    | entry f =>
      cases range : f.inRange
      · simp [findSlot, content, range] at found
      · simp only [findSlot, content, range, if_true, Option.some.injEq] at found
        rw [← found]
  exact List.Pairwise.filterMap _ (fun a b before x hx y hy => by rw [slot hx, slot hy]; exact before)
    (List.sortedLT_finRange 48).pairwise

theorem foundEntries_slots : ((foundEntries nv).map (·.slot)).Nodup :=
  List.pairwise_map.mpr (foundEntries_ascend.imp ne_of_lt)

theorem mem_lostSlots {n : Fin 48} : n ∈ lostSlots nv ↔ findSlot nv.slots[n] n = .lost := by
  simp [lostSlots]

theorem insertEntry_perm (e : FaultEntry) (l : List FaultEntry) : (insertEntry e l).Perm (e :: l) := by
  induction l with
  | nil => exact .refl _
  | cons x rest ih =>
    unfold insertEntry
    split
    · exact .refl _
    · exact (ih.cons x).trans (.swap e x rest)

theorem FaultEntry.before_iff {a b : FaultEntry} :
    a.before b = true ↔ a.created < b.created ∨ (a.created = b.created ∧ a.slot ≤ b.slot) := by
  simp [FaultEntry.before]

theorem FaultEntry.before_trans {a b c : FaultEntry} (h : a.before b = true) (k : b.before c = true) :
    a.before c = true := by
  rw [FaultEntry.before_iff, Fin.le_def] at *
  omega

theorem FaultEntry.before_total {a b : FaultEntry} (h : ¬ a.before b = true) : b.before a = true := by
  rw [FaultEntry.before_iff, Fin.le_def] at *
  omega

theorem insertEntry_sorted (e : FaultEntry) {l : List FaultEntry} (h : l.Pairwise fun a b => a.before b = true) :
    (insertEntry e l).Pairwise fun a b => a.before b = true := by
  induction l with
  | nil => exact List.pairwise_singleton _ _
  | cons x rest ih =>
    obtain ⟨first, rest_sorted⟩ := List.pairwise_cons.mp h
    unfold insertEntry
    split
    case isTrue before =>
      refine List.pairwise_cons.mpr ⟨fun y mem => ?_, h⟩
      obtain rfl | mem := List.mem_cons.mp mem
      · exact before
      · exact FaultEntry.before_trans before (first y mem)
    case isFalse after =>
      refine List.pairwise_cons.mpr ⟨fun y mem => ?_, ih rest_sorted⟩
      obtain rfl | mem := List.mem_cons.mp ((insertEntry_perm e rest).mem_iff.mp mem)
      · exact FaultEntry.before_total after
      · exact first y mem

theorem sortEntries_perm (l : List FaultEntry) : (l.foldr insertEntry []).Perm l := by
  induction l with
  | nil => exact .refl _
  | cons e l ih => exact (insertEntry_perm e _).trans (ih.cons e)

theorem sortEntries_sorted (l : List FaultEntry) :
    (l.foldr insertEntry []).Pairwise fun a b => a.before b = true := by
  induction l with
  | nil => exact .nil
  | cons e l ih => exact insertEntry_sorted e ih

/-- R169, step 3: of two entries of one code in different slots one gives way to the other. -/
theorem FaultEntry.superseded {a b : FaultEntry} (code : a.code = b.code) (slot : a.slot ≠ b.slot) :
    a.supersededBy b = true ∨ b.supersededBy a = true := by
  have apart : a.slot < b.slot ∨ b.slot < a.slot := lt_or_gt_of_ne slot
  simp only [FaultEntry.supersededBy, code, beq_self_eq_true, Bool.true_and, Bool.or_eq_true, Bool.and_eq_true,
    decide_eq_true_eq, beq_iff_eq, Fin.lt_def] at apart ⊢
  omega

/-- The entries that the load keeps. -/
def keptEntries (nv : Nv) : List FaultEntry :=
  (foundEntries nv).filter fun e => !(foundEntries nv).any e.supersededBy

theorem foldl_max_range (l : List FaultEntry) {top : Nat} (h : ∀ e ∈ l, e.created ≤ top) :
    (l.map (·.created)).foldl max 0 ≤ top ∧ ∀ e ∈ l, e.created ≤ (l.map (·.created)).foldl max 0 := by
  suffices all : ∀ b ≤ top, (l.map (·.created)).foldl max b ≤ top ∧ b ≤ (l.map (·.created)).foldl max b ∧
      ∀ e ∈ l, e.created ≤ (l.map (·.created)).foldl max b by
    obtain ⟨bound, -, each⟩ := all 0 (Nat.zero_le _)
    exact ⟨bound, each⟩
  induction l with
  | nil => exact fun b bound => ⟨bound, le_rfl, fun e mem => absurd mem List.not_mem_nil⟩
  | cons x l ih =>
    intro b bound
    obtain ⟨top', above, each⟩ := ih (fun e mem => h e (List.mem_cons_of_mem _ mem)) (max b x.created)
      (max_le bound (h x List.mem_cons_self))
    refine ⟨top', (le_max_left _ _).trans above, fun e mem => ?_⟩
    obtain rfl | mem := List.mem_cons.mp mem
    · exact (le_max_right _ _).trans above
    · exact each e mem

theorem FaultEntry.inRange_parts {e : FaultEntry} (h : e.inRange = true) :
    (1 ≤ e.occurrences ∧ e.occurrences ≤ 255) ∧ e.aging < 100 ∧ 1 ≤ e.created ∧ e.created ≤ counterMax := by
  simp only [FaultEntry.inRange, Bool.and_eq_true, decide_eq_true_eq, within] at h
  obtain ⟨⟨⟨⟨⟨⟨⟨-, occurrences⟩, aging⟩, -⟩, -⟩, created⟩, -⟩, -⟩ := h
  exact ⟨occurrences, aging, created⟩

/-- R156, R169: the table that the load builds. -/
theorem Fmy.buildTable_holds (m : Fmy) : (m.buildTable nv).TableHolds 100 := by
  have perm := sortEntries_perm (keptEntries nv)
  have kept : (keptEntries nv).Sublist (foundEntries nv) := List.filter_sublist
  have slots : ((keptEntries nv).map (·.slot)).Nodup := foundEntries_slots.sublist (kept.map _)
  have ranges (e : FaultEntry) (mem : e ∈ keptEntries nv) :
      (1 ≤ e.occurrences ∧ e.occurrences ≤ 255) ∧ e.aging < 100 ∧ 1 ≤ e.created ∧ e.created ≤ counterMax := by
    obtain ⟨f, -, range, own⟩ := mem_foundEntries.mp (kept.subset mem)
    rw [own]
    exact FaultEntry.inRange_parts (e := f) range
  obtain ⟨top, each⟩ := foldl_max_range (keptEntries nv) fun e mem => (ranges e mem).2.2.2
  refine ⟨?_, ?_, (perm.map _).nodup_iff.mpr slots, ?_, ⟨top, fun e mem => ?_⟩, fun e mem => ?_⟩
  · have length := ((perm.map (·.slot)).nodup_iff.mpr slots).length_le_card
    rw [List.length_map, Fintype.card_fin] at length
    exact length
  · refine (perm.map _).nodup_iff.mpr (List.Nodup.map_on (fun a ha b hb code => ?_) slots.of_map)
    by_contra different
    have apart : a.slot ≠ b.slot := fun same => different (List.inj_on_of_nodup_map slots ha hb same)
    have stays (x y : FaultEntry) (hx : x ∈ keptEntries nv) (hy : y ∈ keptEntries nv) : x.supersededBy y = false := by
      have alone := (List.mem_filter.mp hx).2
      simp only [Bool.not_eq_true', List.any_eq_false] at alone
      simpa using alone y (kept.subset hy)
    obtain gone | gone := FaultEntry.superseded code apart
    · simp [stays a b ha hb] at gone
    · simp [stays b a hb ha] at gone
  · have distinct : ((keptEntries nv).foldr insertEntry []).Pairwise fun a b => a.slot ≠ b.slot :=
      List.pairwise_map.mp ((perm.map _).nodup_iff.mpr slots)
    refine (List.Pairwise.and (sortEntries_sorted (keptEntries nv)) distinct).imp fun {a b} h => ?_
    obtain ⟨before, apart⟩ := h
    rw [FaultEntry.before_iff] at before
    exact before.imp id fun ⟨same, order⟩ => ⟨same, .inl (lt_of_le_of_ne order apart)⟩
  · have mem := perm.mem_iff.mp mem
    exact ⟨(ranges e mem).2.2.1, each e mem⟩
  · obtain ⟨occurrences, aging, -⟩ := ranges e (perm.mem_iff.mp mem)
    exact ⟨occurrences.1, occurrences.2, aging⟩

theorem Fmy.buildTable_table (m : Fmy) : (m.buildTable nv).table = (keptEntries nv).foldr insertEntry [] := rfl

theorem mem_buildTable {m : Fmy} {e : FaultEntry} : e ∈ (m.buildTable nv).table ↔ e ∈ keptEntries nv :=
  (sortEntries_perm (keptEntries nv)).mem_iff

/-- R169, step 3: an entry stays where it comes after every other of its code by number, then before it by slot. -/
theorem mem_keptEntries {e : FaultEntry} : e ∈ keptEntries nv ↔ e ∈ foundEntries nv ∧ ∀ x ∈ foundEntries nv,
    x.code = e.code → x.created < e.created ∨ (x.created = e.created ∧ e.slot ≤ x.slot) := by
  rw [keptEntries, List.mem_filter]
  refine and_congr_right fun _ => ?_
  simp only [Bool.not_eq_true', List.any_eq_false, FaultEntry.supersededBy, Bool.and_eq_true, Bool.or_eq_true,
    beq_iff_eq, decide_eq_true_eq, Fin.lt_def, Fin.le_def]
  refine forall₂_congr fun x _ => ?_
  rw [not_and]
  refine imp_congr_right fun _ => ?_
  omega

/-- R169: the slots freed are those dropped and those of the entries that give way. -/
theorem Fmy.mem_buildTable_writes {m : Fmy} {n : Fin 48} : n ∈ (m.buildTable nv).writes ↔
    nv.slots[n] ≠ .empty ∧ ∀ e ∈ (m.buildTable nv).table, e.slot ≠ n := by
  have writes : (m.buildTable nv).writes = lostSlots nv ++
      ((foundEntries nv).filter fun e => (foundEntries nv).any e.supersededBy).map (·.slot) := rfl
  have unique (x y : FaultEntry) (hx : x ∈ foundEntries nv) (hy : y ∈ foundEntries nv) (same : x.slot = y.slot) : x = y :=
    List.inj_on_of_nodup_map foundEntries_slots hx hy same
  rw [writes, List.mem_append, mem_lostSlots, List.mem_map]
  simp only [mem_buildTable]
  cases content : nv.slots[n] with
  | empty =>
    refine iff_of_false ?_ (by simp)
    rintro (lost | ⟨e, mem, rfl⟩)
    · simp [findSlot] at lost
    · obtain ⟨f, slot, -⟩ := mem_foundEntries.mp (List.mem_filter.mp mem).1
      rw [content] at slot; cases slot
  | bad =>
    refine iff_of_true (.inl rfl) ⟨by simp, ?_⟩
    rintro e mem rfl
    obtain ⟨f, slot, -⟩ := mem_foundEntries.mp (mem_keptEntries.mp mem).1
    rw [content] at slot; cases slot
  | entry f =>
    cases range : f.inRange
    · refine iff_of_true (.inl (by simp [findSlot, range])) ⟨by simp, ?_⟩
      rintro e mem rfl
      obtain ⟨g, slot, ok, -⟩ := mem_foundEntries.mp (mem_keptEntries.mp mem).1
      rw [content] at slot; cases slot
      exact absurd (range.symm.trans ok) Bool.false_ne_true
    · have found : ({ f with slot := n } : FaultEntry) ∈ foundEntries nv := mem_foundEntries.mpr ⟨f, content, range, rfl⟩
      have kept : ({ f with slot := n } : FaultEntry) ∈ keptEntries nv ↔
          (foundEntries nv).any (FaultEntry.supersededBy { f with slot := n }) = false := by
        rw [keptEntries, List.mem_filter]
        simp [found]
      constructor
      · rintro (lost | ⟨e, mem, slot⟩)
        · simp [findSlot, range] at lost
        · obtain ⟨there, gone⟩ := List.mem_filter.mp mem
          obtain rfl := unique e { f with slot := n } there found slot
          refine ⟨by simp, fun x stays same => ?_⟩
          obtain rfl := unique x { f with slot := n } (mem_keptEntries.mp stays).1 found same
          rw [kept.mp stays] at gone
          exact absurd gone Bool.false_ne_true
      · rintro ⟨-, none⟩
        refine .inr ⟨{ f with slot := n }, List.mem_filter.mpr ⟨found, ?_⟩, rfl⟩
        by_contra stays
        exact none _ (kept.mpr (by simpa using stays)) rfl

theorem Fmy.buildTable_writes_nodup (m : Fmy) : (m.buildTable nv).writes.Nodup := by
  refine List.nodup_append.mpr ⟨(List.nodup_finRange 48).filter _,
    foundEntries_slots.sublist (List.filter_sublist.map _), ?_⟩
  rintro n lost k doubled rfl
  obtain ⟨e, mem, rfl⟩ := List.mem_map.mp doubled
  obtain ⟨f, slot, range, -⟩ := mem_foundEntries.mp (List.mem_filter.mp mem).1
  have lost := mem_lostSlots.mp lost
  simp [findSlot, slot, range] at lost

/-- R165, R169: after the load every slot holds what is due, or is listed for erasure. -/
theorem Fmy.buildTable_mirror (m : Fmy) (n : Fin 48) :
    (m.buildTable nv).Mirrors n nv.slots[n] ∨ n ∈ (m.buildTable nv).writes := by
  rw [Fmy.mem_buildTable_writes]
  by_cases owned : ∀ e ∈ (m.buildTable nv).table, e.slot ≠ n
  · by_cases empty : nv.slots[n] = .empty
    · exact .inl ⟨fun e mem slot => absurd slot (owned e mem), fun _ => empty⟩
    · exact .inr ⟨empty, owned⟩
  · push Not at owned
    obtain ⟨x, mem, rfl⟩ := owned
    refine .inl ⟨fun e there slot => ?_, fun none => absurd rfl (none x mem)⟩
    obtain ⟨f, content, -, own⟩ := mem_foundEntries.mp (mem_keptEntries.mp (mem_buildTable.mp there)).1
    exact ⟨f, slot ▸ content, slot ▸ own⟩

end

end Sys2Proof.Machine
end

section
/-! PROOFS. The start-up load as one command (R169, R170, R174): the table, the over-aged entries, and the reports that
follow. -/

namespace Sys2Proof.Machine

set_option Elab.async false

/-! ### What a report leaves of the fault memory -/

/-- The fault memory without its table, its list of writes and its lost count. -/
def Fmy.aside (m : Fmy) : Fmy :=
  { m with table := [], created := 0, writes := [], reappend := false, formers := .replicate 48 none, lost := 0 }

section
variable (s : State)

theorem Fmy.dirty_aside (m : Fmy) (n : Fin 48) : (m.dirty n).aside = m.aside := by
  unfold Fmy.dirty
  repeat' split
  all_goals rfl

theorem State.changeEntry_aside (i : Nat) (f : FaultEntry → FaultEntry) :
    (s.changeEntry i f).fmy.aside = s.fmy.aside := by
  unfold State.changeEntry
  split
  · rfl
  · rw [State.tableChanged_fmy, Fmy.dirty_aside]; rfl

theorem State.removeEntry_aside (i : Nat) : (s.removeEntry i).fmy.aside = s.fmy.aside := by
  unfold State.removeEntry
  split
  · rfl
  · rw [State.modWsv_fmy, State.tableChanged_fmy, Fmy.dirty_aside]; rfl

theorem State.createEntry_aside (c : FaultCode) (p : Nat) (n : Fin 48) :
    (s.createEntry c p n).fmy.aside = s.fmy.aside := by
  rw [State.createEntry, State.tableChanged_fmy, Fmy.dirty_aside]; rfl

theorem State.handleReport_aside (c : FaultCode) (p : Nat) (a : Bool) :
    (s.handleReport c p a).fmy.aside = s.fmy.aside := by
  have active : (s.activeReport c p).fmy.aside = s.fmy.aside := by
    unfold State.activeReport
    split
    case h_1 i found =>
      split
      · with_reducible rfl
      · exact s.changeEntry_aside _ _
    case h_2 =>
      split
      · exact s.createEntry_aside _ _ _
      · split
        case h_1 =>
          split
          · exact (State.createEntry_aside _ _ _ _).trans (s.removeEntry_aside _)
          · rfl
        case h_2 => rfl
  have cleared : (s.clearedReport c).fmy.aside = s.fmy.aside := by
    unfold State.clearedReport
    split
    · split
      · exact s.changeEntry_aside _ _
      · with_reducible rfl
    · with_reducible rfl
  unfold State.handleReport
  split
  · exact active
  · exact cleared

theorem Removal.aside {pick : FaultEntry → Bool} {kept rest : List FaultEntry} {s t : State}
    (h : Removal pick kept rest s t) : t.fmy.aside = s.fmy.aside := by
  induction h with
  | done => rfl
  | remove table picked run ih => exact ih.trans (State.removeEntry_aside _ _)
  | keep table stays run ih => exact ih

theorem Fmy.dirty_fresh {m : Fmy} {n : Fin 48} (resting : m.write.slotNo ≠ some n) (unlisted : n ∉ m.writes) :
    (m.dirty n).writes = m.writes ++ [n] := by
  rw [Fmy.dirty, if_neg resting, if_neg unlisted]

/-- R165: of slots that are neither listed nor in flight, those of the entries removed are listed in their order. -/
theorem Removal.writes {pick : FaultEntry → Bool} {kept rest : List FaultEntry} {s t : State}
    (h : Removal pick kept rest s t) (idle : s.fmy.write = .idle) (distinct : (rest.map (·.slot)).Nodup)
    (unlisted : ∀ e ∈ rest, e.slot ∉ s.fmy.writes) :
    t.fmy.writes = s.fmy.writes ++ (rest.filter pick).map (·.slot) := by
  induction h with
  | done => simp
  | @remove kept rest e s t table picked run ih =>
    obtain ⟨head, tail⟩ := List.nodup_cons.mp distinct
    have found := getElem?_of_table table
    have writes : (s.removeEntry kept.length).fmy.writes = s.fmy.writes ++ [e.slot] := by
      simp only [State.removeEntry, found, State.modWsv_fmy, State.tableChanged_fmy]
      refine Fmy.dirty_fresh ?_ (unlisted e List.mem_cons_self)
      rw [State.modFmy_fmy, idle]
      exact fun e => by cases e
    rw [ih ((s.removeEntry_write _).trans idle) tail fun x mem => ?_, writes, List.filter_cons_of_pos picked]
    · simp
    · rw [writes, List.mem_append, List.mem_singleton, not_or]
      exact ⟨unlisted x (List.mem_cons_of_mem _ mem), fun same => head (List.mem_map.mpr ⟨x, mem, same⟩)⟩
  | @keep kept rest e s t table stays run ih =>
    rw [ih idle distinct.of_cons fun x mem => unlisted x (List.mem_cons_of_mem _ mem),
      List.filter_cons_of_neg (by simp [stays])]

theorem Removal.created {pick : FaultEntry → Bool} {kept rest : List FaultEntry} {s t : State}
    (h : Removal pick kept rest s t) : t.fmy.created = s.fmy.created := by
  induction h with
  | done => rfl
  | @remove kept rest e s t table picked run ih =>
    refine ih.trans ?_
    simp only [State.removeEntry, getElem?_of_table table, State.modWsv_fmy, State.tableChanged_fmy]
    unfold Fmy.dirty
    repeat' split
    all_goals rfl
  | keep table stays run ih => exact ih

end

/-! ### The load -/

section
variable (s : State)

/-- The aging limit of the image, or of the defaults where its check fails (R170). -/
def State.limitLoaded (s : State) : Nat := ((tablesOfImage s.nv.image).getD {}).general.agingLimit

/-- R169, R174: the table and the counters as the load finds them. -/
def State.slotsRead (s : State) : State :=
  (s.modMctl fun m => { m with loaded := tablesOfImage s.nv.image, imageFailed := (tablesOfImage s.nv.image).isNone }).modFmy
    fun m => { (m.buildTable s.nv).loadCounters s.nv with loading := false, held := [] }

/-- R170, steps 1 and 2. -/
def State.slotsLoaded (s : State) : State := s.slotsRead.removeOverAged s.limitLoaded

theorem State.completeLoad_eq : s.completeLoad = s.fmy.held.foldl (fun s (c, p, a) => s.handleReport c p a)
    ((lostNumbers s.nv).foldl (fun s n => s.reportActive (.slotLost n)) s.slotsLoaded) := by
  have nv : s.slotsLoaded.nv = s.nv := (State.removeEntries_only _ _).same .nv
  rw [← nv]
  rfl

theorem State.slotsRead_only : OnlyChanges [.mctl, .fmy] s s.slotsRead :=
  (s.modMctl_only _).andThen (State.modFmy_only _ _)

theorem State.slotsLoaded_only : OnlyChanges [.mctl, .fmy, .cursor, .attention] s s.slotsLoaded :=
  s.slotsRead_only.andThen (State.removeEntries_only _ _)

theorem State.slotsLoaded_removal : Removal (fun e => s.limitLoaded ≤ e.aging) [] (s.fmy.buildTable s.nv).table
    s.slotsRead s.slotsLoaded := by
  have table : s.slotsRead.fmy.table = (s.fmy.buildTable s.nv).table := by
    change ((s.fmy.buildTable s.nv).loadCounters s.nv).table = _
    unfold Fmy.loadCounters
    split <;> rfl
  rw [← table]
  exact State.removeEntries_removal _

/-- R174: what the load takes of a copy, or of none. -/
theorem Fmy.loadCounters_parts (m : Fmy) (nv : Nv) :
    (∀ b c n, chooseCopy nv.copyA nv.copyB = some (b, c, n) →
      (m.loadCounters nv).counters = c ∧ (m.loadCounters nv).saveNo = n ∧ (m.loadCounters nv).lastIsB = b) ∧
    (chooseCopy nv.copyA nv.copyB = none → (m.loadCounters nv).counters = .replicate 12 0 ∧
      (m.loadCounters nv).saveNo = 0 ∧ (m.loadCounters nv).lastIsB = true ∧ (m.loadCounters nv).counterDue = true) := by
  refine ⟨fun b c n copy => ?_, fun copy => ?_⟩
  · rw [Fmy.loadCounters, copy]
    exact ⟨rfl, rfl, rfl⟩
  · rw [Fmy.loadCounters, copy]
    exact ⟨rfl, rfl, rfl, rfl⟩

/-- R170: the reports that follow the load. -/
def State.reportsOfLoad (s : State) : State :=
  (lostNumbers s.nv).foldl (fun x n => x.handleReport (.slotLost n) ((FaultCode.slotLost n).priority s.tables) true)
    s.slotsLoaded

theorem foldl_handleReport {α : Type} (f : α → FaultCode × Nat × Bool) (l : List α) (u : State) :
    (l.foldl (fun x a => x.handleReport (f a).1 (f a).2.1 (f a).2.2) u).fmy.aside = u.fmy.aside ∧
      OnlyChanges [.fmy, .cursor, .attention] u (l.foldl (fun x a => x.handleReport (f a).1 (f a).2.1 (f a).2.2) u) := by
  induction l generalizing u with
  | nil => exact ⟨rfl, .refl _ _⟩
  | cons a l ih =>
    obtain ⟨aside, only⟩ := ih (u.handleReport (f a).1 (f a).2.1 (f a).2.2)
    exact ⟨aside.trans (u.handleReport_aside _ _ _), (u.handleReport_only _ _ _).trans only⟩

/-- The parts of the fault memory that the reports leave as the load found them. -/
theorem State.slotsLoaded_aside : s.slotsLoaded.fmy.aside = s.slotsRead.fmy.aside := s.slotsLoaded_removal.aside

theorem State.slotsRead_fmy : s.slotsRead.fmy =
    { (s.fmy.buildTable s.nv).loadCounters s.nv with loading := false, held := [] } := rfl

theorem State.completeLoad_reports : s.completeLoad =
    s.fmy.held.foldl (fun x q => x.handleReport q.1 q.2.1 q.2.2) s.reportsOfLoad := by
  have lost (l : List (Fin 49)) (u : State) (loaded : u.fmy.loading = false) (tables : u.tables = s.tables) :
      l.foldl (fun s n => s.reportActive (.slotLost n)) u =
        l.foldl (fun x n => x.handleReport (.slotLost n) ((FaultCode.slotLost n).priority s.tables) true) u := by
    induction l generalizing u with
    | nil => rfl
    | cons n l ih =>
      have first : u.reportActive (.slotLost n) =
          u.handleReport (.slotLost n) ((FaultCode.slotLost n).priority s.tables) true := by
        rw [State.reportActive, State.report, tables]
        exact if_neg (by simp [loaded])
      have aside : (u.handleReport (.slotLost n) ((FaultCode.slotLost n).priority s.tables) true).fmy.aside =
          u.fmy.aside := u.handleReport_aside _ _ _
      rw [List.foldl_cons, List.foldl_cons, first]
      exact ih _ ((congrArg Fmy.loading aside :).trans loaded) (((u.handleReport_only _ _ _).same .tables).trans tables)
  have loaded : s.slotsLoaded.fmy.loading = false := (congrArg Fmy.loading s.slotsLoaded_aside :)
  rw [s.completeLoad_eq, lost _ _ loaded (s.slotsLoaded_only.same .tables)]
  rfl

theorem State.reportsOfLoad_parts : s.reportsOfLoad.fmy.aside = s.slotsRead.fmy.aside ∧
    OnlyChanges [.fmy, .cursor, .attention] s.slotsLoaded s.reportsOfLoad := by
  obtain ⟨aside, only⟩ := foldl_handleReport
    (fun n : Fin 49 => (.slotLost n, (FaultCode.slotLost n).priority s.tables, true)) (lostNumbers s.nv) s.slotsLoaded
  exact ⟨aside.trans s.slotsLoaded_aside, only⟩

theorem State.completeLoad_parts : s.completeLoad.fmy.aside = s.slotsRead.fmy.aside ∧
    OnlyChanges [.fmy, .cursor, .attention] s.slotsLoaded s.completeLoad := by
  obtain ⟨before, first⟩ := s.reportsOfLoad_parts
  obtain ⟨aside, only⟩ := foldl_handleReport (fun q : FaultCode × Nat × Bool => q) s.fmy.held s.reportsOfLoad
  rw [s.completeLoad_reports]
  exact ⟨aside.trans before, first.trans only⟩

end

/-! ### The ranges of an entry (R157, R169) -/

theorem channelsRise_iff (l : List (Fin 6 × Int)) : channelsRise l = true ↔ l.Pairwise fun a b => a.1 < b.1 := by
  induction l with
  | nil => simp [channelsRise]
  | cons a l ih =>
    cases l with
    | nil => simp [channelsRise]
    | cons b l =>
      rw [channelsRise, Bool.and_eq_true, decide_eq_true_eq, ih, List.pairwise_cons (a := a)]
      refine and_congr_left fun rest => ⟨fun first x mem => ?_, fun all => all b List.mem_cons_self⟩
      obtain rfl | mem := List.mem_cons.mp mem
      · exact first
      · exact first.trans ((List.pairwise_cons.mp rest).1 x mem)

theorem Snapshot.inRange_iff (x : Snapshot) : x.inRange = true ↔ x.vb < 65536 ∧
    (∀ v, x.speed = some v → -32768 ≤ v ∧ v ≤ 32767) ∧ x.values.length ≤ 6 ∧
    (x.values.Pairwise fun a b => a.1 < b.1) ∧ ∀ q ∈ x.values, -32768 ≤ q.2 ∧ q.2 ≤ 32767 := by
  have speed : x.speed.all valueInRange = true ↔ ∀ v, x.speed = some v → -32768 ≤ v ∧ v ≤ 32767 := by
    cases x.speed <;> simp [valueInRange]
  simp only [Snapshot.inRange, Bool.and_eq_true, decide_eq_true_eq, speed, channelsRise_iff, List.all_eq_true, valueInRange,
    and_assoc]

theorem FaultEntry.inRange_iff (e : FaultEntry) : e.inRange = true ↔
    e.priority ≤ 15 ∧ 1 ≤ e.occurrences ∧ e.occurrences ≤ 255 ∧ e.aging < 100 ∧
    e.first.minutes ≤ counterMax ∧ e.first.cycles ≤ counterMax ∧
    e.last.minutes ≤ counterMax ∧ e.last.cycles ≤ counterMax ∧
    1 ≤ e.created ∧ e.created ≤ counterMax ∧
    e.snapshot.isSome = e.code.sourceClass.hasSnapshot ∧ ∀ x, e.snapshot = some x → x.inRange = true := by
  have snapshot : e.snapshot.all Snapshot.inRange = true ↔ ∀ x, e.snapshot = some x → x.inRange = true := by
    cases e.snapshot <;> simp
  simp only [FaultEntry.inRange, Bool.and_eq_true, decide_eq_true_eq, beq_iff_eq, within, Stamp.inRange, snapshot, and_assoc]

/-! ### The numbers reported lost (R170) -/

theorem chooseCopy_eq_none_iff (a b : CounterCopy) : chooseCopy a b = none ↔ a = .bad ∧ b = .bad := by
  cases a <;> cases b <;> simp only [chooseCopy, reduceCtorEq, and_true, and_false, and_self]
  repeat' split
  all_goals simp

theorem mem_lostNumbers {nv : Nv} {n : Fin 49} : n ∈ lostNumbers nv ↔
    (∃ k : Fin 48, n.val = k.val ∧ (nv.slots[k] = .bad ∨ ∃ f, nv.slots[k] = .entry f ∧ f.inRange = false)) ∨
      (n = 48 ∧ nv.copyA = .bad ∧ nv.copyB = .bad) := by
  have lost (k : Fin 48) : k ∈ lostSlots nv ↔ nv.slots[k] = .bad ∨ ∃ f, nv.slots[k] = .entry f ∧ f.inRange = false := by
    rw [mem_lostSlots]
    cases nv.slots[k] with
    | empty => simp [findSlot]
    | bad => simp [findSlot]
    | entry f => cases range : f.inRange <;> simp [findSlot, range]
  rw [lostNumbers, List.mem_append, List.mem_map]
  refine or_congr ⟨?_, ?_⟩ ?_
  · rintro ⟨k, mem, rfl⟩
    exact ⟨k, rfl, (lost k).mp mem⟩
  · rintro ⟨k, same, slot⟩
    exact ⟨k, (lost k).mpr slot, Fin.ext same.symm⟩
  · cases copy : chooseCopy nv.copyA nv.copyB with
    | none => simp [(chooseCopy_eq_none_iff _ _).mp copy]
    | some x =>
      simp only [Option.isSome_some, if_true, List.not_mem_nil, false_iff, not_and]
      intro _ a b
      rw [(chooseCopy_eq_none_iff _ _).mpr ⟨a, b⟩] at copy
      cases copy

section
variable {nv : Nv} {m : Fmy}

/-- R169: the entries of the table, in the words of the slots. -/
theorem mem_buildTable_iff {e : FaultEntry} : e ∈ (m.buildTable nv).table ↔
    (∃ f, nv.slots[e.slot] = .entry f ∧ f.inRange = true ∧ e = { f with slot := e.slot }) ∧
      ∀ (n : Fin 48) (f : FaultEntry), nv.slots[n] = .entry f → f.inRange = true →
        f.code = e.code → f.created < e.created ∨ (f.created = e.created ∧ e.slot ≤ n) := by
  rw [mem_buildTable, mem_keptEntries, ← mem_foundEntries]
  refine and_congr_right fun _ => ⟨fun all n f slot range code => ?_, fun all x mem code => ?_⟩
  · exact all { f with slot := n } (mem_foundEntries.mpr ⟨f, slot, range, rfl⟩) code
  · obtain ⟨f, slot, range, own⟩ := mem_foundEntries.mp mem
    rw [own] at code ⊢
    exact all x.slot f slot range code

theorem Fmy.buildTable_ascends : (m.buildTable nv).table.Pairwise fun a b =>
    a.created < b.created ∨ (a.created = b.created ∧ a.slot < b.slot) := by
  have slots := m.buildTable_holds (nv := nv) |>.slots
  refine (List.Pairwise.and (sortEntries_sorted (keptEntries nv)) (List.pairwise_map.mp slots)).imp fun {a b} h => ?_
  obtain ⟨before, apart⟩ := h
  rw [FaultEntry.before_iff] at before
  exact before.imp id fun ⟨same, order⟩ => ⟨same, lt_of_le_of_ne order apart⟩

theorem foldl_max_attained (l : List Nat) (b : Nat) : l.foldl max b = b ∨ l.foldl max b ∈ l := by
  induction l generalizing b with
  | nil => exact .inl rfl
  | cons x l ih =>
    obtain here | there := ih (max b x)
    · rw [List.foldl_cons, here]
      obtain e | e := max_choice b x <;> rw [e]
      · exact .inl rfl
      · exact .inr List.mem_cons_self
    · exact .inr (List.mem_cons_of_mem _ there)

theorem Fmy.buildTable_created : (m.buildTable nv).created = 0 ∨
    ∃ e ∈ (m.buildTable nv).table, e.created = (m.buildTable nv).created := by
  obtain zero | top := foldl_max_attained ((keptEntries nv).map (·.created)) 0
  · exact .inl zero
  · obtain ⟨e, mem, here⟩ := List.mem_map.mp top
    exact .inr ⟨e, mem_buildTable.mpr mem, here⟩

end

/-- Settles O4: the table read, the over-aged entries removed, and the reports in their order. -/
theorem startupLoadTakesTheStore : Obligations.StartupLoadTakesTheStore := by
  refine ⟨fun s live m loading => ?_, ⟨fun nv m => ?_, fun e => ?_, ?_⟩⟩
  · have removal := s.slotsLoaded_removal
    obtain ⟨aside, after⟩ := s.completeLoad_parts
    have only := s.slotsLoaded_only.trans after.mono
    have limit : s.limitLoaded = ((tablesOfImage s.nv.image).getD {}).general.agingLimit := rfl
    obtain ⟨taken, blank⟩ := Fmy.loadCounters_parts (s.fmy.buildTable s.nv) s.nv
    have mctl : s.completeLoad.mctl = { s.mctl with
        loaded := tablesOfImage s.nv.image, imageFailed := (tablesOfImage s.nv.image).isNone } :=
      (after.same .mctl).trans ((State.removeEntries_only s.slotsRead _).same .mctl)
    refine ⟨s.completeLoad, s.slotsLoaded, s.limitLoaded, ?_, limit, ?_, ?_, fun idle => ?_,
      (congrArg Fmy.loading s.slotsLoaded_aside :), (congrArg Fmy.held s.slotsLoaded_aside :), s.completeLoad_reports,
      (congrArg Fmy.loading aside :), (congrArg Fmy.held aside :), mctl, fun b c n copy => ?_, fun copy => ?_,
      s.slotsLoaded_only, only⟩
    · rw [exec_runs _ s rfl live]
      exact congrArg _ (if_pos ⟨m, loading⟩)
    · rw [removal.table_eq, List.nil_append]
      exact List.filter_congr fun e _ => decide_not.symm.trans (decide_eq_decide.mpr not_le)
    · rw [removal.created]
      change ((s.fmy.buildTable s.nv).loadCounters s.nv).created = _
      unfold Fmy.loadCounters
      split <;> rfl
    · have writes : s.slotsRead.fmy.writes = (s.fmy.buildTable s.nv).writes := by
        change ((s.fmy.buildTable s.nv).loadCounters s.nv).writes = _
        unfold Fmy.loadCounters
        split <;> rfl
      have write : s.slotsRead.fmy.write = .idle := by
        change ((s.fmy.buildTable s.nv).loadCounters s.nv).write = _
        unfold Fmy.loadCounters
        split <;> exact idle
      rw [removal.writes write (s.fmy.buildTable_holds).slots fun e mem listed => ?_, writes]
      rw [writes, Fmy.mem_buildTable_writes] at listed
      exact listed.2 e mem rfl
    · obtain ⟨counters, no, last⟩ := taken b c n copy
      exact ⟨(congrArg Fmy.counters aside :).trans counters, (congrArg Fmy.saveNo aside :).trans no,
        (congrArg Fmy.lastIsB aside :).trans last⟩
    · obtain ⟨counters, no, last, due⟩ := blank copy
      exact ⟨(congrArg Fmy.counters aside :).trans counters, (congrArg Fmy.saveNo aside :).trans no,
        (congrArg Fmy.lastIsB aside :).trans last, (congrArg Fmy.counterDue aside :).trans due⟩
  · have holds := m.buildTable_holds (nv := nv)
    exact ⟨fun e => mem_buildTable_iff, Fmy.buildTable_ascends, holds.codes, fun e mem => (holds.created.2 e mem).2,
      Fmy.buildTable_created, m.buildTable_writes_nodup, fun n => Fmy.mem_buildTable_writes, fun n => mem_lostNumbers⟩
  · rw [e.inRange_iff]
    simp only [Snapshot.inRange_iff]
    rfl
  · refine ⟨fun a b n m next => if_pos next, fun a b n m next => ?_, fun a b n m other next above => ?_,
      fun a b n m other next above => ?_, fun a n => rfl, fun b m => rfl, rfl⟩
    · have other : n ≠ m + 1 := by
        rintro rfl
        have loop : (2 : BitVec 32) = 0 := by
          have := congrArg (· - m) next
          simp only [BitVec.sub_self] at this
          bv_omega
        exact absurd loop (by decide)
      exact (if_neg other).trans (if_pos next)
    · exact ((if_neg other).trans (if_neg next)).trans (if_pos (BitVec.le_of_lt above))
    · exact ((if_neg other).trans (if_neg next)).trans (if_neg (BitVec.not_le.mpr above))

end Sys2Proof.Machine
end

section
/-! PROOFS. The records of the tables (11.3): what a name names, what a record replaces, and the checks that the
written copy keeps, with those that the cross-table checks add to them. -/

namespace Sys2Proof.Machine
set_option Elab.async false

/-- The names of records: a table code with an index of its table. -/
inductive RecordName : Nat → Nat → Prop
  | general : RecordName 0 0
  | line (n : Fin 32) : RecordName 1 n.val
  | roles : RecordName 2 0
  | channel (k : Fin 6) : RecordName 3 k.val
  | sensor (k : Fin 6) : RecordName 4 k.val
  | dial (k : Fin 6) : RecordName 5 k.val
  | rule (m : Fin 64) : RecordName 6 m.val
  | lamp (n : Fin 24) : RecordName 7 n.val
  | door (d : Fin 4) : RecordName 8 d.val

theorem recordName_of {a i : Nat} (names : namesRecord a i = true) : RecordName a i := by
  unfold namesRecord at names
  split at names
  case h_2 => cases names
  case h_1 n count =>
    have below : i < n := of_decide_eq_true names
    unfold recordCount at count
    split at count <;> cases count
    · obtain rfl : i = 0 := by omega
      exact .general
    · exact .line ⟨i, below⟩
    · obtain rfl : i = 0 := by omega
      exact .roles
    · exact .channel ⟨i, below⟩
    · exact .sensor ⟨i, below⟩
    · exact .dial ⟨i, below⟩
    · exact .rule ⟨i, below⟩
    · exact .lamp ⟨i, below⟩
    · exact .door ⟨i, below⟩

theorem RecordName.names {a i : Nat} (h : RecordName a i) : namesRecord a i = true := by
  cases h <;> first | rfl | exact decide_eq_true (Fin.isLt _)

/-- The tables with one record replaced by what its bytes read as. -/
inductive Tables.Replaces (t : Tables) : Nat → Nat → List Byte → Tables → Prop
  | general {p : List Byte} {c : GeneralCfg} (read : GeneralCfg.ofBytes p = some c) :
      Replaces t 0 0 p { t with general := c }
  | line (n : Fin 32) {p : List Byte} {c : LineCfg} (read : LineCfg.ofBytes p = some c) :
      Replaces t 1 n.val p { t with lines := t.lines.set n c }
  | roles {p : List Byte} {c : RoleCfg} (read : RoleCfg.ofBytes p = some c) :
      Replaces t 2 0 p { t with roles := c }
  | channel (k : Fin 6) {p : List Byte} {c : ChannelCfg} (read : ChannelCfg.ofBytes p = some c) :
      Replaces t 3 k.val p { t with channels := t.channels.set k c }
  | sensor (k : Fin 6) {p : List Byte} {c : Curve} (read : curveOfBytes true p = some c) :
      Replaces t 4 k.val p { t with sensors := t.sensors.set k c }
  | dial (k : Fin 6) {p : List Byte} {c : Curve} (read : curveOfBytes false p = some c) :
      Replaces t 5 k.val p { t with dials := t.dials.set k c }
  | rule (m : Fin 64) {p : List Byte} {c : RuleCfg} (read : RuleCfg.ofBytes p = some c) :
      Replaces t 6 m.val p { t with rules := t.rules.set m c }
  | lamp (n : Fin 24) {p : List Byte} {c : LampCfg} (read : LampCfg.ofBytes p = some c) :
      Replaces t 7 n.val p { t with lamps := t.lamps.set n c }
  | door (d : Fin 4) {p : List Byte} {c : DoorCfg} (read : DoorCfg.ofBytes p = some c) :
      Replaces t 8 d.val p { t with doors := t.doors.set d c }

section
variable {t w : Tables} {a i : Nat} {p : List Byte}

theorem Tables.replaces_of (h : t.setRecord a i p = some w) : t.Replaces a i p w := by
  have both {n : Nat} {β : Type} {read : Option β} {f : Fin n → β → Tables} (e : (do
      let j ← finOf n i
      let r ← read
      return f j r) = some w) : ∃ j r, i = j.val ∧ read = some r ∧ f j r = w := by
    simp only [Option.pure_def, Option.bind_eq_bind, Option.bind_eq_some_iff, Option.some.injEq] at e
    obtain ⟨j, place, r, read, e⟩ := e
    exact ⟨j, r, finOf_eq_some_iff.mp place, read, e⟩
  have only {β : Type} {read : Option β} {f : β → Tables} (e : (if i = 0 then (do return f (← read)) else none) = some w) :
      i = 0 ∧ ∃ r, read = some r ∧ f r = w := by
    split at e
    · simp only [Option.pure_def, Option.bind_eq_bind, Option.bind_eq_some_iff, Option.some.injEq] at e
      exact ⟨‹_›, e⟩
    · cases e
  unfold Tables.setRecord at h
  split at h
  · obtain ⟨rfl, r, read, rfl⟩ := only h
    exact .general read
  · obtain ⟨j, r, rfl, read, rfl⟩ := both h
    exact .line j read
  · obtain ⟨rfl, r, read, rfl⟩ := only h
    exact .roles read
  · obtain ⟨j, r, rfl, read, rfl⟩ := both h
    exact .channel j read
  · obtain ⟨j, r, rfl, read, rfl⟩ := both h
    exact .sensor j read
  · obtain ⟨j, r, rfl, read, rfl⟩ := both h
    exact .dial j read
  · obtain ⟨j, r, rfl, read, rfl⟩ := both h
    exact .rule j read
  · obtain ⟨j, r, rfl, read, rfl⟩ := both h
    exact .lamp j read
  · obtain ⟨j, r, rfl, read, rfl⟩ := both h
    exact .door j read
  · cases h

theorem Tables.Replaces.name (h : t.Replaces a i p w) : RecordName a i := by
  cases h <;> constructor

theorem Tables.write_parts (h : t.write a i p = some w) : t.Replaces a i p w ∧ w.recordOk a i = true := by
  unfold Tables.write at h
  split at h
  · split at h
    · cases h
      exact ⟨Tables.replaces_of ‹_›, ‹_›⟩
    · cases h
  · cases h

end

/-! ### The field checks by record -/

section
variable (t : Tables)

theorem Tables.recordOk_general (i : Nat) : t.recordOk 0 i = t.general.ok := rfl
theorem Tables.recordOk_line (n : Fin 32) : t.recordOk 1 n.val = (t.lines[n]).ok := by
  simp [Tables.recordOk, finOf_val]
theorem Tables.recordOk_roles (i : Nat) : t.recordOk 2 i = t.rolesOk := rfl
theorem Tables.recordOk_channel (k : Fin 6) : t.recordOk 3 k.val = t.channelOk k := by
  simp [Tables.recordOk, finOf_val]
theorem Tables.recordOk_sensor (k : Fin 6) : t.recordOk 4 k.val = increasing t.sensors[k] := by
  simp [Tables.recordOk, finOf_val]
theorem Tables.recordOk_dial (k : Fin 6) : t.recordOk 5 k.val = t.dialOk k := by
  simp [Tables.recordOk, finOf_val]
theorem Tables.recordOk_rule (m : Fin 64) : t.recordOk 6 m.val = t.ruleOk m := by
  simp [Tables.recordOk, finOf_val]
theorem Tables.recordOk_lamp (n : Fin 24) : t.recordOk 7 n.val = ((t.lamps[n]).fallback != some n) := by
  simp [Tables.recordOk, finOf_val]
theorem Tables.recordOk_door (d : Fin 4) : t.recordOk 8 d.val = t.doorOk d := by
  simp [Tables.recordOk, finOf_val]

/-- The tables without their line records, for which no line is a PULSE line. -/
def Tables.unlined : Tables := { t with lines := .replicate 32 {} }

theorem Tables.unlined_isPulse (n : Fin 32) : t.unlined.isPulse n = false := by
  simp [Tables.isPulse, Tables.unlined]

/-- The field checks that the written copy keeps, as `TablesLaw` states them. -/
def Tables.Checked : Prop := ∀ a i, namesRecord a i = true →
  (if a = 2 ∨ a = 6 ∨ a = 8 then { t with lines := .replicate 32 {} } else t).recordOk a i = true

/-- The same checks record by record. -/
structure Tables.ByRecord (t : Tables) : Prop where
  general : t.general.ok = true
  lines : ∀ n : Fin 32, (t.lines[n]).ok = true
  roles : t.unlined.rolesOk = true
  channels : ∀ k, t.channelOk k = true
  sensors : ∀ k : Fin 6, increasing t.sensors[k] = true
  dials : ∀ k, t.dialOk k = true
  rules : ∀ m, t.unlined.ruleOk m = true
  lamps : ∀ n : Fin 24, ((t.lamps[n]).fallback != some n) = true
  doors : ∀ d, t.unlined.doorOk d = true

theorem Tables.checked_iff : t.Checked ↔ t.ByRecord := by
  constructor
  · intro h
    refine ⟨?_, fun n => ?_, ?_, fun k => ?_, fun k => ?_, fun k => ?_, fun m => ?_, fun n => ?_, fun d => ?_⟩
    · exact h 0 0 (RecordName.general).names
    · rw [← t.recordOk_line]; exact h 1 _ (RecordName.line n).names
    · exact h 2 0 (RecordName.roles).names
    · rw [← t.recordOk_channel]; exact h 3 _ (RecordName.channel k).names
    · rw [← t.recordOk_sensor]; exact h 4 _ (RecordName.sensor k).names
    · rw [← t.recordOk_dial]; exact h 5 _ (RecordName.dial k).names
    · rw [← t.unlined.recordOk_rule]; exact h 6 _ (RecordName.rule m).names
    · rw [← t.recordOk_lamp]; exact h 7 _ (RecordName.lamp n).names
    · rw [← t.unlined.recordOk_door]; exact h 8 _ (RecordName.door d).names
  · intro h a i names
    cases recordName_of names
    · exact h.general
    · exact (t.recordOk_line _).trans (h.lines _)
    · exact h.roles
    · exact (t.recordOk_channel _).trans (h.channels _)
    · exact (t.recordOk_sensor _).trans (h.sensors _)
    · exact (t.recordOk_dial _).trans (h.dials _)
    · exact (t.unlined.recordOk_rule _).trans (h.rules _)
    · exact (t.recordOk_lamp _).trans (h.lamps _)
    · exact (t.unlined.recordOk_door _).trans (h.doors _)

variable {t}

/-! ### Without line records the checks ask less -/

theorem Tables.termOk_unlined {x : Term} (h : t.termOk x = true) : t.unlined.termOk x = true := by
  cases x
  case line n _ => simp [Tables.termOk, t.unlined_isPulse]
  case door _ test _ _ => cases test <;> exact h
  all_goals exact h

theorem Tables.rolesOk_unlined (h : t.rolesOk = true) : t.unlined.rolesOk = true := by
  simp only [Tables.rolesOk, Bool.and_eq_true, List.all_eq_true] at h ⊢
  exact ⟨h.1, fun n _ => by simp [t.unlined_isPulse]⟩

theorem Tables.ruleOk_unlined {m : Fin 64} (h : t.ruleOk m = true) : t.unlined.ruleOk m = true := by
  simp only [Tables.ruleOk, Bool.and_eq_true, List.all_eq_true] at h ⊢
  obtain ⟨⟨priority, terms⟩, lamp⟩ := h
  exact ⟨⟨priority, fun x mem => Tables.termOk_unlined (terms x mem)⟩, lamp⟩

theorem Tables.doorOk_unlined {d : Fin 4} (h : t.doorOk d = true) : t.unlined.doorOk d = true := by
  have same : t.unlined.doors[d] = t.doors[d] := rfl
  unfold Tables.doorOk at h ⊢
  dsimp only at h ⊢
  rw [same]
  split
  case isFalse no => exact (if_neg no).symm.trans h
  case isTrue yes =>
    simp only [if_pos yes, Bool.and_eq_true, List.all_eq_true] at h ⊢
    obtain ⟨⟨⟨⟨⟨⟨⟨parts, -⟩, a⟩, b⟩, c⟩, d⟩, e⟩, f⟩ := h
    exact ⟨⟨⟨⟨⟨⟨⟨parts, fun n _ => by simp [t.unlined_isPulse]⟩, a⟩, b⟩, c⟩, d⟩, e⟩, f⟩

theorem Tables.Sound.checked (h : t.Sound) : t.Checked := by
  intro a i names
  have ok := h.1 a i names
  split
  case isFalse => exact ok
  case isTrue three =>
    cases recordName_of names
    case roles => exact Tables.rolesOk_unlined ok
    case rule m =>
      exact (t.unlined.recordOk_rule m).trans (Tables.ruleOk_unlined ((t.recordOk_rule m).symm.trans ok))
    case door d =>
      exact (t.unlined.recordOk_door d).trans (Tables.doorOk_unlined ((t.recordOk_door d).symm.trans ok))
    all_goals simp at three

/-! ### With the cross-table checks they ask all -/

theorem RuleCfg.line_unpulsed (cross : t.crossOk = true) (m : Fin 64) {n : Fin 32} {y : LineTest}
    (mem : Term.line n y ∈ (t.rules[m]).terms) : t.isPulse n = false := by
  simp only [Tables.crossOk, Bool.and_eq_true, List.all_eq_true] at cross
  obtain ⟨⟨⟨⟨⟨-, rules⟩, -⟩, -⟩, -⟩, -⟩ := cross
  simpa using rules _ (Vector.mem_toList_iff.mpr (Vector.getElem_mem m.isLt)) _ mem

theorem DoorCfg.line_unpulsed (cross : t.crossOk = true) (d : Fin 4) (here : (t.doors[d]).configured = true) {n : Fin 32}
    (mem : n ∈ (t.doors[d]).named) : t.isPulse n = false := by
  simp only [Tables.crossOk, Bool.and_eq_true, List.all_eq_true] at cross
  obtain ⟨⟨⟨⟨⟨⟨⟨-, doors⟩, -⟩, -⟩, -⟩, -⟩, -⟩, -⟩ := cross
  have listed : n ∈ t.doorLines := List.mem_flatMap.mpr ⟨_, List.mem_filter.mpr
    ⟨Vector.mem_toList_iff.mpr (Vector.getElem_mem d.isLt), here⟩, mem⟩
  simpa using doors n listed

theorem Tables.Checked.sound (h : t.Checked) (cross : t.crossOk = true) : t.Sound := by
  refine ⟨fun a i names => ?_, cross⟩
  have by_ := t.checked_iff.mp h
  cases recordName_of names
  case general => exact by_.general
  case line n => exact (t.recordOk_line n).trans (by_.lines n)
  case roles =>
    have all := cross
    simp only [Tables.crossOk, Bool.and_eq_true] at all
    exact all.1.1.1.1.1.2
  case channel k => exact (t.recordOk_channel k).trans (by_.channels k)
  case sensor k => exact (t.recordOk_sensor k).trans (by_.sensors k)
  case dial k => exact (t.recordOk_dial k).trans (by_.dials k)
  case rule m =>
    refine (t.recordOk_rule m).trans ?_
    have ok := by_.rules m
    simp only [Tables.ruleOk, Bool.and_eq_true, List.all_eq_true] at ok ⊢
    obtain ⟨⟨priority, terms⟩, lamp⟩ := ok
    refine ⟨⟨priority, fun x mem => ?_⟩, lamp⟩
    have unlined := terms x mem
    cases x
    case line n y => simp [Tables.termOk, RuleCfg.line_unpulsed cross m mem]
    case door _ test _ _ => cases test <;> exact unlined
    all_goals exact unlined
  case lamp n => exact (t.recordOk_lamp n).trans (by_.lamps n)
  case door d =>
    refine (t.recordOk_door d).trans ?_
    have ok := by_.doors d
    have same : t.unlined.doors[d] = t.doors[d] := rfl
    unfold Tables.doorOk at ok ⊢
    dsimp only at ok ⊢
    rw [same] at ok
    split
    case isFalse no => exact (if_neg no).symm.trans ok
    case isTrue yes =>
      simp only [if_pos yes, Bool.and_eq_true, List.all_eq_true] at ok ⊢
      obtain ⟨⟨⟨⟨⟨⟨⟨parts, -⟩, a⟩, b⟩, c⟩, e⟩, f⟩, g⟩ := ok
      exact ⟨⟨⟨⟨⟨⟨⟨parts, fun n mem => by simp [DoorCfg.line_unpulsed cross d yes mem]⟩, a⟩, b⟩, c⟩, e⟩, f⟩, g⟩

/-! ### A record that is taken keeps them -/

section
variable {w : Tables} {a i : Nat} {p : List Byte}

/-- A vector with one element set holds what each element must satisfy. -/
theorem Vector.forall_set {α : Type} {n : Nat} {v : Vector α n} {P : Fin n → α → Prop} (h : ∀ j : Fin n, P j v[j])
    (k : Fin n) {c : α} (ok : P k c) (j : Fin n) : P j (v.set k c)[j] := by
  by_cases e : k = j
  · subst e
    rwa [Fin.getElem_fin, Vector.getElem_set_self]
  · rw [Fin.getElem_fin, Vector.getElem_set_ne _ _ fun x => e (Fin.ext x)]
    exact h j

theorem Tables.channelOk_dial {k : Fin 6} (h : t.channelOk k = true) :
    curvePositionsOk t.dials[k] (t.channels[k]).pmax = true := by
  simp only [Tables.channelOk, Bool.and_eq_true] at h
  exact h.2

/-- R213: the written copy keeps its checks at every record that it takes. -/
theorem Tables.write_checked (h : t.Checked) (taken : t.write a i p = some w) : w.Checked := by
  have by_ := t.checked_iff.mp h
  obtain ⟨replaces, ok⟩ := Tables.write_parts taken
  refine w.checked_iff.mpr ?_
  cases replaces
  case general => exact { by_ with general := ok }
  case line n c _ =>
    rw [Tables.recordOk_line] at ok
    refine { by_ with lines := Vector.forall_set (P := fun _ (c : LineCfg) => c.ok = true) by_.lines n ?_ }
    simpa using ok
  case roles => exact { by_ with roles := Tables.rolesOk_unlined ok }
  case channel k c _ =>
    rw [Tables.recordOk_channel] at ok
    refine { by_ with channels := fun j => ?_, dials := fun j => ?_ }
    · by_cases e : j = k
      · subst e; exact ok
      · have other : (t.channels.set k c)[j] = t.channels[j] := Vector.getElem_set_ne _ _ fun x => e (Fin.ext x.symm)
        have before := by_.channels j
        unfold Tables.channelOk at before ⊢
        rw [other]
        exact before
    · have before := by_.dials j
      unfold Tables.dialOk at before ⊢
      rw [Bool.and_eq_true] at before ⊢
      refine ⟨before.1, ?_⟩
      by_cases e : j = k
      · subst e; exact Tables.channelOk_dial ok
      · have other : (t.channels.set k c)[j] = t.channels[j] := Vector.getElem_set_ne _ _ fun x => e (Fin.ext x.symm)
        rw [other]
        exact before.2
  case sensor k c _ =>
    rw [Tables.recordOk_sensor] at ok
    refine { by_ with sensors := Vector.forall_set (P := fun _ (c : Curve) => increasing c = true) by_.sensors k ?_ }
    simpa using ok
  case dial k c _ =>
    rw [Tables.recordOk_dial] at ok
    have other {j : Fin 6} (e : j ≠ k) : (t.dials.set k c)[j] = t.dials[j] :=
      Vector.getElem_set_ne _ _ fun x => e (Fin.ext x.symm)
    refine { by_ with channels := fun j => ?_, dials := fun j => ?_ }
    · by_cases e : j = k
      · subst e
        have before := by_.channels j
        unfold Tables.channelOk Tables.dialOk at *
        rw [Bool.and_eq_true] at before ok ⊢
        exact ⟨before.1, ok.2⟩
      · have before := by_.channels j
        unfold Tables.channelOk at before ⊢
        rw [other e]
        exact before
    · by_cases e : j = k
      · subst e; exact ok
      · have before := by_.dials j
        unfold Tables.dialOk at before ⊢
        rw [other e]
        exact before
  case rule m c _ =>
    rw [Tables.recordOk_rule] at ok
    refine { by_ with rules := fun j => ?_ }
    by_cases e : j = m
    · subst e; exact Tables.ruleOk_unlined ok
    · have other : (t.rules.set m c)[j] = t.rules[j] := Vector.getElem_set_ne _ _ fun x => e (Fin.ext x.symm)
      have before := by_.rules j
      unfold Tables.ruleOk Tables.unlined at before ⊢
      rw [other]
      exact before
  case lamp n c _ =>
    rw [Tables.recordOk_lamp] at ok
    refine { by_ with lamps := Vector.forall_set (P := fun n (c : LampCfg) => (c.fallback != some n) = true) by_.lamps n ?_ }
    simpa using ok
  case door d c _ =>
    rw [Tables.recordOk_door] at ok
    refine { by_ with doors := fun j => ?_ }
    by_cases e : j = d
    · subst e; exact Tables.doorOk_unlined ok
    · have other : (t.doors.set d c)[j] = t.doors[j] := Vector.getElem_set_ne _ _ fun x => e (Fin.ext x.symm)
      have before := by_.doors j
      unfold Tables.doorOk Tables.unlined at before ⊢
      rw [other]
      exact before

end

/-! ### What else the checks give -/

theorem Tables.Sound.agingLimit (h : t.Sound) : 1 ≤ t.general.agingLimit ∧ t.general.agingLimit ≤ 100 := by
  have ok : t.general.ok = true := h.1 0 0 rfl
  simp only [GeneralCfg.ok, within, Bool.and_eq_true, decide_eq_true_eq] at ok
  exact ok.1.1.2

/-- R7, R215: the tables of an image that passes its check. -/
theorem tablesOfImage_sound {c : ImageContent} (h : tablesOfImage c = some t) : t.Sound := by
  unfold tablesOfImage at h
  repeat' split at h
  all_goals cases h
  case _ passed =>
    rw [Bool.and_eq_true, List.all_eq_true] at passed
    exact Tables.sound_of_checks passed.1 passed.2

end
end Sys2Proof.Machine
end

section
/-! PROOFS. The laws of the tables and of the fault memory (`StepKeepsTablesAndFaultLaws`). -/

namespace Sys2Proof.Machine
set_option Elab.async false

/-- A request that is served runs its service or changes nothing. -/
theorem served_cases {P : State → Prop} {early : Bool} {ok : Nat → Bool} {p : List Byte} {k : Service} {s : State}
    (still : P s) (runs : ¬ (s.mode = .startup ∧ ¬ early = true) → P (k s).1) : P (served early ok p k s).1 := by
  unfold served
  repeat' split
  · exact still
  · exact runs ‹_›
  · exact still

theorem servedInWorkshop_cases {P : State → Prop} {ok : Nat → Bool} {p : List Byte} {k : Service} {s : State}
    (still : P s) (runs : s.mode = .workshop → P (k s).1) : P (servedInWorkshop ok p k s).1 := by
  unfold servedInWorkshop
  repeat' split
  · exact still
  · exact runs (not_not.mp ‹_›)
  · exact still

/-! ### The law of the tables -/

section
variable {s t : State}

theorem TablesLaw.congr (h : TablesLaw s) (tables : t.tables = s.tables) (loaded : t.mctl.loaded = s.mctl.loaded)
    (written : t.written = s.written) : TablesLaw t where
  inForce := tables ▸ h.inForce
  loaded w e := h.loaded w (loaded ▸ e)
  written w e := h.written w (written ▸ e)

theorem FaultSteps.tablesLaw (steps : FaultSteps s t) (written : t.written = s.written) (h : TablesLaw s) :
    TablesLaw t :=
  h.congr steps.keeps.2.1 steps.keeps.2.2.1 written

/-- R7: the tables that STARTUP hands over are sound. -/
theorem TablesLaw.loaded_sound (h : TablesLaw s) : (s.mctl.loaded.getD {}).Sound := by
  cases e : s.mctl.loaded with
  | none => exact Tables.default_sound
  | some w => exact h.loaded w e

/-- R12: so are those that SETUP hands over, where they pass the cross-table checks. -/
theorem TablesLaw.written_sound (h : TablesLaw s) (cross : (s.written.getD s.tables).crossOk = true) :
    (s.written.getD s.tables).Sound := by
  cases e : s.written with
  | none => exact h.inForce
  | some w => rw [e] at cross; exact Tables.Checked.sound (h.written w e) cross

theorem TablesLaw.written_checked (h : TablesLaw s) : (s.written.getD s.tables).Checked := by
  cases e : s.written with
  | none => exact h.inForce.checked
  | some w => exact h.written w e

/-- R162: the aging limit is from 1 to 100. -/
theorem TablesLaw.agingLimit_positive (h : TablesLaw s) : 0 < s.agingLimit := by
  unfold State.agingLimit
  split
  · exact h.loaded_sound.agingLimit.1
  · exact h.inForce.agingLimit.1

theorem State.completeLoad_loaded : s.completeLoad.mctl.loaded = tablesOfImage s.nv.image := by
  obtain ⟨-, after⟩ := s.completeLoad_parts
  exact congrArg Mctl.loaded ((after.same .mctl).trans ((State.removeEntries_only s.slotsRead _).same .mctl))

theorem State.endStartup_tables : s.endStartup.tables = s.mctl.loaded.getD {} ∧ s.endStartup.mctl.loaded = none ∧
    s.endStartup.mode ≠ .startup := by
  obtain ⟨v, m, before, other, after⟩ := s.endStartup_phases
  have start : s.tablesTaken.mctl.loaded = none := rfl
  refine ⟨after.keeps.2.1.trans before.keeps.2.1, ?_, mt after.startup.mp other⟩
  exact after.keeps.2.2.1.trans (before.keeps.2.2.1.trans start)

theorem State.takeUpTables_removed (w : Tables) :
    OnlyChanges [.fmy, .cursor, .attention] (s.takeUpTables w) ((s.takeUpTables w).removeOverAged w.general.agingLimit) :=
  State.removeEntries_only _ _

theorem State.exitSetup_tables (w : Tables) (m : s.mode = .setup) : (s.exitSetup w).tables = w ∧
    (s.exitSetup w).mctl.loaded = s.mctl.loaded ∧ (s.exitSetup w).mode ≠ .startup := by
  have removed := s.takeUpTables_removed w
  have steps := s.exitSetup_phases w m
  have mode : ((s.takeUpTables w).removeOverAged w.general.agingLimit).mode ≠ .startup := by
    rw [State.mode, removed.same .mctl]
    have same : (s.takeUpTables w).mctl.mode = .setup := m
    rw [same]
    decide
  refine ⟨steps.keeps.2.1.trans ((removed.same .tables).trans rfl), ?_, mt steps.startup.mp mode⟩
  exact steps.keeps.2.2.1.trans ((congrArg Mctl.loaded (removed.same .mctl)).trans rfl)

theorem State.enterSetup_written : s.enterSetup.written = some s.tables := by
  delta State.enterSetup
  extract_lets s1
  have after : OnlyChanges [.ndr, .wev, .pru, .dmn, .fmy, .cursor, .attention, .link] s1
      s1.allRulesOff.parkNeedles.forceInterlock.stopSilenceTimer.refreshPru :=
    (((s1.allRulesOff_only.andThen (State.parkNeedles_only _) (n := .ndr :: ruleParts)).andThen
      (State.forceInterlock_only _) (n := .dmn :: .ndr :: ruleParts)).andThen (State.stopSilenceTimer_only _)
      (n := .link :: .dmn :: .ndr :: ruleParts)).andThen (State.refreshPru_only _)
  exact after.same .written

theorem State.exitSetup_written (w : Tables) : (s.exitSetup w).written = none := by
  delta State.exitSetup
  extract_lets s1 s2 s3 s4
  have h1 : s1.written = none := (s.takeUpTables_removed w).same .written
  have h2 : OnlyChanges [.hlm, .gve, .wev, .pru, .dmn, .fmy, .cursor, .attention] s1 s2 :=
    s1.settleBlocks_only.andThen (State.startComparators_only _)
  have h3 : OnlyChanges [.sched] s2 s3 := s2.modSched_only _
  have h4 : OnlyChanges (.mctl :: ignitionParts) s3 s4 := .ite s3.enterRun_only.mono (s3.setMode_only _).mono
  have h5 := (s4.freeInterlock_only.andThen (State.startSilenceTimer_only _) (n := .link :: doorParts)).andThen
    (State.refreshPru_only _) (n := .pru :: .link :: doorParts)
  exact (h5.same .written).trans ((h4.same .written).trans ((h3.same .written).trans ((h2.same .written).trans h1)))

theorem State.restartAfterSave_loaded : s.restartAfterSave.mctl.loaded = s.mctl.loaded := by
  unfold State.restartAfterSave
  repeat' split
  all_goals rfl

theorem State.startWrite_loaded : s.startWrite.mctl.loaded = s.mctl.loaded := by
  unfold State.startWrite
  repeat' split
  all_goals rfl

theorem eventEffect_tablesLaw (c : Instr) (h : TablesLaw s) : TablesLaw (eventEffect c s) := by
  have only := (eventEffect_advances c s).only
  have fresh (c : ResetCause) (f : Pins → Pins) : TablesLaw ((s.hardReset c).modPins f) :=
    ((s.cutOffWrite.applyReset_afresh c).modPins f).tablesLaw
  cases c
  case startupLoadComplete =>
    unfold eventEffect
    dsimp only
    split
    · refine ⟨?_, fun w e => ?_, fun w e => ?_⟩
      · rw [s.completeLoad_only.same .tables]; exact h.inForce
      · exact tablesOfImage_sound (State.completeLoad_loaded.symm.trans e)
      · exact h.written w ((s.completeLoad_only.same .written).symm.trans e)
    · exact h
  case startupEnd =>
    unfold eventEffect
    dsimp only
    split
    · obtain ⟨tables, loaded, -⟩ := s.endStartup_tables
      refine ⟨tables ▸ h.loaded_sound, fun w e => ?_, fun w e => h.written w ?_⟩
      · rw [loaded] at e; cases e
      · exact (s.endStartup_only.same .written).symm.trans e
    · exact h
  case writeStart => exact h.congr (only.same .tables) State.startWrite_loaded (only.same .written)
  case powerOnReset => exact fresh .powerOn fun p => { p with brownOut := false }
  case brownOut => unfold eventEffect; dsimp only; split; exacts [h, fresh _ _]
  case externalReset => unfold eventEffect; dsimp only; split; exacts [h, fresh _ _]
  case breakRelease =>
    unfold eventEffect
    dsimp only
    split
    · exact (s.cutOffWrite.applyReset_afresh .linkBreak).tablesLaw
    · exact s.lineWentHigh_only.faultSteps.tablesLaw (s.lineWentHigh_only.same .written) h
  case restartTakesEffect =>
    unfold eventEffect; dsimp only; split; exacts [(s.applyReset_afresh _).tablesLaw, h]
  case counterSaveComplete =>
    refine h.congr (only.same .tables) ?_ (only.same .written)
    unfold eventEffect
    dsimp only
    split
    · refine atExpiry_cases _ _ _ _ (fun u => u.mctl.loaded = s.mctl.loaded) rfl fun since _ => ?_
      exact State.restartAfterSave_loaded.trans (congrArg Mctl.loaded ((State.completeCounterSave_only _ _).same .mctl))
    · rfl
  case slotWriteComplete => exact h.congr (only.same .tables) (congrArg Mctl.loaded (only.same .mctl)) (only.same .written)
  case configStoreComplete => exact h.congr (only.same .tables) (congrArg Mctl.loaded (only.same .mctl)) (only.same .written)
  all_goals exact FaultSteps.tablesLaw (eventEffect_faults _ s rfl) (only.same .written) h

/-- R12 to R14: what SET_MODE does outside SETUP. -/
theorem setModeService_cases (target : Nat) (m : s.mode ≠ .setup) : (setModeService target s).1 = s ∨
    (setModeService target s).1 = s.enterSetup ∨ (setModeService target s).1 = s.leaveWorkshop ∨
    (setModeService target s).1 = s.setMode .workshop ∨
    (setModeService target s).1 = s.modMctl fun c => { c with sleepPending := true } := by
  unfold setModeService
  repeat' split
  all_goals first
    | exact absurd ‹s.mode = .setup› m
    | (refine .inl ?_; with_reducible rfl)
    | (refine .inr (.inl ?_); with_reducible rfl)
    | (refine .inr (.inr (.inl ?_)); with_reducible rfl)
    | (refine .inr (.inr (.inr (.inl ?_))); with_reducible rfl)
    | (refine .inr (.inr (.inr (.inr ?_))); with_reducible rfl)

theorem setMode_tablesLaw (tag : Byte) (p : List Byte) (h : TablesLaw s) :
    TablesLaw (requestService (.setMode tag p) s).1 := by
  by_cases m : s.mode = .setup
  · obtain e | ⟨cross, e⟩ := setMode_in_setup tag p m <;> rw [e]
    · exact h
    · obtain ⟨tables, loaded, -⟩ := State.exitSetup_tables (s.written.getD s.tables) m
      refine ⟨by rw [tables]; exact h.written_sound cross, fun w e => h.loaded w (loaded.symm.trans e), fun w e => ?_⟩
      rw [State.exitSetup_written] at e; cases e
  · have steps := requestService_faults (.setMode tag p) s (by simp [touchesMemory, m])
    obtain ⟨-, tables, loaded, -⟩ := steps.keeps
    refine ⟨by rw [tables]; exact h.inForce, fun w e => h.loaded w (loaded.symm.trans e), fun w e => ?_⟩
    obtain same | entered : (requestService (.setMode tag p) s).1.written = s.written ∨
        (requestService (.setMode tag p) s).1.written = some s.tables := by
      refine served_cases (P := fun u => u.written = s.written ∨ u.written = some s.tables) (.inl rfl) fun _ => ?_
      obtain e | e | e | e | e := setModeService_cases (rd8 p 0) m <;> rw [e]
      · exact .inl rfl
      · exact .inr State.enterSetup_written
      · exact .inl (s.leaveWorkshop_only.same .written)
      · exact .inl rfl
      · exact .inl rfl
    · exact h.written w (same.symm.trans e)
    · rw [entered] at e
      cases e
      exact h.inForce.checked

theorem requestService_tablesLaw (c : Instr) (h : TablesLaw s) : TablesLaw (requestService c s).1 := by
  have only := requestService_only c s
  cases c
  case setMode tag p => exact setMode_tablesLaw tag p h
  case writeTable tag p =>
    have loaded := congrArg Mctl.loaded (only.same .mctl)
    refine ⟨by rw [only.same .tables]; exact h.inForce, fun w e => h.loaded w (loaded.symm.trans e), fun w e => ?_⟩
    refine served_cases (P := fun u => u.written = some w → w.Checked) (h.written w) (fun _ e => ?_) e
    revert e
    unfold writeTableService
    repeat' split
    · exact h.written w
    · intro e
      cases e
      exact Tables.write_checked h.written_checked ‹_›
    · exact h.written w
  case readFaults => exact h.congr (only.same .tables) (congrArg Mctl.loaded (only.same .mctl)) (only.same .written)
  case setFaultCursor => exact h.congr (only.same .tables) (congrArg Mctl.loaded (only.same .mctl)) (only.same .written)
  case resetCounter => exact h.congr (only.same .tables) (congrArg Mctl.loaded (only.same .mctl)) (only.same .written)
  all_goals exact FaultSteps.tablesLaw (requestService_faults _ s rfl) (only.same .written) h

theorem TablesLaw.serve (h : TablesLaw s) (f : Frame) (c : Instr) : TablesLaw (s.serve f (requestService c)) :=
  (requestService_tablesLaw c h).congr rfl rfl rfl

theorem TablesLaw.wake (h : TablesLaw s) (m : s.mode = .sleep) : TablesLaw s.wake :=
  (s.wake_faults (by rw [m]; decide)).tablesLaw (s.wake_only.same .written) h

theorem TablesLaw.lineWentHigh (h : TablesLaw s) : TablesLaw s.lineWentHigh :=
  s.lineWentHigh_only.faultSteps.tablesLaw (s.lineWentHigh_only.same .written) h

theorem TablesLaw.frameArrives (h : TablesLaw s) (f : Frame) : TablesLaw (s.frameArrives f) :=
  (s.frameArrives_faults f).tablesLaw ((s.frameArrives_only f).same .written) h

end

/-! ### The law of the fault memory -/

section
variable {s t : State} {limit : Nat}

theorem FaultSteps.agingLimit (steps : FaultSteps s t) : t.agingLimit = s.agingLimit := by
  obtain ⟨-, tables, loaded, startup⟩ := steps.keeps
  unfold State.agingLimit
  by_cases m : s.mode = .startup
  · rw [if_pos m, if_pos (startup.mpr m), loaded]
  · rw [if_neg m, if_neg (mt startup.mp m), tables]

theorem FaultSteps.faultLaw (steps : FaultSteps s t) (tables : TablesLaw s) (h : FaultLaw s) : FaultLaw t := by
  rw [faultLaw_iff] at h ⊢
  rw [steps.agingLimit]
  exact steps.holds tables.agingLimit_positive (fun m => congrArg (fun w : Tables => w.general.agingLimit) (if_neg m)) h

theorem FaultLaw.quiet (h : FaultLaw s) (core : t.fmy.core = s.fmy.core) (cursor : t.wsv.cursor = s.wsv.cursor)
    (nv : t.nv = s.nv) (limit : t.agingLimit = s.agingLimit) : FaultLaw t := by
  rw [faultLaw_iff] at h ⊢
  rw [limit]
  exact h.congr core cursor nv

theorem State.agingLimit_of (mode : t.mode = s.mode) (loaded : t.mctl.loaded = s.mctl.loaded)
    (tables : t.tables = s.tables) : t.agingLimit = s.agingLimit := by
  rw [State.agingLimit, State.agingLimit, mode, loaded, tables]

theorem State.agingLimit_startup (m : s.mode = .startup) :
    s.agingLimit = (s.mctl.loaded.getD {}).general.agingLimit :=
  congrArg (fun w : Tables => w.general.agingLimit) (if_pos m)

theorem State.agingLimit_running (m : s.mode ≠ .startup) : s.agingLimit = s.tables.general.agingLimit :=
  congrArg (fun w : Tables => w.general.agingLimit) (if_neg m)

/-- A write of the store that is in time keeps the law. -/
theorem FaultLaw.atWrite {timer : Timer} {figure : Nat} {k : State → State} (h : FaultLaw s)
    (limit : ∀ u : State, u.agingLimit = s.agingLimit → (k u).agingLimit = u.agingLimit)
    (keeps : ∀ u : State, u.fmy = s.fmy → FaultHolds s.agingLimit u → FaultHolds s.agingLimit (k u)) :
    FaultLaw (atExpiry timer figure k s) := by
  refine atExpiry_cases _ _ _ _ (fun u => FaultLaw u) h fun since _ => ?_
  have reached : OnlyChanges [.now] s (s.reach (since + figure)) := s.reach_only _
  have same : (s.reach (since + figure)).agingLimit = s.agingLimit := by
    exact State.agingLimit_of (congrArg Mctl.mode (reached.same .mctl)) (congrArg Mctl.loaded (reached.same .mctl))
      (reached.same .tables)
  rw [faultLaw_iff] at h ⊢
  rw [limit _ same, same]
  refine keeps _ (reached.same .fmy) (h.congr ?_ ?_ (reached.same .nv))
  · exact congrArg Fmy.core (reached.same .fmy)
  · exact reached.same .cursor

/-- R169: the slots as the load reads them. -/
theorem FaultLaw.slotsRead (h : FaultLaw s) (loading : s.fmy.loading = true) : FaultHolds 100 s.slotsRead := by
  obtain ⟨empty, idle⟩ := h.load loading
  obtain ⟨taken, blank⟩ := Fmy.loadCounters_parts (s.fmy.buildTable s.nv) s.nv
  have parts : ((s.fmy.buildTable s.nv).loadCounters s.nv).table = (s.fmy.buildTable s.nv).table ∧
      ((s.fmy.buildTable s.nv).loadCounters s.nv).created = (s.fmy.buildTable s.nv).created ∧
      ((s.fmy.buildTable s.nv).loadCounters s.nv).writes = (s.fmy.buildTable s.nv).writes ∧
      ((s.fmy.buildTable s.nv).loadCounters s.nv).write = .idle := by
    unfold Fmy.loadCounters
    split <;> exact ⟨rfl, rfl, rfl, idle⟩
  obtain ⟨table, created, writes, write⟩ := parts
  have write : s.slotsRead.fmy.write = .idle := write
  refine ⟨(Fmy.buildTable_holds s.fmy).congr table created, ⟨?_, ?_, fun _ n => ?_, ?_, ?_⟩, ?_, fun c => ?_, ?_⟩
  · exact writes ▸ Fmy.buildTable_writes_nodup s.fmy
  · intro n flight
    rw [write] at flight; cases flight
  · obtain mirrors | listed := Fmy.buildTable_mirror (nv := s.nv) s.fmy n
    · exact .inl (mirrors.congr fun e _ => by rw [← table]; rfl)
    · exact .inr (.inl (by rw [← writes] at listed; exact listed))
  · intro n c stale flight
    rw [write] at flight; cases flight
  · intro load; cases load
  · have : s.wsv.cursor = 0 := by
      have := h.cursor
      rw [empty] at this
      exact Nat.le_zero.mp this
    exact this ▸ Nat.zero_le _
  · change ((s.fmy.buildTable s.nv).loadCounters s.nv).counters[c] ≤ counterMax
    cases copy : chooseCopy s.nv.copyA s.nv.copyB with
    | none => rw [(blank copy).1]; simp
    | some q =>
      obtain ⟨b, v, no⟩ := q
      rw [(taken b v no copy).1]
      refine h.saved v (.inr ?_) c
      revert copy
      unfold chooseCopy
      repeat' split
      all_goals intro copy; cases copy
      all_goals first | exact .inl ⟨no, ‹_›⟩ | exact .inr ⟨no, ‹_›⟩
  · intro v at_
    refine h.saved v (at_.imp_left fun flight => ?_)
    rw [write] at flight; cases flight

theorem FaultLaw.completeLoad (h : FaultLaw s) (m : s.mode = .startup) (loading : s.fmy.loading = true) :
    FaultLaw s.completeLoad := by
  have positive : 0 < s.limitLoaded := by
    unfold State.limitLoaded
    cases e : tablesOfImage s.nv.image with
    | none => exact Tables.default_sound.agingLimit.1
    | some w => exact (tablesOfImage_sound e).agingLimit.1
  have reports {α : Type} (f : α → FaultCode × Nat × Bool) (l : List α) (u : State) (loaded : u.fmy.loading = false)
      (k : FaultHolds s.limitLoaded u) :
      FaultHolds s.limitLoaded (l.foldl (fun x a => x.handleReport (f a).1 (f a).2.1 (f a).2.2) u) := by
    induction l generalizing u with
    | nil => exact k
    | cons a l ih =>
      refine ih _ ?_ (k.handleReport positive loaded _ _ _)
      exact (congrArg Fmy.loading (u.handleReport_aside _ _ _) :).trans loaded
  have first : FaultHolds s.limitLoaded s.reportsOfLoad :=
    reports (fun n => (.slotLost n, (FaultCode.slotLost n).priority s.tables, true)) _ _
      (congrArg Fmy.loading s.slotsLoaded_aside :) (h.slotsRead loading).removeOverAged
  have all : FaultHolds s.limitLoaded s.completeLoad := by
    rw [s.completeLoad_reports]
    exact reports id _ _ (congrArg Fmy.loading s.reportsOfLoad_parts.1 :) first
  have startup : s.completeLoad.mode = .startup := Eq.trans s.completeLoad_mode m
  rw [faultLaw_iff, State.agingLimit_startup startup, State.completeLoad_loaded]
  exact all

theorem FaultLaw.endStartup (h : FaultLaw s) (tables : TablesLaw s) (m : s.mode = .startup) : FaultLaw s.endStartup := by
  obtain ⟨v, mode, before, other, after⟩ := s.endStartup_phases
  have limit := State.agingLimit_startup m
  have positive : 0 < s.agingLimit := tables.agingLimit_positive
  have start : FaultHolds s.agingLimit s.tablesTaken := (faultLaw_iff.mp h).congr rfl rfl rfl
  have reached := before.holds positive (fun running => absurd m running) start
  have moved : FaultHolds s.agingLimit (v.setMode mode) := reached.congr rfl rfl rfl
  have same : (v.setMode mode).tables = s.mctl.loaded.getD {} := before.keeps.2.1
  obtain ⟨final, -, running⟩ := s.endStartup_tables
  rw [faultLaw_iff, State.agingLimit_running running, final, ← limit]
  exact after.holds positive (fun _ => by rw [same, limit]) moved

theorem FaultLaw.exitSetup (h : FaultLaw s) (m : s.mode = .setup) (w : Tables) (sound : w.Sound) :
    FaultLaw (s.exitSetup w) := by
  obtain ⟨tables, -, running⟩ := s.exitSetup_tables w m
  have taken : FaultHolds s.agingLimit (s.takeUpTables w) := by
    have only := s.takeUpTables_only w
    exact (faultLaw_iff.mp h).congr (congrArg Fmy.core (only.same .fmy)) (only.same .cursor) (only.same .nv)
  rw [faultLaw_iff, State.agingLimit_running running, tables]
  refine (s.exitSetup_phases w m).holds sound.agingLimit.1 (fun _ => ?_) taken.removeOverAged
  exact congrArg (fun w : Tables => w.general.agingLimit) ((s.takeUpTables_removed w).same .tables).symm

/-- A reset keeps the copies of the counters, or makes one bad. -/
theorem FaultLaw.reset (h : FaultLaw s) {c : ResetCause} (fresh : Afresh c t)
    (a : t.nv.copyA = s.nv.copyA ∨ t.nv.copyA = .bad) (b : t.nv.copyB = s.nv.copyB ∨ t.nv.copyB = .bad) : FaultLaw t := by
  refine fresh.faultLaw fun v good => h.saved v ?_
  obtain ⟨no, good⟩ | ⟨no, good⟩ := good
  · obtain same | bad := a
    · exact .inr (.inl ⟨no, same.symm.trans good⟩)
    · rw [bad] at good; cases good
  · obtain same | bad := b
    · exact .inr (.inr ⟨no, same.symm.trans good⟩)
    · rw [bad] at good; cases good

theorem State.cutOffWrite_copies : (s.cutOffWrite.nv.copyA = s.nv.copyA ∨ s.cutOffWrite.nv.copyA = .bad) ∧
    (s.cutOffWrite.nv.copyB = s.nv.copyB ∨ s.cutOffWrite.nv.copyB = .bad) := by
  unfold State.cutOffWrite
  dsimp only
  cases s.fmy.write <;> dsimp only
  case counters =>
    cases Config.cutWriteIsTorn _ <;> cases s.fmy.lastIsB <;> simp
  all_goals exact ⟨.inl rfl, .inl rfl⟩

theorem FaultLaw.hardReset (h : FaultLaw s) (c : ResetCause) (f : Pins → Pins) :
    FaultLaw ((s.hardReset c).modPins f) := by
  obtain ⟨a, b⟩ := s.cutOffWrite_copies
  exact h.reset ((s.cutOffWrite.applyReset_afresh c).modPins f) a b

theorem eventEffect_faultLaw (c : Instr) (tables : TablesLaw s) (h : FaultLaw s) : FaultLaw (eventEffect c s) := by
  cases c
  case startupLoadComplete =>
    unfold eventEffect
    dsimp only
    split
    case isTrue due => exact h.completeLoad due.1 due.2
    case isFalse => exact h
  case startupEnd =>
    unfold eventEffect
    dsimp only
    split
    case isTrue over_ =>
      simp only [State.startupOver, Bool.and_eq_true, beq_iff_eq] at over_
      exact h.endStartup tables over_.1.1
    case isFalse => exact h
  case writeStart =>
    have only := s.startWrite_only
    have law := (faultLaw_iff.mp h).startWrite
    rw [faultLaw_iff]
    exact (State.agingLimit_of s.startWrite_mode State.startWrite_loaded (only.same .tables)).symm ▸ law
  case slotWriteComplete =>
    unfold eventEffect
    dsimp only
    split
    case h_1 n c old write =>
      refine h.atWrite (fun u _ => ?_) fun u fmy law => law.completeSlotWrite (by rw [fmy, write])
      have only := u.completeSlotWrite_only n c old
      exact State.agingLimit_of (congrArg Mctl.mode (only.same .mctl)) (congrArg Mctl.loaded (only.same .mctl))
        (only.same .tables)
    case h_2 => exact h
  case counterSaveComplete =>
    unfold eventEffect
    dsimp only
    split
    case h_1 c write =>
      refine h.atWrite (fun u _ => ?_) fun u fmy law => law.completeCounterSave (by rw [fmy, write])
      have saved := u.completeCounterSave_only c
      exact State.agingLimit_of (saved.keepsMode.trans (State.restartAfterSave_mode _))
        (State.restartAfterSave_loaded.trans (congrArg Mctl.loaded (saved.same .mctl)))
        (((u.completeCounterSave c).restartAfterSave_only.same .tables).trans (saved.same .tables))
    case h_2 => exact h
  case configStoreComplete =>
    unfold eventEffect
    dsimp only
    split
    case h_1 l write =>
      refine h.atWrite (fun u _ => ?_) fun u fmy law => law.completeStore tables.agingLimit_positive (by rw [fmy, write])
      have only := u.completeStore_only l
      exact State.agingLimit_of (congrArg Mctl.mode (only.same .mctl)) (congrArg Mctl.loaded (only.same .mctl))
        (only.same .tables)
    case h_2 => exact h
  case powerOnReset => exact h.hardReset .powerOn fun p => { p with brownOut := false }
  case brownOut => unfold eventEffect; dsimp only; split; exacts [h, h.hardReset _ _]
  case externalReset => unfold eventEffect; dsimp only; split; exacts [h, h.hardReset _ _]
  case breakRelease =>
    unfold eventEffect
    dsimp only
    split
    · exact h.hardReset .linkBreak id
    · exact s.lineWentHigh_only.faultSteps.faultLaw tables h
  case restartTakesEffect =>
    unfold eventEffect
    dsimp only
    split
    · exact h.reset (s.applyReset_afresh .restart) (.inl rfl) (.inl rfl)
    · exact h
  all_goals exact (eventEffect_faults _ s rfl).faultLaw tables h

theorem requestService_faultLaw (c : Instr) (tables : TablesLaw s) (h : FaultLaw s) :
    FaultLaw (requestService c s).1 := by
  cases c
  case readFaults tag p =>
    refine served_cases (P := FaultLaw) h fun _ => ?_
    unfold readout readFaultsService
    split
    · refine { h with cursor := ?_ }
      change cursorAfter s.wsv.cursor (min 4 (s.fmy.table.length - s.wsv.cursor)) s.fmy.table.length ≤ s.fmy.table.length
      have within := h.cursor
      unfold cursorAfter
      split <;> omega
    · exact h
  case setFaultCursor tag p =>
    refine served_cases (P := FaultLaw) h fun _ => ?_
    unfold readout setFaultCursorService
    split
    · split
      · exact { h with cursor := ‹_› }
      · exact h
    · exact h
  case resetCounter tag p =>
    refine servedInWorkshop_cases (P := FaultLaw) h fun _ => ?_
    unfold resetCounterService
    split
    · split
      case isTrue c _ _ =>
        refine { h with counters := Vector.forall_set (P := fun _ x => x ≤ counterMax) h.counters c (Nat.zero_le _) }
      case isFalse => exact h
    · exact h
  case setMode tag p =>
    by_cases m : s.mode = .setup
    · obtain e | ⟨cross, e⟩ := setMode_in_setup tag p m <;> rw [e]
      · exact h
      · exact h.exitSetup m _ (tables.written_sound cross)
    · exact (requestService_faults _ s (by simp [touchesMemory, m])).faultLaw tables h
  all_goals exact (requestService_faults _ s rfl).faultLaw tables h

theorem FaultLaw.serve (h : FaultLaw s) (tables : TablesLaw s) (f : Frame) (c : Instr) :
    FaultLaw (s.serve f (requestService c)) :=
  (requestService_faultLaw c tables h).quiet rfl rfl rfl (State.agingLimit_of rfl rfl rfl)

theorem FaultLaw.wake (h : FaultLaw s) (tables : TablesLaw s) (m : s.mode = .sleep) : FaultLaw s.wake :=
  (s.wake_faults (by rw [m]; decide)).faultLaw tables h

end

/-- Settles O58: the tables are checked where they are taken, and each operation on the fault memory keeps its law
at the aging limit in force. -/
theorem stepKeepsTablesAndFaultLaws : Obligations.StepKeepsTablesAndFaultLaws := by
  refine ⟨fun s t h e => ?_, fun s t tables h e => ?_⟩
  · exact step_keeps (P := TablesLaw) (fun s l h => ⟨h.inForce, h.loaded, h.written⟩)
      (fun s h => ⟨h.inForce, h.loaded, h.written⟩)
      (exec_keeps (fun s m h => h.wake m) (fun s h => h.lineWentHigh) (fun f s h => h.frameArrives f)
        (fun c f s _ _ h => h.serve f c) (fun c s _ h => eventEffect_tablesLaw c h)) h e
  · have both := step_keeps (P := fun u => TablesLaw u ∧ FaultLaw u)
      (fun s l h => ⟨h.1.congr rfl rfl rfl, h.2.quiet rfl rfl rfl rfl⟩)
      (fun s h => ⟨h.1.congr rfl rfl rfl, h.2.quiet rfl rfl rfl rfl⟩)
      (exec_keeps (fun s m h => ⟨h.1.wake m, h.2.wake h.1 m⟩)
        (fun s h => ⟨h.1.lineWentHigh, s.lineWentHigh_only.faultSteps.faultLaw h.1 h.2⟩)
        (fun f s h => ⟨h.1.frameArrives f, (s.frameArrives_faults f).faultLaw h.1 h.2⟩)
        (fun c f s _ _ h => ⟨h.1.serve f c, h.2.serve h.1 f c⟩)
        (fun c s _ h => ⟨eventEffect_tablesLaw c h.1, eventEffect_faultLaw c h.1 h.2⟩)) ⟨tables, h⟩ e
    exact both.2

end Sys2Proof.Machine
end

section
/-! PROOFS. The presentation list (R112 to R116): the rank of entries, and what an admission, a removal and a change
of flag make of a list in order. -/

namespace Sys2Proof.Machine
set_option Elab.async false

/-! ### The rank (R112) -/

/-- R112: higher priority, then lower sequence, then lower index. -/
def ListEntry.Above (a b : ListEntry) : Prop :=
  b.priority < a.priority ∨ (a.priority = b.priority ∧ (a.seq < b.seq ∨ (a.seq = b.seq ∧ a.rule < b.rule)))

theorem ListEntry.ranksAbove_iff {a b : ListEntry} : a.ranksAbove b = true ↔ a.Above b := by
  simp [ListEntry.ranksAbove, ListEntry.Above]

theorem ListEntry.Above.trans {a b c : ListEntry} (h : a.Above b) (k : b.Above c) : a.Above c := by
  unfold ListEntry.Above at *
  omega

theorem ListEntry.above_of_not {a b : ListEntry} (h : ¬ a.Above b) (other : a.rule ≠ b.rule) : b.Above a := by
  unfold ListEntry.Above at *
  have := fun e => other (Fin.ext e)
  omega

/-- The best-ranked of entries of different rules ranks above the rest. -/
theorem bestRanked_some {l : List ListEntry} (once : (l.map (·.rule)).Nodup) {b : ListEntry} (h : bestRanked l = some b) :
    b ∈ l ∧ ∀ x ∈ l, x.rule ≠ b.rule → b.Above x := by
  induction l generalizing b with
  | nil => cases h
  | cons e l ih =>
    obtain ⟨fresh, rest⟩ := List.nodup_cons.mp once
    unfold bestRanked at h
    split at h
    case h_1 c best =>
      obtain ⟨mem, above⟩ := ih rest best
      have other : e.rule ≠ c.rule := fun same => fresh (List.mem_map.mpr ⟨c, mem, same.symm⟩)
      split at h <;> cases h
      case isTrue higher =>
        refine ⟨List.mem_cons_of_mem _ mem, fun x here differs => ?_⟩
        obtain rfl | there := List.mem_cons.mp here
        · exact ListEntry.ranksAbove_iff.mp higher
        · exact above x there differs
      case isFalse lower =>
        have higher : e.Above c := ListEntry.above_of_not (mt ListEntry.ranksAbove_iff.mpr lower) other.symm
        refine ⟨List.mem_cons_self, fun x here differs => ?_⟩
        obtain rfl | there := List.mem_cons.mp here
        · exact absurd rfl differs
        · by_cases same : x.rule = c.rule
          · have : x = c := List.inj_on_of_nodup_map rest there mem same
            exact this ▸ higher
          · exact higher.trans (above x there same)
    case h_2 none =>
      cases h
      have empty : l = [] := by
        cases l with
        | nil => rfl
        | cons y l =>
          unfold bestRanked at none
          split at none <;> (try split at none) <;> cases none
      subst empty
      exact ⟨List.mem_cons_self, fun x here differs => absurd (by rw [List.mem_singleton.mp here]) differs⟩

theorem bestRanked_none {l : List ListEntry} : bestRanked l = none ↔ l = [] := by
  constructor
  · intro h
    cases l with
    | nil => rfl
    | cons y l =>
      unfold bestRanked at h
      repeat' split at h
      all_goals cases h
  · rintro rfl
    rfl

theorem insertRanked_perm (e : ListEntry) (l : List ListEntry) : (insertRanked e l).Perm (e :: l) := by
  induction l with
  | nil => exact .refl _
  | cons x l ih =>
    unfold insertRanked
    split
    · exact .refl _
    · exact (ih.cons x).trans (.swap e x l)

theorem insertRanked_ranked {e : ListEntry} {l : List ListEntry} (ranked : l.Pairwise ListEntry.Above)
    (fresh : ∀ x ∈ l, e.rule ≠ x.rule) : (insertRanked e l).Pairwise ListEntry.Above := by
  induction l with
  | nil => exact List.pairwise_singleton _ _
  | cons x l ih =>
    obtain ⟨first, rest⟩ := List.pairwise_cons.mp ranked
    unfold insertRanked
    split
    case isTrue higher =>
      have above := ListEntry.ranksAbove_iff.mp higher
      refine List.pairwise_cons.mpr ⟨fun y mem => ?_, ranked⟩
      obtain rfl | there := List.mem_cons.mp mem
      · exact above
      · exact above.trans (first y there)
    case isFalse lower =>
      have above := ListEntry.above_of_not (mt ListEntry.ranksAbove_iff.mpr lower) (fresh x List.mem_cons_self)
      refine List.pairwise_cons.mpr ⟨fun y mem => ?_, ih rest fun y mem => fresh y (List.mem_cons_of_mem _ mem)⟩
      obtain rfl | there := List.mem_cons.mp ((insertRanked_perm e l).mem_iff.mp mem)
      · exact above
      · exact first y there

/-! ### A list in order -/

/-- The list that R112 to R114 make of the eligible rules and their entries. -/
structure Presents (eligible : Fin 64 → Prop) (entry : Fin 64 → ListEntry) (l : List ListEntry) : Prop where
  places : l.length ≤ 16
  once : (l.map (·.rule)).Nodup
  entries : ∀ e ∈ l, eligible e.rule ∧ e = entry e.rule
  ranked : l.Pairwise ListEntry.Above
  waiting : ∀ m, eligible m → m ∉ l.map (·.rule) → l.length = 16 ∧ ∀ e ∈ l, e.Above (entry m)

section
variable {eligible new : Fin 64 → Prop} {entry entry' : Fin 64 → ListEntry} {l : List ListEntry}

/-- What the list says depends on the eligible rules and their entries. -/
theorem Presents.congr (h : Presents eligible entry l) (same : ∀ m, new m ↔ eligible m)
    (entries : ∀ m, eligible m → entry' m = entry m) : Presents new entry' l where
  places := h.places
  once := h.once
  entries e mem := by
    obtain ⟨ok, own⟩ := h.entries e mem
    exact ⟨(same _).mpr ok, own.trans (entries _ ok).symm⟩
  ranked := h.ranked
  waiting m ok out := by
    have ok' := (same m).mp ok
    rw [entries m ok']
    exact h.waiting m ok' out

theorem listed_iff {m : Fin 64} : listed l m = true ↔ m ∈ l.map (·.rule) := by
  simp [listed, List.mem_map]

/-- R113: the admission of a rule that becomes eligible. -/
theorem Presents.joins (h : Presents eligible entry l) {m : Fin 64} (before : ¬ eligible m)
    (same : ∀ j, new j ↔ eligible j ∨ j = m) (entries : ∀ j, j ≠ m → entry' j = entry j) (own : (entry' m).rule = m) :
    Presents new entry' (admitEntry (entry' m) l) := by
  have fresh (x : ListEntry) (mem : x ∈ l) : x.rule ≠ m := fun e => before (e ▸ (h.entries x mem).1)
  have inserts {k : List ListEntry} (sub : k.Sublist l) (room : k.length < 16)
      (beyond : ∀ j, eligible j → j ∉ k.map (·.rule) → k.length = 15 ∧ (entry' m).Above (entry j) ∧ ∀ e ∈ k, e.Above (entry j)) :
      Presents new entry' (insertRanked (entry' m) k) := by
    have perm := insertRanked_perm (entry' m) k
    have fresh' (x : ListEntry) (mem : x ∈ k) : x.rule ≠ m := fresh x (sub.mem mem)
    refine ⟨?_, ?_, fun e mem => ?_, ?_, fun j ok out => ?_⟩
    · rw [perm.length_eq]; exact room
    · refine ((perm.map _).nodup_iff).mpr (List.nodup_cons.mpr ⟨fun mem => ?_, h.once.sublist (sub.map _)⟩)
      obtain ⟨x, mem, e⟩ := List.mem_map.mp mem
      exact fresh' x mem (e.trans own)
    · obtain rfl | there := List.mem_cons.mp (perm.mem_iff.mp mem)
      · exact ⟨(same _).mpr (.inr own), by rw [own]⟩
      · obtain ⟨ok, is⟩ := h.entries e (sub.mem there)
        exact ⟨(same _).mpr (.inl ok), is.trans (entries _ (fresh' e there)).symm⟩
    · exact insertRanked_ranked (h.ranked.sublist sub) fun x mem e => fresh' x mem (e.symm.trans own)
    · have out' : j ≠ m ∧ j ∉ k.map (·.rule) := by
        rw [(perm.map (·.rule)).mem_iff, List.map_cons, own, List.mem_cons, not_or] at out
        exact out
      obtain ⟨full, above, others⟩ := beyond j (((same j).mp ok).resolve_right out'.1) out'.2
      rw [perm.length_eq, List.length_cons, full, entries j out'.1]
      refine ⟨rfl, fun e mem => ?_⟩
      obtain rfl | there := List.mem_cons.mp (perm.mem_iff.mp mem)
      · exact above
      · exact others e there
  unfold admitEntry
  split
  case isTrue room =>
    refine inserts (.refl l) room fun j ok out => ?_
    have := (h.waiting j ok out).1
    exact absurd room (by rw [this]; decide)
  case isFalse full =>
    have length : l.length = 16 := le_antisymm h.places (not_lt.mp full)
    split
    case h_2 none => rw [List.getLast?_eq_none_iff.mp none] at length; cases length
    case h_1 last top =>
      obtain ⟨k, rfl⟩ := List.getLast?_eq_some_iff.mp top
      have short : k.length = 15 := by simpa using length
      have lowest (e : ListEntry) (mem : e ∈ k) : e.Above last :=
        (List.pairwise_append.mp h.ranked).2.2 e mem last (List.mem_singleton_self _)
      have lastIn : last ∈ k ++ [last] := List.mem_append_right _ (List.mem_singleton_self _)
      split
      case isTrue higher =>
        have above := ListEntry.ranksAbove_iff.mp higher
        rw [List.dropLast_concat]
        refine inserts (List.sublist_append_left _ _) (by omega) fun j ok out => ⟨short, ?_⟩
        by_cases e : j = last.rule
        · subst e
          rw [← (h.entries last lastIn).2]
          exact ⟨above, lowest⟩
        · have out' : j ∉ (k ++ [last]).map (·.rule) := by
            rw [List.map_append, List.mem_append, not_or]
            exact ⟨out, fun mem => e (List.mem_singleton.mp mem)⟩
          obtain ⟨-, all⟩ := h.waiting j ok out'
          exact ⟨above.trans (all last lastIn), fun x mem => all x (List.mem_append_left _ mem)⟩
      case isFalse lower =>
        have below : last.Above (entry' m) := by
          refine ListEntry.above_of_not (mt ListEntry.ranksAbove_iff.mpr lower) ?_
          rw [own]
          exact (fresh last lastIn).symm
        refine ⟨h.places, h.once, fun e mem => ?_, h.ranked, fun j ok out => ⟨length, fun e mem => ?_⟩⟩
        · obtain ⟨ok, is⟩ := h.entries e mem
          exact ⟨(same _).mpr (.inl ok), is.trans (entries _ (fresh e mem)).symm⟩
        · by_cases at_ : j = m
          · subst at_
            obtain there | there := List.mem_append.mp mem
            · exact (lowest e there).trans below
            · rw [List.mem_singleton.mp there]; exact below
          · rw [entries j at_]
            exact (h.waiting j (((same j).mp ok).resolve_right at_) out).2 e mem

/-- R114: the removal of a rule that is no longer eligible, and the admission of the best-ranked waiting rule. -/
theorem Presents.remove (h : Presents eligible entry l) {m : Fin 64}
    (same : ∀ j, new j ↔ eligible j ∧ j ≠ m) (entries : ∀ j, j ≠ m → entry' j = entry j)
    (rules : ∀ j, (entry j).rule = j) (waiting : List (Fin 64)) (distinct : waiting.Nodup)
    (those : ∀ j, j ∈ waiting ↔ new j ∧ j ∉ (l.filter (·.rule ≠ m)).map (·.rule)) (here : m ∈ l.map (·.rule)) :
    Presents new entry' (match bestRanked (waiting.map entry') with
      | some e => l.filter (·.rule ≠ m) ++ [e]
      | none => l.filter (·.rule ≠ m)) := by
  have sub : (l.filter (·.rule ≠ m)).Sublist l := List.filter_sublist
  have kept {j : Fin 64} (other : j ≠ m) : j ∈ (l.filter (·.rule ≠ m)).map (·.rule) ↔ j ∈ l.map (·.rule) := by
    simp only [List.mem_map, List.mem_filter, decide_eq_true_eq]
    exact ⟨fun ⟨e, mem, at_⟩ => ⟨e, mem.1, at_⟩, fun ⟨e, mem, at_⟩ => ⟨e, ⟨mem, at_ ▸ other⟩, at_⟩⟩
  have length : (l.filter (·.rule ≠ m)).length + 1 = l.length := by
    obtain ⟨e, mem, rfl⟩ := List.mem_map.mp here
    have alike : l.filter (fun x => decide (x.rule ≠ e.rule)) = l.filter (fun x => x != e) := by
      refine List.filter_congr fun x there => ?_
      have : x.rule = e.rule ↔ x = e := ⟨fun r => List.inj_on_of_nodup_map h.once there mem r, fun r => by rw [r]⟩
      by_cases at_ : x = e
      · simp [at_]
      · simp [bne, at_, mt this.mp at_]
    rw [alike, ← List.Nodup.erase_eq_filter (h.once.of_map _), List.length_erase_of_mem mem]
    have := List.length_pos_of_mem mem
    omega
  have entries' (e : ListEntry) (mem : e ∈ l.filter (·.rule ≠ m)) : new e.rule ∧ e = entry' e.rule := by
    obtain ⟨there, other⟩ := List.mem_filter.mp mem
    have other := of_decide_eq_true other
    obtain ⟨ok, is⟩ := h.entries e there
    exact ⟨(same _).mpr ⟨ok, other⟩, is.trans (entries _ other).symm⟩
  have mapped : ((waiting.map entry').map (·.rule)).Nodup := by
    have back : (waiting.map entry').map (·.rule) = waiting := by
      rw [List.map_map]
      refine (List.map_congr_left fun j mem => ?_).trans (List.map_id _)
      have other := ((same j).mp ((those j).mp mem).1).2
      exact (congrArg ListEntry.rule (entries j other)).trans (rules j)
    rw [back]
    exact distinct
  split
  case h_1 b best =>
    obtain ⟨mem, above⟩ := bestRanked_some mapped best
    obtain ⟨w, inList, rfl⟩ := List.mem_map.mp mem
    obtain ⟨ok, out⟩ := (those w).mp inList
    obtain ⟨ok', other⟩ := (same w).mp ok
    have own : (entry' w).rule = w := by rw [entries w other]; exact rules w
    obtain ⟨full, below⟩ := h.waiting w ok' (mt (kept other).mpr out)
    refine ⟨?_, ?_, fun e mem => ?_, ?_, fun j ok out => ?_⟩
    · rw [List.length_append, List.length_singleton, length]; exact h.places
    · rw [List.map_append, List.nodup_append]
      refine ⟨h.once.sublist (sub.map _), List.nodup_singleton _, fun a mem b at_ e => ?_⟩
      subst e
      rw [List.map_singleton, List.mem_singleton, own] at at_
      exact out (at_ ▸ mem)
    · obtain there | there := List.mem_append.mp mem
      · exact entries' e there
      · rw [List.mem_singleton.mp there, own]; exact ⟨ok, rfl⟩
    · refine List.pairwise_append.mpr ⟨h.ranked.sublist sub, List.pairwise_singleton _ _, fun e mem x at_ => ?_⟩
      rw [List.mem_singleton.mp at_, entries w other]
      exact below e (sub.mem mem)
    · rw [List.map_append, List.mem_append, not_or, List.map_singleton, List.mem_singleton, own] at out
      obtain ⟨out, differs⟩ := out
      obtain ⟨was, otherJ⟩ := (same j).mp ok
      refine ⟨by rw [List.length_append, List.length_singleton, length]; exact full, fun e mem => ?_⟩
      obtain there | there := List.mem_append.mp mem
      · rw [entries j otherJ]
        exact (h.waiting j was (mt (kept otherJ).mpr out)).2 e (sub.mem there)
      · rw [List.mem_singleton.mp there]
        refine above _ (List.mem_map.mpr ⟨j, (those j).mpr ⟨ok, out⟩, rfl⟩) ?_
        rw [own, entries j otherJ, rules j]
        exact differs
  case h_2 none =>
    have empty : waiting = [] := List.map_eq_nil_iff.mp (bestRanked_none.mp none)
    refine ⟨(sub.length_le).trans h.places, h.once.sublist (sub.map _), entries', h.ranked.sublist sub, fun j ok out => ?_⟩
    have := (those j).mpr ⟨ok, out⟩
    rw [empty] at this
    cases this

/-- A waiting rule that is no longer eligible leaves the list as it is. -/
theorem Presents.drop (h : Presents eligible entry l) {m : Fin 64} (same : ∀ j, new j ↔ eligible j ∧ j ≠ m)
    (entries : ∀ j, j ≠ m → entry' j = entry j) (out : m ∉ l.map (·.rule)) : Presents new entry' l := by
  refine ⟨h.places, h.once, fun e mem => ?_, h.ranked, fun j ok away => ?_⟩
  · obtain ⟨ok, own⟩ := h.entries e mem
    have other : e.rule ≠ m := fun at_ => out (at_ ▸ List.mem_map.mpr ⟨e, mem, rfl⟩)
    exact ⟨(same _).mpr ⟨ok, other⟩, own.trans (entries _ other).symm⟩
  · obtain ⟨ok, other⟩ := (same j).mp ok
    rw [entries j other]
    exact h.waiting j ok away

/-- R114: a rule that stays eligible changes its flag in place. -/
theorem Presents.reflag (h : Presents eligible entry l) {m : Fin 64} {flag : Bool}
    (own : entry' m = { entry m with latched := flag }) (entries : ∀ j, j ≠ m → entry' j = entry j)
    (same : ∀ j, new j ↔ eligible j) :
    Presents new entry' (l.map fun e => if e.rule = m then { e with latched := flag } else e) := by
  have rules : (l.map fun e => if e.rule = m then { e with latched := flag } else e).map (·.rule) = l.map (·.rule) := by
    rw [List.map_map]
    refine List.map_congr_left fun e _ => ?_
    dsimp only [Function.comp_apply]
    split <;> rfl
  have alike (e : ListEntry) : (if e.rule = m then { e with latched := flag } else e).priority = e.priority ∧
      (if e.rule = m then { e with latched := flag } else e).seq = e.seq ∧
      (if e.rule = m then { e with latched := flag } else e).rule = e.rule := by
    split <;> exact ⟨rfl, rfl, rfl⟩
  have ranks (a b : ListEntry) : (if a.rule = m then { a with latched := flag } else a).Above b ↔ a.Above b := by
    obtain ⟨p, q, r⟩ := alike a
    rw [ListEntry.Above, ListEntry.Above, p, q, r]
  have ranks' (a b : ListEntry) : a.Above (if b.rule = m then { b with latched := flag } else b) ↔ a.Above b := by
    obtain ⟨p, q, r⟩ := alike b
    rw [ListEntry.Above, ListEntry.Above, p, q, r]
  refine ⟨by rw [List.length_map]; exact h.places, by rw [rules]; exact h.once, fun e mem => ?_, ?_, fun j ok out => ?_⟩
  · obtain ⟨x, there, rfl⟩ := List.mem_map.mp mem
    obtain ⟨ok, is⟩ := h.entries x there
    rw [(alike x).2.2]
    refine ⟨(same _).mpr ok, ?_⟩
    split
    case isTrue at_ =>
      rw [at_, own, ← at_, ← is]
    case isFalse other => exact is.trans (entries _ other).symm
  · rw [List.pairwise_map]
    exact h.ranked.imp fun above => (ranks _ _).mpr ((ranks' _ _).mpr above)
  · rw [rules] at out
    obtain ⟨full, below⟩ := h.waiting j ((same j).mp ok) out
    refine ⟨by rw [List.length_map]; exact full, fun e mem => ?_⟩
    obtain ⟨x, there, rfl⟩ := List.mem_map.mp mem
    rw [ranks]
    have above := below x there
    by_cases at_ : j = m
    · subst at_
      rw [own]
      exact above
    · rw [entries j at_]
      exact above

end

end Sys2Proof.Machine
end

section
/-! PROOFS. The law of the presentation list through a change of a rule's state (R113, R114, R116). -/

namespace Sys2Proof.Machine
set_option Elab.async false

section
variable {s t : State}

theorem State.eligible_iff (s : State) (m : Fin 64) : s.eligible m = true ↔ (s.ruleCfg m).popup = true ∧
    ((s.rule m).st = .activeNew ∨ (s.rule m).st = .latchedNew) := by
  rw [State.eligible, Bool.and_eq_true]
  cases (s.rule m).st <;> simp [RuleState.isUnacked]

/-- The list of a state presents its eligible rules. -/
def State.Presented (s : State) : Prop := Presents (fun m => s.eligible m = true) s.entryOf s.pru.list

theorem listLaw_iff : ListLaw s ↔ s.Presented ∧ (s.lif.hold = false → s.pru.shown = s.pru.list) ∧
    (s.mode = .startup → ∀ m, (s.rule m).st = .off) := by
  constructor
  · intro h
    refine ⟨⟨h.places, h.once, fun e mem => ?_, h.ranked, fun m ok out => ?_⟩, h.shown, h.startup⟩
    · obtain ⟨popup, st, priority, seq, latched⟩ := h.entries e mem
      refine ⟨(s.eligible_iff _).mpr ⟨popup, st⟩, ?_⟩
      cases e
      simp only at priority seq latched
      simp only [State.entryOf, priority, seq, latched]
    · obtain ⟨popup, st⟩ := (s.eligible_iff m).mp ok
      obtain ⟨full, above⟩ := h.waiting m popup st out
      exact ⟨full, fun e mem => ListEntry.ranksAbove_iff.mp (above e mem)⟩
  · rintro ⟨h, shown, startup⟩
    refine ⟨h.places, h.once, fun e mem => ?_, h.ranked, fun m popup st out => ?_, shown, startup⟩
    · obtain ⟨ok, own⟩ := h.entries e mem
      obtain ⟨popup, st⟩ := (s.eligible_iff _).mp ok
      refine ⟨popup, st, ?_⟩
      generalize e.rule = m at own
      subst own
      exact ⟨rfl, rfl, rfl⟩
    · obtain ⟨full, above⟩ := h.waiting m ((s.eligible_iff m).mpr ⟨popup, st⟩) out
      exact ⟨full, fun e mem => ListEntry.ranksAbove_iff.mpr (above e mem)⟩

/-! ### What leaves the list alone -/

/-- From `s` to `t` the list keeps its entries, the rules their states and sequences, and the published copy follows
where no hold is in force. -/
structure KeepsList (s t : State) : Prop where
  list : t.pru.list = s.pru.list
  shown : t.lif.hold = false → s.lif.hold = false ∧ t.pru.shown = s.pru.shown ∨ t.pru.shown = t.pru.list
  rules : ∀ m, (t.rule m).st = (s.rule m).st ∧ (t.rule m).seq = (s.rule m).seq
  tables : t.tables.rules = s.tables.rules
  startup : t.mode = .startup → s.mode = .startup

theorem KeepsList.refl (s : State) : KeepsList s s :=
  ⟨rfl, fun free => .inl ⟨free, rfl⟩, fun _ => ⟨rfl, rfl⟩, rfl, id⟩

theorem KeepsList.trans {u : State} (h : KeepsList s t) (k : KeepsList t u) : KeepsList s u := by
  refine ⟨k.list.trans h.list, fun free => ?_, fun m => ?_, k.tables.trans h.tables, fun m => h.startup (k.startup m)⟩
  · obtain ⟨before, same⟩ | follows := k.shown free
    · obtain ⟨first, alike⟩ | follows := h.shown before
      · exact .inl ⟨first, same.trans alike⟩
      · exact .inr (same.trans (follows.trans k.list.symm))
    · exact .inr follows
  · exact ⟨(k.rules m).1.trans (h.rules m).1, (k.rules m).2.trans (h.rules m).2⟩

theorem KeepsList.ite {u : State} {c : Prop} [Decidable c] (h : KeepsList s t) (k : KeepsList s u) :
    KeepsList s (if c then t else u) := by split <;> assumption

theorem KeepsList.foldl {α : Type} (f : State → α → State) (h : ∀ s a, KeepsList s (f s a)) (xs : List α) (s : State) :
    KeepsList s (xs.foldl f s) := by
  induction xs generalizing s with
  | nil => exact .refl s
  | cons a xs ih => exact (h s a).trans (ih (f s a))

theorem KeepsList.ruleCfg (h : KeepsList s t) (m : Fin 64) : t.ruleCfg m = s.ruleCfg m :=
  congrArg (fun v : Vector RuleCfg 64 => v[m]) h.tables

theorem KeepsList.eligible (h : KeepsList s t) (m : Fin 64) : t.eligible m = s.eligible m := by
  rw [State.eligible, State.eligible, h.ruleCfg, (h.rules m).1]

theorem KeepsList.entryOf (h : KeepsList s t) (m : Fin 64) : t.entryOf m = s.entryOf m := by
  rw [State.entryOf, State.entryOf, h.ruleCfg, (h.rules m).1, (h.rules m).2]

theorem KeepsList.presented (h : KeepsList s t) (k : s.Presented) : t.Presented := by
  have list : s.Presented = Presents (fun m => s.eligible m = true) s.entryOf t.pru.list := by
    rw [State.Presented, h.list]
  rw [list] at k
  exact k.congr (fun m => by rw [h.eligible]) fun m _ => h.entryOf m

theorem ListLaw.keep (law : ListLaw s) (h : KeepsList s t) : ListLaw t := by
  rw [listLaw_iff] at law ⊢
  obtain ⟨presented, shown, startup⟩ := law
  refine ⟨h.presented presented, fun free => ?_, fun m j => ((h.rules j).1).trans (startup (h.startup m) j)⟩
  obtain ⟨before, same⟩ | follows := h.shown free
  · exact same.trans ((shown before).trans h.list.symm)
  · exact follows

/-- Whether a change within these parts leaves alone what the law of the list reads but for the mode. -/
def listFree (l : List Part) : Bool :=
  !partsIn [.pru] l && !partsIn [.wev] l && !partsIn [.link] l && !partsIn [.tables] l

theorem OnlyChanges.keepsList_of {l : List Part} (h : OnlyChanges l s t) (startup : t.mode = .startup → s.mode = .startup)
    (k : listFree l = true := by with_unfolding_all rfl) : KeepsList s t := by
  simp only [listFree, Bool.and_eq_true, Bool.not_eq_true'] at k
  obtain ⟨⟨⟨pru, wev⟩, link⟩, tables⟩ := k
  have hold : t.lif.link.hold = s.lif.link.hold := congrArg Lif.hold (h.link_eq link)
  have rule (m : Fin 64) : t.rule m = s.rule m := congrArg (fun w : Wev => w.rules[m]) (h.same .wev wev)
  refine ⟨congrArg Pru.list (h.same .pru pru), fun free => .inl ⟨Eq.trans hold.symm free, ?_⟩, fun m => ?_, ?_, startup⟩
  · exact congrArg Pru.shown (h.same .pru pru)
  · rw [rule]; exact ⟨rfl, rfl⟩
  · exact congrArg Tables.rules (h.same .tables tables)

theorem OnlyChanges.keepsList {l : List Part} (h : OnlyChanges l s t)
    (mctl : partsIn [.mctl] l = false := by with_unfolding_all rfl)
    (k : listFree l = true := by with_unfolding_all rfl) : KeepsList s t :=
  h.keepsList_of (fun m => (h.keepsMode mctl).symm.trans m) k

theorem KeepsList.modMctl (s : State) (f : Mctl → Mctl) (h : ∀ c, (f c).mode = c.mode) : KeepsList s (s.modMctl f) :=
  (s.modMctl_only f).keepsList_of fun m => (KeepsMode.modMctl s f h).symm.trans m

theorem KeepsList.modLif (s : State) (f : Lif → Lif) (h : (f s.lif).hold = false → s.lif.hold = false) :
    KeepsList s (s.modLif f) := ⟨rfl, fun free => .inl ⟨h free, rfl⟩, fun _ => ⟨rfl, rfl⟩, rfl, id⟩

theorem KeepsList.modPru (s : State) (f : Pru → Pru) (list : (f s.pru).list = s.pru.list)
    (shown : (f s.pru).shown = s.pru.shown) : KeepsList s (s.modPru f) :=
  ⟨list, fun free => .inl ⟨free, shown⟩, fun _ => ⟨rfl, rfl⟩, rfl, id⟩

theorem KeepsList.modRule (s : State) (m : Fin 64) (f : RuleRec → RuleRec) (st : (f (s.rule m)).st = (s.rule m).st)
    (seq : (f (s.rule m)).seq = (s.rule m).seq) : KeepsList s (s.modRule m f) := by
  refine ⟨rfl, fun free => .inl ⟨free, rfl⟩, fun j => ?_, rfl, id⟩
  by_cases e : m = j
  · subst e
    rw [State.modRule_same]
    exact ⟨st, seq⟩
  · rw [State.modRule_other _ _ _ _ e]
    exact ⟨rfl, rfl⟩

theorem PutsOut.keepsList (h : PutsOut s t) : KeepsList s t := by
  have wev : t.wev = s.wev := h.only.same .wev
  refine ⟨h.list, fun free => .inl ⟨h.readsSame.hold.symm.trans free, h.shown⟩, fun m => ?_,
    congrArg Tables.rules h.readsSame.tables, fun m => h.readsSame.mode.symm.trans m⟩
  rw [State.rule, State.rule, wev]
  exact ⟨rfl, rfl⟩

theorem State.publishList_keeps (s : State) : KeepsList s s.publishList := by
  unfold State.publishList
  split
  · exact .refl s
  · exact ⟨rfl, fun _ => .inr rfl, fun _ => ⟨rfl, rfl⟩, rfl, id⟩

theorem State.publishList_shown (s : State) (free : s.publishList.lif.hold = false) :
    s.publishList.pru.shown = s.publishList.pru.list := by
  revert free
  unfold State.publishList
  split
  case isTrue held => intro free; rw [held] at free; cases free
  case isFalse => exact fun _ => rfl

/-! ### A change of a rule's state -/

/-- From `s` to `t` one rule takes another state; the list still stands as it was. -/
structure Restates (m : Fin 64) (s t : State) : Prop where
  list : t.pru.list = s.pru.list
  shown : t.lif.hold = false → s.lif.hold = false ∧ t.pru.shown = s.pru.shown ∨ t.pru.shown = t.pru.list
  others : ∀ j, j ≠ m → (t.rule j).st = (s.rule j).st ∧ (t.rule j).seq = (s.rule j).seq
  tables : t.tables.rules = s.tables.rules
  sequence : (s.rule m).st.isUnacked = true → (t.rule m).st.isUnacked = true → (t.rule m).seq = (s.rule m).seq

/-- The list of the new state presents its rules, and the published copy follows it outside a hold. -/
def State.Lists (s : State) : Prop := s.Presented ∧ (s.lif.hold = false → s.pru.shown = s.pru.list)

theorem State.publishList_lists (h : s.Presented) : s.publishList.Lists :=
  ⟨s.publishList_keeps.presented h, s.publishList_shown⟩

section
variable {m : Fin 64} (h : Restates m s t)
include h

theorem Restates.keep {u : State} (k : KeepsList t u) : Restates m s u := by
  refine ⟨k.list.trans h.list, fun free => ?_, fun j other => ?_, k.tables.trans h.tables, fun before after => ?_⟩
  · obtain ⟨first, same⟩ | follows := k.shown free
    · obtain ⟨first, alike⟩ | follows := h.shown first
      · exact .inl ⟨first, same.trans alike⟩
      · exact .inr (same.trans (follows.trans k.list.symm))
    · exact .inr follows
  · exact ⟨(k.rules j).1.trans (h.others j other).1, (k.rules j).2.trans (h.others j other).2⟩
  · exact (k.rules m).2.trans (h.sequence before ((congrArg RuleState.isUnacked (k.rules m).1).symm.trans after))

theorem Restates.ruleCfg (j : Fin 64) : t.ruleCfg j = s.ruleCfg j :=
  congrArg (fun v : Vector RuleCfg 64 => v[j]) h.tables

theorem Restates.entryOf {j : Fin 64} (other : j ≠ m) : t.entryOf j = s.entryOf j := by
  rw [State.entryOf, State.entryOf, h.ruleCfg, (h.others j other).1, (h.others j other).2]

theorem Restates.eligible {j : Fin 64} (other : j ≠ m) : t.eligible j = s.eligible j := by
  rw [State.eligible, State.eligible, h.ruleCfg, (h.others j other).1]

theorem Restates.delist (k : s.Presented) (gone : (t.rule m).st.isUnacked = false) : (t.delist m).Presented := by
  have out : ¬ t.eligible m = true := by rw [State.eligible, gone, Bool.and_false]; exact Bool.false_ne_true
  have same (j : Fin 64) : t.eligible j = true ↔ s.eligible j = true ∧ j ≠ m := by
    by_cases e : j = m
    · subst e; exact ⟨fun ok => absurd ok out, fun ⟨_, other⟩ => absurd rfl other⟩
    · rw [h.eligible e]; exact ⟨fun ok => ⟨ok, e⟩, fun ok => ok.1⟩
  unfold State.delist
  split
  case isTrue here =>
    rw [listed_iff, h.list] at here
    have removed := k.remove (entry' := t.entryOf) same (fun j other => h.entryOf other) (fun _ => rfl)
      (t.modPru fun p => { p with list := p.list.filter (·.rule ≠ m) }).waiting ((List.nodup_finRange 64).filter _)
      (fun j => ?_) here
    · rw [← h.list] at removed
      dsimp only
      change State.Presented (match bestRanked (List.map t.entryOf _) with | some e => _ | none => _)
      split <;> rename_i best
      all_goals
        rw [best] at removed
        exact removed
    · simp only [State.waiting, List.mem_filter, List.mem_finRange, true_and, Bool.and_eq_true, Bool.not_eq_true',
        ← h.list]
      refine and_congr Iff.rfl ?_
      rw [← Bool.not_eq_true, listed_iff]
      exact Iff.rfl
  case isFalse here =>
    rw [listed_iff] at here
    have list : s.pru.list = t.pru.list := h.list.symm
    rw [State.Presented, list] at k
    exact k.drop same (fun j other => h.entryOf other) here

theorem Restates.joins (k : s.Presented) (before : (s.rule m).st.isUnacked = false)
    (after : (t.rule m).st.isUnacked = true) (popup : (t.ruleCfg m).popup = true) :
    (t.modPru fun p => { p with list := admitEntry (t.entryOf m) p.list }).Presented := by
  have was : ¬ s.eligible m = true := by rw [State.eligible, before, Bool.and_false]; exact Bool.false_ne_true
  have now_ : t.eligible m = true := by rw [State.eligible, popup, after]; rfl
  have admitted := k.joins (new := fun j => t.eligible j = true) (entry' := t.entryOf) was (fun j => ?_)
    (fun j other => h.entryOf other) rfl
  · rw [← h.list] at admitted
    exact admitted
  · by_cases e : j = m
    · subst e; exact ⟨fun _ => .inr rfl, fun _ => now_⟩
    · rw [h.eligible e]; simp [e]

theorem Restates.reflag (k : s.Presented) (before : (s.rule m).st.isUnacked = true)
    (after : (t.rule m).st.isUnacked = true) : (t.reflag m).Presented := by
  have own : t.entryOf m = { s.entryOf m with latched := (t.rule m).st == .latchedNew } := by
    rw [State.entryOf, State.entryOf, h.ruleCfg, h.sequence before after]
  have flagged := k.reflag (new := fun j => t.eligible j = true) own (fun j other => h.entryOf other) fun j => ?_
  · rw [← h.list] at flagged
    exact flagged
  · by_cases e : j = m
    · subst e; rw [State.eligible, State.eligible, h.ruleCfg, before, after]
    · rw [h.eligible e]

/-- R113, R114, R116: the list follows a rule's new state, and the published copy the list. -/
theorem Restates.listChange (k : s.Lists) : (t.listChange m (s.rule m).st).Lists := by
  obtain ⟨presented, shown⟩ := k
  have still (same : ∀ j, t.eligible j = s.eligible j) (out : ¬ s.eligible m = true) : t.Lists := by
    have list : s.pru.list = t.pru.list := h.list.symm
    refine ⟨?_, fun free => ?_⟩
    · rw [State.Presented, list] at presented
      refine presented.congr (fun j => by rw [same]) fun j ok => h.entryOf fun e => out (e ▸ ok)
    · obtain ⟨before, alike⟩ | follows := h.shown free
      · exact alike.trans ((shown before).trans list)
      · exact follows
  unfold State.listChange
  dsimp only
  by_cases popup : (t.ruleCfg m).popup = true
  case neg =>
    rw [if_neg popup]
    have no (u : State) (cfg : u.ruleCfg m = t.ruleCfg m) : u.eligible m = false := by
      rw [State.eligible, cfg, Bool.eq_false_iff.mpr popup, Bool.false_and]
    refine still (fun j => ?_) (by rw [no s (h.ruleCfg m).symm]; exact Bool.false_ne_true)
    by_cases e : j = m
    · subst e; rw [no t rfl, no s (h.ruleCfg _).symm]
    · exact h.eligible e
  case pos =>
    rw [if_pos popup]
    by_cases after : (t.rule m).st.isUnacked = true <;> by_cases before : (s.rule m).st.isUnacked = true
    · rw [if_pos after, if_pos before]
      exact State.publishList_lists (h.reflag presented before after)
    · rw [if_pos after, if_neg before]
      exact State.publishList_lists (h.joins presented (Bool.eq_false_iff.mpr before) after popup)
    · rw [if_neg after, if_pos before]
      exact State.publishList_lists (h.delist presented (Bool.eq_false_iff.mpr after))
    · rw [if_neg after, if_neg before]
      have no (u : State) (st : ¬ (u.rule m).st.isUnacked = true) : u.eligible m = false := by
        rw [State.eligible, Bool.eq_false_iff.mpr st, Bool.and_false]
      refine still (fun j => ?_) (by rw [no s before]; exact Bool.false_ne_true)
      by_cases e : j = m
      · subst e; rw [no t after, no s before]
      · exact h.eligible e

end

/-- R106: a change of a rule's state outside STARTUP keeps the law, where a rule that stays unacknowledged keeps its
sequence. -/
theorem ListLaw.changeRule (law : ListLaw s) (running : s.mode ≠ .startup) (m : Fin 64) (f : RuleRec → RuleRec)
    (sequence : (s.rule m).st.isUnacked = true → (f (s.rule m)).st.isUnacked = true →
      (f (s.rule m)).seq = (s.rule m).seq) : ListLaw (s.changeRule m f) := by
  have mode : (s.changeRule m f).mode = s.mode := (s.changeRule_only m f).keepsMode
  rw [listLaw_iff] at law ⊢
  obtain ⟨presented, shown, -⟩ := law
  refine and_assoc.mp ⟨?_, fun m => absurd (mode.symm.trans m) running⟩
  delta State.changeRule
  extract_lets old s1 new s2 s3 s4
  have first : Restates m s s1 := by
    refine ⟨rfl, fun free => .inl ⟨free, rfl⟩, fun j other => ?_, rfl, fun before after => ?_⟩
    · rw [State.modRule_other _ _ _ _ (Ne.symm other)]; exact ⟨rfl, rfl⟩
    · rw [State.modRule_same] at after ⊢
      exact sequence before after
  have h2 : KeepsList s1 s2 := (s1.attend_only _).keepsList
  have h3 : KeepsList s2 s3 := .ite (.modPru s2 _ rfl rfl) (.refl s2)
  have h4 : KeepsList s3 s4 :=
    .ite (.ite ((s3.reportCleared_only _).keepsList.trans (.modRule _ m _ rfl rfl)) (.refl s3)) (.refl s3)
  split
  case isTrue same =>
    refine ⟨?_, shown⟩
    have st : (s1.rule m).st = (s.rule m).st := same.symm
    refine presented.congr (fun j => ?_) fun j ok => ?_
    · by_cases e : j = m
      · subst e; rw [State.eligible, State.eligible, first.ruleCfg, st]
      · rw [first.eligible e]
    · by_cases e : j = m
      · subst e
        have unacked : (s.rule j).st.isUnacked = true := ((Bool.and_eq_true _ _).mp ok).2
        rw [State.entryOf, State.entryOf, first.ruleCfg, st, first.sequence unacked (st.symm ▸ unacked)]
      · exact first.entryOf e
  case isFalse =>
    have lists := (first.keep ((h2.trans h3).trans h4)).listChange ⟨presented, shown⟩
    have out := (State.refreshPru_putsOut (s4.listChange m old)).keepsList
    refine ⟨out.presented lists.1, fun free => ?_⟩
    obtain ⟨before, alike⟩ | follows := out.shown free
    · exact alike.trans ((lists.2 before).trans out.list.symm)
    · exact follows

/-- What the evaluator does outside STARTUP keeps the law. -/
theorem ListLaw.rules : RuleStable (fun s => s.mode ≠ .startup ∧ ListLaw s) where
  quiet s m f st seq h := ⟨h.1, h.2.keep (.modRule s m f st seq)⟩
  counter s n h := ⟨h.1, h.2.keep ⟨rfl, fun free => .inl ⟨free, rfl⟩, fun _ => ⟨rfl, rfl⟩, rfl, id⟩⟩
  report s c a h := by
    have only := s.report_only c a
    exact ⟨fun m => h.1 (only.keepsMode.symm.trans m), h.2.keep only.keepsList⟩
  change s m f sequence h :=
    ⟨fun at_ => h.1 ((s.changeRule_only m f).keepsMode.symm.trans at_), h.2.changeRule h.1 m f sequence⟩

end

end Sys2Proof.Machine
end

section
/-! PROOFS. The law of the presentation list through every command (`StepKeepsListLaw`). -/

namespace Sys2Proof.Machine
set_option Elab.async false

section
variable (s : State)

/-! ### Operations that change no rule -/

theorem KeepsList.atExpiry (timer : Timer) (figure : Nat) (k : State → State) (h : ∀ s, KeepsList s (k s)) :
    KeepsList s (atExpiry timer figure k s) :=
  atExpiry_cases s _ _ _ (KeepsList s) (.refl s) fun _ _ => (State.reach_only s _).keepsList.trans (h _)

theorem KeepsList.setMode (m : Mode) (other : m ≠ .startup) : KeepsList s (s.setMode m) :=
  (s.setMode_only m).keepsList_of fun e => absurd e other

theorem KeepsList.modLamp (n : Fin 24) (f : Lamp → Lamp) : KeepsList s (s.modLamp n f) := .modPru s _ rfl rfl

theorem State.refreshPru_keeps : KeepsList s s.refreshPru := s.refreshPru_putsOut.keepsList
theorem State.refreshChime_keeps : KeepsList s s.refreshChime := s.refreshChime_putsOut.keepsList
theorem State.followCalls_keeps : KeepsList s s.followCalls := s.followCalls_putsOut.keepsList
theorem State.soundOff_keeps : KeepsList s s.soundOff := s.soundOff_putsOut.keepsList

theorem State.startPattern_keeps : KeepsList s s.startPattern := .modPru s _ rfl rfl

theorem State.openTest_keeps (n : Fin 24) (low : Bool) : KeepsList s (s.openTest n low) := by
  have becomes (b : Bool) : KeepsList s (s.openBecomes n b) :=
    (KeepsList.trans (.modLamp s n _) (State.report_only _ _ _).keepsList).trans (State.refreshPru_keeps _)
  have counts (x : Int) : KeepsList s (s.modLamp n fun l => { l with openCount := x }) := .modLamp s n _
  delta State.openTest
  extract_lets l c
  split
  · exact .ite (becomes _) (.ite (becomes _) (counts _))
  · exact .ite (becomes _) (counts _)
  · exact .ite (becomes _) (counts _)

theorem State.overcurrent_keeps (n : Fin 24) : KeepsList s (s.overcurrent n) := by
  delta State.overcurrent
  extract_lets trip count u
  have h1 : KeepsList s trip := .modLamp s n _
  have h2 : KeepsList trip u := .modLamp trip n _
  have h3 : KeepsList u ((u.modLamp n fun l => { l with shortStatus := .confirmed }).reportActive (.lamp n .short)) :=
    .trans (.modLamp u n _) (State.reportActive_only _ _).keepsList
  exact .ite (.ite (((h1.trans h2).trans h3).trans ((State.followCalls_keeps _).trans (State.refreshPru_keeps _)))
    ((h1.trans h2).trans u.followCalls_keeps)) (h1.trans trip.followCalls_keeps)

theorem State.onPeriodGood_keeps (n : Fin 24) : KeepsList s (s.onPeriodGood n) := by
  delta State.onPeriodGood
  extract_lets status u
  have h1 : KeepsList s u := .modLamp s n _
  exact .ite h1 ((h1.trans (.trans (.modLamp u n _) (State.reportCleared_only _ _).keepsList)).trans
    (State.refreshPru_keeps _))

theorem State.settleLamps_keeps : KeepsList s s.settleLamps :=
  .foldl _ (fun s n => .ite ((s.reportAllCleared_only _).keepsList.trans (.modLamp _ n _)) (.refl s)) _ s

theorem KeepsList.modForcing (f : Wsv → Wsv) (h : ∀ w, (f w).cursor = w.cursor) : KeepsList s (s.modWsv f) :=
  (s.modWsv_forcing f h).keepsList

theorem State.endAllForcing_keeps : KeepsList s s.endAllForcing := by
  have lamps : KeepsList s s.endLampForces := .trans (.modForcing s _ (by intro; rfl)) (State.refreshPru_keeps _)
  have needles (u : State) : KeepsList u u.endNeedleForces :=
    .trans (.modForcing u _ (by intro; rfl)) (forNeedles_only _ _).keepsList
  have chime (u : State) : KeepsList u u.endChimeIfForced :=
    .ite (.trans (.trans (.modForcing u _ (by intro; rfl)) (State.soundOff_keeps _)) (State.refreshChime_keeps _)) (.refl u)
  exact (lamps.trans (needles _)).trans (chime _)

theorem State.leaveWorkshop_keeps : KeepsList s s.leaveWorkshop :=
  (KeepsList.trans (.setMode s .run (by decide)) (State.endAllForcing_keeps _)).trans (State.refreshPru_keeps _)

theorem State.workshopToRun_keeps : KeepsList s s.workshopToRun :=
  s.leaveWorkshop_keeps.trans (State.attend_only _ _).keepsList

theorem State.leaveWorkshopIfMoving_keeps : KeepsList s s.leaveWorkshopIfMoving := .ite s.workshopToRun_keeps (.refl s)

theorem State.speedUpdate_keeps (k : Fin 6) : KeepsList s (s.speedUpdate k) :=
  .ite (s.doorSpeedUpdate_only.keepsList.trans (State.leaveWorkshopIfMoving_keeps _)) (.refl s)

theorem State.feedTimeout_keeps (k : Fin 6) : KeepsList s (s.feedTimeout k) := by
  have expired : KeepsList s (s.feedExpired k) := (s.feedExpired_only k).keepsList
  unfold State.feedTimeout
  exact .ite (expired.trans (State.speedUpdate_keeps _ k)) expired

theorem State.measureVb_keeps (mv : Nat) : KeepsList s (s.measureVb mv) := by
  have change (u : State) (new : Supply) : KeepsList u (u.changeSupply new) := by
    delta State.changeSupply
    extract_lets old s1 s2
    refine .ite (.refl u) ?_
    have h1 : KeepsList u s1 := (KeepsList.modMctl u (Mctl.enterSupply new u.now) (by intro; rfl)).trans
      (State.attend_only _ _).keepsList
    have h2 : KeepsList s1 s2 := .ite (s1.clearSupplyMarks_only.keepsList_of fun m =>
      s1.clearSupplyMarks_mode.symm.trans m) (.refl s1)
    have h3 : KeepsList s2 (s2.crankChange old new) :=
      .ite (KeepsList.trans (forLines_only s2 _).keepsList (forNeedles_only _ _).keepsList)
        (.ite (KeepsList.trans (.modMctl s2 Mctl.crankEntry (by intro; rfl)) (forNeedles_only _ _).keepsList) (.refl s2))
    exact (h1.trans (h2.trans h3)).trans
      (((forLines_only _ _).keepsList.trans (State.gateDoorTimers_only _).keepsList).trans (State.refreshPru_keeps _))
  unfold State.measureVb
  exact .ite (.trans (.modMctl s _ (by intro; rfl)) (change _ _)) (.trans (.modMctl s _ (by intro; rfl)) (change _ _))

theorem State.beginSilence_keeps : KeepsList s s.beginSilence := by
  delta State.beginSilence
  extract_lets s1 s2
  have h1 : KeepsList s s1 := .trans (.modLif s _ fun h => h) (State.attend_only _ _).keepsList
  have h2 : KeepsList s1 s2 := ((s1.reportActive_only _).keepsList.trans (State.bump_only _ _).keepsList).trans
    (State.refreshPru_keeps _)
  exact (h1.trans h2).trans (.ite s2.workshopToRun_keeps (.refl s2))

theorem State.frameArrives_keeps (f : Frame) : KeepsList s (s.frameArrives f) := by
  have error (u : State) : KeepsList u u.linkError := .trans (.modLif u _ fun h => h) (State.attend_only _ _).keepsList
  have timer (u : State) : KeepsList u u.restartSilenceTimer := .ite (.modLif u _ fun h => h) (.refl u)
  have report (u : State) : KeepsList u u.silenceReport :=
    .ite (.refl u) ((u.reportCleared_only _).keepsList.trans (.modLif _ _ fun h => h))
  have heard : KeepsList s s.hearHost :=
    .ite (((report s).trans (.modLif _ _ fun h => h)).trans ((timer _).trans (State.refreshPru_keeps _))) (timer s)
  exact heard.trans (.ite (.refl _) (.ite (error _) (.ite (error _) (.modLif _ _ fun h => h))))

theorem State.takeByte_keeps (b : Byte) : KeepsList s (s.takeByte b) := by
  have rx (u : State) (r : Rx) : KeepsList u (u.receiver r) := .modLif u _ fun h => h
  have error (u : State) : KeepsList u u.linkError := .trans (.modLif u _ fun h => h) (State.attend_only _ _).keepsList
  unfold State.takeByte
  split
  · exact .ite (rx s _) (error s)
  · exact .ite (rx s _) ((rx s _).trans (error _))
  · exact rx s _
  · exact rx s _
  · exact rx s _
  · exact rx s _
  · exact (rx s _).trans (.ite (State.frameArrives_keeps _ _) (error _))

/-! ### Modes and the hold -/

theorem State.settleRules_keeps : KeepsList s s.settleRules :=
  .foldl _ (fun s m => .ite (.refl s) ((s.reportCleared_only _).keepsList.trans (.modRule _ m _ rfl rfl))) _ s

theorem State.settleBlocks_keeps : KeepsList s s.settleBlocks :=
  (((s.settleLines_only.keepsList.trans (State.settleGauges_only _).keepsList).trans
    (State.settleRules_keeps _)).trans (State.settleLamps_keeps _)).trans (State.settleDoors_only _).keepsList

theorem State.settleLink_keeps : KeepsList s s.settleLink := by
  unfold State.settleLink
  exact (s.reportCleared_only _).keepsList.trans (.modLif _ _ fun h => h)

theorem State.holdIfAsserted_keeps : KeepsList s s.holdIfAsserted :=
  .ite (.modLif s _ fun free => by cases free) (.refl s)

theorem State.mapRetries_keeps (f : Timer → Timer) : KeepsList s (s.mapRetries f) := .modPru s _ rfl rfl

theorem State.restartPhase_keeps : KeepsList s s.restartPhase := by
  unfold State.restartPhase
  exact .trans (.modPru s _ rfl rfl) (State.followCalls_keeps _)

/-- An end of the hold publishes the list. -/
theorem State.endHold_keeps : KeepsList s s.endHold := by
  have released : KeepsList s ((s.modLif fun l => { l with hold := false, holdTimer := .stopped }).publishList) := by
    have kept := (s.modLif fun l => { l with hold := false, holdTimer := .stopped }).publishList_keeps
    exact ⟨kept.list, fun free => .inr (State.publishList_shown _ free), kept.rules, kept.tables, kept.startup⟩
  exact (released.trans (State.publishTargets_only _).keepsList).trans (State.refreshPru_keeps _)

theorem State.enterSleep_keeps : KeepsList s s.enterSleep := by
  have ended : KeepsList s s.endHoldForSleep := by
    unfold State.endHoldForSleep
    exact .trans (.ite s.endHold_keeps (.refl s)) (.modLif _ _ fun h => h)
  delta State.enterSleep
  extract_lets s1 s2 s3 s4
  have h1 : KeepsList s s1 := (ended.trans (.setMode _ .sleep (by decide))).trans (.modMctl _ _ (by intro; rfl))
  have h2 : OnlyChanges [.fmy, .hlm, .gve] s1 s2 :=
    ((s1.makeCounterDue_only.andThen (forLines_only _ _) (n := [.fmy, .hlm])).andThen
      (State.stopComparators_only _) (n := [.fmy, .hlm])).andThen (State.stopGauges_only _)
  have h3 : OnlyChanges (.ndr :: doorParts) s2 s3 :=
    (((forNeedles_only s2 _).andThen (State.gateDoorTimers_only _) (n := .ndr :: doorParts)).andThen
      (State.forceInterlock_only _) (n := .ndr :: doorParts)).andThen (State.refreshOutputs_only _)
  have h4 : KeepsList s3 s4 := ((State.mapRetries_keeps s3 _).trans (.modLif _ _ fun h => h)).trans (State.refreshPru_keeps _)
  exact ((h1.trans h2.keepsList).trans (h3.keepsList.trans h4)).trans (State.modSched_only _ _).keepsList

theorem State.wake_keeps : KeepsList s s.wake := by
  delta State.wake
  extract_lets s1 s2 s3
  have h1 : KeepsList s s1 := .trans (.trans (.setMode s .standby (by decide)) (State.attend_only _ _).keepsList)
    (.modMctl _ _ (by intro; rfl))
  have h2 : KeepsList s1 s2 :=
    ((((s1.startScans_only.andThen (State.startServices_only _) (n := [.sched])).andThen
      (forLines_only _ _) (n := [.sched, .hlm])).andThen (forLines_only _ _) (n := [.sched, .hlm])).andThen
        (State.startComparators_only _) (n := [.sched, .hlm])).andThen (State.wakeGauges_only _)
          (n := [.sched, .hlm, .gve]) |>.keepsList
  have h3 : KeepsList s2 s3 := s2.gateDoorTimers_only.keepsList.trans
    ((State.mapRetries_keeps _ _).trans (State.restartPhase_keeps _))
  have h4 : KeepsList s3 s3.freeInterlock := s3.freeInterlock_only.keepsList
  have silent : KeepsList s3.freeInterlock s3.freeInterlock.startSilenceTimer := .modLif _ _ fun h => h
  exact ((h1.trans h2).trans (h3.trans h4)).trans
    (silent.trans ((State.holdIfAsserted_keeps _).trans (State.refreshPru_keeps _)))

theorem State.wakeByLink_keeps : KeepsList s s.wakeByLink := .ite s.wake_keeps (.refl s)

theorem State.ignitionOff_keeps : KeepsList s s.ignitionOff := by
  delta State.ignitionOff
  extract_lets was s1 s2 s3
  have h2 : KeepsList s s2 := .trans (.setMode s .standby (by decide)) (.modMctl s1 _ (by intro; rfl))
  have check : KeepsList s2 s2.endLampCheck := .modPru s2 _ rfl rfl
  have h3 : KeepsList s2 s3 := ((check.trans (State.ageFaults_only _).keepsList).trans
    (State.withdrawAll_only _).keepsList).trans (State.refreshOutputs_only _).keepsList
  have forced (u : State) (m : Mode) : KeepsList u (u.endForcingOf m) := .ite u.endAllForcing_keeps (.refl u)
  exact h2.trans (h3.trans (((forced s3 was).trans (State.parkNeedles_only _).keepsList).trans
    (State.refreshPru_keeps _)))

theorem State.singleDone_keeps : KeepsList s s.singleDone := by
  unfold State.singleDone
  refine .ite s.soundOff_keeps ?_
  split
  · exact .trans (.modPru s _ rfl rfl) (State.refreshChime_keeps _)
  · exact .refl s

end

/-! ### Operations that change rules -/

/-- The law of the list outside STARTUP. -/
def ListRuns (s : State) : Prop := s.mode ≠ .startup ∧ ListLaw s

section
variable {s t : State}

theorem ListRuns.keep (law : ListRuns s) (h : KeepsList s t) : ListRuns t :=
  ⟨fun m => law.1 (h.startup m), law.2.keep h⟩

theorem ListRuns.ite {u : State} {c : Prop} [Decidable c] (h : ListRuns t) (k : ListRuns u) :
    ListRuns (if c then t else u) := by split <;> assumption

theorem ListRuns.stable : RuleStable ListRuns := ListLaw.rules

theorem ListRuns.sampleLine (law : ListRuns s) (n : Fin 32) (mv : Nat) : ListRuns (s.sampleLine n mv) := by
  have buttons (u : State) (press : Bool) (h : ListRuns u) : ListRuns (u.buttonRoleChange n press) := by
    delta State.buttonRoleChange
    extract_lets c s1 s2
    have h1 : KeepsList u s1 := .ite u.releaseButton_only.keepsList (.refl u)
    have h2 : KeepsList s1 s2 := .ite s1.leaveWorkshopIfMoving_keeps (.refl s1)
    have here := h.keep (h1.trans h2)
    exact .ite (ListRuns.stable.ackButton here) here
  unfold State.sampleLine State.handOn
  have classified := law.keep (s.classify_only n mv).keepsList
  refine .ite classified ?_
  have doors := classified.keep (State.doorLineChange_only (s.classify n mv) n ((s.classify n mv).logical n)).keepsList
  exact buttons _ _ (doors.keep (State.interlockRoleChange_only _ n _).keepsList)

/-- R10: an ignition-on begins in RUN. -/
theorem ListRuns.ignitionOn (law : ListRuns s) : ListRuns s.ignitionOn := by
  delta State.ignitionOn
  extract_lets s1 s2 s3
  have h2 : KeepsList s s2 := (s.bump_only _).keepsList.trans (.modMctl s1 _ (by intro; rfl))
  have check : KeepsList s2 s2.startLampCheck := .modPru s2 _ rfl rfl
  have latches := ListRuns.stable.endIgnitionLatches ((law.keep h2).keep check)
  refine (latches.keep (State.runNeedles_only _).keepsList).keep ?_
  exact (State.publishLamps_putsOut _).keepsList.trans (State.refreshChime_keeps _)

theorem ListRuns.enterRun (law : ListLaw s) : ListRuns s.enterRun :=
  ListRuns.ignitionOn ⟨(by decide : Mode.run ≠ .startup), law.keep (.setMode s .run (by decide))⟩

/-- R112: with every rule OFF there is nothing to list. -/
theorem State.presented_of_off (list : s.pru.list = []) (off : ∀ m, (s.rule m).st = .off) : s.Presented := by
  rw [State.Presented, list]
  refine ⟨by decide, List.nodup_nil, fun e mem => absurd mem List.not_mem_nil, List.Pairwise.nil, fun m ok _ => ?_⟩
  simp [State.eligible, off m, RuleState.isUnacked] at ok

/-- R7: in STARTUP every rule is OFF, so that other tables leave the list as it is. -/
theorem ListLaw.tablesTaken (law : ListLaw s) (m : s.mode = .startup) : ListLaw s.tablesTaken := by
  have empty : s.pru.list = [] := by
    refine List.eq_nil_iff_forall_not_mem.mpr fun e mem => ?_
    obtain ⟨-, st, -⟩ := law.entries e mem
    rw [law.startup m] at st
    obtain st | st := st <;> cases st
  rw [listLaw_iff]
  exact ⟨State.presented_of_off empty (law.startup m), law.shown, fun _ => law.startup m⟩

theorem ListLaw.endStartup (law : ListLaw s) (m : s.mode = .startup) : ListLaw s.endStartup := by
  have taken := law.tablesTaken m
  delta State.endStartup
  extract_lets passed s1 s2 s3 s4
  have h2 : KeepsList s.tablesTaken s2 := .trans (s1.attend_only _).keepsList (State.report_only _ _ _).keepsList
  have h3 : KeepsList s2 s3 := s2.settleBlocks_keeps.trans (State.settleLink_keeps _)
  have h4 : KeepsList s3 s4 :=
    (((s3.dropUnclassified_only.andThen (State.startComparators_only _) (n := [.hlm])).andThen
      (State.startUnits_only _) (n := [.hlm, .gve])).andThen (State.startServices_only _)
        (n := [.hlm, .gve, .sched])).keepsList
  have law4 : ListLaw s4 := taken.keep ((h2.trans h3).trans h4)
  have law5 : ListLaw (s4.leaveStartup passed) := by
    delta State.leaveStartup
    extract_lets u
    have silent (u : State) : KeepsList u u.startSilenceTimer := .modLif u _ fun h => h
    have run : ListLaw u := by
      change ListLaw (if _ then _ else _)
      split
      · exact (ListRuns.enterRun law4).2
      · exact law4.keep (.setMode s4 .standby (by decide))
    split
    · exact run.keep ((State.freeInterlock_only _).keepsList.trans (silent _))
    · exact law4.keep (.trans (.setMode s4 .unconfigured (by decide)) (State.homeAllNeedles_only _).keepsList)
  exact law5.keep ((State.holdIfAsserted_keeps _).trans (State.refreshPru_keeps _))

theorem State.exitSetup_listLaw (w : Tables) (m : s.mode = .setup) : ListLaw (s.exitSetup w) := by
  have taken : ListLaw (s.takeUpTables w) := by
    have only := s.takeUpTables_only w
    have wev : (s.takeUpTables w).wev = {} := rfl
    have pru : (s.takeUpTables w).pru = {} := rfl
    have off (j : Fin 64) : ((s.takeUpTables w).rule j).st = .off := by
      rw [State.rule, wev]
      simp
    rw [listLaw_iff]
    exact ⟨State.presented_of_off (by rw [pru]) off, fun _ => by rw [pru], fun _ => off⟩
  have running : (s.takeUpTables w).mode ≠ .startup := by
    have same : (s.takeUpTables w).mode = .setup := m
    rw [same]; decide
  delta State.exitSetup
  extract_lets s1 s2 s3 s4
  have h1 : ListRuns s1 := ListRuns.keep ⟨running, taken⟩ (State.takeUpTables_removed w).keepsList
  have h3 : ListRuns s3 := h1.keep ((s1.settleBlocks_keeps.trans (State.startComparators_only _).keepsList).trans
    (s2.modSched_only _).keepsList)
  have h4 : ListLaw s4 := by
    change ListLaw (if _ then _ else _)
    split
    · exact (ListRuns.enterRun h3.2).2
    · exact h3.2.keep (.setMode s3 .standby (by decide))
  have silent (u : State) : KeepsList u u.startSilenceTimer := .modLif u _ fun h => h
  exact h4.keep (((State.freeInterlock_only _).keepsList.trans (silent _)).trans (State.refreshPru_keeps _))

theorem ListRuns.enterSetup (law : ListLaw s) : ListRuns s.enterSetup := by
  delta State.enterSetup
  extract_lets s1
  have h1 : KeepsList s s1 := (s.setWritten_only _).keepsList.trans (.setMode _ .setup (by decide))
  have here : ListRuns s1 := ⟨(by decide : Mode.setup ≠ .startup), law.keep h1⟩
  have off := ListRuns.stable.allRulesOff here
  refine off.keep ?_
  have silent (u : State) : KeepsList u u.stopSilenceTimer := .modLif u _ fun h => h
  exact ((State.parkNeedles_only _).keepsList.trans (State.forceInterlock_only _).keepsList).trans
    ((silent _).trans (State.refreshPru_keeps _))

theorem ListLaw.acceptIgn (law : ListLaw s) (a : Bool) : ListLaw (s.acceptIgn a) := by
  delta State.acceptIgn
  extract_lets s1
  have here : ListLaw s1 := law.keep (.modMctl s _ (by intro; rfl))
  split
  · exact (ListRuns.enterRun here).2.keep (State.attend_only _ _).keepsList
  · exact here.keep (s1.ignitionOff_keeps.trans (State.attend_only _ _).keepsList)
  · exact here.keep (s1.ignitionOff_keeps.trans (State.attend_only _ _).keepsList)
  · exact here.keep s1.refreshPru_keeps

theorem ListLaw.sleepSample (law : ListLaw s) (m : s.mode = .sleep) (ign : Bool) (mv : Vector Nat 32) :
    ListLaw (s.sleepSample ign mv) := by
  delta State.sleepSample
  extract_lets t s1
  have h1 : KeepsList s s1 :=
    OnlyChanges.keepsList (l := [.now, .sched]) (Advances.atMoment (l := [.sched]) s _ _).only
  have start : ListRuns s1 := ListRuns.keep ⟨by rw [m]; decide, law⟩ h1
  have lines : ListRuns (s1.sleepLines mv).1 := by
    suffices all : ∀ (l : List (Fin 32)) (q : State × Bool), ListRuns q.1 →
        ListRuns (l.foldl (fun (s, changed) n =>
          if s.watched n && (s.lineCfg n).fn.classified then
            let s' := s.sampleLine n mv[n]
            (s', changed || s'.logical n != s.logical n)
          else (s, changed)) q).1 from all _ (s1, false) start
    intro l
    induction l with
    | nil => exact fun _ h => h
    | cons n l ih =>
      refine fun q h => ih _ ?_
      dsimp only
      split
      · exact h.sampleLine n _
      · exact h
  revert lines
  obtain ⟨s2, changed⟩ := s1.sleepLines mv
  intro lines
  have read : ListLaw (s2.modMctl (Mctl.ignSample ign s2.now)) :=
    lines.2.keep (.modMctl _ _ fun c => Mctl.ignSample_mode _ _ c)
  dsimp only
  split
  · exact read.keep (State.wake_keeps _)
  · exact read

/-! ### Commands -/

theorem eventEffect_listLaw (c : Instr) (law : ListLaw s) : ListLaw (eventEffect c s) := by
  have only := (eventEffect_advances c s).only
  have mode := eventEffect_mode c s
  have moment (v : State) (h : OnlyChanges [.now, .sched] s v) : KeepsList s v := h.keepsList
  have keeps (h : KeepsList s (eventEffect c s)) : ListLaw (eventEffect c s) := law.keep h
  have fresh (r : ResetCause) (f : Pins → Pins) : ListLaw ((s.hardReset r).modPins f) :=
    ((s.cutOffWrite.applyReset_afresh r).modPins f).listLaw
  cases c
  case startupEnd =>
    unfold eventEffect
    dsimp only
    split
    case isTrue ended =>
      simp only [State.startupOver, Bool.and_eq_true, beq_iff_eq] at ended
      exact law.endStartup ended.1.1
    case isFalse => exact law
  case vbMeasurement mv ign =>
    refine keeps (.ite (.refl s) (.trans (moment s.atVbMeasurement (Advances.atMoment (l := [.sched]) s _ _).only) ?_))
    exact .trans (.modMctl _ _ fun c => Mctl.ignSample_mode _ _ c) (State.measureVb_keeps _ mv)
  case ignDebounceExpiry =>
    unfold eventEffect
    dsimp only
    split
    · refine atExpiry_cases s _ _ _ ListLaw law fun since _ => ?_
      exact ListLaw.acceptIgn (law.keep (State.reach_only s _).keepsList) _
    · exact law
  case sleepEntry => exact keeps (.ite s.enterSleep_keeps (.refl s))
  case sleepSample ign mv =>
    unfold eventEffect
    dsimp only
    split
    case isTrue m => exact law.sleepSample m ign mv
    case isFalse => exact law
  case startOfReception idle =>
    exact keeps (.ite (.refl s) (s.wakeByLink_keeps.trans (.modLif _ _ fun h => h)))
  case byteReceived b stopHigh =>
    have ends : KeepsList s (s.wakeByLink.byteEnds b stopHigh) := s.wakeByLink_keeps.trans (.modLif _ _ fun h => h)
    have error (u : State) : KeepsList u u.stopBitError := by
      have abandon : KeepsList u u.abandon :=
        .trans (.trans (.modLif u _ fun h => h) (.modLif _ _ fun h => h)) (State.attend_only _ _).keepsList
      exact abandon.trans (.modLif _ _ fun h => h)
    exact keeps (.ite (.refl s) (.ite ends (.ite (ends.trans (State.takeByte_keeps _ b)) (ends.trans (error _)))))
  case gapTimerExpiry =>
    refine keeps (.atExpiry s _ _ _ fun s => ?_)
    exact .trans (.trans (.modLif s _ fun h => h) (.modLif _ _ fun h => h)) (State.attend_only _ _).keepsList
  case replySent => exact keeps (.ite (.modLif s _ fun h => h) (.refl s))
  case breakLatch => exact keeps (.atExpiry s _ _ _ fun s => .modLif s _ fun h => h)
  case breakRelease =>
    unfold eventEffect
    dsimp only
    split
    · exact (s.cutOffWrite.applyReset_afresh .linkBreak).listLaw
    · exact law.keep (.modLif s _ fun h => h)
  case hostSilenceBegins => exact keeps (.atExpiry s _ _ _ fun s => s.beginSilence_keeps)
  case holdLineChange a =>
    refine keeps (.ite (.refl s) ?_)
    have pins : KeepsList s (s.modPins fun p => { p with holdAsserted := a }) := (s.modPins_only _).keepsList
    refine .ite pins (pins.trans ?_)
    generalize s.modPins (fun p => { p with holdAsserted := a }) = u
    unfold State.holdChange
    exact .ite (.ite (.refl u) (.modLif u _ fun free => by cases free)) (.ite u.endHold_keeps (.modLif u _ fun h => h))
  case holdLimitExpiry =>
    refine keeps (.atExpiry s _ _ _ fun s => ?_)
    exact .trans (.trans s.endHold_keeps (.modLif _ _ fun h => h)) (State.attend_only _ _).keepsList
  case restartTakesEffect =>
    unfold eventEffect
    dsimp only
    split
    · exact (s.applyReset_afresh _).listLaw
    · exact law
  case lineSample n mv =>
    unfold eventEffect
    dsimp only
    split
    · have here := law.keep (moment (s.atLineSample n) (Advances.atMoment (l := [.sched]) s _ _).only)
      unfold State.scanSample
      split
      · exact here
      · split
        · exact here.keep (State.measureOnly_only _ n mv).keepsList
        · exact (ListRuns.sampleLine ⟨‹_›, here⟩ n mv).2
    · exact law
  case channelSample k =>
    refine keeps (.ite (.trans (moment (s.atChannelSample k) (Advances.atMoment (l := [.sched]) s _ _).only) ?_) (.refl s))
    exact (State.sampleChannel_only _ k).keepsList.trans (State.speedUpdate_keeps _ k)
  case feedTimeout k => exact keeps (.atExpiry s _ _ _ fun s => s.feedTimeout_keeps k)
  case evaluationPass =>
    unfold eventEffect
    dsimp only
    split
    case isTrue due =>
      have here := law.keep (moment s.atPass (Advances.atMoment (l := [.sched]) s _ _).only)
      refine (ListRuns.stable.pass ⟨fun m => ?_, here⟩).2
      have m' : s.mode = .startup := m
      rw [m'] at due; cases due
    case isFalse => exact law
  case lampCheckEnd =>
    exact keeps (.atExpiry s _ _ _ fun s => .trans (.modPru s _ rfl rfl) (State.refreshPru_keeps _))
  case lampDiagnosticTick n low =>
    refine keeps (.ite (.trans (moment (s.atLampTick n) (Advances.atMoment (l := [.sched]) s _ _).only) ?_) (.refl s))
    exact State.openTest_keeps _ n low
  case lampOvercurrent n => exact keeps (.ite (s.overcurrent_keeps n) (.refl s))
  case lampRetryExpiry n =>
    exact keeps (.atExpiry s _ _ _ fun s => .trans (.modLamp s n _) (State.followCalls_keeps _))
  case lampSuccessTimerExpiry n => exact keeps (.atExpiry s _ _ _ fun s => s.onPeriodGood_keeps n)
  case singleToneComplete => exact keeps (.ite (.atExpiry s _ _ _ fun s => s.singleDone_keeps) (.refl s))
  case chimeToneEdge =>
    refine keeps ?_
    unfold eventEffect
    dsimp only
    split
    · exact .ite ((State.reach_only s _).keepsList.trans (State.soundOff_keeps _))
        ((State.reach_only s _).keepsList.trans (.modPru _ _ rfl rfl))
    · exact .refl s
  case lampForcingExpiry n =>
    refine keeps ?_
    unfold eventEffect
    dsimp only
    split
    · exact .atExpiry s _ _ _ fun s => .trans (.modForcing s _ (by intro; rfl)) (State.refreshPru_keeps _)
    · exact .refl s
  case chimeForcingExpiry =>
    refine keeps ?_
    unfold eventEffect
    dsimp only
    split
    · exact .atExpiry s _ _ _ fun s => .trans (.trans (.modForcing s _ (by intro; rfl))
        (State.soundOff_keeps _)) (State.refreshChime_keeps _)
    · exact .refl s
  case flashPhaseAdvance =>
    refine keeps (.ite (.trans (moment s.atFlash (Advances.atMoment (l := [.sched]) s _ _).only) ?_) (.refl s))
    exact .trans (.modPru _ _ rfl rfl) (State.followCalls_keeps _)
  case powerOnReset => exact fresh .powerOn fun p => { p with brownOut := false }
  case brownOut => unfold eventEffect; dsimp only; split; exacts [law, fresh _ _]
  case externalReset => unfold eventEffect; dsimp only; split; exacts [law, fresh _ _]
  all_goals exact keeps (only.keepsList_of fun m => (mode rfl).symm.trans m)

theorem requestService_listLaw (c : Instr) (law : ListLaw s) : ListLaw (requestService c s).1 := by
  have only := requestService_only c s
  have mode := requestService_mode c s
  cases c
  case setMode tag p =>
    by_cases m : s.mode = .setup
    · obtain e | ⟨-, e⟩ := setMode_in_setup tag p m <;> rw [e]
      · exact law
      · exact State.exitSetup_listLaw _ m
    · refine served_cases (P := ListLaw) law fun _ => ?_
      obtain e | e | e | e | e := setModeService_cases (rd8 p 0) m <;> rw [e]
      · exact law
      · exact (ListRuns.enterSetup law).2
      · exact law.keep s.leaveWorkshop_keeps
      · exact law.keep (.setMode s .workshop (by decide))
      · exact law.keep (.modMctl s _ (by intro; rfl))
  case restart tag p =>
    refine served_cases (P := ListLaw) law fun _ => law.keep ?_
    have marked : KeepsList s (s.modMctl fun c => { c with restart := .waiting }) := .modMctl s _ (by intro; rfl)
    exact (marked.trans (.modLif _ _ fun h => h)).trans (State.makeCounterDue_only _).keepsList
  case acknowledge tag p =>
    refine served_cases (P := ListLaw) law fun started => ?_
    have runs : ListRuns s := ⟨fun m => started ⟨m, Bool.false_ne_true⟩, law⟩
    have acked (m : Fin 64) : ListLaw (s.ackRule m) := (ListRuns.stable.ackRule m runs).2
    unfold acknowledgeService
    repeat' split
    all_goals first | with_reducible exact law | with_reducible exact acked _
  case forceLamp tag p =>
    refine servedInWorkshop_cases (P := ListLaw) law fun _ => ?_
    unfold forceLampService
    repeat' split
    · exact law.keep (.trans (.modForcing s _ (by intro; rfl)) (State.refreshPru_keeps _))
    all_goals exact law
  case forceChime tag p =>
    refine servedInWorkshop_cases (P := ListLaw) law fun _ => ?_
    unfold forceChimeService
    repeat' split
    · exact law.keep (.trans (.trans (.modForcing s _ (by intro; rfl)) (State.refreshChime_keeps _)) (State.startPattern_keeps _))
    all_goals exact law
  case endForcing tag p =>
    refine servedInWorkshop_cases (P := ListLaw) law fun _ => ?_
    unfold endForcingService
    split
    · refine law.keep ?_
      unfold State.endTarget
      refine .ite (.refl s) ?_
      split
      · exact s.endAllForcing_keeps
      · exact .trans (.modForcing s _ (by intro; rfl)) (State.refreshPru_keeps _)
      · exact .trans (.modForcing s _ (by intro; rfl)) (State.modNeedle_only _ _ _).keepsList
      · exact .trans (.trans (.modForcing s _ (by intro; rfl)) (State.soundOff_keeps _)) (State.refreshChime_keeps _)
    · exact law
  all_goals exact law.keep (only.keepsList_of fun m => (mode (by intros; exact Instr.noConfusion)).symm.trans m)

theorem ListLaw.serve (law : ListLaw s) (f : Frame) (c : Instr) : ListLaw (s.serve f (requestService c)) :=
  (requestService_listLaw c law).keep
    (.modLif _ (fun l => { l with tx := some (f.reply (requestService c s).2.1 (requestService c s).2.2) }) fun h => h)

end

/-- Settles O59: each change of a rule's state moves the list as R113 and R114 say, and nothing else does. -/
theorem stepKeepsListLaw : Obligations.StepKeepsListLaw := by
  intro s t law e
  have unread (s : State) (u : State) (pru : u.pru = s.pru) (wev : u.wev = s.wev) (lif : u.lif = s.lif)
      (mctl : u.mctl = s.mctl) (tables : u.tables = s.tables) (h : ListLaw s) : ListLaw u := by
    refine h.keep ⟨by rw [pru], fun free => .inl ⟨lif ▸ free, by rw [pru]⟩, fun m => ?_, by rw [tables], fun m => ?_⟩
    · rw [State.rule, State.rule, wev]; exact ⟨rfl, rfl⟩
    · rw [State.mode, mctl] at m; exact m
  exact step_keeps (P := ListLaw) (fun s l h => unread s _ rfl rfl rfl rfl rfl h)
    (fun s h => unread s _ rfl rfl rfl rfl rfl h)
    (exec_keeps (fun s _ h => h.keep s.wake_keeps) (fun s h => h.keep (.modLif s _ fun h => h))
      (fun f s h => h.keep (s.frameArrives_keeps f)) (fun c f s _ _ h => h.serve f c)
      (fun c s _ h => eventEffect_listLaw c h)) law e

end Sys2Proof.Machine
end

section
/-! PROOFS. The laws of the telltales and of the chime (R120 to R130) say that the published levels are the presented
ones outside a freeze, and that the chime's winner is the one that is due. -/

namespace Sys2Proof.Machine
set_option Elab.async false

/-! ### The highest of some levels -/

theorem Level.code_injective {x y : Level} (h : x.code = y.code) : x = y := by
  revert h
  cases x <;> cases y <;> decide

theorem Level.max_spec (x y : Level) : x.code ≤ (x.max y).code ∧ y.code ≤ (x.max y).code ∧
    (x.max y = x ∨ x.max y = y) := by
  unfold Level.max
  split
  · exact ⟨by omega, le_rfl, .inr rfl⟩
  · exact ⟨le_rfl, by omega, .inl rfl⟩

theorem highest_spec (l : List Level) : (∀ x ∈ l, x.code ≤ (highest l).code) ∧ (highest l = .off ∨ highest l ∈ l) := by
  suffices all : ∀ (l : List Level) (b : Level), b.code ≤ (l.foldl Level.max b).code ∧
      (∀ x ∈ l, x.code ≤ (l.foldl Level.max b).code) ∧ (l.foldl Level.max b = b ∨ l.foldl Level.max b ∈ l) from
    (all l .off).2
  intro l
  induction l with
  | nil => exact fun b => ⟨le_rfl, fun x mem => absurd mem List.not_mem_nil, .inl rfl⟩
  | cons y l ih =>
    intro b
    obtain ⟨first, second, either⟩ := b.max_spec y
    obtain ⟨base, all, here⟩ := ih (b.max y)
    rw [List.foldl_cons]
    refine ⟨first.trans base, fun x mem => ?_, ?_⟩
    · obtain rfl | there := List.mem_cons.mp mem
      · exact second.trans base
      · exact all x there
    · obtain e | there := here
      · obtain e' | e' := either <;> rw [e, e']
        · exact .inl rfl
        · exact .inr List.mem_cons_self
      · exact .inr (List.mem_cons_of_mem _ there)

section
variable (s : State)

variable {s} in
theorem State.Highest.unique {x y : Level} {pick : Fin 64 → Prop} (h : s.Highest x pick) (k : s.Highest y pick) : x = y := by
  have below {x y : Level} (h : s.Highest x pick) (k : s.Highest y pick) : x.code ≤ y.code := by
    obtain rfl | ⟨m, ok, rfl⟩ := h.2
    · exact Nat.zero_le _
    · exact k.1 m ok
  exact Level.code_injective (le_antisymm (below h k) (below k h))

variable {s} in
theorem State.Highest.congr {x : Level} {pick pick' : Fin 64 → Prop} (h : s.Highest x pick) (same : ∀ m, pick' m ↔ pick m) :
    s.Highest x pick' := by
  refine ⟨fun m ok => h.1 m ((same m).mp ok), h.2.imp_right fun ⟨m, ok, is⟩ => ⟨m, (same m).mpr ok, is⟩⟩

theorem State.demandOn_highest (n : Fin 24) (pick : RuleCfg → Bool) :
    s.Highest (s.demandOn n pick) fun m => (s.ruleCfg m).lamp = some n ∧ pick (s.ruleCfg m) = true := by
  have member (x : Level) : x ∈ ((List.finRange 64).filter fun m =>
      (s.ruleCfg m).lamp == some n && pick (s.ruleCfg m)).map s.demand ↔
      ∃ m, ((s.ruleCfg m).lamp = some n ∧ pick (s.ruleCfg m) = true) ∧ s.demand m = x := by
    simp [List.mem_map, List.mem_filter]
  obtain ⟨all, here⟩ := highest_spec (((List.finRange 64).filter fun m =>
      (s.ruleCfg m).lamp == some n && pick (s.ruleCfg m)).map s.demand)
  exact ⟨fun m ok => all _ ((member _).mpr ⟨m, ok, rfl⟩), here.imp_right (member _).mp⟩

theorem State.lampLevel_highest (n : Fin 24) : s.Highest (s.lampLevel n) (s.CallsFor n) := by
  have own := s.demandOn_highest n fun _ => true
  have member (x : Level) : x ∈ ((List.finRange 24).filter fun i =>
      (s.lampCfg i).fallback == some n && (s.lamp i).failed).map s.ownDemand ↔
      ∃ i, ((s.lampCfg i).fallback = some n ∧ ((s.lamp i).openStatus = .confirmed ∨ (s.lamp i).shortStatus = .confirmed)) ∧
        s.ownDemand i = x := by
    simp [List.mem_map, List.mem_filter, Lamp.failed]
  obtain ⟨all, here⟩ := highest_spec (((List.finRange 24).filter fun i =>
      (s.lampCfg i).fallback == some n && (s.lamp i).failed).map s.ownDemand)
  obtain ⟨first, second, either⟩ := (s.ownDemand n).max_spec (highest (((List.finRange 24).filter fun i =>
      (s.lampCfg i).fallback == some n && (s.lamp i).failed).map s.ownDemand))
  refine ⟨fun m calls => ?_, ?_⟩
  · obtain named | ⟨i, named, falls⟩ := calls
    · exact (own.1 m ⟨named, rfl⟩).trans first
    · have low := (s.demandOn_highest i fun _ => true).1 m ⟨named, rfl⟩
      exact low.trans ((all _ ((member _).mpr ⟨i, falls, rfl⟩)).trans second)
  · change s.lampLevel n = _ ∨ s.lampLevel n = _ at either
    obtain e | e := either <;> rw [e]
    · obtain off | ⟨m, ok, is⟩ := own.2
      · exact .inl off
      · exact .inr ⟨m, .inl ok.1, is⟩
    · obtain off | mem := here
      · exact .inl off
      · obtain ⟨i, falls, is⟩ := (member _).mp mem
        rw [← is]
        obtain off | ⟨m, ok, is'⟩ := (s.demandOn_highest i fun _ => true).2
        · exact .inl off
        · exact .inr ⟨m, .inr ⟨i, ok.1, falls⟩, is'⟩

/-! ### The presented level in each mode -/

theorem State.presentedLevel_dark (m : s.mode = .startup ∨ s.mode = .setup ∨ s.mode = .standby ∨ s.mode = .sleep)
    (n : Fin 24) : s.presentedLevel n = .off := by
  unfold State.presentedLevel
  obtain m | m | m | m := m <;> rw [m]

theorem State.presentedLevel_unconfigured (m : s.mode = .unconfigured) (n : Fin 24) : s.presentedLevel n =
    if n = 0 ∧ s.mctl.ign = .active then .flashSlow else .off := by
  unfold State.presentedLevel
  rw [m]

theorem State.presentedLevel_running (m : s.mode.isRunning = true) (n : Fin 24) : s.presentedLevel n =
    if (s.pru.lampCheck.isRunning && (s.lampCfg n).participates) = true then .on
    else match s.wsv.lamps[n] with
      | some r => r.level.max (s.criticalDemand n)
      | none => s.lampLevel n := by
  unfold State.presentedLevel
  cases e : s.mode <;> rw [e] at m <;> first | rfl | exact absurd m Bool.false_ne_true

theorem State.lampsFrozen_iff : s.lampsFrozen = false ↔
    s.mode.isRunning = true → s.lif.hold = false ∧ s.supply ≠ .crank := by
  unfold State.lampsFrozen
  cases s.mode.isRunning <;> simp

/-- The published levels are the presented ones outside a freeze. -/
def State.Shows (s : State) : Prop := s.lampsFrozen = false → ∀ n, (s.lamp n).published = s.presentedLevel n

theorem telltaleLaw_iff : TelltaleLaw s ↔ s.Shows := by
  have unchecked (n : Fin 24) (h : s.pru.lampCheck.isRunning = false ∨ (s.lampCfg n).participates = false) :
      ¬ (s.pru.lampCheck.isRunning && (s.lampCfg n).participates) = true := by
    obtain h | h := h <;> rw [h] <;> simp
  have critical (n : Fin 24) : s.Highest (s.criticalDemand n)
      fun m => (s.ruleCfg m).lamp = some n ∧ 12 ≤ (s.ruleCfg m).priority :=
    (s.demandOn_highest n fun c => 12 ≤ c.priority).congr fun m => by simp
  constructor
  · intro law free n
    by_cases running : s.mode.isRunning = true
    · obtain ⟨hold, supply⟩ := (s.lampsFrozen_iff).mp free running
      rw [s.presentedLevel_running running]
      split
      case isTrue check =>
        rw [Bool.and_eq_true] at check
        exact law.check running hold supply check.1 n check.2
      case isFalse check =>
        have off : s.pru.lampCheck.isRunning = false ∨ (s.lampCfg n).participates = false := by
          rwa [Bool.and_eq_true, not_and_or, Bool.not_eq_true, Bool.not_eq_true] at check
        split
        case h_1 r forced =>
          obtain ⟨x, highest, level⟩ := law.forced running hold supply n r off forced
          rw [level, highest.unique (critical n)]
          rfl
        case h_2 free => exact (law.level running hold supply n off free).unique (s.lampLevel_highest n)
    · cases m : s.mode <;> rw [m] at running
      case startup => rw [law.dark (.inl m), s.presentedLevel_dark (.inl m)]
      case unconfigured => rw [law.unconfigured m, s.presentedLevel_unconfigured m]
      case setup => rw [law.dark (.inr (.inl m)), s.presentedLevel_dark (.inr (.inl m))]
      case standby => rw [law.dark (.inr (.inr (.inl m))), s.presentedLevel_dark (.inr (.inr (.inl m)))]
      case sleep => rw [law.dark (.inr (.inr (.inr m))), s.presentedLevel_dark (.inr (.inr (.inr m)))]
      all_goals exact absurd rfl running
  · intro shows
    have live (running : s.mode.isRunning = true) (hold : s.lif.hold = false) (supply : s.supply ≠ .crank) (n : Fin 24) :=
      (shows (s.lampsFrozen_iff.mpr fun _ => ⟨hold, supply⟩) n).trans (s.presentedLevel_running running n)
    have still (m : s.mode.isRunning = false) (n : Fin 24) : (s.lamp n).published = s.presentedLevel n :=
      shows (s.lampsFrozen_iff.mpr fun running => absurd running (by rw [m]; exact Bool.false_ne_true)) n
    refine ⟨fun m n => ?_, fun m n => ?_, fun running hold supply check n part => ?_,
      fun running hold supply n r off forced => ?_, fun running hold supply n off free => ?_⟩
    · have dark := s.presentedLevel_dark m n
      rw [still (by obtain m | m | m | m := m <;> rw [m] <;> rfl) n, dark]
    · rw [still (by rw [m]; rfl) n, s.presentedLevel_unconfigured m]
    · rw [live running hold supply n, if_pos (by rw [check, part]; rfl)]
    · refine ⟨_, critical n, ?_⟩
      rw [live running hold supply n, if_neg (unchecked n off), forced]
      rfl
    · rw [live running hold supply n, if_neg (unchecked n off), free]
      exact s.lampLevel_highest n

/-! ### The winner -/

theorem State.isCandidate_iff (m : Fin 64) : s.isCandidate m = true ↔ s.ChimeCandidate m := by
  unfold State.isCandidate State.ChimeCandidate
  cases (s.rule m).st <;> cases (s.ruleCfg m).chime with
  | none => simp [RuleState.isUnacked]
  | some p => cases p <;> simp [RuleState.isUnacked]

theorem State.chimeSilenced_iff : s.chimeSilenced = true ↔
    s.mode.isRunning = false ∨ s.pru.lampCheck.isRunning = true ∨ s.wsv.chime.isSome = true := by
  simp [State.chimeSilenced, or_assoc]

theorem State.candidates_once : ((((List.finRange 64).filter s.isCandidate).map s.entryOf).map (·.rule)).Nodup := by
  rw [List.map_map]
  have back : (List.map ((fun e : ListEntry => e.rule) ∘ s.entryOf) ((List.finRange 64).filter s.isCandidate)) =
      (List.finRange 64).filter s.isCandidate :=
    (List.map_congr_left fun _ _ => rfl).trans (List.map_id _)
  rw [back]
  exact (List.nodup_finRange 64).filter _

theorem State.dueWinner_some (m : Fin 64) : s.dueWinner = some m ↔ s.chimeSilenced = false ∧ s.ChimeCandidate m ∧
    ∀ j, j ≠ m → s.ChimeCandidate j → (s.entryOf m).ranksAbove (s.entryOf j) = true := by
  have ranked (m : Fin 64) (h : (bestRanked (((List.finRange 64).filter s.isCandidate).map s.entryOf)).map (·.rule) = some m) :
      s.ChimeCandidate m ∧ ∀ j, j ≠ m → s.ChimeCandidate j → (s.entryOf m).Above (s.entryOf j) := by
    obtain ⟨b, best, rfl⟩ := Option.map_eq_some_iff.mp h
    obtain ⟨mem, above⟩ := bestRanked_some s.candidates_once best
    obtain ⟨w, inList, rfl⟩ := List.mem_map.mp mem
    refine ⟨(s.isCandidate_iff w).mp (List.mem_filter.mp inList).2, fun j other ok => ?_⟩
    exact above _ (List.mem_map.mpr ⟨j, List.mem_filter.mpr ⟨List.mem_finRange j, (s.isCandidate_iff j).mpr ok⟩, rfl⟩) other
  unfold State.dueWinner
  split
  case isTrue silenced => simp [silenced]
  case isFalse live =>
    have loud : s.chimeSilenced = false := Bool.eq_false_iff.mpr live
    constructor
    · intro h
      obtain ⟨ok, above⟩ := ranked m h
      exact ⟨loud, ok, fun j other k => ListEntry.ranksAbove_iff.mpr (above j other k)⟩
    · rintro ⟨-, ok, above⟩
      cases best : bestRanked (((List.finRange 64).filter s.isCandidate).map s.entryOf) with
      | none =>
        have none := bestRanked_none.mp best
        have mem : s.entryOf m ∈ (((List.finRange 64).filter s.isCandidate).map s.entryOf) :=
          List.mem_map.mpr ⟨m, List.mem_filter.mpr ⟨List.mem_finRange m, (s.isCandidate_iff m).mpr ok⟩, rfl⟩
        rw [none] at mem
        cases mem
      | some b =>
        obtain ⟨ok', above'⟩ := ranked b.rule (by rw [best]; rfl)
        by_cases same : b.rule = m
        · rw [Option.map_some, same]
        · have up := ListEntry.ranksAbove_iff.mp (above _ same ok')
          have down := above' m (Ne.symm same) ok
          have loop := up.trans down
          unfold ListEntry.Above at loop
          omega

theorem State.dueWinner_none : s.dueWinner = none ↔ s.chimeSilenced = true ∨ ∀ m, ¬ s.ChimeCandidate m := by
  unfold State.dueWinner
  split
  case isTrue silenced => simp [silenced]
  case isFalse live =>
    have loud : s.chimeSilenced = false := Bool.eq_false_iff.mpr live
    rw [Option.map_eq_none_iff, bestRanked_none, List.map_eq_nil_iff, List.filter_eq_nil_iff]
    simp [loud, s.isCandidate_iff]

/-- Without a pattern the sounder is off. -/
def State.Hushed (s : State) : Prop := s.pru.winner = none → s.wsv.chime = none → s.pru.tone = false

theorem chimeLaw_iff : ChimeLaw s ↔ s.pru.winner = s.dueWinner ∧ s.Hushed := by
  have loud_iff : s.chimeSilenced = false ↔ s.mode.isRunning = true ∧ s.pru.lampCheck.isRunning = false ∧ s.wsv.chime = none := by
    simp [State.chimeSilenced, and_assoc]
  constructor
  · intro law
    refine ⟨?_, law.silent⟩
    cases w : s.pru.winner with
    | none =>
      refine ((s.dueWinner_none).mpr ?_).symm
      obtain off | check | forced | none := law.noWinner w
      · exact .inl (s.chimeSilenced_iff.mpr (.inl off))
      · exact .inl (s.chimeSilenced_iff.mpr (.inr (.inl check)))
      · exact .inl (s.chimeSilenced_iff.mpr (.inr (.inr forced)))
      · exact .inr none
    | some m =>
      obtain ⟨running, check, chime, ok, above⟩ := law.winner m w
      exact ((s.dueWinner_some m).mpr ⟨loud_iff.mpr ⟨running, check, chime⟩, ok, above⟩).symm
  · rintro ⟨due, hushed⟩
    refine ⟨fun m w => ?_, fun w => ?_, hushed⟩
    · obtain ⟨loud, ok, above⟩ := (s.dueWinner_some m).mp (due.symm.trans w)
      obtain ⟨running, check, chime⟩ := loud_iff.mp loud
      exact ⟨running, check, chime, ok, above⟩
    · obtain silenced | none := (s.dueWinner_none).mp (due.symm.trans w)
      · obtain off | check | forced := s.chimeSilenced_iff.mp silenced
        · exact .inl off
        · exact .inr (.inl check)
        · exact .inr (.inr (.inl forced))
      · exact .inr (.inr (.inr none))

/-- R120: the demand of each rule state. -/
theorem State.demand_eq (m : Fin 64) : s.demand m = (match (s.rule m).st with
    | .activeNew | .latchedNew =>
      if s.lif.silence = true ∧ (s.ruleCfg m).popup = true ∧ (s.ruleCfg m).lampNew.code < 2
        then .flashSlow else (s.ruleCfg m).lampNew
    | .activeAck | .latchedAck => (s.ruleCfg m).lampAcked
    | .off | .pending => .off) := by
  unfold State.demand
  dsimp only
  have raised : (if (s.lif.silence && (s.ruleCfg m).popup) = true then (s.ruleCfg m).lampNew.max .flashSlow
      else (s.ruleCfg m).lampNew) = if s.lif.silence = true ∧ (s.ruleCfg m).popup = true ∧ (s.ruleCfg m).lampNew.code < 2
        then .flashSlow else (s.ruleCfg m).lampNew := by
    cases s.lif.silence <;> cases (s.ruleCfg m).popup <;> simp [Level.max, Level.code]
  rw [raised]
  cases (s.rule m).st <;> rfl

end

end Sys2Proof.Machine
end

section
/-! PROOFS. What keeps the laws of the telltales and of the chime: a change that PRU does not read, and a refresh. -/

namespace Sys2Proof.Machine
set_option Elab.async false

section
variable {s t : State}

/-- What the presented levels are made of is the same. -/
structure LampReads (s t : State) : Prop where
  mode : t.mode = s.mode
  supply : t.supply = s.supply
  hold : t.lif.hold = s.lif.hold
  ign : t.mctl.ign = s.mctl.ign
  tables : t.tables = s.tables
  demand : ∀ m, t.demand m = s.demand m
  forced : t.wsv.lamps = s.wsv.lamps
  check : t.pru.lampCheck = s.pru.lampCheck
  failed : ∀ n, (t.lamp n).failed = (s.lamp n).failed

theorem ReadsSame.lampReads (h : ReadsSame s t) : LampReads s t :=
  ⟨h.mode, h.supply, h.hold, h.ign, h.tables, h.demand, h.forced, h.check, h.failed⟩

theorem LampReads.demandOn (h : LampReads s t) (n : Fin 24) (pick : RuleCfg → Bool) : t.demandOn n pick = s.demandOn n pick := by
  have demand : t.demand = s.demand := funext h.demand
  have cfg : t.ruleCfg = s.ruleCfg := funext fun m => by rw [State.ruleCfg, State.ruleCfg, h.tables]
  rw [State.demandOn, State.demandOn, demand, cfg]

theorem LampReads.presentedLevel (h : LampReads s t) (n : Fin 24) : t.presentedLevel n = s.presentedLevel n := by
  have own : t.ownDemand = s.ownDemand := funext fun i => h.demandOn i _
  have cfg : t.lampCfg = s.lampCfg := funext fun m => by rw [State.lampCfg, State.lampCfg, h.tables]
  have failed : (fun i => (t.lamp i).failed) = fun i => (s.lamp i).failed := funext h.failed
  have level : t.lampLevel n = s.lampLevel n := by
    rw [State.lampLevel, State.lampLevel, own, cfg]
    simp only [h.failed]
  have critical : t.criticalDemand n = s.criticalDemand n := h.demandOn n _
  rw [State.presentedLevel, State.presentedLevel, h.mode, h.ign, h.check, cfg, h.forced, level, critical]

theorem LampReads.lampsFrozen (h : LampReads s t) : t.lampsFrozen = s.lampsFrozen := by
  rw [State.lampsFrozen, State.lampsFrozen, h.mode, h.hold, h.supply]

theorem LampReads.shows (h : LampReads s t) (lamps : ∀ n, (t.lamp n).published = (s.lamp n).published) (k : s.Shows) :
    t.Shows := fun free n => by
  rw [lamps n, h.presentedLevel n]
  exact k (h.lampsFrozen ▸ free) n

/-- PRU's outputs are as its inputs want them. -/
structure Lit (s : State) : Prop where
  shows : s.Shows
  winner : s.pru.winner = s.dueWinner
  hushed : s.Hushed

theorem laws_iff_lit : TelltaleLaw s ∧ ChimeLaw s ↔ Lit s := by
  rw [telltaleLaw_iff, chimeLaw_iff]
  exact ⟨fun ⟨shows, winner, hushed⟩ => ⟨shows, winner, hushed⟩, fun h => ⟨h.shows, h.winner, h.hushed⟩⟩

/-- From `s` to `t` PRU reads the same and puts out the same. -/
structure PassesOn (s t : State) : Prop where
  reads : ReadsSame s t
  lamps : ∀ n, (t.lamp n).published = (s.lamp n).published
  winner : t.pru.winner = s.pru.winner
  tone : t.pru.tone = s.pru.tone

theorem PassesOn.refl (s : State) : PassesOn s s := ⟨.refl s, fun _ => rfl, rfl, rfl⟩

theorem PassesOn.trans {u : State} (h : PassesOn s t) (k : PassesOn t u) : PassesOn s u :=
  ⟨h.reads.trans k.reads, fun n => (k.lamps n).trans (h.lamps n), k.winner.trans h.winner, k.tone.trans h.tone⟩

theorem PassesOn.ite {u : State} {c : Prop} [Decidable c] (h : PassesOn s t) (k : PassesOn s u) :
    PassesOn s (if c then t else u) := by split <;> assumption

theorem PassesOn.foldl {α : Type} (f : State → α → State) (h : ∀ s a, PassesOn s (f s a)) (xs : List α) (s : State) :
    PassesOn s (xs.foldl f s) := by
  induction xs generalizing s with
  | nil => exact .refl s
  | cons a xs ih => exact (h s a).trans (ih (f s a))

theorem PassesOn.hushed (h : PassesOn s t) (k : s.Hushed) : t.Hushed := fun winner chime =>
  h.tone.trans (k (h.winner.symm.trans winner) (h.reads.chime.symm.trans chime))

theorem Lit.keep (k : Lit s) (h : PassesOn s t) : Lit t :=
  ⟨h.reads.lampReads.shows h.lamps k.shows, h.winner.trans (k.winner.trans h.reads.dueWinner.symm), h.hushed k.hushed⟩

theorem OnlyChanges.passesOn {l : List Part} (h : OnlyChanges l s t)
    (mctl : partsIn [.mctl] l = false := by with_unfolding_all rfl)
    (wev : partsIn [.wev] l = false := by with_unfolding_all rfl)
    (pru : partsIn [.pru] l = false := by with_unfolding_all rfl)
    (forcing : partsIn [.forcing] l = false := by with_unfolding_all rfl)
    (link : partsIn [.link] l = false := by with_unfolding_all rfl)
    (tables : partsIn [.tables] l = false := by with_unfolding_all rfl) : PassesOn s t := by
  have same : t.pru = s.pru := h.same .pru pru
  exact ⟨h.readsSame mctl wev pru forcing link tables, fun n => by rw [State.lamp, State.lamp, same], by rw [same],
    by rw [same]⟩

/-- A change that reaches MCTL, but not what PRU reads there. -/
theorem OnlyChanges.passesOn_of {l : List Part} (h : OnlyChanges l s t) (mode : t.mode = s.mode)
    (supply : t.supply = s.supply) (ign : t.mctl.ign = s.mctl.ign)
    (wev : partsIn [.wev] l = false := by with_unfolding_all rfl)
    (pru : partsIn [.pru] l = false := by with_unfolding_all rfl)
    (forcing : partsIn [.forcing] l = false := by with_unfolding_all rfl)
    (link : partsIn [.link] l = false := by with_unfolding_all rfl)
    (tables : partsIn [.tables] l = false := by with_unfolding_all rfl) : PassesOn s t := by
  have hw : t.wev = s.wev := h.same .wev wev
  have hp : t.pru = s.pru := h.same .pru pru
  have hl : t.lif.link = s.lif.link := h.same .link link
  have hf : t.wsv.forcing = s.wsv.forcing := h.same .forcing forcing
  refine ⟨⟨mode, supply, ign, fun m => ?_, h.same .tables tables, (congrArg Lif.silence hl :), (congrArg Lif.hold hl :),
    (congrArg Wsv.lamps hf :), (congrArg Wsv.chime hf :), by rw [hp], by rw [hp], fun n => by rw [State.lamp, State.lamp, hp]⟩,
    fun n => by rw [State.lamp, State.lamp, hp], by rw [hp], by rw [hp]⟩
  rw [State.rule, State.rule, hw]
  exact ⟨rfl, rfl⟩

/-- What a change of MCTL must keep. -/
theorem PassesOn.modMctl (s : State) (f : Mctl → Mctl) (mode : ∀ c, (f c).mode = c.mode)
    (supply : ∀ c, (f c).supply = c.supply) (ign : ∀ c, (f c).ign = c.ign) : PassesOn s (s.modMctl f) :=
  ⟨⟨mode _, supply _, ign _, fun _ => ⟨rfl, rfl⟩, rfl, rfl, rfl, rfl, rfl, rfl, rfl, fun _ => rfl⟩, fun _ => rfl, rfl, rfl⟩

theorem PassesOn.modLif (s : State) (f : Lif → Lif) (silence : (f s.lif).silence = s.lif.silence)
    (hold : (f s.lif).hold = s.lif.hold) : PassesOn s (s.modLif f) := ⟨.modLif s f silence hold, fun _ => rfl, rfl, rfl⟩

theorem PassesOn.attend (s : State) (c : Cause) : PassesOn s (s.attend c) := .modLif s _ rfl rfl

theorem PassesOn.modLamp (s : State) (n : Fin 24) (f : Lamp → Lamp) (published : ∀ l, (f l).published = l.published)
    (failed : ∀ l, (f l).failed = l.failed) : PassesOn s (s.modLamp n f) := by
  have same {α : Type} (g : Lamp → α) (keeps : ∀ l, g (f l) = g l) (j : Fin 24) :
      g ((s.modLamp n f).lamp j) = g (s.lamp j) := by
    by_cases e : n = j
    · subst e; rw [State.modLamp_same]; exact keeps _
    · rw [State.modLamp_other _ _ _ _ e]
  exact ⟨⟨rfl, rfl, rfl, fun _ => ⟨rfl, rfl⟩, rfl, rfl, rfl, rfl, rfl, rfl, rfl, same _ failed⟩, same _ published, rfl, rfl⟩

theorem PassesOn.modRule (s : State) (m : Fin 64) (f : RuleRec → RuleRec) (st : (f (s.rule m)).st = (s.rule m).st)
    (seq : (f (s.rule m)).seq = (s.rule m).seq) : PassesOn s (s.modRule m f) :=
  ⟨⟨rfl, rfl, rfl, (KeepsList.modRule s m f st seq).rules, rfl, rfl, rfl, rfl, rfl, rfl, rfl, fun _ => rfl⟩,
    fun _ => rfl, rfl, rfl⟩

theorem PassesOn.followCalls (s : State) : PassesOn s s.followCalls :=
  ⟨s.followCalls_putsOut.readsSame, fun n => by rw [s.followCalls_lamp, Lamp.timeSuccess_eq],
    by simp only [State.followCalls, State.modPru_pru], by simp only [State.followCalls, State.modPru_pru]⟩

/-! ### What keeps the sounder off -/

/-- From `s` to `t` a sounder that is off without a pattern stays so. -/
def Hushes (s t : State) : Prop := s.Hushed → t.Hushed

theorem PassesOn.hushes (h : PassesOn s t) : Hushes s t := h.hushed

theorem Hushes.of_same (winner : t.pru.winner = s.pru.winner) (tone : t.pru.tone = s.pru.tone)
    (chime : t.wsv.chime = s.wsv.chime) : Hushes s t := fun k w c =>
  tone.trans (k (winner.symm.trans w) (chime.symm.trans c))

theorem OnlyChanges.hushes {l : List Part} (h : OnlyChanges l s t)
    (pru : partsIn [.pru] l = false := by with_unfolding_all rfl)
    (forcing : partsIn [.forcing] l = false := by with_unfolding_all rfl) : Hushes s t := by
  have same : t.pru = s.pru := h.same .pru pru
  have forced : t.wsv.forcing = s.wsv.forcing := h.same .forcing forcing
  exact .of_same (by rw [same]) (by rw [same]) (congrArg Wsv.chime forced :)

theorem Hushes.modPru (s : State) (f : Pru → Pru) (winner : (f s.pru).winner = s.pru.winner)
    (tone : (f s.pru).tone = s.pru.tone) : Hushes s (s.modPru f) := .of_same winner tone rfl

theorem Hushes.ite {u : State} {c : Prop} [Decidable c] (h : Hushes s t) (k : Hushes s u) :
    Hushes s (if c then t else u) := by split <;> assumption

theorem Hushes.refl (s : State) : Hushes s s := id

theorem Hushes.trans {u : State} (h : Hushes s t) (k : Hushes t u) : Hushes s u := fun x => k (h x)

theorem State.refreshChime_hushes (s : State) : Hushes s s.refreshChime := by
  intro k winner chime
  have chime : s.wsv.chime = none := (s.refreshChime_putsOut.readsSame.chime).symm.trans chime
  rw [s.refreshChime_pru] at winner ⊢
  have due : s.dueWinner = none := winner
  dsimp only
  split
  case isTrue same => exact k (same.symm.trans due) chime
  case isFalse => rw [due]; rfl

theorem State.soundOff_hushed (s : State) : s.soundOff.Hushed := fun _ _ => rfl

theorem State.publishLamps_hushes (s : State) : Hushes s s.publishLamps :=
  .of_same (by simp only [State.publishLamps, State.followCalls, State.modPru_pru])
    (by simp only [State.publishLamps, State.followCalls, State.modPru_pru]) s.publishLamps_putsOut.readsSame.chime

theorem State.refreshLamps_hushes (s : State) : Hushes s s.refreshLamps := .ite (.refl s) s.publishLamps_hushes

theorem State.refreshPru_hushes (s : State) : Hushes s s.refreshPru :=
  s.refreshLamps_hushes.trans (State.refreshChime_hushes _)

/-! ### A refresh -/

theorem State.refreshChime_winner (s : State) : s.refreshChime.pru.winner = s.refreshChime.dueWinner := by
  rw [s.refreshChime_putsOut.readsSame.dueWinner, s.refreshChime_pru]

theorem State.refreshPru_lit (s : State) (h : s.Hushed) : Lit s.refreshPru := by
  refine ⟨fun free n => ?_, ?_, s.refreshPru_hushes h⟩
  · have reads := s.refreshPru_putsOut.readsSame
    rw [s.refreshPru_published, if_neg (by rw [← reads.lampsFrozen, free]; exact Bool.false_ne_true), reads.presentedLevel]
  · exact s.refreshPru_winner.trans s.refreshPru_putsOut.readsSame.dueWinner.symm

/-- R124, R128: published levels and winner brought up to date at an ignition-on, whatever holds them. -/
theorem State.published_lit (s : State) (h : s.Hushed) : Lit s.publishLamps.refreshChime := by
  have reads := s.publishLamps_putsOut.readsSame.trans s.publishLamps.refreshChime_putsOut.readsSame
  refine ⟨fun _ n => ?_, s.publishLamps.refreshChime_winner, (s.publishLamps_hushes.trans (State.refreshChime_hushes _)) h⟩
  rw [s.publishLamps.refreshChime_lamp, s.publishLamps_published, reads.presentedLevel]

/-- A refresh of the chime alone, after a change that the lamps do not read. -/
theorem State.refreshChime_lit (reads : LampReads s t) (lamps : ∀ n, (t.lamp n).published = (s.lamp n).published)
    (h : Lit s) (hushed : t.Hushed) : Lit t.refreshChime := by
  refine ⟨?_, t.refreshChime_winner, t.refreshChime_hushes hushed⟩
  have shows : t.Shows := reads.shows lamps h.shows
  exact t.refreshChime_putsOut.readsSame.lampReads.shows (fun n => by rw [t.refreshChime_lamp]) shows

/-! ### The evaluator -/

theorem State.listChange_hushes (s : State) (m : Fin 64) (old : RuleState) : Hushes s (s.listChange m old) := by
  have publishes (u : State) : Hushes u u.publishList := .ite (.refl u) (.modPru u _ rfl rfl)
  have delists : Hushes s (s.delist m) := by
    delta State.delist
    extract_lets u
    refine .ite ?_ (.refl s)
    have h : Hushes s u := .modPru s _ rfl rfl
    split
    · exact h.trans (.modPru u _ rfl rfl)
    · exact h
  unfold State.listChange
  dsimp only
  repeat' split
  · exact .trans (.modPru s _ rfl rfl) (publishes _)
  · exact .trans (.modPru s _ rfl rfl) (publishes _)
  · exact delists.trans (publishes _)
  · exact .refl s
  · exact .refl s

/-- A record that keeps its state, and its sequence where it is unacknowledged, changes nothing that PRU shows. -/
theorem Lit.restated (h : Lit s) (m : Fin 64) (f : RuleRec → RuleRec) (st : (f (s.rule m)).st = (s.rule m).st)
    (seq : (s.rule m).st.isUnacked = true → (f (s.rule m)).seq = (s.rule m).seq) : Lit (s.modRule m f) := by
  have states (j : Fin 64) : ((s.modRule m f).rule j).st = (s.rule j).st := by
    by_cases e : m = j
    · subst e; rw [State.modRule_same]; exact st
    · rw [State.modRule_other _ _ _ _ e]
  have candidate (j : Fin 64) : (s.modRule m f).ChimeCandidate j ↔ s.ChimeCandidate j := by
    rw [State.ChimeCandidate, State.ChimeCandidate, states]
    exact Iff.rfl
  have entry (j : Fin 64) (ok : s.ChimeCandidate j) : (s.modRule m f).entryOf j = s.entryOf j := by
    have seqs : ((s.modRule m f).rule j).seq = (s.rule j).seq := by
      by_cases e : m = j
      · subst e
        rw [State.modRule_same]
        refine seq ?_
        obtain new | latched := ok.1
        · rw [new]; rfl
        · rw [latched]; rfl
      · rw [State.modRule_other _ _ _ _ e]
    rw [State.entryOf, State.entryOf, states, seqs]
    rfl
  have reads : LampReads s (s.modRule m f) := by
    refine ⟨rfl, rfl, rfl, rfl, rfl, fun j => ?_, rfl, rfl, fun _ => rfl⟩
    rw [State.demand, State.demand, states]
    rfl
  refine ⟨reads.shows (fun _ => rfl) h.shows, ?_, h.hushed⟩
  have silenced : (s.modRule m f).chimeSilenced = s.chimeSilenced := rfl
  refine Option.ext fun j => ?_
  change s.pru.winner = some j ↔ (s.modRule m f).dueWinner = some j
  rw [h.winner, State.dueWinner_some, State.dueWinner_some, silenced, candidate]
  refine and_congr_right fun _ => and_congr_right fun ok => forall_congr' fun i => imp_congr_right fun _ => ?_
  rw [candidate]
  refine imp_congr_right fun ok' => ?_
  rw [entry j ok, entry i ok']

theorem Lit.changeRule (h : Lit s) (m : Fin 64) (f : RuleRec → RuleRec)
    (sequence : (s.rule m).st.isUnacked = true → (f (s.rule m)).st.isUnacked = true →
      (f (s.rule m)).seq = (s.rule m).seq) : Lit (s.changeRule m f) := by
  delta State.changeRule
  extract_lets old s1 new s2 s3 s4
  split
  case isTrue same =>
    have st : (f (s.rule m)).st = (s.rule m).st := by
      have after : new = (f (s.rule m)).st := congrArg RuleRec.st (s.modRule_same m f)
      exact after.symm.trans same.symm
    exact h.restated m f st fun unacked => sequence unacked (st ▸ unacked)
  case isFalse =>
    have h1 : Hushes s s1 := (s.modRule_only m f).hushes
    have h2 : Hushes s1 s2 := (s1.attend_only _).hushes
    have h3 : Hushes s2 s3 := .ite (.modPru s2 _ rfl rfl) (.refl s2)
    have h4 : Hushes s3 s4 := .ite (.ite ((s3.reportCleared_only _).hushes.trans (State.modRule_only _ m _).hushes)
      (.refl s3)) (.refl s3)
    refine State.refreshPru_lit _ ?_
    exact (((h1.trans h2).trans (h3.trans h4)).trans (s4.listChange_hushes m old)) h.hushed

theorem Lit.rules : RuleStable Lit where
  quiet s m f st seq h := h.keep (.modRule s m f st seq)
  counter s n h := h.keep
    ⟨⟨rfl, rfl, rfl, fun _ => ⟨rfl, rfl⟩, rfl, rfl, rfl, rfl, rfl, rfl, rfl, fun _ => rfl⟩, fun _ => rfl, rfl, rfl⟩
  report s c a h := h.keep (s.report_only c a).passesOn
  change _ m f sequence h := h.changeRule m f sequence

theorem State.changeRule_hushes (s : State) (m : Fin 64) (f : RuleRec → RuleRec) : Hushes s (s.changeRule m f) := by
  delta State.changeRule
  extract_lets old s1 new s2 s3 s4
  have h1 : Hushes s s1 := (s.modRule_only m f).hushes
  have h2 : Hushes s1 s2 := (s1.attend_only _).hushes
  have h3 : Hushes s2 s3 := .ite (.modPru s2 _ rfl rfl) (.refl s2)
  have h4 : Hushes s3 s4 := .ite (.ite ((s3.reportCleared_only _).hushes.trans (State.modRule_only _ m _).hushes)
    (.refl s3)) (.refl s3)
  exact .ite h1 (((h1.trans h2).trans (h3.trans h4)).trans ((s4.listChange_hushes m old).trans (State.refreshPru_hushes _)))

theorem Hushes.rules (s : State) : RuleStable (Hushes s) where
  quiet _ _ _ _ _ h := h.trans (State.modRule_only _ _ _).hushes
  counter _ _ h := h.trans (State.modWev_only _ _).hushes
  report _ _ _ h := h.trans (State.report_only _ _ _).hushes
  change _ _ _ _ h := h.trans (State.changeRule_hushes _ _ _)

end

end Sys2Proof.Machine
end

section
/-! PROOFS. The laws of the telltales and of the chime through every command: each operation ends in a refresh of PRU, or
changes nothing that PRU reads. -/

namespace Sys2Proof.Machine
set_option Elab.async false

section
variable {s : State}

theorem PassesOn.ignSample (s : State) (active : Bool) : PassesOn s (s.modMctl (Mctl.ignSample active s.now)) := by
  have same (c : Mctl) : (c.ignSample active s.now).mode = c.mode ∧ (c.ignSample active s.now).supply = c.supply ∧
      (c.ignSample active s.now).ign = c.ign := by
    unfold Mctl.ignSample
    dsimp only
    repeat' split
    all_goals exact ⟨rfl, rfl, rfl⟩
  exact .modMctl s _ (fun c => (same c).1) (fun c => (same c).2.1) fun c => (same c).2.2

/-! ### Lamps and forcing -/

theorem Lit.atExpiry (h : Lit s) (timer : Timer) (figure : Nat) (k : State → State) (keeps : ∀ s, Lit s → Lit (k s)) :
    Lit (atExpiry timer figure k s) :=
  atExpiry_cases s _ _ _ Lit h fun _ _ => keeps _ (h.keep (State.reach_only s _).passesOn)

theorem Lit.ite {t u : State} {c : Prop} [Decidable c] (h : Lit t) (k : Lit u) : Lit (if c then t else u) := by
  split <;> assumption

theorem Hushes.modLamp (s : State) (n : Fin 24) (f : Lamp → Lamp) : Hushes s (s.modLamp n f) := .modPru s _ rfl rfl

theorem Hushes.modLif (s : State) (f : Lif → Lif) : Hushes s (s.modLif f) := .of_same rfl rfl rfl

theorem Lit.openTest (h : Lit s) (n : Fin 24) (low : Bool) : Lit (s.openTest n low) := by
  have becomes (b : Bool) : Lit (s.openBecomes n b) :=
    State.refreshPru_lit _ ((Hushes.trans (.modLamp s n _) (State.report_only _ _ _).hushes) h.hushed)
  have counts (x : Int) : Lit (s.modLamp n fun l => { l with openCount := x }) :=
    h.keep (.modLamp s n _ (by intro; rfl) (by intro; rfl))
  delta State.openTest
  extract_lets l c
  split
  · exact .ite (becomes _) (.ite (becomes _) (counts _))
  · exact .ite (becomes _) (counts _)
  · exact .ite (becomes _) (counts _)

theorem Lit.overcurrent (h : Lit s) (n : Fin 24) : Lit (s.overcurrent n) := by
  delta State.overcurrent
  extract_lets trip count u
  have h1 : PassesOn s trip := .modLamp s n _ (by intro; rfl) (by intro; rfl)
  have h2 : PassesOn trip u := .modLamp trip n _ (by intro; rfl) (by intro; rfl)
  have h3 : Hushes u ((u.modLamp n fun l => { l with shortStatus := .confirmed }).reportActive (.lamp n .short)).followCalls :=
    (Hushes.trans (.modLamp u n _) (State.reportActive_only _ _).hushes).trans (PassesOn.followCalls _).hushes
  have tripped := h.keep h1
  have counted := tripped.keep h2
  exact .ite (.ite (State.refreshPru_lit _ (h3 counted.hushed)) (counted.keep (.followCalls u)))
    (tripped.keep (.followCalls trip))

theorem Lit.onPeriodGood (h : Lit s) (n : Fin 24) : Lit (s.onPeriodGood n) := by
  delta State.onPeriodGood
  extract_lets status u
  have good : Lit u := h.keep (.modLamp s n _ (by intro; rfl) (by intro; rfl))
  refine .ite good (State.refreshPru_lit _ ?_)
  exact (Hushes.trans (.modLamp u n _) (State.reportCleared_only _ _).hushes) good.hushed

theorem State.settleLamps_hushes (s : State) : Hushes s s.settleLamps := by
  suffices all : ∀ (l : List (Fin 24)) (u : State), Hushes u (l.foldl (fun s n =>
      if (s.lampCfg n).suppressed then (s.reportAllCleared [.lamp n .openWire, .lamp n .short]).modLamp n fun l =>
        { l with openStatus := .good, shortStatus := .good } else s) u) from all _ s
  intro l
  induction l with
  | nil => exact fun u => .refl u
  | cons n l ih => exact fun u => .trans (.ite ((u.reportAllCleared_only _).hushes.trans (.modLamp _ n _)) (.refl u)) (ih _)

/-- A change of the forced levels, or of the forced positions. -/
theorem Hushes.modWsv (s : State) (f : Wsv → Wsv) (chime : (f s.wsv).chime = s.wsv.chime) : Hushes s (s.modWsv f) :=
  .of_same rfl rfl chime

theorem State.endLampForce_lit (n : Fin 24) (h : s.Hushed) : Lit (s.endLampForce n) :=
  State.refreshPru_lit _ (Hushes.modWsv s (fun w => { w with lamps := w.lamps.set n none }) rfl h)

theorem Lit.endNeedleForce (h : Lit s) (k : Fin 6) : Lit (s.endNeedleForce k) := by
  have unforced : PassesOn s (s.modWsv fun w => { w with needles := w.needles.set k none }) :=
    ⟨⟨rfl, rfl, rfl, fun _ => ⟨rfl, rfl⟩, rfl, rfl, rfl, rfl, rfl, rfl, rfl, fun _ => rfl⟩, fun _ => rfl, rfl, rfl⟩
  exact (h.keep unforced).keep (State.modNeedle_only _ _ _).passesOn

theorem Lit.endChimeForce (h : Lit s) : Lit s.endChimeForce := by
  refine State.refreshChime_lit (s := s) ⟨?_, ?_, ?_, ?_, ?_, ?_, ?_, ?_, ?_⟩ (fun _ => rfl) h (State.soundOff_hushed _)
  all_goals intros; rfl

theorem State.endChimeForce_hushes : Hushes s s.endChimeForce := fun _ =>
  State.refreshChime_hushes _ (State.soundOff_hushed _)

theorem Lit.endAllForcing (h : Lit s) : Lit s.endAllForcing := by
  have lamps : Lit s.endLampForces :=
    State.refreshPru_lit _ (Hushes.modWsv s (fun w => { w with lamps := .replicate 24 none }) rfl h.hushed)
  have unforced : PassesOn s.endLampForces (s.endLampForces.modWsv fun w => { w with needles := .replicate 6 none }) :=
    ⟨⟨rfl, rfl, rfl, fun _ => ⟨rfl, rfl⟩, rfl, rfl, rfl, rfl, rfl, rfl, rfl, fun _ => rfl⟩, fun _ => rfl, rfl, rfl⟩
  have needles : Lit s.endLampForces.endNeedleForces := (lamps.keep unforced).keep (forNeedles_only _ _).passesOn
  exact .ite needles.endChimeForce needles

theorem State.endAllForcing_hushes (s : State) : Hushes s s.endAllForcing := by
  intro h
  have lamps : Lit s.endLampForces :=
    State.refreshPru_lit _ (Hushes.modWsv s (fun w => { w with lamps := .replicate 24 none }) rfl h)
  have needles : Hushes s.endLampForces s.endLampForces.endNeedleForces :=
    .trans (.modWsv _ (fun w => { w with needles := .replicate 6 none }) rfl) (forNeedles_only _ _).hushes
  exact Hushes.ite State.endChimeForce_hushes (.refl _) (needles lamps.hushed)

/-! ### WORKSHOP -/

theorem State.leaveWorkshop_lit (h : s.Hushed) : Lit s.leaveWorkshop :=
  State.refreshPru_lit _ (((s.setMode_only .run).hushes.trans (State.endAllForcing_hushes _)) h)

theorem State.workshopToRun_lit (h : s.Hushed) : Lit s.workshopToRun :=
  (State.leaveWorkshop_lit h).keep (.attend _ _)

theorem Lit.leaveWorkshopIfMoving (h : Lit s) : Lit s.leaveWorkshopIfMoving := .ite (State.workshopToRun_lit h.hushed) h

theorem Lit.sampleLine (h : Lit s) (n : Fin 32) (mv : Nat) : Lit (s.sampleLine n mv) := by
  have buttons (u : State) (press : Bool) (h : Lit u) : Lit (u.buttonRoleChange n press) := by
    delta State.buttonRoleChange
    extract_lets c s1 s2
    have h1 : Lit s1 := .ite (h.keep u.releaseButton_only.passesOn) h
    have h2 : Lit s2 := .ite h1.leaveWorkshopIfMoving h1
    exact .ite (Lit.rules.ackButton h2) h2
  unfold State.sampleLine State.handOn
  have classified := h.keep (s.classify_only n mv).passesOn
  refine .ite classified ?_
  have doors := classified.keep (State.doorLineChange_only (s.classify n mv) n ((s.classify n mv).logical n)).passesOn
  exact buttons _ _ (doors.keep (State.interlockRoleChange_only _ n _).passesOn)

theorem Lit.speedUpdate (h : Lit s) (k : Fin 6) : Lit (s.speedUpdate k) :=
  .ite (h.keep s.doorSpeedUpdate_only.passesOn).leaveWorkshopIfMoving h

theorem Lit.feedTimeout (h : Lit s) (k : Fin 6) : Lit (s.feedTimeout k) := by
  have expired : Lit (s.feedExpired k) := h.keep (s.feedExpired_only k).passesOn
  unfold State.feedTimeout
  exact .ite (expired.speedUpdate k) expired

/-! ### Supply and link -/

theorem Lit.measureVb (h : Lit s) (mv : Nat) : Lit (s.measureVb mv) := by
  have change (u : State) (new : Supply) (h : Lit u) : Lit (u.changeSupply new) := by
    delta State.changeSupply
    extract_lets old s1 s2
    refine .ite h (State.refreshPru_lit _ ?_)
    have h1 : Hushes u s1 := (u.modMctl_only _).hushes.trans (State.attend_only _ _).hushes
    have h2 : Hushes s1 s2 := .ite s1.clearSupplyMarks_only.hushes (.refl s1)
    have h3 : Hushes s2 (s2.crankChange old new) := 
      .ite (Hushes.trans (forLines_only s2 _).hushes (forNeedles_only _ _).hushes)
        (.ite (Hushes.trans (s2.modMctl_only _).hushes (forNeedles_only _ _).hushes) (.refl s2))
    exact ((h1.trans (h2.trans h3)).trans ((forLines_only _ _).hushes.trans (State.gateDoorTimers_only _).hushes)) h.hushed
  have first (f : Mctl → Mctl) (mode : ∀ c, (f c).mode = c.mode) (supply : ∀ c, (f c).supply = c.supply)
      (ign : ∀ c, (f c).ign = c.ign) (new : Supply) : Lit ((s.modMctl f).changeSupply new) :=
    change _ new (h.keep (.modMctl s f mode supply ign))
  unfold State.measureVb
  exact .ite (first _ (by intro; rfl) (by intro; rfl) (by intro; rfl) _)
    (first _ (by intro; rfl) (by intro; rfl) (by intro; rfl) _)

theorem State.beginSilence_lit (h : s.Hushed) : Lit s.beginSilence := by
  delta State.beginSilence
  extract_lets s1 s2
  have h1 : Hushes s s1 := (Hushes.modLif s _).trans (State.attend_only _ _).hushes
  have h2 : Lit s2 := State.refreshPru_lit _ (((s1.reportActive_only _).hushes.trans (State.bump_only _ _).hushes) (h1 h))
  exact .ite (State.workshopToRun_lit h2.hushed) h2

theorem Lit.frameArrives (h : Lit s) (f : Frame) : Lit (s.frameArrives f) := by
  have error (u : State) : PassesOn u u.linkError := .trans (.modLif u _ rfl rfl) (.attend _ _)
  have timer (u : State) : PassesOn u u.restartSilenceTimer := .ite (.modLif u _ rfl rfl) (.refl u)
  have report : Hushes s s.silenceReport := .ite (.refl s) ((s.reportCleared_only _).hushes.trans (.modLif _ _))
  have heard : Lit s.hearHost := by
    refine .ite (State.refreshPru_lit _ ?_) (h.keep (timer s))
    exact ((report.trans (.modLif _ _)).trans (timer _).hushes) h.hushed
  unfold State.frameArrives
  exact .ite heard (.ite (heard.keep (error _)) (.ite (heard.keep (error _)) (heard.keep (.modLif _ _ rfl rfl))))

theorem Lit.takeByte (h : Lit s) (b : Byte) : Lit (s.takeByte b) := by
  have rx (r : Rx) : Lit (s.receiver r) := h.keep (.modLif s _ rfl rfl)
  have error {u : State} (k : Lit u) : Lit u.linkError := k.keep (.trans (.modLif u _ rfl rfl) (.attend _ _))
  unfold State.takeByte
  split
  · exact .ite (rx _) (error h)
  · exact .ite (rx _) (error (rx _))
  · exact rx _
  · exact rx _
  · exact rx _
  · exact rx _
  · exact .ite ((rx _).frameArrives _) (error (rx _))

/-! ### Modes and the hold -/

theorem State.settleBlocks_hushes (s : State) : Hushes s s.settleBlocks :=
  (((s.settleLines_only.hushes.trans (State.settleGauges_only _).hushes).trans
    ((Hushes.rules _).settleRules (.refl _))).trans (State.settleLamps_hushes _)).trans (State.settleDoors_only _).hushes

theorem State.restartPhase_hushes (s : State) : Hushes s s.restartPhase := by
  unfold State.restartPhase
  exact .trans (.modPru s _ rfl rfl) (PassesOn.followCalls _).hushes

theorem State.endHold_lit (h : s.Hushed) : Lit s.endHold := by
  have publishes (u : State) : Hushes u u.publishList := .ite (.refl u) (.modPru u _ rfl rfl)
  exact State.refreshPru_lit _ ((((Hushes.modLif s _).trans (publishes _)).trans (State.publishTargets_only _).hushes) h)

/-- R206: under a hold the lamps are frozen, or nothing is shown that the hold could freeze. -/
theorem Lit.beginHold (h : Lit s) : Lit s.beginHold := by
  refine ⟨fun free n => ?_, h.winner, h.hushed⟩
  have idle : s.mode.isRunning = false := by
    by_contra running
    have frozen := ((State.lampsFrozen_iff _).mp free (Bool.eq_true_of_not_eq_false running)).1
    cases frozen
  have before : s.lampsFrozen = false := s.lampsFrozen_iff.mpr fun running => by rw [idle] at running; cases running
  exact h.shows before n

theorem Lit.enterSleep (h : Lit s) : Lit s.enterSleep := by
  have ended : Hushes s s.endHoldForSleep := by
    unfold State.endHoldForSleep
    exact .trans (.ite (fun k => (State.endHold_lit k).hushed) (.refl s)) (.modLif _ _)
  delta State.enterSleep
  extract_lets s1 s2 s3 s4
  have h1 : Hushes s s1 := (ended.trans (State.setMode_only _ _).hushes).trans (State.modMctl_only _ _).hushes
  have h2 : OnlyChanges [.fmy, .hlm, .gve] s1 s2 :=
    ((s1.makeCounterDue_only.andThen (forLines_only _ _) (n := [.fmy, .hlm])).andThen
      (State.stopComparators_only _) (n := [.fmy, .hlm])).andThen (State.stopGauges_only _)
  have h3 : OnlyChanges (.ndr :: doorParts) s2 s3 :=
    (((forNeedles_only s2 _).andThen (State.gateDoorTimers_only _) (n := .ndr :: doorParts)).andThen
      (State.forceInterlock_only _) (n := .ndr :: doorParts)).andThen (State.refreshOutputs_only _)
  have h4 : Lit s4 := State.refreshPru_lit _
    (((h1.trans h2.hushes).trans (h3.hushes.trans ((Hushes.modPru s3 _ rfl rfl).trans (.modLif _ _)))) h.hushed)
  exact h4.keep (State.modSched_only _ _).passesOn

theorem State.wake_lit (h : s.Hushed) : Lit s.wake := by
  delta State.wake
  extract_lets s1 s2 s3
  have h1 : Hushes s s1 := ((s.setMode_only _).hushes.trans (State.attend_only _ _).hushes).trans (State.modMctl_only _ _).hushes
  have h2 : Hushes s1 s2 :=
    ((((s1.startScans_only.andThen (State.startServices_only _) (n := [.sched])).andThen
      (forLines_only _ _) (n := [.sched, .hlm])).andThen (forLines_only _ _) (n := [.sched, .hlm])).andThen
        (State.startComparators_only _) (n := [.sched, .hlm])).andThen (State.wakeGauges_only _)
          (n := [.sched, .hlm, .gve]) |>.hushes
  have h3 : Hushes s2 s3 := s2.gateDoorTimers_only.hushes.trans ((Hushes.modPru _ _ rfl rfl).trans (State.restartPhase_hushes _))
  have h4 : Hushes s3 s3.freeInterlock := s3.freeInterlock_only.hushes
  have h5 (u : State) : Hushes u u.startSilenceTimer.holdIfAsserted :=
    .trans (.modLif u _) (.ite (.modLif _ _) (.refl _))
  exact State.refreshPru_lit _ (((h1.trans h2).trans ((h3.trans h4).trans (h5 _))) h)

theorem Lit.wakeByLink (h : Lit s) : Lit s.wakeByLink := .ite (State.wake_lit h.hushed) h

theorem State.ignitionOn_lit (h : s.Hushed) : Lit s.ignitionOn := by
  delta State.ignitionOn
  extract_lets s1 s2 s3
  have h2 : Hushes s s2 := (s.bump_only _).hushes.trans (s1.modMctl_only _).hushes
  have h3 : Hushes s2 s3 := ((Hushes.modPru s2 _ rfl rfl).trans ((Hushes.rules _).endIgnitionLatches (.refl _))).trans
    (State.runNeedles_only _).hushes
  exact State.published_lit _ ((h2.trans h3) h)

theorem State.enterRun_lit (h : s.Hushed) : Lit s.enterRun := by
  have run : Hushes s (s.setMode .run) := (s.setMode_only .run).hushes
  exact State.ignitionOn_lit (run h)

theorem State.ignitionOff_lit (h : s.Hushed) : Lit s.ignitionOff := by
  delta State.ignitionOff
  extract_lets was s1 s2 s3
  have h2 : Hushes s s2 := (s.setMode_only _).hushes.trans (s1.modMctl_only _).hushes
  have h3 : Hushes s2 s3 := (((Hushes.modPru s2 _ rfl rfl).trans (State.ageFaults_only s2.endLampCheck).hushes).trans
    (State.withdrawAll_only _).hushes).trans (State.refreshOutputs_only _).hushes
  have forced (u : State) (m : Mode) : Hushes u (u.endForcingOf m) := .ite u.endAllForcing_hushes (.refl u)
  exact State.refreshPru_lit _ ((h2.trans (h3.trans ((forced s3 was).trans (State.parkNeedles_only _).hushes))) h)

theorem State.acceptIgn_lit (a : Bool) (h : s.Hushed) : Lit (s.acceptIgn a) := by
  delta State.acceptIgn
  extract_lets s1
  have kept : Hushes s s1 := (s.modMctl_only _).hushes
  have here : s1.Hushed := kept h
  split
  · exact (State.enterRun_lit here).keep (.attend _ _)
  · exact (State.ignitionOff_lit here).keep (.attend _ _)
  · exact (State.ignitionOff_lit here).keep (.attend _ _)
  · exact State.refreshPru_lit _ here

theorem State.endStartup_lit (h : s.Hushed) : Lit s.endStartup := by
  delta State.endStartup
  extract_lets passed s1 s2 s3 s4
  have h1 : Hushes s s1 := .of_same rfl rfl rfl
  have h2 : Hushes s1 s2 := (s1.attend_only _).hushes.trans (State.report_only _ _ _).hushes
  have link (u : State) : Hushes u u.settleLink := by
    unfold State.settleLink
    exact (u.reportCleared_only _).hushes.trans (.modLif _ _)
  have h3 : Hushes s2 s3 := s2.settleBlocks_hushes.trans (link _)
  have h4 : Hushes s3 s4 :=
    (((s3.dropUnclassified_only.andThen (State.startComparators_only _) (n := [.hlm])).andThen
      (State.startUnits_only _) (n := [.hlm, .gve])).andThen (State.startServices_only _)
        (n := [.hlm, .gve, .sched])).hushes
  have h5 : Hushes s4 (s4.leaveStartup passed) := by
    delta State.leaveStartup
    extract_lets u
    have run : Hushes s4 u := .ite (fun k => (State.enterRun_lit k).hushed) (s4.setMode_only _).hushes
    exact .ite ((run.trans (State.freeInterlock_only _).hushes).trans (.modLif _ _))
      ((s4.setMode_only _).hushes.trans (State.homeAllNeedles_only _).hushes)
  have h6 (u : State) : Hushes u u.holdIfAsserted := .ite (.modLif u _) (.refl u)
  exact State.refreshPru_lit _ (((((h1.trans h2).trans (h3.trans h4)).trans h5).trans (h6 _)) h)

theorem State.enterSetup_lit (h : s.Hushed) : Lit s.enterSetup := by
  delta State.enterSetup
  extract_lets s1
  have h1 : Hushes s s1 := (s.setWritten_only _).hushes.trans (State.setMode_only _ _).hushes
  have off : Hushes s1 s1.allRulesOff := (Hushes.rules s1).allRulesOff (.refl s1)
  exact State.refreshPru_lit _ ((h1.trans (((off.trans (State.parkNeedles_only _).hushes).trans
    (State.forceInterlock_only _).hushes).trans (.modLif _ _))) h)

theorem State.exitSetup_lit (w : Tables) : Lit (s.exitSetup w) := by
  have taken : (s.takeUpTables w).Hushed := fun _ _ => rfl
  delta State.exitSetup
  extract_lets s1 s2 s3 s4
  have removed : Hushes (s.takeUpTables w) s1 := (State.takeUpTables_removed w).hushes
  have h1 : s1.Hushed := removed taken
  have h3 : Hushes s1 s3 := (s1.settleBlocks_hushes.trans (State.startComparators_only _).hushes).trans
    (s2.modSched_only _).hushes
  have h4 : Hushes s3 s4 := .ite (fun k => (State.enterRun_lit k).hushed) (s3.setMode_only _).hushes
  exact State.refreshPru_lit _ (((h3.trans h4).trans ((State.freeInterlock_only _).hushes.trans (.modLif _ _))) h1)

theorem Lit.singleDone (h : Lit s) : Lit s.singleDone := by
  unfold State.singleDone
  refine .ite ?_ ?_
  · exact ⟨h.shows, h.winner, fun _ _ => rfl⟩
  · split
    · refine State.refreshChime_lit (s := s) ⟨?_, ?_, ?_, ?_, ?_, ?_, ?_, ?_, ?_⟩ (fun _ => rfl) h
        (Hushes.modPru s _ rfl rfl h.hushed)
      all_goals intros; rfl
    · exact h

/-- R129: a tone goes on only while there is a pattern. -/
theorem Lit.toneEdge (h : Lit s) (tone period : Nat) (sounds : s.pattern ≠ none) : Lit (s.toneEdge tone period) := by
  have reached (x : Int) : Lit (s.reach x) := h.keep (State.reach_only s x).passesOn
  unfold State.toneEdge
  dsimp only
  split
  · exact ⟨(reached _).shows, (reached _).winner, fun _ _ => rfl⟩
  · refine ⟨(reached _).shows, (reached _).winner, fun winner chime => absurd ?_ sounds⟩
    have winner : s.pru.winner = none := winner
    have chime : s.wsv.chime = none := chime
    rw [State.pattern, chime, winner]
    rfl

theorem Lit.sleepSample (h : Lit s) (ign : Bool) (mv : Vector Nat 32) : Lit (s.sleepSample ign mv) := by
  delta State.sleepSample
  extract_lets t s1
  have start : Lit s1 :=
    h.keep (OnlyChanges.passesOn (l := [.now, .sched]) (Advances.atMoment (l := [.sched]) s _ _).only)
  have lines : Lit (s1.sleepLines mv).1 := by
    suffices all : ∀ (l : List (Fin 32)) (q : State × Bool), Lit q.1 →
        Lit (l.foldl (fun (s, changed) n =>
          if s.watched n && (s.lineCfg n).fn.classified then
            let s' := s.sampleLine n mv[n]
            (s', changed || s'.logical n != s.logical n)
          else (s, changed)) q).1 from all _ (s1, false) start
    intro l
    induction l with
    | nil => exact fun _ h => h
    | cons n l ih =>
      refine fun q h => ih _ ?_
      dsimp only
      split
      · exact h.sampleLine n _
      · exact h
  revert lines
  obtain ⟨s2, changed⟩ := s1.sleepLines mv
  intro lines
  have read : Lit (s2.modMctl (Mctl.ignSample ign s2.now)) := lines.keep (.ignSample _ _)
  dsimp only
  split
  · exact State.wake_lit read.hushed
  · exact read

/-! ### Commands -/

theorem eventEffect_lit (c : Instr) (h : Lit s) : Lit (eventEffect c s) := by
  have only := (eventEffect_advances c s).only
  have moment (v : State) (k : OnlyChanges [.now, .sched] s v) : Lit v := h.keep k.passesOn
  have fresh (r : ResetCause) (f : Pins → Pins) : Lit ((s.hardReset r).modPins f) :=
    laws_iff_lit.mp ⟨((s.cutOffWrite.applyReset_afresh r).modPins f).telltaleLaw,
      ((s.cutOffWrite.applyReset_afresh r).modPins f).chimeLaw⟩
  have link {u : State} (k : Lit u) (f : Lif → Lif) (silence : (f u.lif).silence = u.lif.silence)
      (hold : (f u.lif).hold = u.lif.hold) : Lit (u.modLif f) := k.keep (.modLif u f silence hold)
  have abandon {u : State} (k : Lit u) : Lit u.abandon :=
    (link (link k (fun l => { l with rx := .hunt, gap := .stopped }) rfl rfl) _ rfl rfl).keep (.attend _ _)
  cases c
  case startupLoadComplete =>
    have mctl : s.completeLoad.mctl = s.slotsRead.mctl :=
      (s.completeLoad_parts.2.same .mctl).trans ((State.removeEntries_only s.slotsRead _).same .mctl)
    exact .ite (h.keep (s.completeLoad_only.passesOn_of s.completeLoad_mode
      ((congrArg Mctl.supply mctl).trans (rfl : s.slotsRead.supply = s.supply))
      ((congrArg Mctl.ign mctl).trans (rfl : s.slotsRead.mctl.ign = s.mctl.ign)))) h
  case startupEnd => exact .ite (State.endStartup_lit h.hushed) h
  case vbMeasurement mv ign =>
    refine .ite h (Lit.measureVb ?_ mv)
    exact (moment s.atVbMeasurement (Advances.atMoment (l := [.sched]) s _ _).only).keep (.ignSample _ _)
  case supplyLowReportExpiry =>
    exact h.atExpiry _ _ _ fun u k => (k.keep (u.report_only _ _).passesOn).keep
      (.modMctl _ _ (by intro; rfl) (by intro; rfl) (by intro; rfl))
  case supplyHighReportExpiry =>
    exact h.atExpiry _ _ _ fun u k => (k.keep (u.report_only _ _).passesOn).keep
      (.modMctl _ _ (by intro; rfl) (by intro; rfl) (by intro; rfl))
  case ignDebounceExpiry =>
    unfold eventEffect
    dsimp only
    split
    · exact h.atExpiry _ _ _ fun u k => State.acceptIgn_lit _ k.hushed
    · exact h
  case operatingMinuteElapsed =>
    unfold eventEffect
    dsimp only
    split
    · exact ((h.keep (State.reach_only s _).passesOn).keep (State.bump_only _ _).passesOn).keep
        (.modMctl _ _ (by intro; rfl) (by intro; rfl) (by intro; rfl))
    · exact h
  case sleepEntry => exact .ite h.enterSleep h
  case sleepSample ign mv => exact .ite (h.sleepSample ign mv) h
  case startOfReception idle => exact .ite h (link h.wakeByLink _ rfl rfl)
  case byteReceived b stopHigh =>
    have ends : Lit (s.wakeByLink.byteEnds b stopHigh) := link h.wakeByLink _ rfl rfl
    exact .ite h (.ite ends (.ite (ends.takeByte b) (link (abandon ends) _ rfl rfl)))
  case gapTimerExpiry => exact h.atExpiry _ _ _ fun u k => abandon k
  case replySent => exact .ite (link h _ rfl rfl) h
  case breakLatch => exact h.atExpiry _ _ _ fun u k => link k _ rfl rfl
  case breakRelease =>
    refine .ite ?_ (link h _ rfl rfl)
    exact fresh .linkBreak id
  case hostSilenceBegins => exact h.atExpiry _ _ _ fun u k => State.beginSilence_lit k.hushed
  case holdLineChange a =>
    refine .ite h ?_
    have pins : Lit (s.modPins fun p => { p with holdAsserted := a }) := h.keep (s.modPins_only _).passesOn
    refine .ite pins ?_
    generalize s.modPins (fun p => { p with holdAsserted := a }) = u at pins
    unfold State.holdChange
    exact .ite (.ite pins pins.beginHold) (.ite (State.endHold_lit pins.hushed) (link pins _ rfl rfl))
  case holdLimitExpiry =>
    exact h.atExpiry _ _ _ fun u k => (link (State.endHold_lit k.hushed) _ rfl rfl).keep (.attend _ _)
  case restartTakesEffect =>
    refine .ite (laws_iff_lit.mp ⟨(s.applyReset_afresh .restart).telltaleLaw, (s.applyReset_afresh .restart).chimeLaw⟩) h
  case lineSample n mv =>
    refine .ite ?_ h
    have here := moment (s.atLineSample n) (Advances.atMoment (l := [.sched]) s _ _).only
    exact .ite here (.ite (here.keep (State.measureOnly_only _ n mv).passesOn) (here.sampleLine n mv))
  case channelSample k =>
    refine .ite ?_ h
    have here := moment (s.atChannelSample k) (Advances.atMoment (l := [.sched]) s _ _).only
    exact Lit.speedUpdate (here.keep (State.sampleChannel_only _ k).passesOn) k
  case feedTimeout k => exact h.atExpiry _ _ _ fun u l => l.feedTimeout k
  case evaluationPass =>
    exact .ite (Lit.rules.pass (moment s.atPass (Advances.atMoment (l := [.sched]) s _ _).only)) h
  case lampCheckEnd =>
    exact h.atExpiry _ _ _ fun u k => State.refreshPru_lit _ (Hushes.modPru u _ rfl rfl k.hushed)
  case lampDiagnosticTick n low =>
    exact .ite (Lit.openTest (moment (s.atLampTick n) (Advances.atMoment (l := [.sched]) s _ _).only) n low) h
  case lampOvercurrent n => exact .ite (h.overcurrent n) h
  case lampRetryExpiry n =>
    exact h.atExpiry _ _ _ fun u k => (k.keep (.modLamp u n _ (by intro; rfl) (by intro; rfl))).keep (.followCalls _)
  case lampSuccessTimerExpiry n => exact h.atExpiry _ _ _ fun u k => k.onPeriodGood n
  case singleToneComplete => exact .ite (h.atExpiry _ _ _ fun u k => k.singleDone) h
  case chimeToneEdge =>
    unfold eventEffect
    dsimp only
    split
    case h_1 tone period repeats =>
      refine h.toneEdge tone period fun none => ?_
      rw [none] at repeats; cases repeats
    case h_2 => exact h
  case writeStart =>
    have mctl : s.startWrite.supply = s.supply ∧ s.startWrite.mctl.ign = s.mctl.ign := by
      unfold State.startWrite
      repeat' split
      all_goals exact ⟨rfl, rfl⟩
    exact h.keep (s.startWrite_only.passesOn_of s.startWrite_mode mctl.1 mctl.2)
  case counterSaveComplete =>
    unfold eventEffect
    dsimp only
    split
    case h_1 c write =>
      refine h.atExpiry _ _ _ fun u k => (k.keep (u.completeCounterSave_only c).passesOn).keep ?_
      generalize u.completeCounterSave c = v
      have mctl : v.restartAfterSave.supply = v.supply ∧ v.restartAfterSave.mctl.ign = v.mctl.ign := by
        unfold State.restartAfterSave
        repeat' split
        all_goals exact ⟨rfl, rfl⟩
      exact v.restartAfterSave_only.passesOn_of v.restartAfterSave_mode mctl.1 mctl.2
    case h_2 => exact h
  case lampForcingExpiry n =>
    unfold eventEffect
    dsimp only
    split
    · exact h.atExpiry _ _ _ fun u k => State.endLampForce_lit n k.hushed
    · exact h
  case chimeForcingExpiry =>
    unfold eventEffect
    dsimp only
    split
    · exact h.atExpiry _ _ _ fun u k => k.endChimeForce
    · exact h
  case flashPhaseAdvance =>
    refine .ite ?_ h
    have here := moment s.atFlash (Advances.atMoment (l := [.sched]) s _ _).only
    refine (here.keep ?_).keep (.followCalls _)
    exact ⟨⟨rfl, rfl, rfl, fun _ => ⟨rfl, rfl⟩, rfl, rfl, rfl, rfl, rfl, rfl, rfl, fun _ => rfl⟩, fun _ => rfl, rfl, rfl⟩
  case powerOnReset => exact fresh .powerOn fun p => { p with brownOut := false }
  case brownOut => exact .ite h (fresh _ _)
  case externalReset => exact .ite h (fresh _ _)
  all_goals exact h.keep only.passesOn

/-- R13: WORKSHOP shows what RUN shows. -/
theorem Lit.toWorkshop (h : Lit s) (m : s.mode = .run) : Lit (s.setMode .workshop) := by
  have running : s.mode.isRunning = true := by rw [m]; rfl
  have running' : (s.setMode .workshop).mode.isRunning = true := rfl
  have frozen : (s.setMode .workshop).lampsFrozen = s.lampsFrozen := by
    rw [State.lampsFrozen, State.lampsFrozen, running, running']
    rfl
  refine ⟨fun free n => ?_, h.winner.trans ?_, h.hushed⟩
  · rw [State.presentedLevel_running _ running']
    exact (h.shows (frozen ▸ free) n).trans (s.presentedLevel_running running n)
  · rw [State.dueWinner, State.dueWinner, State.chimeSilenced, State.chimeSilenced, running, running']
    rfl

theorem Lit.forceChime (h : Lit s) (x : Pattern) (duration : Nat) : Lit (s.forceChime x duration) := by
  have forced : Lit (s.modWsv fun w => { w with chime := some ⟨x, duration, .running s.now⟩ }).refreshChime := by
    refine State.refreshChime_lit (s := s) ⟨?_, ?_, ?_, ?_, ?_, ?_, ?_, ?_, ?_⟩ (fun _ => rfl) h fun _ none => by cases none
    all_goals intros; rfl
  have chime := (State.refreshChime_putsOut
    (s.modWsv fun w => { w with chime := some ⟨x, duration, .running s.now⟩ })).readsSame.chime
  refine ⟨forced.shows, forced.winner, fun _ silenced => ?_⟩
  have silent : (s.modWsv fun w => { w with chime := some ⟨x, duration, .running s.now⟩ }).wsv.chime = none :=
    chime.symm.trans silenced
  cases silent

theorem Lit.forceNeedle (h : Lit s) (k : Fin 6) (x : Nat) : Lit (s.forceNeedle k x) := by
  have forced : PassesOn s (s.modWsv fun w => { w with needles := w.needles.set k (some x) }) :=
    ⟨⟨rfl, rfl, rfl, fun _ => ⟨rfl, rfl⟩, rfl, rfl, rfl, rfl, rfl, rfl, rfl, fun _ => rfl⟩, fun _ => rfl, rfl, rfl⟩
  exact (h.keep forced).keep (State.needleForced_only _ k).passesOn

theorem requestService_lit (c : Instr) (h : Lit s) : Lit (requestService c s).1 := by
  have only := requestService_only c s
  cases c
  case setMode tag p =>
    by_cases m : s.mode = .setup
    · obtain e | ⟨-, e⟩ := setMode_in_setup tag p m <;> rw [e]
      · exact h
      · exact State.exitSetup_lit _
    · refine served_cases (P := Lit) h fun _ => ?_
      have enters := State.enterSetup_lit h.hushed
      have leaves := State.leaveWorkshop_lit h.hushed
      have sleeps : Lit (s.modMctl fun c => { c with sleepPending := true }) :=
        h.keep (.modMctl s _ (by intro; rfl) (by intro; rfl) (by intro; rfl))
      unfold setModeService
      repeat' split
      all_goals first
        | exact absurd ‹s.mode = .setup› m
        | with_reducible exact h
        | with_reducible exact enters
        | with_reducible exact leaves
        | with_reducible exact sleeps
        | with_reducible exact h.toWorkshop ‹_›
  case restart tag p =>
    refine served_cases (P := Lit) h fun _ => h.keep ?_
    have marked : PassesOn s (s.modMctl fun c => { c with restart := .waiting }) :=
      .modMctl s _ (by intro; rfl) (by intro; rfl) (by intro; rfl)
    exact (marked.trans (.modLif _ _ rfl rfl)).trans (State.makeCounterDue_only _).passesOn
  case acknowledge tag p =>
    refine served_cases (P := Lit) h fun started => ?_
    have acked (m : Fin 64) : Lit (s.ackRule m) := Lit.rules.ackRule m h
    unfold acknowledgeService
    repeat' split
    all_goals first | with_reducible exact h | with_reducible exact acked _
  case forceLamp tag p =>
    refine servedInWorkshop_cases (P := Lit) h fun _ => ?_
    unfold forceLampService
    repeat' split
    · exact State.refreshPru_lit _ (Hushes.modWsv s _ rfl h.hushed)
    all_goals exact h
  case forceNeedle tag p =>
    refine servedInWorkshop_cases (P := Lit) h fun _ => ?_
    unfold forceNeedleService
    repeat' split
    · exact h.forceNeedle _ _
    all_goals exact h
  case forceChime tag p =>
    refine servedInWorkshop_cases (P := Lit) h fun _ => ?_
    unfold forceChimeService
    repeat' split
    · exact h.forceChime _ _
    all_goals exact h
  case endForcing tag p =>
    refine servedInWorkshop_cases (P := Lit) h fun _ => ?_
    unfold endForcingService
    split
    · unfold State.endTarget
      refine .ite h ?_
      split
      · exact h.endAllForcing
      · exact State.endLampForce_lit _ h.hushed
      · exact h.endNeedleForce _
      · exact h.endChimeForce
    · exact h
  all_goals exact h.keep only.passesOn

theorem Lit.serve (h : Lit s) (f : Frame) (c : Instr) : Lit (s.serve f (requestService c)) :=
  (requestService_lit c h).keep
    (.modLif _ (fun l => { l with tx := some (f.reply (requestService c s).2.1 (requestService c s).2.2) }) rfl rfl)

end

/-- Every step keeps the laws of the telltales and of the chime. -/
theorem step_keeps_lit {s t : State} (h : Lit s) (e : step s = .next t) : Lit t :=
  step_keeps (P := Lit) (fun _ _ h => ⟨h.shows, h.winner, h.hushed⟩) (fun _ h => ⟨h.shows, h.winner, h.hushed⟩)
    (exec_keeps (fun _ _ h => State.wake_lit h.hushed) (fun _ h => h.keep (.modLif _ _ rfl rfl))
      (fun f _ h => h.frameArrives f) (fun c f _ _ _ h => h.serve f c) (fun c _ _ h => eventEffect_lit c h)) h e

end Sys2Proof.Machine
end

section
/-! PROOFS. Tables of points (R51, R65): the quotient rounded half away from zero, and the value between two points. -/

namespace Sys2Proof.Machine
set_option Elab.async false

/-- 0.6: the rounded quotient is the nearest integer, and of two equally near the one further from zero. -/
theorem divHalfAway_spec (num den : Int) (positive : 0 < den) :
    -den ≤ 2 * (divHalfAway num den * den - num) ∧ 2 * (divHalfAway num den * den - num) ≤ den ∧
      (0 ≤ num → -den < 2 * (divHalfAway num den * den - num)) ∧
      (num < 0 → 2 * (divHalfAway num den * den - num) < den) := by
  have bounds (a : Int) : 2 * (((2 * a + den) / (2 * den)) * den) ≤ 2 * a + den ∧
      2 * a + den < 2 * (((2 * a + den) / (2 * den)) * den) + 2 * den := by
    have low := Int.ediv_mul_le (2 * a + den) (show 2 * den ≠ 0 by omega)
    have high := Int.lt_ediv_add_one_mul_self (2 * a + den) (show 0 < 2 * den by omega)
    constructor <;> linarith
  unfold divHalfAway
  split
  case isTrue up =>
    obtain ⟨low, high⟩ := bounds num
    refine ⟨?_, ?_, fun _ => ?_, fun down => absurd up (not_le.mpr down)⟩ <;> linarith
  case isFalse down =>
    obtain ⟨low, high⟩ := bounds (-num)
    have down : num < 0 := not_le.mp down
    refine ⟨?_, ?_, fun up => absurd down (not_lt.mpr up), fun _ => ?_⟩ <;> linarith

/-- The rounded quotient stands between the integers that the exact one stands between. -/
theorem divHalfAway_le {num den k : Int} (positive : 0 < den) (h : num ≤ k * den) : divHalfAway num den ≤ k := by
  obtain ⟨-, high, -⟩ := divHalfAway_spec num den positive
  by_contra beyond
  have : k + 1 ≤ divHalfAway num den := by omega
  nlinarith

theorem le_divHalfAway {num den k : Int} (positive : 0 < den) (h : k * den ≤ num) : k ≤ divHalfAway num den := by
  obtain ⟨low, -⟩ := divHalfAway_spec num den positive
  by_contra beyond
  have : divHalfAway num den ≤ k - 1 := by omega
  nlinarith

theorem divHalfAway_zero {den : Int} (positive : 0 < den) : divHalfAway 0 den = 0 :=
  le_antisymm (divHalfAway_le positive (by simp)) (le_divHalfAway positive (by simp))

theorem increasing_iff (c : Curve) : increasing c = true ↔ c.Pairwise fun a b => a.1 < b.1 := by
  induction c with
  | nil => simp [increasing]
  | cons q c ih =>
    cases c with
    | nil => simp [increasing]
    | cons p c =>
      have step : increasing (q :: p :: c) = true ↔ q.1 < p.1 ∧ increasing (p :: c) = true := by
        simp [increasing]
      rw [step, ih, List.pairwise_cons (a := q)]
      refine and_congr_left fun rest => ?_
      refine ⟨fun first r mem => ?_, fun all => all p List.mem_cons_self⟩
      obtain rfl | there := List.mem_cons.mp mem
      · exact first
      · exact first.trans ((List.pairwise_cons.mp rest).1 r there)

/-- Points that are passed do not matter. -/
theorem curveFrom_append {x : Int} {q : Int × Int} (l : Curve) {p : Int × Int} {r : Curve}
    (below : ∀ e ∈ l, e.1 ≤ x) (at_ : p.1 ≤ x) : curveFrom x q (l ++ p :: r) = curveFrom x p r := by
  induction l generalizing q with
  | nil => exact if_neg (not_lt.mpr at_)
  | cons e l ih =>
    have first : curveFrom x q (e :: (l ++ p :: r)) = curveFrom x e (l ++ p :: r) :=
      if_neg (not_lt.mpr (below e List.mem_cons_self))
    exact first.trans (ih fun y mem => below y (List.mem_cons_of_mem _ mem))

theorem curveFrom_first {q : Int × Int} {r : Curve} (above : ∀ e ∈ r, q.1 < e.1) : curveFrom q.1 q r = q.2 := by
  cases r with
  | nil => rfl
  | cons p r =>
    have next := above p List.mem_cons_self
    rw [curveFrom, if_pos next, sub_self, zero_mul, divHalfAway_zero (by omega), add_zero]

/-- From a point at or below x on. -/
theorem curveAt_from {l : Curve} {q : Int × Int} {r : Curve} {x : Int}
    (rising : (l ++ q :: r).Pairwise fun a b => a.1 < b.1) (at_ : q.1 ≤ x) :
    curveAt (l ++ q :: r) x = some (curveFrom x q r) := by
  obtain ⟨-, tail, before⟩ := List.pairwise_append.mp rising
  have above := (List.pairwise_cons.mp tail).1
  cases l with
  | nil =>
    change some (if x ≤ q.1 then q.2 else curveFrom x q r) = _
    split
    case isTrue low =>
      obtain rfl : q.1 = x := le_antisymm at_ low
      rw [curveFrom_first above]
    case isFalse => rfl
  | cons e l =>
    have below (y : Int × Int) (mem : y ∈ e :: l) : y.1 < q.1 := before y mem q List.mem_cons_self
    change some (if x ≤ e.1 then e.2 else curveFrom x e (l ++ q :: r)) = _
    rw [if_neg (not_le.mpr ((below e List.mem_cons_self).trans_le at_)),
      curveFrom_append l (fun y mem => (below y (List.mem_cons_of_mem _ mem)).le.trans at_) at_]

theorem curveAt_point {c : Curve} (rising : c.Pairwise fun a b => a.1 < b.1) {q : Int × Int} (mem : q ∈ c) :
    curveAt c q.1 = some q.2 := by
  obtain ⟨l, r, rfl⟩ := List.append_of_mem mem
  have above := (List.pairwise_cons.mp (List.pairwise_append.mp rising).2.1).1
  rw [curveAt_from rising le_rfl, curveFrom_first above]

/-- The value between two neighbouring points, as the line has it. -/
theorem curveAt_between {l r : Curve} {q p : Int × Int} {x : Int}
    (rising : (l ++ q :: p :: r).Pairwise fun a b => a.1 < b.1) (left : q.1 ≤ x) (right : x ≤ p.1) :
    curveAt (l ++ q :: p :: r) x = some (q.2 + divHalfAway ((x - q.1) * (p.2 - q.2)) (p.1 - q.1)) := by
  have next : q.1 < p.1 := (List.pairwise_cons.mp (List.pairwise_append.mp rising).2.1).1 p List.mem_cons_self
  obtain below | rfl := lt_or_eq_of_le right
  · rw [curveAt_from rising left, curveFrom, if_pos below]
  · rw [curveAt_point rising (List.mem_append_right _ (List.mem_cons_of_mem _ List.mem_cons_self))]
    have whole : divHalfAway ((p.1 - q.1) * (p.2 - q.2)) (p.1 - q.1) = p.2 - q.2 :=
      le_antisymm (divHalfAway_le (by omega) (by rw [mul_comm])) (le_divHalfAway (by omega) (by rw [mul_comm]))
    rw [whole, add_sub_cancel]

/-- It stands between the values of the two points. -/
theorem between_bounds {q p : Int × Int} {x : Int} (next : q.1 < p.1) (left : q.1 ≤ x) (right : x ≤ p.1) :
    min q.2 p.2 ≤ q.2 + divHalfAway ((x - q.1) * (p.2 - q.2)) (p.1 - q.1) ∧
      q.2 + divHalfAway ((x - q.1) * (p.2 - q.2)) (p.1 - q.1) ≤ max q.2 p.2 := by
  have positive : 0 < p.1 - q.1 := by omega
  have into : 0 ≤ x - q.1 := by omega
  have short : x - q.1 ≤ p.1 - q.1 := by omega
  obtain rises | falls := le_total q.2 p.2
  · have low := le_divHalfAway (k := 0) positive (show 0 * (p.1 - q.1) ≤ (x - q.1) * (p.2 - q.2) by
      rw [zero_mul]; exact mul_nonneg into (by omega))
    have high := divHalfAway_le (k := p.2 - q.2) positive (show (x - q.1) * (p.2 - q.2) ≤ (p.2 - q.2) * (p.1 - q.1) by
      rw [mul_comm]; exact mul_le_mul_of_nonneg_left short (by omega))
    rw [min_eq_left rises, max_eq_right rises]
    omega
  · have high := divHalfAway_le (k := 0) positive (show (x - q.1) * (p.2 - q.2) ≤ 0 * (p.1 - q.1) by
      rw [zero_mul]; exact mul_nonpos_of_nonneg_of_nonpos into (by omega))
    have low := le_divHalfAway (k := p.2 - q.2) positive (show (p.2 - q.2) * (p.1 - q.1) ≤ (x - q.1) * (p.2 - q.2) by
      rw [mul_comm (x - q.1)]; exact mul_le_mul_of_nonpos_left short (by omega))
    rw [min_eq_right falls, max_eq_left falls]
    omega

/-- Settles O44: each x stands at or beyond an end, or between two neighbouring points. -/
theorem tablesAreReadBetweenTheirPoints : Obligations.TablesAreReadBetweenTheirPoints := by
  intro c rise
  have rising := (increasing_iff c).mp rise
  refine ⟨fun q mem => curveAt_point rising mem, fun q x first low => ?_, fun q x last high => ?_,
    fun l r q p x split left right => ?_⟩
  · obtain ⟨r, rfl⟩ := List.head?_eq_some_iff.mp first
    exact congrArg some (if_pos low)
  · obtain ⟨l, rfl⟩ := List.getLast?_eq_some_iff.mp last
    exact curveAt_from rising high
  · subst split
    have next : q.1 < p.1 := (List.pairwise_cons.mp (List.pairwise_append.mp rising).2.1).1 p List.mem_cons_self
    have positive : 0 < p.1 - q.1 := by omega
    obtain ⟨low, high⟩ := between_bounds next left right
    obtain ⟨down, up, fromZero, fromZero'⟩ := divHalfAway_spec ((x - q.1) * (p.2 - q.2)) (p.1 - q.1) positive
    refine ⟨_, curveAt_between rising left right, low, high, ?_, ?_⟩
    all_goals
      rw [add_sub_cancel_left]
      generalize divHalfAway ((x - q.1) * (p.2 - q.2)) (p.1 - q.1) * (p.1 - q.1) = whole at *
      generalize (x - q.1) * (p.2 - q.2) = num at *
      generalize p.1 - q.1 = den at *
    · obtain ⟨e, -⟩ | ⟨e, -⟩ := abs_cases (whole - num) <;> omega
    · intro half
      obtain above | below := le_or_gt 0 num
      · have strict := fromZero above
        have size : |whole - num| = whole - num := abs_of_nonneg (by
          obtain ⟨e, -⟩ | ⟨e, -⟩ := abs_cases (whole - num) <;> omega)
        rw [abs_of_nonneg above, abs_of_nonneg (by omega)]
        omega
      · have strict := fromZero' below
        have size : |whole - num| = -(whole - num) := abs_of_nonpos (by
          obtain ⟨e, -⟩ | ⟨e, -⟩ := abs_cases (whole - num) <;> omega)
        rw [abs_of_neg below, abs_of_nonpos (by omega)]
        omega

end Sys2Proof.Machine
end

section
/-! PROOFS. The law of the needles (R64 to R70, R78, R183): what keeps a needle within its scale, and the motion rule. -/

namespace Sys2Proof.Machine
set_option Elab.async false

/-! ### One needle -/

/-- From `n` to `n'` a needle takes no other position than it had, no higher speed and no higher target. -/
structure Needle.Tame (n n' : Needle) : Prop where
  pos : ∀ p, n'.pos = some p → n.pos = some p
  speed : n'.speed ≤ n.speed
  latest : n'.latest ≤ n.latest
  published : n'.published ≤ max n.published n.latest

namespace Needle
variable (n : Needle)

theorem Tame.refl : n.Tame n := ⟨fun _ h => h, le_rfl, le_rfl, le_max_left _ _⟩

variable {n} in
theorem Tame.trans {n' n'' : Needle} (h : n.Tame n') (k : n'.Tame n'') : n.Tame n'' := by
  refine ⟨fun p e => h.pos p (k.pos p e), k.speed.trans h.speed, k.latest.trans h.latest, ?_⟩
  have first := h.published
  have second := h.latest
  have third := k.published
  omega

/-- Only the state, the count or the direction changes. -/
theorem Tame.of_same {n' : Needle} (pos : n'.pos = n.pos) (speed : n'.speed = n.speed) (latest : n'.latest = n.latest)
    (published : n'.published = n.published) : n.Tame n' :=
  ⟨fun _ e => pos ▸ e, speed.le, latest.le, published ▸ le_max_left _ _⟩

theorem become_tame (x : NeedleState) : n.Tame (n.become x) := by
  unfold become
  split <;> exact .of_same n rfl rfl rfl rfl

theorem beginHoming_tame (pmax : Nat) : n.Tame (n.beginHoming pmax) := by
  have lost : n.Tame { n with count := pmax + 64, pos := none, speed := 0, dir := .down } :=
    ⟨fun _ e => (nomatch e), Nat.zero_le _, le_rfl, le_max_left _ _⟩
  exact lost.trans (become_tame _ _)

theorem takeForce_tame : n.Tame n.takeForce := by
  unfold takeForce
  split <;> exact .of_same n rfl rfl rfl rfl

theorem unforce_tame : n.Tame n.unforce := by
  unfold unforce
  split
  · exact n.become_tame _
  · exact .refl n

theorem suspend_tame : n.Tame n.suspend := by
  unfold suspend
  split
  · exact .refl n
  · exact .refl n
  · exact ⟨fun _ e => e, Nat.zero_le _, le_rfl, le_max_left _ _⟩

theorem wakeUp_tame : n.Tame n.wakeUp := by
  unfold wakeUp
  split
  · exact .of_same n rfl rfl rfl rfl
  · exact .refl n

theorem park_tame : n.Tame n.park := by
  unfold park
  split
  all_goals first | exact n.become_tame _ | exact .refl n

theorem enterRun_tame (c : ChannelCfg) : n.Tame (n.enterRun c) := by
  unfold enterRun
  dsimp only
  have first : n.Tame (if n.effective = .parked then n.become .tracking else n) := by
    split
    · exact n.become_tame _
    · exact .refl n
  generalize (if n.effective = .parked then n.become .tracking else n) = m at first
  split
  · exact first.trans (m.beginHoming_tame _)
  · exact first

theorem toSleep_tame : n.Tame n.toSleep := by
  unfold toSleep
  split
  · exact ⟨fun _ e => e, Nat.zero_le _, le_rfl, le_max_left _ _⟩
  · exact .of_same n rfl rfl rfl rfl
  · exact .refl n

theorem published_tame : n.Tame { n with published := n.latest } :=
  ⟨fun _ e => e, le_rfl, le_rfl, le_max_right _ _⟩

theorem aim_zero_tame (hold : Bool) : n.Tame (n.aim hold 0) := by
  refine ⟨fun _ e => e, le_rfl, Nat.zero_le _, ?_⟩
  unfold aim
  dsimp only
  split
  · exact le_max_left _ _
  · exact Nat.zero_le _

/-- A needle within the scale of a channel. -/
structure Within (pmax smax : Nat) (n : Needle) : Prop where
  pos : ∀ p, n.pos = some p → p ≤ pmax
  speed : n.speed ≤ smax
  latest : n.latest ≤ pmax
  published : n.published ≤ pmax

variable {n} {pmax smax : Nat}

theorem Within.tame {n' : Needle} (h : n.Within pmax smax) (k : n.Tame n') : n'.Within pmax smax :=
  ⟨fun p e => h.pos p (k.pos p e), k.speed.trans h.speed, k.latest.trans h.latest,
    k.published.trans (max_le h.published h.latest)⟩

/-- R65: an input within the scale. -/
theorem Within.aim (h : n.Within pmax smax) (hold : Bool) {t : Nat} (top : t ≤ pmax) : (n.aim hold t).Within pmax smax := by
  refine ⟨h.pos, h.speed, top, ?_⟩
  unfold Needle.aim
  dsimp only
  split
  · exact h.published
  · exact top

/-! ### The motion rule (R68, R69) -/

theorem foldl_max_spec (l : List Nat) : (∀ x ∈ l, x ≤ l.foldl max 0) ∧ (l.foldl max 0 = 0 ∨ l.foldl max 0 ∈ l) := by
  suffices all : ∀ (l : List Nat) (b : Nat), b ≤ l.foldl max b ∧ (∀ x ∈ l, x ≤ l.foldl max b) ∧
      (l.foldl max b = b ∨ l.foldl max b ∈ l) from (all l 0).2
  intro l
  induction l with
  | nil => exact fun b => ⟨le_rfl, fun x mem => absurd mem List.not_mem_nil, .inl rfl⟩
  | cons y l ih =>
    intro b
    obtain ⟨base, all, here⟩ := ih (max b y)
    rw [List.foldl_cons]
    refine ⟨(le_max_left _ _).trans base, fun x mem => ?_, ?_⟩
    · obtain rfl | there := List.mem_cons.mp mem
      · exact (le_max_right _ _).trans base
      · exact all x there
    · obtain e | there := here
      · obtain f | f := max_choice b y <;> rw [e, f]
        · exact .inl rfl
        · exact .inr List.mem_cons_self
      · exact .inr (List.mem_cons_of_mem _ there)

/-- Whether a needle at this speed can still stop within the way that remains. -/
def Stops (v : Nat) (rem : Int) : Prop := ((v * (v + 1) / 2 : Nat) : Int) ≤ rem

/-- R68, step 3: the largest of the three candidates that can stop, or one less than the old speed. -/
theorem nextSpeed_spec (speed smax : Nat) (rem : Int) :
    (Stops (nextSpeed speed smax rem) rem ∧ (nextSpeed speed smax rem = speed - 1 ∨ nextSpeed speed smax rem = speed ∨
        nextSpeed speed smax rem = min (speed + 1) smax) ∧
      ∀ x, x = speed - 1 ∨ x = speed ∨ x = min (speed + 1) smax → Stops x rem → x ≤ nextSpeed speed smax rem) ∨
    ((∀ x, x = speed - 1 ∨ x = speed ∨ x = min (speed + 1) smax → ¬ Stops x rem) ∧ nextSpeed speed smax rem = speed - 1) := by
  have member (x : Nat) : x ∈ [speed - 1, speed, min (speed + 1) smax].filter
      (fun c : Nat => decide (((c * (c + 1) / 2 : Nat) : Int) ≤ rem)) ↔
      (x = speed - 1 ∨ x = speed ∨ x = min (speed + 1) smax) ∧ Stops x rem := by
    rw [List.mem_filter, decide_eq_true_eq]
    simp [Stops]
  unfold nextSpeed
  dsimp only
  split
  case h_1 none =>
    refine .inr ⟨fun x candidate stops => ?_, rfl⟩
    have := (member x).mpr ⟨candidate, stops⟩
    rw [none] at this
    cases this
  case h_2 some =>
    obtain ⟨all, here⟩ := foldl_max_spec ([speed - 1, speed, min (speed + 1) smax].filter
      fun c : Nat => decide (((c * (c + 1) / 2 : Nat) : Int) ≤ rem))
    have inside : List.foldl max 0 ([speed - 1, speed, min (speed + 1) smax].filter
        fun c : Nat => decide (((c * (c + 1) / 2 : Nat) : Int) ≤ rem)) ∈
        [speed - 1, speed, min (speed + 1) smax].filter fun c : Nat => decide (((c * (c + 1) / 2 : Nat) : Int) ≤ rem) := by
      obtain zero | mem := here
      · cases e : [speed - 1, speed, min (speed + 1) smax].filter fun c : Nat => decide (((c * (c + 1) / 2 : Nat) : Int) ≤ rem) with
        | nil => exact absurd e some
        | cons y l =>
          have low := all y (by rw [e]; exact List.mem_cons_self)
          rw [zero] at low
          obtain rfl : y = 0 := Nat.le_zero.mp low
          rw [← e, zero, e]
          exact List.mem_cons_self
      · exact mem
    obtain ⟨candidate, stops⟩ := (member _).mp inside
    exact .inl ⟨stops, candidate, fun x candidate stops => all x ((member x).mpr ⟨candidate, stops⟩)⟩

theorem nextSpeed_bounds {speed smax : Nat} (rem : Int) (h : speed ≤ smax) : nextSpeed speed smax rem ≤ smax ∧
    nextSpeed speed smax rem ≤ speed + 1 ∧ speed ≤ nextSpeed speed smax rem + 1 := by
  obtain ⟨-, candidate, -⟩ | ⟨-, low⟩ := nextSpeed_spec speed smax rem <;> omega

/-- R68, R69: the way that remains in the direction of the turn. -/
def wayLeft (dir : Direction) (a target : Nat) : Int :=
  match dir with
  | .up => (target : Int) - a
  | .down => (a : Int) - target

/-- R69: the move by a speed in a direction, or to the end of the scale where it would pass it. -/
def moved (pmax a v : Nat) (dir : Direction) (n : Needle) : Needle :=
  match dir with
  | .up => if pmax < a + v then { n with pos := some pmax, speed := 0, dir := .up }
    else { n with pos := some (a + v), speed := v, dir := .up }
  | .down => if a < v then { n with pos := some 0, speed := 0, dir := .down }
    else { n with pos := some (a - v), speed := v, dir := .down }

variable (n) in
theorem moveTo_eq (target pmax smax a : Nat) : n.moveTo target pmax smax a =
    if n.speed = 0 ∧ a = target then n
    else n.moved pmax a (nextSpeed n.speed smax (wayLeft (turn n a target) a target)) (turn n a target) := by
  unfold moveTo
  split
  · rfl
  · dsimp only
    cases turn n a target <;> rfl

theorem Within.moved (h : n.Within pmax smax) {a v : Nat} (low : a ≤ pmax) (slow : v ≤ smax) (dir : Direction) :
    (n.moved pmax a v dir).Within pmax smax := by
  unfold Needle.moved
  split <;> split
  · exact ⟨fun p e => (by cases e; exact le_rfl), Nat.zero_le _, h.latest, h.published⟩
  · exact ⟨fun p e => (by cases e; omega), slow, h.latest, h.published⟩
  · exact ⟨fun p e => (by cases e; exact Nat.zero_le _), Nat.zero_le _, h.latest, h.published⟩
  · exact ⟨fun p e => (by cases e; omega), slow, h.latest, h.published⟩

theorem turnLeg_tame (n : Needle) (pmax : Nat) : n.Tame (n.turnLeg pmax) := by
  unfold turnLeg
  split
  · exact .of_same n rfl rfl rfl rfl
  · exact .refl n

theorem endLeg_tame (n : Needle) : n.Tame n.endLeg := by
  unfold endLeg
  repeat' split
  · exact .of_same n rfl rfl rfl rfl
  · exact .refl n
  · exact .refl n

theorem Within.interval (h : n.Within pmax smax) (forced : Option Nat) : (n.interval pmax smax forced).Within pmax smax := by
  unfold Needle.interval
  split
  case h_1 a t at_ _ =>
    have moves : (n.moveTo t pmax smax a).Within pmax smax := by
      rw [n.moveTo_eq]
      split
      · exact h
      · exact h.moved (h.pos a at_) (nextSpeed_bounds _ h.speed).1 _
    exact (moves.tame (turnLeg_tame _ _)).tame (endLeg_tame _)
  case h_2 => exact h

theorem Within.homingStep (h : n.Within pmax smax) (m : Mode) (forced : Option Nat) :
    (n.homingStep m forced).Within pmax smax := by
  unfold Needle.homingStep
  dsimp only
  generalize (n.count - if n.count = 1 then 1 else 2) = left
  by_cases done : left = 0
  · rw [if_pos done]
    exact ⟨fun p e => (by cases e; exact Nat.zero_le _), Nat.zero_le _, h.latest, h.published⟩
  · rw [if_neg done]
    exact ⟨h.pos, h.speed, h.latest, h.published⟩

/-- A needle as STARTUP has it. -/
theorem Within.blank (pos : n.pos = none) (speed : n.speed = 0) (latest : n.latest = 0) (published : n.published = 0) :
    n.Within pmax smax :=
  ⟨fun _ e => (nomatch pos.symm.trans e), speed ▸ Nat.zero_le _, latest ▸ Nat.zero_le _, published ▸ Nat.zero_le _⟩

end Needle

/-! ### All needles -/

/-- From `s` to `t` every needle keeps to what it had, and no forced position is new. -/
structure Tames (s t : State) : Prop where
  needles : ∀ k, (s.needle k).Tame (t.needle k)
  forced : ∀ (k : Fin 6) p, t.wsv.needles[k] = some p → s.wsv.needles[k] = some p
  tables : t.tables = s.tables
  startup : t.mode = .startup → s.mode = .startup

/-- From `s` to `t` besides, no forced position is left where WORKSHOP was. -/
structure Calms (s t : State) : Prop extends Tames s t where
  unforced : s.mode = .workshop → t.mode = .workshop ∨ ∀ k : Fin 6, t.wsv.needles[k] = none

section
variable {s t : State}

theorem Tames.refl (s : State) : Tames s s := ⟨fun _ => .refl _, fun _ _ h => h, rfl, id⟩

theorem Tames.trans {u : State} (h : Tames s t) (k : Tames t u) : Tames s u :=
  ⟨fun i => (h.needles i).trans (k.needles i), fun i p e => h.forced i p (k.forced i p e), k.tables.trans h.tables,
    fun m => h.startup (k.startup m)⟩

theorem Tames.ite {u : State} {c : Prop} [Decidable c] (h : Tames s t) (k : Tames s u) :
    Tames s (if c then t else u) := by split <;> assumption

theorem Tames.stays_unforced (h : Tames s t) {k : Fin 6} (before : s.wsv.needles[k] = none) : t.wsv.needles[k] = none := by
  cases e : t.wsv.needles[k] with
  | none => rfl
  | some p => rw [h.forced k p e] at before; cases before

theorem Tames.calm (h : Tames s t) (m : s.mode ≠ .workshop) : Calms s t := ⟨h, fun w => absurd w m⟩

theorem Tames.calms (h : Tames s t) (mode : t.mode = s.mode) : Calms s t := ⟨h, fun w => .inl (Eq.trans mode w)⟩

theorem Calms.refl (s : State) : Calms s s := ⟨.refl s, .inl⟩

theorem Calms.trans {u : State} (h : Calms s t) (k : Calms t u) : Calms s u := by
  refine ⟨h.toTames.trans k.toTames, fun w => ?_⟩
  obtain still | none := h.unforced w
  · exact k.unforced still
  · exact .inr fun i => k.stays_unforced (none i)

theorem Calms.ite {u : State} {c : Prop} [Decidable c] (h : Calms s t) (k : Calms s u) :
    Calms s (if c then t else u) := by split <;> assumption

theorem needleLaw_iff : NeedleLaw s ↔ (∀ k, (s.needle k).Within (s.channelCfg k).pmax (s.channelCfg k).smax) ∧
    (∀ (k : Fin 6) p, s.wsv.needles[k] = some p → s.mode = .workshop ∧ p ≤ (s.channelCfg k).pmax) ∧
    (s.mode = .startup → ∀ k, (s.needle k).pos = none ∧ (s.needle k).speed = 0 ∧
      (s.needle k).latest = 0 ∧ (s.needle k).published = 0) :=
  ⟨fun h => ⟨fun k => ⟨h.position k, h.speed k, (h.targets k).1, (h.targets k).2⟩, h.forced, h.startup⟩,
    fun ⟨within, forced, startup⟩ => ⟨fun k => (within k).pos, fun k => (within k).speed,
      fun k => ⟨(within k).latest, (within k).published⟩, forced, startup⟩⟩

theorem NeedleLaw.calm (law : NeedleLaw s) (h : Calms s t) : NeedleLaw t := by
  rw [needleLaw_iff] at law ⊢
  obtain ⟨within, forced, startup⟩ := law
  have cfg (k : Fin 6) : t.channelCfg k = s.channelCfg k := by rw [State.channelCfg, State.channelCfg, h.tables]
  refine ⟨fun k => ?_, fun k p e => ?_, fun m k => ?_⟩
  · rw [cfg]; exact (within k).tame (h.needles k)
  · obtain ⟨m, top⟩ := forced k p (h.forced k p e)
    rw [cfg]
    refine ⟨(h.unforced m).resolve_right fun none => ?_, top⟩
    rw [none k] at e
    cases e
  · obtain ⟨pos, speed, latest, published⟩ := startup (h.startup m) k
    have tame := h.needles k
    have highest := tame.published
    rw [latest, published, max_self] at highest
    refine ⟨?_, Nat.le_zero.mp (speed ▸ tame.speed), Nat.le_zero.mp (latest ▸ tame.latest), Nat.le_zero.mp highest⟩
    cases e : (t.needle k).pos with
    | none => rfl
    | some p => rw [tame.pos p e] at pos; cases pos

/-- Whether a change within these parts leaves alone what the law of the needles reads but for the mode. -/
def needleFree (l : List Part) : Bool :=
  !partsIn [.ndr] l && !partsIn [.forcing] l && !partsIn [.tables] l

theorem OnlyChanges.tames_of {l : List Part} (h : OnlyChanges l s t) (startup : t.mode = .startup → s.mode = .startup)
    (k : needleFree l = true := by with_unfolding_all rfl) : Tames s t := by
  simp only [needleFree, Bool.and_eq_true, Bool.not_eq_true'] at k
  obtain ⟨⟨ndr, forcing⟩, tables⟩ := k
  have needles : t.ndr = s.ndr := h.same .ndr ndr
  have forced : t.wsv.forcing = s.wsv.forcing := h.same .forcing forcing
  have records : t.wsv.needles = s.wsv.needles := (congrArg Wsv.needles forced :)
  refine ⟨fun k => ?_, fun k p e => by rw [← records]; exact e, h.same .tables tables, startup⟩
  rw [State.needle, State.needle, needles]
  exact .refl _

/-- A change that keeps the mode as well. -/
theorem OnlyChanges.calms_of {l : List Part} (h : OnlyChanges l s t) (mode : t.mode = s.mode)
    (k : needleFree l = true := by with_unfolding_all rfl) : Calms s t :=
  (h.tames_of (fun m => Eq.trans mode.symm m) k).calms mode

theorem OnlyChanges.calms {l : List Part} (h : OnlyChanges l s t)
    (mctl : partsIn [.mctl] l = false := by with_unfolding_all rfl)
    (k : needleFree l = true := by with_unfolding_all rfl) : Calms s t :=
  h.calms_of (h.keepsMode mctl) k

end

/-! ### Operations -/

section
variable (s : State)

theorem Calms.forNeedles (f : Fin 6 → Needle → Needle) (h : ∀ k, (s.needle k).Tame (f k (s.needle k))) :
    Calms s (forNeedles f s) := by
  refine ⟨⟨fun k => ?_, fun _ _ e => e, rfl, id⟩, .inl⟩
  have at_ : (Machine.forNeedles f s).needle k = f k (s.needle k) := by
    rw [State.needle, Machine.forNeedles, State.modNdr_ndr, updAll_get]
    rfl
  rw [at_]
  exact h k

theorem Calms.modNeedle (k : Fin 6) (f : Needle → Needle) (h : (s.needle k).Tame (f (s.needle k))) :
    Calms s (s.modNeedle k f) := by
  refine ⟨⟨fun j => ?_, fun _ _ e => e, rfl, id⟩, .inl⟩
  by_cases e : k = j
  · subst e; rw [State.modNeedle_same]; exact h
  · rw [State.modNeedle_other _ _ _ _ e]; exact .refl _

theorem State.endSweep_calms : Calms s s.endSweep := by
  have only := s.endSweep_only
  have forced : s.endSweep.wsv.forcing = s.wsv.forcing := only.same .forcing
  have records : s.endSweep.wsv.needles = s.wsv.needles := (congrArg Wsv.needles forced :)
  refine Tames.calms ⟨fun k => by rw [s.endSweep_needle]; exact .refl _, fun k p e => by rw [← records]; exact e,
    only.same .tables, fun m => Eq.trans only.keepsMode.symm m⟩ only.keepsMode

theorem State.startSweep_calms (named : List (Fin 6)) : Calms s (s.startSweep named) := by
  have started : Calms s (s.modNdr fun d => { d with sweep := true }) := ⟨⟨fun _ => .refl _, fun _ _ e => e, rfl, id⟩, .inl⟩
  refine (started.trans (.forNeedles _ _ fun k => ?_)).trans (State.endSweep_calms _)
  split
  · exact Needle.become_tame _ _
  · exact .refl _

theorem State.parkNeedles_calms : Calms s s.parkNeedles :=
  (Calms.forNeedles s _ fun _ => Needle.park_tame _).trans (State.endSweep_calms _)

theorem State.runNeedles_calms : Calms s s.runNeedles := .forNeedles s _ fun _ => Needle.enterRun_tame _ _

theorem State.homeAllNeedles_calms : Calms s s.homeAllNeedles := .forNeedles s _ fun _ => Needle.beginHoming_tame _ _

theorem Tames.setMode (m : Mode) (other : m ≠ .startup) : Tames s (s.setMode m) :=
  (s.setMode_only m).tames_of fun e => absurd e other

/-- The end of forcing records. -/
theorem Calms.modWsv (f : Wsv → Wsv) (h : ∀ (k : Fin 6) p, (f s.wsv).needles[k] = some p → s.wsv.needles[k] = some p) :
    Calms s (s.modWsv f) := ⟨⟨fun _ => .refl _, h, rfl, id⟩, .inl⟩

theorem Calms.modLif (f : Lif → Lif) : Calms s (s.modLif f) := ⟨⟨fun _ => .refl _, fun _ _ e => e, rfl, id⟩, .inl⟩

theorem State.endAllForcing_calms : Calms s s.endAllForcing := by
  have lamps (u : State) : Calms u u.endLampForces :=
    (Calms.modWsv u _ fun _ _ e => e).trans (State.refreshPru_only _).calms
  have needles (u : State) : Calms u u.endNeedleForces := by
    refine (Calms.modWsv u _ fun k p e => ?_).trans (.forNeedles _ _ fun _ => Needle.unforce_tame _)
    have none : (Vector.replicate 6 (none : Option Nat))[k] = some p := e
    simp at none
  have chime (u : State) : Calms u u.endChimeIfForced := by
    refine .ite ?_ (.refl u)
    have records : Calms u (u.modWsv fun w => { w with chime := none }) := .modWsv u _ fun _ _ e => e
    exact records.trans (.trans (State.soundOff_only _).calms (State.refreshChime_only _).calms)
  exact ((lamps s).trans (needles _)).trans (chime _)

/-- After the end of all forcing no position is forced. -/
theorem State.endAllForcing_unforced (k : Fin 6) : s.endAllForcing.wsv.needles[k] = none := by
  rw [State.endAllForcing_wsv]
  simp

theorem State.leaveWorkshop_calms : Calms s s.leaveWorkshop := by
  have run : Tames s (s.setMode .run) := .setMode s .run (by decide)
  have after : Calms (s.setMode .run).endAllForcing s.leaveWorkshop := (State.refreshPru_only _).calms
  exact ⟨(run.trans (State.endAllForcing_calms _).toTames).trans after.toTames,
    fun _ => .inr fun k => after.stays_unforced (State.endAllForcing_unforced _ k)⟩

theorem State.workshopToRun_calms : Calms s s.workshopToRun := s.leaveWorkshop_calms.trans (State.attend_only _ _).calms

theorem State.leaveWorkshopIfMoving_calms : Calms s s.leaveWorkshopIfMoving := .ite s.workshopToRun_calms (.refl s)

theorem State.sampleLine_calms (n : Fin 32) (mv : Nat) : Calms s (s.sampleLine n mv) := by
  have buttons (u : State) (press : Bool) : Calms u (u.buttonRoleChange n press) := by
    delta State.buttonRoleChange
    extract_lets c s1 s2
    have h1 : Calms u s1 := .ite u.releaseButton_only.calms (.refl u)
    have h2 : Calms s1 s2 := .ite s1.leaveWorkshopIfMoving_calms (.refl s1)
    exact (h1.trans h2).trans (.ite s2.ackButton_only.calms (.refl s2))
  unfold State.sampleLine State.handOn
  have classified := (s.classify_only n mv).calms
  refine .ite classified (classified.trans ?_)
  have doors := (State.doorLineChange_only (s.classify n mv) n ((s.classify n mv).logical n)).calms
  exact (doors.trans (State.interlockRoleChange_only _ n _).calms).trans (buttons _ _)

theorem State.speedUpdate_calms (k : Fin 6) : Calms s (s.speedUpdate k) :=
  .ite (s.doorSpeedUpdate_only.calms.trans (State.leaveWorkshopIfMoving_calms _)) (.refl s)

theorem State.measureVb_calms (mv : Nat) : Calms s (s.measureVb mv) := by
  have mctl (u : State) (f : Mctl → Mctl) (mode : ∀ c, (f c).mode = c.mode) : Calms u (u.modMctl f) :=
    (u.modMctl_only f).calms_of (mode u.mctl)
  have change (u : State) (new : Supply) : Calms u (u.changeSupply new) := by
    delta State.changeSupply
    extract_lets old s1 s2
    refine .ite (.refl u) ?_
    have h1 : Calms u s1 := (mctl u (Mctl.enterSupply new u.now) (by intro; rfl)).trans (State.attend_only _ _).calms
    have h2 : Calms s1 s2 := .ite (s1.clearSupplyMarks_only.calms_of s1.clearSupplyMarks_mode) (.refl s1)
    have h3 : Calms s2 (s2.crankChange old new) :=
      .ite (Calms.trans (forLines_only s2 _).calms (.forNeedles _ _ fun _ => Needle.wakeUp_tame _))
        (.ite ((mctl s2 Mctl.crankEntry (by intro; rfl)).trans (.forNeedles _ _ fun _ => Needle.suspend_tame _)) (.refl s2))
    exact (h1.trans (h2.trans h3)).trans
      (((forLines_only _ _).calms.trans (State.gateDoorTimers_only _).calms).trans (State.refreshPru_only _).calms)
  unfold State.measureVb
  exact .ite ((mctl s _ (by intro; rfl)).trans (change _ _)) ((mctl s _ (by intro; rfl)).trans (change _ _))

theorem State.beginSilence_calms : Calms s s.beginSilence := by
  delta State.beginSilence
  extract_lets s1 s2
  have h1 : Calms s s1 := (Calms.modLif s _).trans (State.attend_only _ _).calms
  have h2 : Calms s1 s2 := ((s1.reportActive_only _).calms.trans (State.bump_only _ _).calms).trans (State.refreshPru_only _).calms
  exact (h1.trans h2).trans (.ite s2.workshopToRun_calms (.refl s2))

theorem State.endHold_calms : Calms s s.endHold := by
  unfold State.endHold
  exact (((Calms.modLif s _).trans (State.publishList_only _).calms).trans
    (.forNeedles _ _ fun _ => Needle.published_tame _)).trans (State.refreshPru_only _).calms

theorem State.enterSleep_tames : Tames s s.enterSleep := by
  have ended : Calms s s.endHoldForSleep := by
    unfold State.endHoldForSleep
    exact .trans (.ite s.endHold_calms (.refl s)) (Calms.modLif _ _)
  delta State.enterSleep
  extract_lets s1 s2 s3 s4
  have h1 : Tames s s1 := (ended.toTames.trans (.setMode _ .sleep (by decide))).trans
    ((State.modMctl_only _ _).calms_of rfl).toTames
  have h2 : OnlyChanges [.fmy, .hlm, .gve] s1 s2 :=
    ((s1.makeCounterDue_only.andThen (forLines_only _ _) (n := [.fmy, .hlm])).andThen
      (State.stopComparators_only _) (n := [.fmy, .hlm])).andThen (State.stopGauges_only _)
  have h3 : Calms s2 s3 := (Calms.forNeedles s2 _ fun _ => Needle.toSleep_tame _).trans
    (((State.gateDoorTimers_only _).andThen (State.forceInterlock_only _) (n := doorParts)).andThen
      (State.refreshOutputs_only _) (n := doorParts)).calms
  have h4 : Calms s3 s4 := (s3.mapRetries_only _).calms.trans ((Calms.modLif _ _).trans (State.refreshPru_only _).calms)
  exact (h1.trans h2.calms.toTames).trans ((h3.trans h4).trans (State.modSched_only _ _).calms).toTames

theorem State.wake_tames : Tames s s.wake := by
  delta State.wake
  extract_lets s1 s2 s3
  have h1 : Tames s s1 := ((Tames.setMode s .standby (by decide)).trans (State.attend_only _ _).calms.toTames).trans
    ((State.modMctl_only _ _).calms_of rfl).toTames
  have h2 : Calms s1 s2 :=
    ((((s1.startScans_only.andThen (State.startServices_only _) (n := [.sched])).andThen
      (forLines_only _ _) (n := [.sched, .hlm])).andThen (forLines_only _ _) (n := [.sched, .hlm])).andThen
        (State.startComparators_only _) (n := [.sched, .hlm])).andThen (State.wakeGauges_only _)
          (n := [.sched, .hlm, .gve]) |>.calms
  have h3 : Calms s2 s3 := s2.gateDoorTimers_only.calms.trans
    ((State.mapRetries_only _ _).calms.trans (State.restartPhase_only _).calms)
  have hold (u : State) : Calms u u.holdIfAsserted := .ite (.modLif u _) (.refl u)
  exact h1.trans (((h2.trans h3).trans s3.freeInterlock_only.calms).trans
    ((Calms.modLif _ _).trans ((hold _).trans (State.refreshPru_only _).calms))).toTames

theorem State.wakeByLink_calms : Calms s s.wakeByLink := by
  unfold State.wakeByLink
  split
  · exact s.wake_tames.calm (by rw [‹s.mode = .sleep›]; decide)
  · exact .refl s

theorem State.enterRun_tames : Tames s s.enterRun := by
  have run : Tames s (s.setMode .run) := .setMode s .run (by decide)
  suffices on : ∀ u : State, Tames u u.ignitionOn from run.trans (on _)
  intro u
  delta State.ignitionOn
  extract_lets s1 s2 s3
  have h2 : Calms u s2 := (u.bump_only _).calms.trans ((s1.modMctl_only _).calms_of rfl)
  have h3 : Calms s2 s3 := ((s2.modPru_only _).calms.trans (State.endIgnitionLatches_only _).calms).trans
    (State.runNeedles_calms _)
  exact ((h2.trans h3).trans ((State.publishLamps_only _).calms.trans (State.refreshChime_only _).calms)).toTames

theorem State.ignitionOff_calms : Calms s s.ignitionOff := by
  delta State.ignitionOff
  extract_lets was s1 s2 s3
  have h2 : Tames s s2 := (Tames.setMode s .standby (by decide)).trans ((s1.modMctl_only _).calms_of rfl).toTames
  have h3 : Calms s2 s3 := (((s2.modPru_only _).calms.trans (State.ageFaults_only s2.endLampCheck).calms).trans
    (State.withdrawAll_only _).calms).trans (State.refreshOutputs_only _).calms
  have after (u : State) : Calms u u.parkNeedles.refreshPru := u.parkNeedles_calms.trans (State.refreshPru_only _).calms
  have forced (u : State) (m : Mode) : Tames u (u.endForcingOf m) := .ite u.endAllForcing_calms.toTames (.refl u)
  refine ⟨(h2.trans h3.toTames).trans ((forced s3 was).trans (after _).toTames), fun m => .inr fun k => (after _).stays_unforced ?_⟩
  have ends : s3.endForcingOf was = s3.endAllForcing := if_pos m
  exact ends ▸ s3.endAllForcing_unforced k

theorem State.acceptIgn_calms (a : Bool) : Calms s (s.acceptIgn a) := by
  delta State.acceptIgn
  extract_lets s1
  have here : Calms s s1 := (s.modMctl_only _).calms_of rfl
  split
  case h_1 m =>
    exact here.trans ((s1.enterRun_tames.calm (by rw [m]; decide)).trans (State.attend_only _ _).calms)
  · exact here.trans (s1.ignitionOff_calms.trans (State.attend_only _ _).calms)
  · exact here.trans (s1.ignitionOff_calms.trans (State.attend_only _ _).calms)
  · exact here.trans s1.refreshPru_only.calms

theorem State.enterSetup_tames : Tames s s.enterSetup := by
  delta State.enterSetup
  extract_lets s1
  have h1 : Tames s s1 := (s.setWritten_only _).calms.toTames.trans (.setMode _ .setup (by decide))
  exact h1.trans ((s1.allRulesOff_only.calms.trans (State.parkNeedles_calms _)).trans
    ((State.forceInterlock_only _).calms.trans ((State.stopSilenceTimer_only _).calms.trans
      (State.refreshPru_only _).calms))).toTames

end

end Sys2Proof.Machine
end

section
/-! PROOFS. The laws of the dash (`StepKeepsDashLaws`): the needles through every command, beside the telltales and
the chime. -/

namespace Sys2Proof.Machine
set_option Elab.async false

/-! ### A dial curve stays within the scale -/

theorem curveFrom_le {x b : Int} {q : Int × Int} {r : Curve} (rising : (q :: r).Pairwise fun a b => a.1 < b.1)
    (left : q.1 ≤ x) (top : ∀ e ∈ q :: r, e.2 ≤ b) : curveFrom x q r ≤ b := by
  induction r generalizing q with
  | nil => exact top q List.mem_cons_self
  | cons p r ih =>
    obtain ⟨above, rest⟩ := List.pairwise_cons.mp rising
    have here := top q List.mem_cons_self
    have next := top p (List.mem_cons_of_mem _ List.mem_cons_self)
    rw [curveFrom]
    split
    case isTrue right =>
      have bounds := (between_bounds (above p List.mem_cons_self) left right.le).2
      exact bounds.trans (max_le here next)
    case isFalse right => exact ih rest (not_lt.mp right) fun e mem => top e (List.mem_cons_of_mem _ mem)

theorem curveAt_le {c : Curve} {x p b : Int} (rising : c.Pairwise fun a b => a.1 < b.1) (top : ∀ e ∈ c, e.2 ≤ b)
    (read : curveAt c x = some p) : p ≤ b := by
  cases c with
  | nil => cases read
  | cons q r =>
    cases read
    split
    · exact top q List.mem_cons_self
    case isFalse right => exact curveFrom_le rising (not_le.mp right).le top

section
variable {s t : State}

/-- R65: a position read from the dial table stands within the scale. -/
theorem TablesLaw.dial_le (h : TablesLaw s) (k : Fin 6) {x p : Int} (read : curveAt s.tables.dials[k] x = some p) :
    p.toNat ≤ (s.channelCfg k).pmax := by
  have ok := ((Tables.checked_iff _).mp h.inForce.checked).dials k
  simp only [Tables.dialOk, curvePositionsOk, Bool.and_eq_true, List.all_eq_true, decide_eq_true_eq] at ok
  obtain ⟨rising, top⟩ := ok
  exact Int.toNat_le.mpr (curveAt_le ((increasing_iff _).mp rising) top read)

/-! ### Operations that give a needle something new -/

theorem NeedleLaw.modNeedle (h : NeedleLaw s) (running : s.mode ≠ .startup) (k : Fin 6) (f : Needle → Needle)
    (within : ((s.needle k).Within (s.channelCfg k).pmax (s.channelCfg k).smax) →
      (f (s.needle k)).Within (s.channelCfg k).pmax (s.channelCfg k).smax) : NeedleLaw (s.modNeedle k f) := by
  rw [needleLaw_iff] at h ⊢
  obtain ⟨all, forced, -⟩ := h
  refine ⟨fun j => ?_, forced, fun m => absurd m running⟩
  by_cases e : k = j
  · subst e; rw [State.modNeedle_same]; exact within (all k)
  · rw [State.modNeedle_other _ _ _ _ e]; exact all j

theorem NeedleLaw.needleInput (h : NeedleLaw s) (tables : TablesLaw s) (running : s.mode ≠ .startup) (k : Fin 6) :
    NeedleLaw (s.needleInput k) := by
  have zero : Calms s (s.setLatest k 0) := .modNeedle s k _ (Needle.aim_zero_tame _ _)
  unfold State.needleInput
  repeat' split
  case h_1 p read =>
    obtain ⟨x, -, read⟩ := Option.bind_eq_some_iff.mp read
    exact h.modNeedle running k _ fun within => within.aim _ (tables.dial_le k read)
  all_goals first
    | with_reducible exact h
    | with_reducible exact h.calm zero

theorem NeedleLaw.sampleChannel (h : NeedleLaw s) (tables : TablesLaw s) (running : s.mode ≠ .startup) (k : Fin 6) :
    NeedleLaw (s.sampleChannel k) := by
  delta State.sampleChannel
  extract_lets before s1 s2
  have acquired : OnlyChanges [.free, .gve] s s1 := s.acquire_only k
  have sampled : OnlyChanges (.free :: .gve :: faultParts) s (s2.gaugeReports k before) :=
    (acquired.andThen (s1.modChannel_only k _) (n := [.free, .gve])).andThen (s2.gaugeReports_only k before)
  exact (h.calm sampled.calms).needleInput (tables.congr (sampled.same .tables)
    (congrArg Mctl.loaded (sampled.same .mctl)) (sampled.same .written))
    (fun m => running (Eq.trans sampled.keepsMode.symm m)) k

theorem State.feedExpired_calms (s : State) (k : Fin 6) : Calms s (s.feedExpired k) := by
  have still (u : State) (st : (u.channel k).st = .stale) : Calms u (u.needleInput k) := by
    unfold State.needleInput; rw [st]; exact .refl u
  have lost (u : State) (st : (u.channel k).st = .lost) : Calms u (u.needleInput k) := by
    unfold State.needleInput; rw [st]
    exact .ite (.refl u) (.modNeedle u k _ (Needle.aim_zero_tame _ _))
  delta State.feedExpired
  extract_lets s1 s2
  split
  · exact (s.modChannel_only k _).calms.trans (still _ (by simp))
  · have st1 : (s1.channel k).st = .lost := by simp [s1]
    have h1 : Calms s s1 := (s.modChannel_only k _).calms
    have reported : OnlyChanges faultParts s1 (s1.reportActive (.gauge k .lost)) := s1.reportActive_only _
    have st2 : (s2.channel k).st = .lost := by
      change ((if _ then _ else _ : State).channel k).st = _
      split
      · exact st1
      · rw [State.modChannel_same]
        exact Eq.trans (congrArg (fun g : Gve => (g.channels[k]).st) (reported.same .gve)) st1
    have h2 : Calms s1 s2 := .ite (.refl s1) (reported.calms.trans (State.modChannel_only _ k _).calms)
    exact (h1.trans h2).trans (lost s2 st2)

theorem State.feedTimeout_calms (s : State) (k : Fin 6) : Calms s (s.feedTimeout k) := by
  have expired := s.feedExpired_calms k
  unfold State.feedTimeout
  exact .ite (expired.trans (State.speedUpdate_calms _ k)) expired

/-- R68, R72: a motion interval keeps to the scale. -/
theorem NeedleLaw.motion (h : NeedleLaw s) (running : s.mode ≠ .startup) (k : Fin 6) : NeedleLaw (s.motion k) := by
  unfold State.motion
  dsimp only
  split
  · exact h.modNeedle running k _ fun within => within.homingStep _ _
  · exact (h.modNeedle running k _ fun within => within.interval _).calm (State.endSweep_calms _)

/-- R181: a forced position within the scale. -/
theorem NeedleLaw.forceNeedle (h : NeedleLaw s) (m : s.mode = .workshop) (k : Fin 6) {p : Nat}
    (top : p ≤ (s.channelCfg k).pmax) : NeedleLaw (s.forceNeedle k p) := by
  have forced : NeedleLaw (s.modWsv fun w => { w with needles := w.needles.set k (some p) }) := by
    refine ⟨h.position, h.speed, h.targets, fun j x e => ⟨m, ?_⟩, h.startup⟩
    have e : (s.wsv.needles.set k (some p))[j] = some x := e
    by_cases same : k = j
    · subst same
      simp only [Fin.getElem_fin, Vector.getElem_set_self, Option.some.injEq] at e
      exact e ▸ top
    · rw [Fin.getElem_fin, Vector.getElem_set_ne _ _ (fun eq => same (Fin.ext eq))] at e
      exact (h.forced j x e).2
  exact forced.calm ((Calms.modNeedle _ k _ (Needle.takeForce_tame _)).trans (State.endSweep_calms _))

/-! ### New tables -/

theorem State.settleBlocks_calms (s : State) : Calms s s.settleBlocks := s.settleBlocks_only.calms

theorem NeedleLaw.endStartup (h : NeedleLaw s) (m : s.mode = .startup) : NeedleLaw s.endStartup := by
  have taken : NeedleLaw s.tablesTaken := by
    rw [needleLaw_iff]
    refine ⟨fun k => ?_, fun k p e => ?_, h.startup⟩
    · obtain ⟨pos, speed, latest, published⟩ := h.startup m k
      exact .blank pos speed latest published
    · have workshop := (h.forced k p e).1
      rw [m] at workshop; cases workshop
  refine taken.calm (Tames.calm ?_ (by rw [show s.tablesTaken.mode = .startup from m]; decide))
  delta State.endStartup
  extract_lets passed s1 s2 s3 s4
  have h2 : Calms s.tablesTaken s2 := (s1.attend_only _).calms.trans (State.report_only _ _ _).calms
  have h3 : Calms s2 s3 := by
    have link (u : State) : Calms u u.settleLink := by
      unfold State.settleLink
      exact (u.reportCleared_only _).calms.trans (.modLif _ _)
    exact s2.settleBlocks_calms.trans (link _)
  have h4 : Calms s3 s4 :=
    (((s3.dropUnclassified_only.andThen (State.startComparators_only _) (n := [.hlm])).andThen
      (State.startUnits_only _) (n := [.hlm, .gve])).andThen (State.startServices_only _)
        (n := [.hlm, .gve, .sched])).calms
  have h5 : Tames s4 (s4.leaveStartup passed) := by
    delta State.leaveStartup
    extract_lets u
    have run : Tames s4 u := .ite s4.enterRun_tames (.setMode s4 .standby (by decide))
    have silent (u : State) : Calms u u.startSilenceTimer := .modLif u _
    exact .ite (run.trans ((State.freeInterlock_only _).calms.trans (silent _)).toTames)
      ((Tames.setMode s4 .unconfigured (by decide)).trans (State.homeAllNeedles_calms _).toTames)
  have hold (u : State) : Calms u u.holdIfAsserted := .ite (.modLif u _) (.refl u)
  exact (((h2.trans h3).trans h4).toTames.trans h5).trans ((hold _).trans (State.refreshPru_only _).calms).toTames

theorem NeedleLaw.exitSetup (h : NeedleLaw s) (m : s.mode = .setup) (w : Tables) : NeedleLaw (s.exitSetup w) := by
  have taken : NeedleLaw (s.takeUpTables w) := by
    have ndr : (s.takeUpTables w).ndr = {} := rfl
    have blank (k : Fin 6) : (s.takeUpTables w).needle k = {} := by
      rw [State.needle, ndr]
      simp
    rw [needleLaw_iff]
    refine ⟨fun k => ?_, fun k p e => ?_, fun _ k => ?_⟩
    · rw [blank]; exact .blank rfl rfl rfl rfl
    · have workshop := (h.forced k p e).1
      rw [m] at workshop; cases workshop
    · rw [blank]; exact ⟨rfl, rfl, rfl, rfl⟩
  refine taken.calm (Tames.calm ?_ (by rw [show (s.takeUpTables w).mode = .setup from m]; decide))
  delta State.exitSetup
  extract_lets s1 s2 s3 s4
  have h1 : Calms (s.takeUpTables w) s1 := (State.takeUpTables_removed w).calms
  have h3 : Calms s1 s3 := (s1.settleBlocks_calms.trans (State.startComparators_only _).calms).trans
    (s2.modSched_only _).calms
  have h4 : Tames s3 s4 := .ite s3.enterRun_tames (.setMode s3 .standby (by decide))
  have silent (u : State) : Calms u u.startSilenceTimer := .modLif u _
  exact ((h1.trans h3).toTames.trans h4).trans
    (((State.freeInterlock_only _).calms.trans (silent _)).trans (State.refreshPru_only _).calms).toTames

/-! ### Commands -/

theorem State.sleepSample_calms (s : State) (m : s.mode = .sleep) (ign : Bool) (mv : Vector Nat 32) :
    Calms s (s.sleepSample ign mv) := by
  refine Tames.calm ?_ (by rw [m]; decide)
  delta State.sleepSample
  extract_lets t s1
  have h1 : Calms s s1 := OnlyChanges.calms (l := [.now, .sched]) (Advances.atMoment (l := [.sched]) s _ _).only
  have lines : Calms s1 (s1.sleepLines mv).1 := by
    suffices all : ∀ (l : List (Fin 32)) (q : State × Bool), Calms s1 q.1 →
        Calms s1 (l.foldl (fun (s, changed) n =>
          if s.watched n && (s.lineCfg n).fn.classified then
            let s' := s.sampleLine n mv[n]
            (s', changed || s'.logical n != s.logical n)
          else (s, changed)) q).1 from all _ (s1, false) (.refl s1)
    intro l
    induction l with
    | nil => exact fun _ h => h
    | cons n l ih =>
      refine fun q h => ih _ ?_
      dsimp only
      split
      · exact h.trans (q.1.sampleLine_calms n _)
      · exact h
  revert lines
  obtain ⟨s2, changed⟩ := s1.sleepLines mv
  intro lines
  have read : Calms s (s2.modMctl (Mctl.ignSample ign s2.now)) :=
    (h1.trans lines).trans ((s2.modMctl_only _).calms_of (Mctl.ignSample_mode _ _ _))
  exact .ite (read.toTames.trans (State.wake_tames _)) read.toTames

theorem Calms.atExpiry (s : State) (timer : Timer) (figure : Nat) (k : State → State) (h : ∀ s, Calms s (k s)) :
    Calms s (atExpiry timer figure k s) :=
  atExpiry_cases s _ _ _ (Calms s) (.refl s) fun _ _ => (State.reach_only s _).calms.trans (h _)

theorem State.frameArrives_calms (s : State) (f : Frame) : Calms s (s.frameArrives f) := (s.frameArrives_only f).calms

theorem Mode.isAwake_running {m : Mode} (h : m.isAwake = true) : m ≠ .startup := by
  rintro rfl; cases h

theorem NeedleLaw.ite {c : Prop} [Decidable c] {u v : State} (h : c → NeedleLaw u) (k : NeedleLaw v) :
    NeedleLaw (if c then u else v) := by
  split
  · exact h ‹_›
  · exact k

theorem eventEffect_needleLaw (c : Instr) (tables : TablesLaw s) (h : NeedleLaw s) : NeedleLaw (eventEffect c s) := by
  have only := (eventEffect_advances c s).only
  have mode := eventEffect_mode c s
  have moment (v : State) (k : OnlyChanges [.now, .sched] s v) : Calms s v := k.calms
  have fresh (r : ResetCause) (f : Pins → Pins) : NeedleLaw ((s.hardReset r).modPins f) :=
    ((s.cutOffWrite.applyReset_afresh r).modPins f).needleLaw
  have keeps (k : Calms s (eventEffect c s)) : NeedleLaw (eventEffect c s) := h.calm k
  cases c
  case startupEnd =>
    refine .ite (fun over_ => h.endStartup ?_) h
    simp only [State.startupOver, Bool.and_eq_true, beq_iff_eq] at over_
    exact over_.1.1
  case vbMeasurement mv ign =>
    refine keeps (.ite (.refl s) (.trans ?_ (State.measureVb_calms _ mv)))
    exact (moment s.atVbMeasurement (Advances.atMoment (l := [.sched]) s _ _).only).trans
      ((State.modMctl_only _ _).calms_of (Mctl.ignSample_mode _ _ _))
  case ignDebounceExpiry =>
    refine keeps ?_
    unfold eventEffect
    dsimp only
    split
    · exact .atExpiry s _ _ _ fun u => u.acceptIgn_calms _
    · exact .refl s
  case sleepEntry =>
    refine .ite (fun may => h.calm (s.enterSleep_tames.calm ?_)) h
    simp only [State.mayEnterSleep, Bool.and_eq_true, beq_iff_eq] at may
    rw [may.1.1.1.2]
    decide
  case sleepSample ign mv => exact .ite (fun m => h.calm (s.sleepSample_calms m ign mv)) h
  case startOfReception idle => exact keeps (.ite (.refl s) (s.wakeByLink_calms.trans (.modLif _ _)))
  case byteReceived b stopHigh =>
    have abandon (u : State) : Calms u u.abandon :=
      (((Calms.modLif u fun l => { l with rx := .hunt, gap := .stopped }).trans (.modLif _ _))).trans
        (State.attend_only _ _).calms
    have ends : Calms s (s.wakeByLink.byteEnds b stopHigh) := s.wakeByLink_calms.trans (.modLif _ _)
    exact keeps (.ite (.refl s) (.ite ends (.ite (ends.trans (State.takeByte_only _ b).calms)
      (ends.trans ((abandon _).trans (.modLif _ _))))))
  case breakRelease =>
    refine .ite (fun _ => ?_) (h.calm (.modLif s _))
    exact fresh .linkBreak id
  case hostSilenceBegins => exact keeps (.atExpiry s _ _ _ State.beginSilence_calms)
  case holdLineChange a =>
    refine keeps (.ite (.refl s) ?_)
    have pins : Calms s (s.modPins fun p => { p with holdAsserted := a }) := (s.modPins_only _).calms
    refine .ite pins (pins.trans ?_)
    generalize s.modPins (fun p => { p with holdAsserted := a }) = u
    unfold State.holdChange
    exact .ite (.ite (.refl u) (.modLif u _)) (.ite u.endHold_calms (.modLif u _))
  case holdLimitExpiry =>
    exact keeps (.atExpiry s _ _ _ fun u => (u.endHold_calms.trans (.modLif _ _)).trans (State.attend_only _ _).calms)
  case restartTakesEffect => exact .ite (fun _ => (s.applyReset_afresh .restart).needleLaw) h
  case lineSample n mv =>
    refine keeps (.ite (.trans (moment (s.atLineSample n) (Advances.atMoment (l := [.sched]) s _ _).only) ?_) (.refl s))
    exact .ite (.refl _) (.ite (State.measureOnly_only _ n mv).calms (State.sampleLine_calms _ n mv))
  case channelSample k =>
    refine .ite (fun due => ?_) h
    have here := moment (s.atChannelSample k) (Advances.atMoment (l := [.sched]) s _ _).only
    exact ((h.calm here).sampleChannel (tables.congr rfl rfl rfl) (Mode.isAwake_running due.1) k).calm
      (State.speedUpdate_calms _ k)
  case feedTimeout k => exact keeps (.atExpiry s _ _ _ fun u => u.feedTimeout_calms k)
  case motionInterval k =>
    refine .ite (fun awake => ?_) h
    have here := moment (s.atMotionInterval k) (Advances.atMoment (l := [.sched]) s _ _).only
    exact (h.calm here).motion (Mode.isAwake_running awake) k
  case lampForcingExpiry n =>
    refine keeps ?_
    unfold eventEffect
    dsimp only
    split
    · exact .atExpiry s _ _ _ fun u => (Calms.modWsv u _ fun _ _ e => e).trans (State.refreshPru_only _).calms
    · exact .refl s
  case chimeForcingExpiry =>
    refine keeps ?_
    unfold eventEffect
    dsimp only
    split
    · exact .atExpiry s _ _ _ fun u => (Calms.modWsv u _ fun _ _ e => e).trans
        ((State.soundOff_only _).calms.trans (State.refreshChime_only _).calms)
    · exact .refl s
  case powerOnReset => exact fresh .powerOn fun p => { p with brownOut := false }
  case brownOut => exact .ite (fun _ => h) (fresh _ _)
  case externalReset => exact .ite (fun _ => h) (fresh _ _)
  all_goals exact keeps (only.calms_of (mode rfl))

theorem requestService_needleLaw (c : Instr) (h : NeedleLaw s) : NeedleLaw (requestService c s).1 := by
  have only := requestService_only c s
  have mode := requestService_mode c s
  cases c
  case setMode tag p =>
    by_cases m : s.mode = .setup
    · obtain e | ⟨-, e⟩ := setMode_in_setup tag p m <;> rw [e]
      · exact h
      · exact h.exitSetup m _
    · refine served_cases (P := NeedleLaw) h fun _ => ?_
      have enters (k : s.mode = .standby ∨ s.mode = .unconfigured) : NeedleLaw s.enterSetup :=
        h.calm (s.enterSetup_tames.calm (by obtain k | k := k <;> rw [k] <;> decide))
      have works (k : s.mode = .run) : NeedleLaw (s.setMode .workshop) :=
        h.calm ((Tames.setMode s .workshop (by decide)).calm (by rw [k]; decide))
      have leaves := h.calm s.leaveWorkshop_calms
      have sleeps : NeedleLaw (s.modMctl fun c => { c with sleepPending := true }) :=
        h.calm ((s.modMctl_only _).calms_of rfl)
      unfold setModeService
      repeat' split
      all_goals first
        | exact absurd ‹s.mode = .setup› m
        | with_reducible exact h
        | with_reducible exact enters ‹_›
        | with_reducible exact leaves
        | with_reducible exact sleeps
        | with_reducible exact works ‹_›
  case sweep tag p =>
    refine served_cases (P := NeedleLaw) h fun _ => ?_
    unfold sweepService
    dsimp only
    repeat' split
    all_goals first | with_reducible exact h | with_reducible exact h.calm (s.startSweep_calms _)
  case forceLamp tag p =>
    refine servedInWorkshop_cases (P := NeedleLaw) h fun _ => ?_
    unfold forceLampService
    repeat' split
    · exact h.calm ((Calms.modWsv s _ fun _ _ e => e).trans (State.refreshPru_only _).calms)
    all_goals exact h
  case forceNeedle tag p =>
    refine servedInWorkshop_cases (P := NeedleLaw) h fun m => ?_
    unfold forceNeedleService
    repeat' split
    · exact h.forceNeedle m _ ‹_›
    all_goals exact h
  case forceChime tag p =>
    refine servedInWorkshop_cases (P := NeedleLaw) h fun _ => ?_
    unfold forceChimeService
    repeat' split
    · exact h.calm (((Calms.modWsv s _ fun _ _ e => e).trans (State.refreshChime_only _).calms).trans
        (State.startPattern_only _).calms)
    all_goals exact h
  case endForcing tag p =>
    refine servedInWorkshop_cases (P := NeedleLaw) h fun _ => h.calm ?_
    have needle (k : Fin 6) : Calms s (s.endNeedleForce k) := by
      refine (Calms.modWsv s _ fun j p e => ?_).trans (.modNeedle _ k _ (Needle.unforce_tame _))
      have e : (s.wsv.needles.set k none)[j] = some p := e
      by_cases same : k = j
      · subst same; simp at e
      · rwa [Fin.getElem_fin, Vector.getElem_set_ne _ _ (fun eq => same (Fin.ext eq))] at e
    unfold endForcingService
    split
    · unfold State.endTarget
      refine .ite (.refl s) ?_
      split
      · exact s.endAllForcing_calms
      · exact (Calms.modWsv s _ fun _ _ e => e).trans (State.refreshPru_only _).calms
      · exact needle _
      · exact (Calms.modWsv s _ fun _ _ e => e).trans
          ((State.soundOff_only _).calms.trans (State.refreshChime_only _).calms)
    · exact .refl s
  all_goals exact h.calm (only.calms_of (mode (by intros; exact Instr.noConfusion)))

theorem NeedleLaw.serve (h : NeedleLaw s) (f : Frame) (c : Instr) : NeedleLaw (s.serve f (requestService c)) :=
  (requestService_needleLaw c h).calm
    (.modLif _ (fun l => { l with tx := some (f.reply (requestService c s).2.1 (requestService c s).2.2) }))

end

/-- Settles O60: the telltales and the chime keep their laws together, the needles theirs beside that of the tables,
which bounds what a dial table says. -/
theorem stepKeepsDashLaws : Obligations.StepKeepsDashLaws := by
  refine ⟨fun s t telltales chime e => ?_, fun s t tables h e => ?_, State.demand_eq⟩
  · exact laws_iff_lit.mpr (step_keeps_lit (laws_iff_lit.mp ⟨telltales, chime⟩) e)
  · have both := step_keeps (P := fun u => TablesLaw u ∧ NeedleLaw u)
      (fun s l h => ⟨h.1.congr rfl rfl rfl, h.2.position, h.2.speed, h.2.targets, h.2.forced, h.2.startup⟩)
      (fun s h => ⟨h.1.congr rfl rfl rfl, h.2.position, h.2.speed, h.2.targets, h.2.forced, h.2.startup⟩)
      (exec_keeps (fun s m h => ⟨h.1.wake m, h.2.calm (s.wake_tames.calm (by rw [m]; decide))⟩)
        (fun s h => ⟨h.1.lineWentHigh, h.2.calm (.modLif s _)⟩)
        (fun f s h => ⟨h.1.frameArrives f, h.2.calm (s.frameArrives_calms f)⟩)
        (fun c f s _ _ h => ⟨h.1.serve f c, h.2.serve f c⟩)
        (fun c s _ h => ⟨eventEffect_tablesLaw c h.1, eventEffect_needleLaw c h.1 h.2⟩)) ⟨tables, h⟩ e
    exact both.2

end Sys2Proof.Machine
end

section
/-! PROOFS. The motion interval of a needle (O45). -/

namespace Sys2Proof.Machine
set_option Elab.async false

namespace Needle

/-- Whoever stops within the way that remains stays within it after the move. -/
theorem Stops.way {v : Nat} {rem : Int} (h : Stops v rem) :
    (v : Int) ≤ rem ∧ ((v * (v - 1) / 2 : Nat) : Int) ≤ rem - v := by
  have split : v * (v + 1) / 2 = v * (v - 1) / 2 + v := by
    cases v with
    | zero => rfl
    | succ w =>
      have double : (w + 1) * (w + 1 + 1) = (w + 1) * w + (w + 1) * 2 := by ring
      rw [double, Nat.add_mul_div_right _ _ (by decide), Nat.add_sub_cancel]
  rw [Stops, split] at h
  push_cast at h ⊢
  omega

/-- R68: braking already stops the needle where its braking distance lies within the way that remains. -/
theorem Stops.of_braking {v : Nat} {rem : Int} (h : ((v * (v - 1) / 2 : Nat) : Int) ≤ rem) : Stops (v - 1) rem := by
  cases v with
  | zero => exact h
  | succ w => rw [Nat.add_sub_cancel, Stops, mul_comm]; exact h

variable (n : Needle)

theorem nextSpeed_stops {speed smax : Nat} {rem : Int} (h : ((speed * (speed - 1) / 2 : Nat) : Int) ≤ rem) :
    Stops (nextSpeed speed smax rem) rem := by
  obtain ⟨stops, -⟩ | ⟨none, -⟩ := nextSpeed_spec speed smax rem
  · exact stops
  · exact absurd (Stops.of_braking h) (none _ (.inl rfl))

/-! ### A move -/

/-- R69: what a move by speed `v` in direction `dir` leaves of a needle at `a`. -/
structure Moves (pmax a v : Nat) (dir : Direction) (m : Needle) (b : Nat) : Prop where
  pos : m.pos = some b
  within : b ≤ pmax
  turned : m.dir = dir
  up : dir = .up → (a + v ≤ pmax → b = a + v ∧ m.speed = v) ∧ (pmax < a + v → b = pmax ∧ m.speed = 0)
  down : dir = .down → (v ≤ a → b = a - v ∧ m.speed = v) ∧ (a < v → b = 0 ∧ m.speed = 0)

theorem moved_moves {pmax a : Nat} (v : Nat) (dir : Direction) (low : a ≤ pmax) :
    ∃ b, Moves pmax a v dir (n.moved pmax a v dir) b := by
  unfold moved
  split <;> split
  case h_1.isTrue far => exact ⟨pmax, rfl, le_rfl, rfl, fun _ => ⟨fun near => absurd far (by omega), fun _ => ⟨rfl, rfl⟩⟩, nofun⟩
  case h_1.isFalse near => exact ⟨a + v, rfl, by omega, rfl, fun _ => ⟨fun _ => ⟨rfl, rfl⟩, fun far => absurd far near⟩, nofun⟩
  case h_2.isTrue far => exact ⟨0, rfl, Nat.zero_le _, rfl, nofun, fun _ => ⟨fun near => absurd far (by omega), fun _ => ⟨rfl, rfl⟩⟩⟩
  case h_2.isFalse near => exact ⟨a - v, rfl, by omega, rfl, nofun, fun _ => ⟨fun _ => ⟨rfl, rfl⟩, fun far => absurd far near⟩⟩

/-- A target ahead that can be reached in time is not passed on the way up. -/
theorem Moves.stops_up {pmax a v target b : Nat} {dir : Direction} {m : Needle} (h : Moves pmax a v dir m b)
    (up : dir = .up) (top : target ≤ pmax) (stops : Stops v ((target : Int) - a)) :
    b = a + m.speed ∧ b ≤ target ∧ m.speed * (m.speed - 1) / 2 ≤ target - b := by
  obtain ⟨way, rest⟩ := stops.way
  obtain ⟨here, speed⟩ := (h.up up).1 (by omega)
  rw [speed, here]
  omega

/-- Nor on the way down. -/
theorem Moves.stops_down {pmax a v target b : Nat} {dir : Direction} {m : Needle} (h : Moves pmax a v dir m b)
    (down : dir = .down) (stops : Stops v ((a : Int) - target)) :
    a = b + m.speed ∧ target ≤ b ∧ m.speed * (m.speed - 1) / 2 ≤ b - target := by
  obtain ⟨way, rest⟩ := stops.way
  obtain ⟨here, speed⟩ := (h.down down).1 (by omega)
  rw [speed, here]
  omega

theorem moveTo_keeps (target pmax smax a : Nat) : (n.moveTo target pmax smax a).st = n.st ∧
    (n.moveTo target pmax smax a).latest = n.latest ∧ (n.moveTo target pmax smax a).published = n.published := by
  rw [n.moveTo_eq]
  unfold moved
  repeat' split
  all_goals exact ⟨rfl, rfl, rfl⟩

/-! ### The legs of a sweep -/

/-- The legs change the state alone. -/
theorem legs_motion (pmax : Nat) : ((n.turnLeg pmax).endLeg).pos = n.pos ∧ ((n.turnLeg pmax).endLeg).speed = n.speed ∧
    ((n.turnLeg pmax).endLeg).dir = n.dir ∧ ((n.turnLeg pmax).endLeg).latest = n.latest ∧
    ((n.turnLeg pmax).endLeg).published = n.published := by
  have ends (m : Needle) : m.endLeg.pos = m.pos ∧ m.endLeg.speed = m.speed ∧ m.endLeg.dir = m.dir ∧
      m.endLeg.latest = m.latest ∧ m.endLeg.published = m.published := by
    unfold endLeg
    repeat' split
    all_goals exact ⟨rfl, rfl, rfl, rfl, rfl⟩
  unfold turnLeg
  split <;> exact ends _

theorem legs_st {pmax b : Nat} (pos : n.pos = some b) : ((n.turnLeg pmax).endLeg).st = (match n.st with
    | .sweepUp => if b = pmax then
        (if b = n.published ∨ (n.dir = .down ∧ b ≤ n.published) then .tracking else .sweepReturn) else .sweepUp
    | .sweepReturn => if b = n.published ∨ (n.dir = .down ∧ b ≤ n.published) then .tracking else .sweepReturn
    | x => x) := by
  have ends (m : Needle) (at_ : m.pos = some b) : m.endLeg.st =
      if m.st = .sweepReturn ∧ (b = m.published ∨ (m.dir = .down ∧ b ≤ m.published)) then .tracking else m.st := by
    unfold endLeg
    rw [at_]
    dsimp only
    split <;> rfl
  by_cases up : n.st = .sweepUp
  · rw [up]
    by_cases top : b = pmax
    · have turned : n.turnLeg pmax = { n with st := .sweepReturn } := if_pos ⟨up, top ▸ pos⟩
      rw [turned, ends { n with st := .sweepReturn } pos]
      simp [top]
    · have stays : n.turnLeg pmax = n := if_neg fun h => top (Option.some.inj (pos.symm.trans h.2))
      rw [stays, ends _ pos]
      simp [top, up]
  · have stays : n.turnLeg pmax = n := if_neg fun h => up h.1
    rw [stays, ends _ pos]
    by_cases back : n.st = .sweepReturn
    · simp [back]
    · rw [if_neg fun h => back h.1]
      split
      case h_1 now => exact absurd now up
      case h_2 now => exact absurd now back
      case h_3 => rfl

/-- R68: without a position or a target there is no motion. -/
theorem interval_idle {pmax smax : Nat} {forced : Option Nat} (h : n.pos = none ∨ n.target pmax forced = none) :
    n.interval pmax smax forced = n := by
  unfold interval
  split
  case h_1 a t pos target =>
    obtain h | h := h
    · rw [h] at pos; cases pos
    · rw [h] at target; cases target
  case h_2 => rfl

theorem interval_eq {pmax smax a target : Nat} {forced : Option Nat} (pos : n.pos = some a)
    (aim : n.target pmax forced = some target) :
    n.interval pmax smax forced = ((n.moveTo target pmax smax a).turnLeg pmax).endLeg := by
  unfold interval
  rw [pos, aim]

/-- The interval of a needle with a position and a target in use (R68, R69, R75). -/
theorem interval_spec {pmax smax a target : Nat} {forced : Option Nat} (pos : n.pos = some a)
    (aim : n.target pmax forced = some target) (low : a ≤ pmax) (slow : n.speed ≤ smax) :
    ∃ b m, m = n.moveTo target pmax smax a ∧ m.pos = some b ∧ b ≤ pmax ∧ m.speed ≤ smax ∧
      (n.interval pmax smax forced).pos = some b ∧ (n.interval pmax smax forced).speed = m.speed ∧
      (n.interval pmax smax forced).dir = m.dir ∧ (n.interval pmax smax forced).st = (match n.st with
        | .sweepUp => if b = pmax then
            (if b = n.published ∨ (m.dir = .down ∧ b ≤ n.published) then .tracking else .sweepReturn) else .sweepUp
        | .sweepReturn => if b = n.published ∨ (m.dir = .down ∧ b ≤ n.published) then .tracking else .sweepReturn
        | x => x) ∧
      (a = target → n.speed = 0 → m = n) ∧
      (a ≠ target ∨ n.speed ≠ 0 → Moves pmax a (nextSpeed n.speed smax (wayLeft (turn n a target) a target))
        (turn n a target) m b) := by
  have within : ∃ b, (n.moveTo target pmax smax a).pos = some b ∧ b ≤ pmax ∧ (n.moveTo target pmax smax a).speed ≤ smax ∧
      (a = target → n.speed = 0 → n.moveTo target pmax smax a = n) ∧
      (a ≠ target ∨ n.speed ≠ 0 → Moves pmax a (nextSpeed n.speed smax (wayLeft (turn n a target) a target))
        (turn n a target) (n.moveTo target pmax smax a) b) := by
    rw [n.moveTo_eq]
    split
    case isTrue rest => exact ⟨a, pos, low, slow, fun _ _ => rfl, fun goes => absurd rest (by tauto)⟩
    case isFalse goes =>
      have speed := (nextSpeed_bounds (wayLeft (turn n a target) a target) slow).1
      obtain ⟨b, moves⟩ := n.moved_moves (nextSpeed n.speed smax (wayLeft (turn n a target) a target)) (turn n a target) low
      refine ⟨b, moves.pos, moves.within, ?_, fun e z => absurd ⟨z, e⟩ goes, fun _ => moves⟩
      unfold Needle.moved
      repeat' split
      all_goals first | exact speed | exact Nat.zero_le _
  obtain ⟨b, at_, top, speed, idle, moves⟩ := within
  obtain ⟨st, -, published⟩ := n.moveTo_keeps target pmax smax a
  have legs := Needle.legs_st (n.moveTo target pmax smax a) (pmax := pmax) at_
  obtain ⟨pos', speed', dir', -, -⟩ := Needle.legs_motion (n.moveTo target pmax smax a) pmax
  rw [n.interval_eq pos aim]
  rw [st, published] at legs
  exact ⟨b, _, rfl, at_, top, speed, pos'.trans at_, speed', dir', legs, idle, moves⟩

theorem interval_keeps (pmax smax : Nat) (forced : Option Nat) : (n.interval pmax smax forced).latest = n.latest ∧
    (n.interval pmax smax forced).published = n.published := by
  unfold interval
  split
  case h_1 a t _ _ =>
    obtain ⟨-, latest, published⟩ := n.moveTo_keeps t pmax smax a
    obtain ⟨-, -, -, latest', published'⟩ := legs_motion (n.moveTo t pmax smax a) pmax
    exact ⟨latest'.trans latest, published'.trans published⟩
  case h_2 => exact ⟨rfl, rfl⟩

theorem homingStep_keeps (m : Mode) (forced : Option Nat) : (n.homingStep m forced).latest = n.latest ∧
    (n.homingStep m forced).published = n.published := by
  unfold homingStep
  dsimp only
  generalize (n.count - if n.count = 1 then 1 else 2) = left
  split <;> exact ⟨rfl, rfl⟩

theorem homingStep_far {n : Needle} (m : Mode) (forced : Option Nat) (far : 2 < n.count) :
    n.homingStep m forced = { n with count := n.count - 2 } := by
  have step : (if n.count = 1 then 1 else 2) = 2 := if_neg (by omega)
  unfold homingStep
  dsimp only
  rw [step, if_neg (by omega)]

/-- R72: the last step of the homing. -/
theorem homingStep_last {n : Needle} (m : Mode) (forced : Option Nat) (near : n.count = 1 ∨ n.count = 2) :
    n.homingStep m forced = { n with count := 0, pos := some 0, speed := 0, dir := .up, st := homedState m forced } := by
  have last : (n.count - if n.count = 1 then 1 else 2) = 0 := by split <;> omega
  unfold homingStep
  dsimp only
  rw [last, if_pos rfl]

end Needle

section
variable {s : State}

theorem State.motion_homing (k : Fin 6) (homing : (s.needle k).st = .homingDriving) :
    s.motion k = s.modNeedle k (Needle.homingStep s.mode s.wsv.needles[k]) := if_pos homing

theorem State.motion_driven (k : Fin 6) (driven : (s.needle k).st ≠ .homingDriving) :
    s.motion k = (s.modNeedle k
      (Needle.interval (s.channelCfg k).pmax (s.channelCfg k).smax s.wsv.needles[k])).endSweep := if_neg driven

theorem State.endSweep_opdone (s : State) : s.endSweep.lif.attention.opdone =
    (s.lif.attention.opdone || (s.ndr.sweep && !s.endSweep.ndr.sweep)) := by
  rw [s.endSweep_attention]
  cases s.ndr.sweep <;> cases s.endSweep.ndr.sweep <;> simp [Attention.raise]

end

/-- Settles O45: the motion rule of one needle, with the end of a sweep after it. -/
theorem needlesStopAtTheirTargets : Obligations.NeedlesStopAtTheirTargets := by
  intro s k live running awake
  have wakes : s.mode.isAwake = true := by cases e : s.mode <;> simp_all [Mode.isAwake]
  have runs : exec (.motionInterval k) s = .next ((s.atMotionInterval k).motion k) :=
    (exec_runs _ s rfl live).trans (congrArg _ (if_pos wakes))
  generalize here : s.atMotionInterval k = u at runs
  have same (j : Fin 6) : u.needle j = s.needle j := by rw [← here]; rfl
  have moment : u.now = max s.now s.sched.needles[k] ∧ u.sched.needles[k] = u.now + 1000 := by
    rw [← here]
    simp [State.atMotionInterval, ms]
  have before : OnlyChanges [.now, .sched] s u := here ▸ (Advances.atMoment (l := [.sched]) s _ _).only
  have after := u.motion_only k
  have records : u.wsv.needles = s.wsv.needles := here ▸ rfl
  have scale : u.channelCfg k = s.channelCfg k := here ▸ rfl
  have mode : u.mode = s.mode := here ▸ rfl
  have sweep : u.ndr.sweep = s.ndr.sweep := here ▸ rfl
  have attention : u.lif.attention = s.lif.attention := here ▸ rfl
  have homes (homing : (s.needle k).st = .homingDriving) :
      u.motion k = u.modNeedle k (Needle.homingStep s.mode s.wsv.needles[k]) := by
    rw [← mode, ← records]
    exact State.motion_homing k (by rw [same]; exact homing)
  have drives (driven : (s.needle k).st ≠ .homingDriving) : u.motion k = (u.modNeedle k
      (Needle.interval (s.channelCfg k).pmax (s.channelCfg k).smax s.wsv.needles[k])).endSweep := by
    rw [← scale, ← records]
    exact State.motion_driven k (by rw [same]; exact driven)
  have homed (homing : (s.needle k).st = .homingDriving) :
      (u.motion k).needle k = (s.needle k).homingStep s.mode s.wsv.needles[k] := by
    rw [homes homing, State.modNeedle_same, same]
  have driven (driven : (s.needle k).st ≠ .homingDriving) : (u.motion k).needle k =
      (s.needle k).interval (s.channelCfg k).pmax (s.channelCfg k).smax s.wsv.needles[k] := by
    rw [drives driven, State.endSweep_needle, State.modNeedle_same, same]
  have other (j : Fin 6) (e : j ≠ k) : (u.motion k).needle j = s.needle j := by
    by_cases homing : (s.needle k).st = .homingDriving
    · rw [homes homing, State.modNeedle_other _ _ _ _ (Ne.symm e), same]
    · rw [drives homing, State.endSweep_needle, State.modNeedle_other _ _ _ _ (Ne.symm e), same]
  have kept : ((u.motion k).needle k).latest = (s.needle k).latest ∧
      ((u.motion k).needle k).published = (s.needle k).published := by
    by_cases homing : (s.needle k).st = .homingDriving
    · rw [homed homing]; exact Needle.homingStep_keeps _ _ _
    · rw [driven homing]; exact Needle.interval_keeps _ _ _ _
  refine ⟨u.motion k, runs, (after.same .now).trans moment.1, ?_, other, kept.1, kept.2, fun a target pos aim low top slow => ?_,
    fun pos still => ?_, fun idle => ?_, fun still => ⟨?_, ?_⟩, fun homing => ?_, fun homing far => ?_, fun homing near => ?_,
    before.andThen after (n := [.now, .sched, .ndr, .attention])⟩
  · rw [after.same .sched, moment.2, after.same .now]
  · have still : (s.needle k).st ≠ .homingDriving := fun homing => by rw [homing] at aim; cases aim
    have aim : (s.needle k).target (s.channelCfg k).pmax s.wsv.needles[k] = some target := by
      rw [← aim]
      unfold Needle.target
      cases (s.needle k).st <;> rfl
    rw [driven still]
    obtain ⟨b, m, -, at_, within, speed, pos', speed', dir', st', rest, moves⟩ := Needle.interval_spec _ pos aim low slow
    rw [pos', speed', dir', st']
    generalize (s.needle k) = n at *
    generalize (s.channelCfg k).pmax = pmax at *
    generalize (s.channelCfg k).smax = smax at *
    refine ⟨b, rfl, within, speed, fun e zero => ?_, fun goes => ?_, fun up ahead braking => ?_, fun down ahead braking => ?_, rfl⟩
    · obtain rfl := rest e zero
      obtain rfl : a = b := Option.some.inj (pos.symm.trans at_)
      exact ⟨rfl, zero, rfl⟩
    · have h := moves goes
      obtain ⟨-, steady, slows⟩ := Needle.nextSpeed_bounds (Needle.wayLeft (turn n a target) a target) slow
      rw [h.turned]
      refine ⟨rfl, _, Needle.wayLeft (turn n a target) a target, ?_, ?_, steady, slows, h.up, h.down⟩
      · cases turn n a target <;> rfl
      · obtain ⟨stops, candidate, largest⟩ | ⟨none, low⟩ :=
          Needle.nextSpeed_spec n.speed smax (Needle.wayLeft (turn n a target) a target)
        · exact .inl ⟨stops, candidate, fun x one fits => largest x (.inr one) fits⟩
        · exact .inr ⟨fun x one => not_le.mp (none x one), low⟩
    · have h := moves (.inl (by omega))
      rw [h.turned] at up
      have way : Needle.wayLeft (turn n a target) a target = (target : Int) - a := by rw [up]; rfl
      rw [way] at h
      exact h.stops_up up top (Needle.nextSpeed_stops (by omega))
    · have h := moves (.inl (by omega))
      rw [h.turned] at down
      have way : Needle.wayLeft (turn n a target) a target = (a : Int) - target := by rw [down]; rfl
      rw [way] at h
      exact h.stops_down down (Needle.nextSpeed_stops (by omega))
  · rw [driven still]
    exact Needle.interval_idle _ (.inl pos)
  · have still : (s.needle k).st ≠ .homingDriving := fun homing => by rw [homing] at idle; simp at idle
    rw [driven still]
    refine Needle.interval_idle _ (.inr ?_)
    unfold Needle.target
    obtain st | st := idle <;> rw [st]
  · rw [drives still, State.endSweep_sweep, ← sweep]
    simp only [State.endSweep_needle]
    exact Iff.rfl
  · rw [drives still, State.endSweep_opdone, ← sweep, ← attention]
    rfl
  · rw [homes homing]; exact sweep
  · rw [homed homing]
    exact Needle.homingStep_far _ _ far
  · rw [homed homing]
    exact Needle.homingStep_last _ _ near

end Sys2Proof.Machine
end

section
/-! PROOFS. The lamp check, the diagnosis of the lamps (O48), the flash phase and the tones (O49). -/

namespace Sys2Proof.Machine
set_option Elab.async false

/-! ### The open test (R125) -/

/-- R125: the open status that a figure of the counter leaves. -/
def LampStatus.openNext (c : Int) : LampStatus → LampStatus
  | .unsettled => if 100 ≤ c then .good else if c ≤ -100 then .confirmed else .unsettled
  | .good => if 100 ≤ c then .confirmed else .good
  | .confirmed => if 100 ≤ c then .good else .confirmed

/-- R125: a status is never unsettled again. -/
theorem LampStatus.openNext_settled {c : Int} {x : LampStatus} (moves : x.openNext c ≠ x) : x.openNext c ≠ .unsettled := by
  cases x
  case unsettled => exact moves
  all_goals
    dsimp only [LampStatus.openNext]
    split <;> exact LampStatus.noConfusion

section
variable (s : State) (n : Fin 24)

/-- A tested millisecond moves the counter, or changes the status. -/
theorem State.openTest_eq (low : Bool) : s.openTest n low =
    if (s.lamp n).openStatus.openNext ((s.lamp n).openStep low) = (s.lamp n).openStatus then
      s.modLamp n fun l => { l with openCount := (s.lamp n).openStep low }
    else s.openBecomes n ((s.lamp n).openStatus.openNext ((s.lamp n).openStep low) == .confirmed) := by
  unfold State.openTest
  dsimp only
  generalize (s.lamp n).openStep low = c
  cases (s.lamp n).openStatus <;> dsimp only [LampStatus.openNext]
  case unsettled =>
    by_cases high : 100 ≤ c
    · simp only [ge_iff_le, high, if_true]; rfl
    · by_cases deep : c ≤ -100 <;> simp [high, deep]
  all_goals by_cases high : 100 ≤ c <;> simp only [ge_iff_le, high, if_true, if_false]; rfl

theorem State.openBecomes_lamp (confirmed : Bool) :
    ((s.openBecomes n confirmed).lamp n).openStatus = (if confirmed then .confirmed else .good) ∧
      ((s.openBecomes n confirmed).lamp n).openCount = 0 := by
  have pru := (State.report_only (s.modLamp n fun l =>
      { l with openStatus := if confirmed then .confirmed else .good, openCount := 0 }) (.lamp n .openWire) confirmed).same .pru
  unfold State.openBecomes
  rw [(State.refreshPru_putsOut _).lamp n, State.lamp, pru]
  exact ⟨congrArg Lamp.openStatus (State.modLamp_same _ _ _), congrArg Lamp.openCount (State.modLamp_same _ _ _)⟩

theorem State.openBecomes_fmy (confirmed : Bool) : (s.openBecomes n confirmed).fmy =
    (if confirmed = true then s.reportActive (.lamp n .openWire) else s.reportCleared (.lamp n .openWire)).fmy := by
  refine ((State.refreshPru_only _).same .fmy).trans ?_
  cases confirmed
  · exact (s.modLamp_only n _).reportCleared_fmy (c := _)
  · exact (s.modLamp_only n _).reportActive_fmy (c := _)

/-- R125: the status and the counter after a tested millisecond, with the report at a change of the status. -/
theorem State.openTest_spec (low : Bool) :
    ((s.openTest n low).lamp n).openStatus = (s.lamp n).openStatus.openNext ((s.lamp n).openStep low) ∧
    ((s.openTest n low).lamp n).openCount =
      (if ((s.openTest n low).lamp n).openStatus = (s.lamp n).openStatus then (s.lamp n).openStep low else 0) ∧
    (((s.openTest n low).lamp n).openStatus = (s.lamp n).openStatus → OnlyChanges [.pru] s (s.openTest n low)) ∧
    (((s.openTest n low).lamp n).openStatus ≠ (s.lamp n).openStatus →
      (s.openTest n low).fmy = (if ((s.openTest n low).lamp n).openStatus = .confirmed
        then s.reportActive (.lamp n .openWire) else s.reportCleared (.lamp n .openWire)).fmy) := by
  rw [s.openTest_eq]
  generalize next : (s.lamp n).openStatus.openNext ((s.lamp n).openStep low) = x
  split
  case isTrue still =>
    have lamp := s.modLamp_same n fun l => { l with openCount := (s.lamp n).openStep low }
    refine ⟨?_, ?_, fun _ => s.modLamp_only n _, fun other => absurd ?_ other⟩ <;> rw [lamp]
    · exact still.symm
    · exact (if_pos rfl).symm
  case isFalse moves =>
    have settled : (if (x == .confirmed) = true then LampStatus.confirmed else .good) = x := by
      have other : x ≠ .unsettled := next ▸ LampStatus.openNext_settled (fun same => moves (next.symm.trans same))
      cases x
      case unsettled => exact absurd rfl other
      all_goals rfl
    obtain ⟨status, count⟩ := s.openBecomes_lamp n (x == .confirmed)
    rw [settled] at status
    refine ⟨status, ?_, fun same => absurd (status.symm.trans same) moves, fun _ => ?_⟩
    · rw [count, status, if_neg moves]
    · rw [s.openBecomes_fmy, status]
      simp only [beq_iff_eq]

/-! ### Overcurrent (R126) -/

/-- Whether an overcurrent now confirms a short. -/
def State.confirmsShort : Prop :=
  s.testable n = true ∧ 3 ≤ min ((s.lamp n).trips + 1) 255 ∧ (s.lamp n).shortStatus ≠ .confirmed

/-- A lamp as an overcurrent leaves it, but for what PRU puts out. -/
structure State.Tripped (s t : State) (n : Fin 24) : Prop where
  retry : (t.lamp n).retry = .running s.now
  trips : (t.lamp n).trips = if s.testable n = true then min ((s.lamp n).trips + 1) 255 else (s.lamp n).trips
  short : (t.lamp n).shortStatus = if s.testable n = true ∧ 3 ≤ (t.lamp n).trips then .confirmed else (s.lamp n).shortStatus
  fmy : t.fmy = if (t.lamp n).shortStatus = (s.lamp n).shortStatus then s.fmy else (s.reportActive (.lamp n .short)).fmy

variable {s n} in
/-- What PRU puts out touches none of this. -/
theorem State.Tripped.putsOut {t u : State} (h : State.Tripped s t n) (out : PutsOut t u) : State.Tripped s u n := by
  have lamp := out.lamp n
  have fmy : u.fmy = t.fmy := out.only.same .fmy
  refine ⟨?_, ?_, ?_, ?_⟩
  · rw [lamp]; exact h.retry
  · rw [lamp]; exact h.trips
  · rw [lamp]; exact h.short
  · rw [lamp, fmy]; exact h.fmy

theorem State.overcurrent_tripped : State.Tripped s (s.overcurrent n) n := by
  delta State.overcurrent
  extract_lets trip count u
  have tripped : trip.lamp n = { s.lamp n with retry := .running s.now } := State.modLamp_same _ _ _
  have counted : u.lamp n = { s.lamp n with retry := .running s.now, trips := count } := by
    exact (State.modLamp_same trip n _).trans (by rw [tripped])
  have before : OnlyChanges [.pru] s u := (s.modLamp_only n _).andThen (trip.modLamp_only n _) (n := [.pru])
  by_cases testable : s.testable n = true
  · rw [if_pos testable]
    split
    case isTrue confirms =>
      obtain ⟨three, other⟩ := confirms
      let v := (u.modLamp n fun l => { l with shortStatus := .confirmed })
      have marked : OnlyChanges [.pru] s v := before.andThen (u.modLamp_only n _)
      have lamp : (v.reportActive (.lamp n .short)).lamp n =
          { s.lamp n with retry := .running s.now, trips := count, shortStatus := .confirmed } := by
        rw [State.lamp, (State.reportActive_only v _).same .pru]
        refine (State.modLamp_same u n _).trans ?_
        rw [counted]
      have all : State.Tripped s (v.reportActive (.lamp n .short)) n := by
        refine ⟨?_, ?_, ?_, ?_⟩
        · rw [lamp]
        · rw [lamp, if_pos testable]
        · rw [lamp, if_pos ⟨testable, three⟩]
        · rw [lamp, if_neg (Ne.symm other)]
          exact marked.reportActive_fmy (c := _)
      exact all.putsOut ((State.followCalls_putsOut _).trans (State.refreshPru_putsOut _))
    case isFalse stays =>
      have all : State.Tripped s u n := by
        refine ⟨?_, ?_, ?_, ?_⟩
        · rw [counted]
        · rw [counted, if_pos testable]
        · rw [counted]
          by_cases three : 3 ≤ count
          · rw [if_pos ⟨testable, three⟩]
            exact not_not.mp fun other => stays ⟨three, other⟩
          · rw [if_neg fun h => three h.2]
        · rw [counted, if_pos rfl]
          exact before.same .fmy
      exact all.putsOut (State.followCalls_putsOut _)
  · rw [if_neg testable]
    have all : State.Tripped s trip n := by
      refine ⟨?_, ?_, ?_, ?_⟩
      · rw [tripped]
      · rw [tripped, if_neg testable]
      · rw [tripped, if_neg fun h => testable h.1]
      · rw [tripped, if_pos rfl]
        exact (s.modLamp_only n _).same .fmy
    exact all.putsOut (State.followCalls_putsOut _)

/-- R126: a tripped lamp carries no current. -/
theorem State.driverOn_tripped {since : Int} (retry : (s.lamp n).retry = .running since) : s.driverOn n = false := by
  simp [State.driverOn, Lamp.driverOn, Lamp.tripped, retry, Timer.isStopped]

theorem State.endTrip_lamp : ((s.endTrip n).lamp n).retry = .stopped ∧
    ((s.endTrip n).lamp n).published = (s.lamp n).published := by
  have tripless := s.modLamp_same n fun l => { l with retry := .stopped }
  unfold State.endTrip
  rw [State.followCalls_lamp, Lamp.timeSuccess_eq, tripless]
  exact ⟨rfl, rfl⟩

theorem State.endTrip_putsOut : PutsOut (s.modLamp n fun l => { l with retry := .stopped }) (s.endTrip n) :=
  State.followCalls_putsOut _

/-! ### A successful on period (R126) -/

theorem State.onPeriodGood_lamp : ((s.onPeriodGood n).lamp n).trips = 0 ∧ ((s.onPeriodGood n).lamp n).shortStatus = .good ∧
    (s.onPeriodGood n).fmy = if (s.lamp n).shortStatus = .good then s.fmy else (s.reportCleared (.lamp n .short)).fmy := by
  delta State.onPeriodGood
  extract_lets status u
  have counted : u.lamp n = { s.lamp n with success := .paused (ms 50), trips := 0 } := State.modLamp_same _ _ _
  have before : OnlyChanges [.pru] s u := s.modLamp_only n _
  by_cases good : status = .good
  · rw [if_pos good, if_pos good, counted]
    exact ⟨rfl, good, before.same .fmy⟩
  · rw [if_neg good, if_neg good]
    let v := u.modLamp n fun l => { l with shortStatus := .good }
    have marked : OnlyChanges [.pru] s v := before.andThen (u.modLamp_only n _)
    have lamp : (v.reportCleared (.lamp n .short)).lamp n =
        { s.lamp n with success := .paused (ms 50), trips := 0, shortStatus := .good } := by
      rw [State.lamp, (State.reportCleared_only v _).same .pru]
      refine (State.modLamp_same u n _).trans ?_
      rw [counted]
    have out := State.refreshPru_putsOut (v.reportCleared (.lamp n .short))
    refine ⟨?_, ?_, (out.only.same .fmy).trans (marked.reportCleared_fmy (c := _))⟩
    all_goals rw [out.lamp n, lamp]

end

/-- Settles O48: each event of the lamp diagnosis by the operation that it runs. -/
theorem lampsAreDiagnosed : Obligations.LampsAreDiagnosed := by
  refine ⟨fun s since live running => ?_, fun s n low live => ⟨fun untested => ?_, fun tested => ?_⟩,
    fun s n live => ⟨fun off => ?_, fun on => ?_⟩, fun s n since live running => ?_, fun s n since live running => ?_⟩
  · let r := s.reach (since + ms s.tables.general.lampCheck)
    have out := State.refreshPru_putsOut r.endLampCheck
    refine ⟨r.endLampCheck.refreshPru, ?_, (out.only.same .now).trans rfl, out.check.trans rfl, out.list.trans rfl,
      fun free n => ?_, ?_⟩
    · rw [exec_runs _ s rfl live, eventEffect, running]; rfl
    · rw [State.refreshPru_published, if_neg (by rw [show r.endLampCheck.lampsFrozen = s.lampsFrozen from rfl, free]; decide)]
      exact (out.readsSame.presentedLevel n).symm
    · exact (s.reach_only _).andThen ((r.modPru_only _).andThen out.only (n := [.pru]))
  · rw [exec_runs _ s rfl live, eventEffect, if_neg (by rw [untested]; decide)]
  · let u := s.atLampTick n
    have moment : OnlyChanges [.now, .sched] s u := (Advances.atMoment (l := [.sched]) s _ _).only
    have lamp : u.lamp n = s.lamp n := rfl
    obtain ⟨status, count, quiet, reports⟩ := u.openTest_spec n low
    refine ⟨u.openTest n low, (s.lamp n).openStep low, ?_, ?_, ?_, status.trans ?_, count, fun same => ?_, fun other => ?_, ?_⟩
    · rw [exec_runs _ s rfl live, eventEffect, if_pos tested]
    · exact ((State.openTest_only _ n low).same .now).trans rfl
    · unfold Lamp.openStep
      cases (s.lamp n).openStatus <;> cases low <;> rfl
    · rw [lamp]
      cases (s.lamp n).openStatus <;> rfl
    · exact moment.andThen (quiet same)
    · rw [reports other]
      split
      · exact moment.reportActive_fmy (c := _)
      · exact moment.reportCleared_fmy (c := _)
    · exact moment.andThen (State.openTest_only u n low)
  · rw [exec_runs _ s rfl live, eventEffect, if_neg (by rw [off]; decide)]
  · have tripped := s.overcurrent_tripped n
    refine ⟨s.overcurrent n, ?_, tripped.retry, State.driverOn_tripped _ n tripped.retry, tripped.trips, tripped.short,
      tripped.fmy, s.overcurrent_only n⟩
    rw [exec_runs _ s rfl live, eventEffect, if_pos on]
  · let r := s.reach (since + (s.lamp n).retryTime)
    have reached : OnlyChanges [.now] s r := s.reach_only _
    have out := r.endTrip_putsOut n
    obtain ⟨retry, published⟩ := r.endTrip_lamp n
    have time : ((s.lamp n).retryTime : Int) = if (s.lamp n).shortStatus = .confirmed then 10000000 else 1000000 := by
      unfold Lamp.retryTime
      cases (s.lamp n).shortStatus <;> rfl
    refine ⟨r.endTrip n, ?_, ?_, ?_, ?_, ?_⟩
    · rw [exec_runs _ s rfl live, eventEffect, running]; rfl
    · rw [← time]; exact (out.only.same .now).trans rfl
    · exact retry
    · have phase : (r.endTrip n).pru.phase = s.pru.phase := out.phase
      have before : (r.lamp n).published = (s.lamp n).published := rfl
      rw [State.driverOn, phase, Lamp.driverOn, Lamp.tripped, retry, published, before]
      exact Bool.and_true _
    · exact reached.andThen ((r.modLamp_only n _).andThen out.only (n := [.pru]))
  · let r := s.reach (since + ms 50)
    have reached : OnlyChanges [.now] s r := s.reach_only _
    obtain ⟨trips, short, fmy⟩ := r.onPeriodGood_lamp n
    refine ⟨r.onPeriodGood n, ?_, ((r.onPeriodGood_only n).same .now).trans rfl, trips, short, fmy.trans ?_,
      reached.andThen (r.onPeriodGood_only n)⟩
    · rw [exec_runs _ s rfl live, eventEffect, running]; rfl
    · exact ite_congr rfl (fun _ => rfl) fun _ => reached.reportCleared_fmy (c := _)

end Sys2Proof.Machine
end

section
/-! PROOFS. The flash phase and the tones of the chime (O49). -/

namespace Sys2Proof.Machine
set_option Elab.async false

section
variable (s : State)

/-! ### The flash phase (R122) -/

theorem State.advancePhase_lamp (n : Fin 24) : (s.advancePhase.lamp n).published = (s.lamp n).published ∧
    (s.advancePhase.lamp n).retry = (s.lamp n).retry := by
  have before : (s.modPru fun p => { p with phase := (p.phase + 1) % 1000 }).lamp n = s.lamp n := rfl
  unfold State.advancePhase
  rw [State.followCalls_lamp, Lamp.timeSuccess_eq, before]
  exact ⟨rfl, rfl⟩

theorem State.advancePhase_phase : s.advancePhase.pru.phase = (s.pru.phase + 1) % 1000 :=
  (State.followCalls_putsOut _).phase

/-! ### The end of a SINGLE tone (R129) -/

/-- A winner whose SINGLE mark is set is no candidate any more. -/
theorem State.dueWinner_marked {m : Fin 64} (single : (s.ruleCfg m).chime = some .single)
    (marked : s.pru.singleMarks[m] = true) : s.dueWinner ≠ some m := by
  intro due
  obtain ⟨-, candidate, -⟩ := (s.dueWinner_some m).mp due
  have ok := (s.isCandidate_iff m).mpr candidate
  simp [State.isCandidate, single, marked] at ok

variable {s}

theorem State.singleDone_forced {r : ChimeForce} (forced : s.wsv.chime = some r) : s.singleDone = s.soundOff :=
  if_pos (by rw [forced]; rfl)

theorem State.singleDone_winner {m : Fin 64} (free : s.wsv.chime = none) (winner : s.pru.winner = some m) :
    s.singleDone = (s.modPru fun p => { p with singleMarks := p.singleMarks.set m true }).refreshChime := by
  unfold State.singleDone
  rw [free, winner]
  rfl

end

/-- Settles O49, from what each event does to the phase and to the sounder. -/
theorem flashAndChimeKeepTheirTime : Obligations.FlashAndChimeKeepTheirTime := by
  refine ⟨fun phase => ⟨rfl, rfl, ?_, ?_⟩, fun s live running awake => ?_, fun s live tone => ⟨fun r forced single => ?_,
    fun m free winner single => ?_⟩, fun s tone period live repeats => ?_⟩
  · simp only [Level.calls, decide_eq_true_eq]
    omega
  · simp only [Level.calls, Bool.or_eq_true, Bool.and_eq_true, decide_eq_true_eq]
    omega
  · have wakes : s.mode.isAwake = true := by cases e : s.mode <;> simp_all [Mode.isAwake]
    have moment : OnlyChanges [.now, .sched] s s.atFlash := (Advances.atMoment (l := [.sched]) s _ _).only
    have same := s.atFlash.advancePhase_only
    have phase : s.atFlash.advancePhase.pru.phase = (s.pru.phase + 1) % 1000 := s.atFlash.advancePhase_phase
    refine ⟨s.atFlash.advancePhase, ?_, (same.same .now).trans rfl, ?_, phase, fun n => ?_, moment.andThen same⟩
    · rw [exec_runs _ s rfl live, eventEffect, if_pos wakes]
    · rw [same.same .sched, same.same .now]; rfl
    · obtain ⟨published, retry⟩ := s.atFlash.advancePhase_lamp n
      have lamp : s.atFlash.lamp n = s.lamp n := rfl
      rw [State.driverOn, Lamp.driverOn, Lamp.tripped, published, retry, lamp]
      refine ⟨rfl, congrArg _ ?_⟩
      cases (s.lamp n).retry <;> rfl
  · let r' := s.reach (s.pru.patternStart + ms 400)
    have sounds : s.pattern = some .single := by rw [State.pattern, forced, ← single]
    refine ⟨r'.soundOff, ?_, rfl, rfl, (s.reach_only _).andThen r'.soundOff_only⟩
    rw [exec_runs _ s rfl live, eventEffect, if_pos ⟨sounds, tone⟩]
    exact congrArg _ (State.singleDone_forced (s := r') forced)
  · let r := s.reach (s.pru.patternStart + ms 400)
    have sounds : s.pattern = some .single := by rw [State.pattern, free, winner]; exact single
    let u := r.modPru fun p => { p with singleMarks := p.singleMarks.set m true }
    have out := u.refreshChime_putsOut
    have due : u.dueWinner ≠ some m := u.dueWinner_marked single (by
      change (s.pru.singleMarks.set m true)[m] = true
      simp)
    have pru := u.refreshChime_pru
    have now : u.refreshChime.pru.winner = u.dueWinner := by rw [pru]
    refine ⟨u.refreshChime, ?_, (out.only.same .now).trans rfl, out.marks, ?_, ?_, ?_, ?_⟩
    · rw [exec_runs _ s rfl live, eventEffect, if_pos ⟨sounds, tone⟩]
      exact congrArg _ (State.singleDone_winner (s := r) free winner)
    · exact now.trans out.readsSame.dueWinner.symm
    · rw [now]; exact due
    · rw [pru]
      exact if_neg fun same => due (same.trans winner)
    · exact (s.reach_only _).andThen ((r.modPru_only _).andThen out.only (n := [.pru]))
  · have goes : s.pattern.bind Pattern.repeats = some (tone, period) := by
      obtain ⟨p, rfl, rfl⟩ | ⟨p, rfl, rfl⟩ := repeats <;> rw [p] <;> rfl
    have runs : exec .chimeToneEdge s = .next (s.toneEdge tone period) := by
      rw [exec_runs _ s rfl live, eventEffect, goes]
    cases sounding : s.pru.tone
    · refine ⟨_, runs, ?_, ?_, ?_⟩
      all_goals rw [State.toneEdge, if_neg (by rw [sounding]; decide)]
      · rfl
      · rfl
      · exact (s.reach_only _).andThen (State.modPru_only _ _)
    · refine ⟨_, runs, ?_, ?_, ?_⟩
      all_goals rw [State.toneEdge, if_pos sounding]
      · rfl
      · rfl
      · exact (s.reach_only _).andThen (State.soundOff_only _)

end Sys2Proof.Machine
end

section
/-! PROOFS. What a re-derivation does to its door set (R134 to R144): its record field by field, the grants and the
interlock, and the service counters. -/

namespace Sys2Proof.Machine
set_option Elab.async false

/-! ### Within one door set -/

/-- From `s` to `t` nothing of DMN changes but the record of one door set. -/
structure WithinDoor (d : Fin 4) (s t : State) : Prop where
  only : OnlyChanges doorParts s t
  others : ∀ e, e ≠ d → t.door e = s.door e
  ilk : KeepsIlk s t
  raises : Raises [.door, .fault, .lost] s t

section
variable {d : Fin 4} {s t u : State}

theorem WithinDoor.refl (d : Fin 4) (s : State) : WithinDoor d s s := ⟨.refl _ s, fun _ _ => rfl, .refl s, .refl _ s⟩

theorem WithinDoor.trans (h : WithinDoor d s t) (k : WithinDoor d t u) : WithinDoor d s u :=
  ⟨h.only.trans k.only, fun e other => (k.others e other).trans (h.others e other), h.ilk.trans k.ilk, h.raises.trans k.raises⟩

theorem WithinDoor.ite {c : Prop} [Decidable c] (h : WithinDoor d s t) (k : WithinDoor d s u) :
    WithinDoor d s (if c then t else u) := by split <;> assumption

theorem WithinDoor.modDoor (d : Fin 4) (s : State) (f : Door → Door) : WithinDoor d s (s.modDoor d f) :=
  ⟨(s.modDoor_only d f).mono, fun e other => s.modDoor_other d e f (Ne.symm other), ⟨rfl, rfl⟩, .of_lif rfl⟩

theorem OnlyChanges.door_eq {l : List Part} (h : OnlyChanges l s t) (e : Fin 4)
    (k : partsIn [.dmn] l = false := by with_unfolding_all rfl) : t.door e = s.door e :=
  congrArg (fun m : Dmn => m.doors[e]) (h.same .dmn k)

theorem WithinDoor.report (d : Fin 4) (s : State) (c : FaultCode) (a : Bool) : WithinDoor d s (s.report c a) :=
  have only := s.report_only c a
  ⟨only.mono, fun e _ => only.door_eq e, only.keepsIlk, (s.report_raises c a).mono (by decide)⟩

theorem WithinDoor.bump (d : Fin 4) (s : State) (c : Fin 12) : WithinDoor d s (s.bump c) :=
  ⟨(s.bump_only c).mono, fun e _ => (s.bump_only c).door_eq e, (s.bump_only c).keepsIlk, .of_lif rfl⟩

theorem WithinDoor.attend (d : Fin 4) (s : State) : WithinDoor d s (s.attend .door) :=
  ⟨(s.attend_only .door).mono, fun e _ => (s.attend_only .door).door_eq e, (s.attend_only .door).keepsIlk,
    .attend s .door (by decide)⟩

end

/-! ### Flags, counts and reports of a door set -/

section
variable (s : State) (d : Fin 4)

theorem State.doorReport_within (y : DoorSym) : WithinDoor d s (s.doorReport y d) :=
  .ite (.refl d s) (.trans (.modDoor d s _) (.report d _ _ true))

/-- R142: the mark of the code is set, and nothing else of the record changes. -/
theorem State.doorReport_door (y : DoorSym) : (s.doorReport y d).door d =
    { s.door d with marks := ((s.doorReport y d).door d).marks } ∧ y ∈ ((s.doorReport y d).door d).marks := by
  unfold State.doorReport
  split
  case isTrue marked => exact ⟨rfl, marked⟩
  case isFalse fresh =>
    rw [(State.reportActive_only _ _).door_eq d, State.modDoor_same]
    exact ⟨rfl, List.mem_cons_self⟩

theorem State.doorReport_counters (y : DoorSym) : (s.doorReport y d).fmy.counters = s.fmy.counters := by
  unfold State.doorReport
  split
  · rfl
  · exact (State.report_counters _ _ true).trans rfl

theorem State.reportAllCleared_counters (l : List FaultCode) : (s.reportAllCleared l).fmy.counters = s.fmy.counters := by
  induction l generalizing s with
  | nil => rfl
  | cons c l ih => exact (ih _).trans (s.report_counters c false)

theorem State.reportAllCleared_within (l : List FaultCode) : WithinDoor d s (s.reportAllCleared l) := by
  induction l generalizing s with
  | nil => exact .refl d s
  | cons c l ih => exact .trans (.report d s c false) (ih _)

/-- R140. -/
theorem State.shutAndLocked_door : (s.shutAndLocked d).door d = { s.door d with
    openWhileMoving := false, repeatedObstruction := false, closeTimeout := false, notLocked := false,
    obstructions := 0, marks := [], cycle := true } := by
  delta State.shutAndLocked
  extract_lets marked
  rw [State.modDoor_same, (State.reportAllCleared_only _ _).door_eq d]

theorem State.shutAndLocked_within : WithinDoor d s (s.shutAndLocked d) := by
  delta State.shutAndLocked
  extract_lets marked
  exact .trans (s.reportAllCleared_within d _) (.modDoor d _ _)

theorem State.shutAndLocked_counters : (s.shutAndLocked d).fmy.counters = s.fmy.counters := by
  delta State.shutAndLocked
  extract_lets marked
  exact s.reportAllCleared_counters _

/-- R141. -/
theorem State.flagOpening_door : (s.flagOpening d).door d = { s.door d with
    openWhileMoving := (s.door d).openWhileMoving || s.aboveWithdraw, marks := ((s.flagOpening d).door d).marks } := by
  unfold State.flagOpening
  split
  case isTrue flags =>
    obtain ⟨fast, -⟩ := Bool.and_eq_true_iff.mp flags
    rw [(State.doorReport_door _ d _).1, State.modDoor_same, fast, Bool.or_true]
  case isFalse stays =>
    have same : ((s.door d).openWhileMoving || s.aboveWithdraw) = (s.door d).openWhileMoving := by
      revert stays
      cases s.aboveWithdraw <;> cases (s.door d).openWhileMoving <;> simp
    rw [same]

theorem State.flagOpening_within : WithinDoor d s (s.flagOpening d) :=
  .ite (.trans (.modDoor d s _) (State.doorReport_within _ d _)) (.refl d s)

theorem State.flagOpening_counters : (s.flagOpening d).fmy.counters = s.fmy.counters := by
  unfold State.flagOpening
  split
  · exact State.doorReport_counters _ d _
  · rfl

/-- R140: a cycle is counted once. -/
theorem State.countCycle_door : (s.countCycle d).door d = { s.door d with cycle := false } := by
  unfold State.countCycle
  split
  case isTrue => rw [State.modDoor_same, (s.bump_only _).door_eq d]
  case isFalse off => rw [← Bool.eq_false_iff.mpr off]

theorem State.countCycle_within : WithinDoor d s (s.countCycle d) :=
  .ite (.trans (.bump d s _) (.modDoor d _ _)) (.refl d s)

theorem State.bump_counter (c e : Fin 12) : (s.bump c).counter e =
    if e = c then min (s.counter e + 1) counterMax else s.counter e := by
  rw [State.counter, State.bump, State.modFmy_fmy, State.counter]
  dsimp only
  by_cases same : e = c
  · subst same; rw [if_pos rfl]; exact updAt_same _ _ _
  · rw [if_neg same]; exact updAt_other _ _ _ _ (Ne.symm same)

theorem State.countCycle_counter (c : Fin 12) : (s.countCycle d).counter c =
    if (s.door d).cycle = true ∧ c = cyclePlace d then min (s.counter c + 1) counterMax else s.counter c := by
  unfold State.countCycle
  split
  case isTrue on =>
    refine ((s.bump_counter (cyclePlace d) c).trans ?_)
    by_cases same : c = cyclePlace d
    · rw [if_pos same, if_pos ⟨on, same⟩]
    · rw [if_neg same, if_neg fun h => same h.2]
  case isFalse off => exact (if_neg fun h => off h.1).symm

/-- R139. -/
theorem State.countObstruction_door : (s.countObstruction d).door d = { s.door d with
    obstructions := min ((s.door d).obstructions + 1) 255,
    repeatedObstruction := (s.door d).repeatedObstruction || decide (3 ≤ min ((s.door d).obstructions + 1) 255),
    marks := ((s.countObstruction d).door d).marks } := by
  delta State.countObstruction
  extract_lets s1 s2
  have here : s2.door d = { s.door d with obstructions := min ((s.door d).obstructions + 1) 255 } := by
    have counted : s1.door d = { s.door d with obstructions := min ((s.door d).obstructions + 1) 255 } := s.modDoor_same d _
    rw [← counted]
    exact (s1.bump_only _).door_eq d
  split
  case isTrue third =>
    obtain ⟨three, -⟩ := third
    rw [here] at three
    rw [(State.doorReport_door _ d _).1, State.modDoor_same, here, decide_eq_true three, Bool.or_true]
  case isFalse stays =>
    rw [here] at stays ⊢
    dsimp only at stays ⊢
    have same : ((s.door d).repeatedObstruction || decide (3 ≤ min ((s.door d).obstructions + 1) 255)) =
        (s.door d).repeatedObstruction := by
      cases on : (s.door d).repeatedObstruction
      · exact decide_eq_false fun three => stays ⟨three, by simp [on]⟩
      · rfl
    rw [same]

theorem State.countObstruction_within : WithinDoor d s (s.countObstruction d) := by
  delta State.countObstruction
  extract_lets s1 s2
  have h2 : WithinDoor d s s2 := .trans (.modDoor d s _) (.bump d s1 _)
  exact h2.trans (.ite (.trans (.modDoor d s2 _) (State.doorReport_within _ d _)) (.refl d s2))

theorem State.countObstruction_counter (c : Fin 12) : (s.countObstruction d).counter c =
    if c = obstructionPlace d then min (s.counter c + 1) counterMax else s.counter c := by
  delta State.countObstruction
  extract_lets s1 s2
  have here : s2.counter c = if c = obstructionPlace d then min (s.counter c + 1) counterMax else s.counter c :=
    s1.bump_counter (obstructionPlace d) c
  rw [← here]
  have reported (u : State) : ((u.modDoor d fun r => { r with repeatedObstruction := true }).doorReport
      .repeatedObstruction d).counter c = u.counter c :=
    congrArg (fun v : Vector Nat 12 => v[c]) (State.doorReport_counters _ d _)
  split
  · exact reported s2
  · rfl

/-! ### What follows an entry to a door state -/

/-- R139 to R141: the counts and reports after the change of the state. -/
def State.doorFlags (d : Fin 4) (old new : DoorState) (s : State) : State :=
  let s := if old = .closedLocked ∧ new ≠ .unknown then s.flagOpening d else s
  let s := if new = .closedLocked then s.shutAndLocked d else s
  let s := if new.isOpening then s.countCycle d else s
  if new = .obstructed then s.countObstruction d else s

/-- What is left of a record after them, with the marks that they leave. -/
def Door.flagged (above : Bool) (old new : DoorState) (marks : List DoorSym) (r : Door) : Door :=
  { r with
    marks := marks,
    openWhileMoving := new != .closedLocked && (r.openWhileMoving || (old == .closedLocked && new != .unknown && above)),
    repeatedObstruction := new != .closedLocked &&
      (r.repeatedObstruction || (new == .obstructed && decide (3 ≤ min (r.obstructions + 1) 255))),
    closeTimeout := new != .closedLocked && r.closeTimeout,
    notLocked := new != .closedLocked && r.notLocked,
    obstructions := if new = .closedLocked then 0
      else if new = .obstructed then min (r.obstructions + 1) 255 else r.obstructions,
    cycle := new == .closedLocked || (r.cycle && !new.isOpening) }

theorem State.doorFlags_within (old new : DoorState) : WithinDoor d s (s.doorFlags d old new) := by
  delta State.doorFlags
  extract_lets s1 s2 s3
  have h1 : WithinDoor d s s1 := .ite (s.flagOpening_within d) (.refl d s)
  have h2 : WithinDoor d s1 s2 := .ite (s1.shutAndLocked_within d) (.refl d s1)
  have h3 : WithinDoor d s2 s3 := .ite (s2.countCycle_within d) (.refl d s2)
  exact ((h1.trans h2).trans h3).trans (.ite (s3.countObstruction_within d) (.refl d s3))

theorem State.doorFlags_door (old new : DoorState) (moves : new ≠ old) : (s.doorFlags d old new).door d =
      (s.door d).flagged s.aboveWithdraw old new ((s.doorFlags d old new).door d).marks ∧
    (new = .closedLocked → ((s.doorFlags d old new).door d).marks = []) := by
  delta State.doorFlags
  extract_lets s1 s2 s3
  by_cases shut : new = .closedLocked
  · have e1 : s1 = s := if_neg fun h => moves (shut.trans h.1.symm)
    have e2 : s2 = s1.shutAndLocked d := if_pos shut
    have e3 : s3 = s2 := if_neg (by rw [shut]; exact Bool.false_ne_true)
    rw [if_neg (by rw [shut]; exact DoorState.noConfusion), e3, e2, State.shutAndLocked_door, e1]
    unfold Door.flagged
    rw [shut]
    exact ⟨rfl, fun _ => rfl⟩
  · refine ⟨?_, fun e => absurd e shut⟩
    have h1 : s1.door d = { s.door d with
        openWhileMoving := (s.door d).openWhileMoving || (old == .closedLocked && new != .unknown && s.aboveWithdraw),
        marks := (s1.door d).marks } := by
      by_cases opens : old = .closedLocked ∧ new ≠ .unknown
      · have e1 : s1 = s.flagOpening d := if_pos opens
        rw [e1, State.flagOpening_door]
        obtain ⟨was, known⟩ := opens
        have known : (new != DoorState.unknown) = true := bne_iff_ne.mpr known
        simp [was, known]
      · have e1 : s1 = s := if_neg opens
        have quiet : (old == DoorState.closedLocked && new != .unknown && s.aboveWithdraw) = false := by
          rw [Bool.and_eq_false_iff]
          refine .inl (Bool.eq_false_iff.mpr fun h => opens ?_)
          simpa using h
        rw [e1, quiet, Bool.or_false]
    have e2 : s2 = s1 := if_neg shut
    have h3 : s3.door d = { s1.door d with cycle := (s1.door d).cycle && !new.isOpening } := by
      by_cases opening : new.isOpening = true
      · have e3 : s3 = s2.countCycle d := if_pos opening
        rw [e3, State.countCycle_door, e2, opening, Bool.not_true, Bool.and_false]
      · have e3 : s3 = s2 := if_neg opening
        rw [e3, e2, Bool.eq_false_iff.mpr opening, Bool.not_false, Bool.and_true]
    have open_ : (new != DoorState.closedLocked) = true := bne_iff_ne.mpr shut
    have open' : (new == DoorState.closedLocked) = false := beq_eq_false_iff_ne.mpr shut
    unfold Door.flagged
    rw [open_, open', if_neg shut]
    by_cases blocked : new = .obstructed
    · rw [if_pos blocked, State.countObstruction_door, h3, h1]
      simp [blocked]
    · rw [if_neg blocked, h3, h1]
      simp [blocked]

theorem State.doorFlags_counter (old new : DoorState) (c : Fin 12) : (s.doorFlags d old new).counter c =
    if c = cyclePlace d ∧ (s.door d).cycle = true ∧ new.isOpening = true then min (s.counter c + 1) counterMax
    else if c = obstructionPlace d ∧ new = .obstructed then min (s.counter c + 1) counterMax else s.counter c := by
  have apart : cyclePlace d ≠ obstructionPlace d := fun e => by
    have := congrArg Fin.val e
    simp only [cyclePlace, obstructionPlace] at this
    omega
  delta State.doorFlags
  extract_lets s1 s2 s3
  have read (u v : State) (same : v.fmy.counters = u.fmy.counters) : v.counter c = u.counter c :=
    congrArg (fun v : Vector Nat 12 => v[c]) same
  have h1 : s1.counter c = s.counter c ∧ (s1.door d).cycle = (s.door d).cycle := by
    by_cases opens : old = .closedLocked ∧ new ≠ .unknown
    · have e1 : s1 = s.flagOpening d := if_pos opens
      rw [e1, State.flagOpening_door]
      exact ⟨read _ _ (s.flagOpening_counters d), rfl⟩
    · have e1 : s1 = s := if_neg opens
      rw [e1]
      exact ⟨rfl, rfl⟩
  have h2 : s2.counter c = s1.counter c := by
    by_cases shut : new = .closedLocked
    · have e2 : s2 = s1.shutAndLocked d := if_pos shut
      rw [e2]; exact read _ _ (s1.shutAndLocked_counters d)
    · have e2 : s2 = s1 := if_neg shut
      rw [e2]
  have h3 : s3.counter c = if c = cyclePlace d ∧ (s.door d).cycle = true ∧ new.isOpening = true
      then min (s.counter c + 1) counterMax else s.counter c := by
    by_cases opening : new.isOpening = true
    · have e3 : s3 = s2.countCycle d := if_pos opening
      have e2 : s2 = s1 := if_neg fun shut => by rw [shut] at opening; cases opening
      rw [e3, State.countCycle_counter, h2, h1.1, e2, h1.2]
      refine if_congr ?_ rfl rfl
      simp [opening, and_comm]
    · have e3 : s3 = s2 := if_neg opening
      rw [e3, h2, h1.1, if_neg fun h => opening h.2.2]
  by_cases blocked : new = .obstructed
  · rw [if_pos blocked, State.countObstruction_counter, h3]
    by_cases counts : c = obstructionPlace d
    · have other : c ≠ cyclePlace d := fun e => apart (e.symm.trans counts)
      simp [counts, blocked, Ne.symm apart]
    · simp [counts, blocked]
  · rw [if_neg blocked, h3]
    simp [blocked]

/-! ### The entry to a door state -/

/-- R134, R144, R147, R149: the new state with its timers, attention, grants, interlock and output. -/
def State.doorMoved (d : Fin 4) (new : DoorState) (s : State) : State :=
  let start := Timer.start s.now s.doorTimersRun
  let s := s.modDoor d fun r =>
    { r with st := new
             openTimer := if new = .opening then start else .stopped
             closeTimer := if new = .closing then start else .stopped
             lockTimer := if new = .closed then start else .stopped }
  let s := s.attend .door
  let s := if new = .emergency then s.withdrawAll else s
  s.evalInterlock.refreshOutput d

theorem State.enterDoorState_eq {new : DoorState} (moves : new ≠ (s.door d).st) :
    s.enterDoorState d new = (s.doorMoved d new).doorFlags d (s.door d).st new := if_neg moves

theorem State.enterDoorState_still : s.enterDoorState d (s.door d).st = s := if_pos rfl

/-- A record after the change of the state, its grant and its output. -/
def Door.moved (start : Timer) (slow running : Bool) (new : DoorState) (r : Door) : Door :=
  { r with
    st := new
    openTimer := if new = .opening then start else .stopped
    closeTimer := if new = .closing then start else .stopped
    lockTimer := if new = .closed then start else .stopped
    grant := r.grant && new != .emergency
    output := (r.grant && new != .emergency) && slow && running }

/-- A change of a grant changes the grant and the output alone. -/
theorem State.regranted_eq (g : Bool) (r : Door) :
    s.regranted g r = { r with grant := g, output := (s.regranted g r).output } := by
  unfold State.regranted
  split
  case isTrue same => rw [← same]
  case isFalse => rfl

structure DoorMoves (d : Fin 4) (new : DoorState) (s u : State) : Prop where
  only : OnlyChanges grantParts s u
  record : u.door d = (s.door d).moved (Timer.start s.now s.doorTimersRun) (!s.aboveWithdraw) s.mode.isRunning new
  others : ∀ e, e ≠ d → u.door e = if new = .emergency then s.regranted false (s.door e) else s.door e
  attends : u.lif.attention.has .door = true
  interlock : (s.doorCfg d).configured = true → u.dmn.interlock = s.dmn.interlock.evaluated u.anyCondition

theorem State.doorMoved_moves (new : DoorState) : DoorMoves d new s (s.doorMoved d new) := by
  delta State.doorMoved
  extract_lets start s1 s2 s3
  have h2 : OnlyChanges grantParts s s2 := (s.modDoor_only d _).andThen (s1.attend_only _)
  have h3 : OnlyChanges grantParts s s3 := h2.trans (.ite s2.withdrawAll_only (.refl _ s2))
  have h4 : OnlyChanges grantParts s3 (s3.evalInterlock.refreshOutput d) :=
    s3.evalInterlock_only.andThen (State.refreshOutput_only _ d)
  have here : s2.door d = { s.door d with
      st := new
      openTimer := if new = .opening then start else .stopped
      closeTimer := if new = .closing then start else .stopped
      lockTimer := if new = .closed then start else .stopped } := s.modDoor_same d _
  have there (e : Fin 4) (other : e ≠ d) : s2.door e = s.door e := s.modDoor_other d e _ (Ne.symm other)
  have raised : s2.lif.attention.has .door = true := Attention.has_raise s1.lif.attention .door
  have withdrawn (emergency : new = .emergency) (e : Fin 4) : s3.door e = s2.regranted false (s2.door e) := by
    have e3 : s3 = s2.withdrawAll := if_pos emergency
    rw [e3, State.withdrawAll, State.grantAll_door, if_pos (List.mem_finRange e)]
  have kept (calm : new ≠ .emergency) : s3 = s2 := if_neg calm
  have grant : (s3.door d).grant = ((s.door d).grant && new != .emergency) := by
    by_cases emergency : new = .emergency
    · rw [withdrawn emergency, State.regranted_grant, emergency]; exact (Bool.and_false _).symm
    · rw [kept emergency, here]
      simp [emergency]
  have st : (s3.door d).st = new := by
    by_cases emergency : new = .emergency
    · rw [withdrawn emergency, State.regranted_eq, here]
    · rw [kept emergency, here]
  have above : s3.evalInterlock.aboveWithdraw = s.aboveWithdraw := (h3.trans s3.evalInterlock_only).aboveWithdraw
  have mode : s3.evalInterlock.mode = s.mode := (h3.trans s3.evalInterlock_only).mode
  refine ⟨h3.trans h4, ?_, fun e other => ?_, ?_, fun configured => ?_⟩
  · have due : s3.evalInterlock.outputDue d =
        (((s.door d).grant && new != .emergency) && !s.aboveWithdraw && s.mode.isRunning) := by
      rw [State.outputDue, State.evalInterlock_door, above, mode, grant, st]
      generalize (new != DoorState.emergency) = calm
      cases (s.door d).grant <;> cases calm <;> simp
    rw [State.refreshOutput_door, due, State.evalInterlock_door]
    unfold Door.moved
    rw [← grant]
    by_cases emergency : new = .emergency
    · rw [withdrawn emergency, State.regranted_eq, here]
    · rw [kept emergency, here]
  · rw [State.refreshOutput_other _ d e (Ne.symm other), State.evalInterlock_door]
    split
    case isTrue emergency => rw [withdrawn emergency, h2.regranted, there e other]
    case isFalse calm => rw [kept calm, there e other]
  · have raised3 : s3.lif.attention.has .door = true := by
      by_cases emergency : new = .emergency
      · have e3 : s3 = s2.withdrawAll := if_pos emergency
        rw [e3]; exact s2.grantAll_keeps_cause _ _ raised
      · rw [kept emergency]; exact raised
    have same : (s3.evalInterlock.refreshOutput d).lif.attention = s3.evalInterlock.lif.attention :=
      (State.refreshOutput_only _ d).same .attention
    rw [same]
    exact s3.evalInterlock_keeps_cause .door raised3
  · have conditions : (s3.evalInterlock.refreshOutput d).anyCondition = s3.anyCondition := by
      refine h4.anyCondition_eq fun e => ?_
      by_cases same : d = e
      · rw [← same, State.refreshOutput_door, State.evalInterlock_door]; exact ⟨rfl, rfl⟩
      · rw [State.refreshOutput_other _ d e same, State.evalInterlock_door]; exact ⟨rfl, rfl⟩
    have interlock : (s3.evalInterlock.refreshOutput d).dmn.interlock = s3.dmn.interlock.evaluated s3.anyCondition :=
      s3.evalInterlock_interlock
    have before : s2.dmn.interlock = s.dmn.interlock := rfl
    rw [conditions, interlock]
    by_cases emergency : new = .emergency
    · have e3 : s3 = s2.grantAll (List.finRange 4) false := if_pos emergency
      have open_ : s3.anyCondition = true := by
        have cfg : s3.doorCfg d = s.doorCfg d := congrArg (fun t : Tables => t.doors[d]) (h3.same .tables)
        have doors : s3.condDoors = true :=
          List.any_eq_true.mpr ⟨d, List.mem_finRange d, by rw [cfg, configured, st, emergency]; rfl⟩
        rw [State.anyCondition, doors]; rfl
      by_cases change : ∃ e ∈ List.finRange 4, (s2.door e).grant ≠ false
      · have now := s2.grantAll_interlock (List.finRange 4) change (.inr (by rw [← e3]; exact open_))
        rw [← e3, before] at now
        rw [now, Interlock.evaluated_evaluated _ _ (.inr open_)]
      · have still : s3 = s2 := e3.trans (s2.grantAll_of_eq _ (by simpa using change))
        rw [still, before]
    · rw [kept emergency, before]

/-- An entry to another door state, taken whole (R134, R139 to R141, R144, R147, R149). -/
structure DoorEnters (d : Fin 4) (new : DoorState) (s t : State) : Prop where
  only : OnlyChanges doorParts s t
  record : t.door d = ((s.door d).moved (Timer.start s.now s.doorTimersRun) (!s.aboveWithdraw) s.mode.isRunning new).flagged
    s.aboveWithdraw (s.door d).st new (t.door d).marks
  cleared : new = .closedLocked → (t.door d).marks = []
  others : ∀ e, e ≠ d → t.door e = if new = .emergency then s.regranted false (s.door e) else s.door e
  attends : t.lif.attention.has .door = true
  interlock : (s.doorCfg d).configured = true → t.dmn.interlock = s.dmn.interlock.evaluated t.anyCondition
  counter : ∀ c, t.counter c =
    if c = cyclePlace d ∧ (s.door d).cycle = true ∧ new.isOpening = true then min (s.counter c + 1) counterMax
    else if c = obstructionPlace d ∧ new = .obstructed then min (s.counter c + 1) counterMax else s.counter c

theorem State.enterDoorState_enters {new : DoorState} (moves : new ≠ (s.door d).st) :
    DoorEnters d new s (s.enterDoorState d new) := by
  rw [s.enterDoorState_eq d moves]
  have moved := s.doorMoved_moves d new
  generalize s.doorMoved d new = u at moved
  have within := u.doorFlags_within d (s.door d).st new
  obtain ⟨record, cleared⟩ := u.doorFlags_door d _ _ moves
  have above : u.aboveWithdraw = s.aboveWithdraw := moved.only.aboveWithdraw
  have counters : u.fmy.counters = s.fmy.counters := congrArg Fmy.counters (moved.only.same .fmy)
  refine ⟨moved.only.mono.trans within.only, ?_, cleared, fun e other => (within.others e other).trans (moved.others e other),
    within.raises.keeps _ moved.attends, fun configured => ?_, fun c => ?_⟩
  · rw [above, moved.record] at record
    exact record
  · have conditions : (u.doorFlags d (s.door d).st new).anyCondition = u.anyCondition := by
      refine within.only.anyCondition_eq fun e => ?_
      by_cases same : e = d
      · subst same; rw [record]; exact ⟨rfl, rfl⟩
      · rw [within.others e same]; exact ⟨rfl, rfl⟩
    rw [within.ilk.1, conditions]
    exact moved.interlock configured
  · have cycle : (u.door d).cycle = (s.door d).cycle := by rw [moved.record]; rfl
    have same : u.counter c = s.counter c := congrArg (fun v : Vector Nat 12 => v[c]) counters
    rw [u.doorFlags_counter, cycle, same]

/-! ### The end stops (R135) -/

/-- Whether both end stops of a set read ACTIVE. -/
def State.bothEnds (s : State) (d : Fin 4) : Prop :=
  s.doorLine d .closed = some .active ∧ s.doorLine d .openEnd = some .active

/-- R135: a record after the test of its end stops. -/
def Door.tested (none both : Bool) (start : Timer) (r : Door) : Door :=
  { r with
    inconMark := r.inconMark && (none || both)
    inconTimer := if none = true then r.inconTimer
      else if both = true then (if r.inconTimer = .stopped ∧ r.inconMark = false then start else r.inconTimer)
      else .stopped }

theorem State.testEndStops_within : WithinDoor d s (s.testEndStops d) := by
  unfold State.testEndStops
  exact .ite (.refl d s) (.ite (.modDoor d s _) (.modDoor d s _))

theorem State.testEndStops_only_dmn : OnlyChanges [.dmn] s (s.testEndStops d) := by
  unfold State.testEndStops
  exact .ite (.refl _ s) (.ite (s.modDoor_only d _) (s.modDoor_only d _))

theorem State.testEndStops_door {both : Bool} (ends : both = true ↔ s.bothEnds d) : (s.testEndStops d).door d =
    (s.door d).tested ((s.doorCfg d).openEnd.isNone) both (Timer.start s.now s.doorTimersRun) := by
  unfold State.testEndStops Door.tested
  cases missing : (s.doorCfg d).openEnd.isNone
  · rw [if_neg Bool.false_ne_true]
    by_cases now : s.bothEnds d
    · have both : both = true := ends.mpr now
      obtain ⟨shut, wide⟩ := now
      rw [if_pos ⟨shut, wide⟩, State.modDoor_same, both]
      generalize s.door d = r
      obtain ⟨-, -, -, -, timer, mark, -⟩ := r
      cases timer <;> cases mark <;> simp [Timer.isStopped]
    · have both : both = false := Bool.eq_false_iff.mpr (mt ends.mp now)
      have apart : ¬ (s.doorLine d .closed = some .active ∧ s.doorLine d .openEnd = some .active) := now
      rw [if_neg apart, State.modDoor_same, both]
      simp
  · simp

/-- R135: two states with one table and one set of lines read the same end stops. -/
theorem OnlyChanges.doorLine_eq {l : List Part} {t : State} {s : State} (h : OnlyChanges l s t) (e : Fin 4) (k : DoorSlot)
    (hlm : partsIn [.hlm] l = false := by with_unfolding_all rfl)
    (tables : partsIn [.tables] l = false := by with_unfolding_all rfl) : t.doorLine e k = s.doorLine e k := by
  have values : t.logical = s.logical := funext (h.keepsLogical hlm)
  have same : t.tables = s.tables := h.same .tables tables
  rw [State.doorLine, State.doorLine, State.doorCfg, State.doorCfg, values, same]

theorem State.rederive_eq (ev : DoorEvent) : s.rederive d ev =
    ((s.testEndStops d).enterDoorState d ((s.testEndStops d).derivedState d ev)).expiryReport d ev (s.door d).st := rfl

end

end Sys2Proof.Machine
end

section
/-! PROOFS. The door timers and the release delay at their expiry (O50). -/

namespace Sys2Proof.Machine
set_option Elab.async false

section
variable (s : State) (d : Fin 4)

/-- R134: no line of the set is INVALID and the end stops do not exclude each other. -/
theorem State.doorUntrusted_iff : s.doorUntrusted d = true ↔
    (s.door d).inconMark = true ∨ ∃ k, s.doorLine d k = some .invalid := by
  unfold State.doorUntrusted doorSlots
  rw [Bool.or_eq_true, List.any_eq_true]
  refine or_congr_right ⟨fun ⟨k, _, h⟩ => ⟨k, beq_iff_eq.mp h⟩, fun ⟨k, h⟩ => ⟨k, ?_, beq_iff_eq.mpr h⟩⟩
  cases k <;> simp

theorem State.testEndStops_doorLine (k : DoorSlot) : (s.testEndStops d).doorLine d k = s.doorLine d k :=
  (s.testEndStops_only_dmn d).doorLine_eq d k

/-- R135: the test of the end stops leaves a trusted set trusted. -/
theorem State.testEndStops_trusted (trusted : s.doorUntrusted d = false) : (s.testEndStops d).doorUntrusted d = false := by
  rw [Bool.eq_false_iff, Ne, State.doorUntrusted_iff, not_or] at trusted ⊢
  obtain ⟨mark, lines⟩ := trusted
  refine ⟨?_, fun ⟨k, h⟩ => lines ⟨k, (s.testEndStops_doorLine d k).symm.trans h⟩⟩
  have both : decide (s.doorLine d .closed = some .active ∧ s.doorLine d .openEnd = some .active) = true ↔ s.bothEnds d :=
    decide_eq_true_iff
  rw [s.testEndStops_door d both]
  simp [Door.tested, mark]

/-- Of a record the test of the end stops changes only what it times. -/
theorem State.testEndStops_record : (s.testEndStops d).door d = { s.door d with
    inconMark := ((s.testEndStops d).door d).inconMark, inconTimer := ((s.testEndStops d).door d).inconTimer } := by
  have both : decide (s.doorLine d .closed = some .active ∧ s.doorLine d .openEnd = some .active) = true ↔ s.bothEnds d :=
    decide_eq_true_iff
  rw [s.testEndStops_door d both]
  rfl

theorem State.testEndStops_st : ((s.testEndStops d).door d).st = (s.door d).st := by
  rw [s.testEndStops_record d]

variable {s d}

/-- R134: the state of a trusted set outside EMERGENCY, with the CLOSED line not ACTIVE. -/
theorem State.derivedState_moving {ev : DoorEvent} {x : DoorState} (trusted : s.doorUntrusted d = false)
    (calm : s.doorLine d .emergency ≠ some .active) (st : (s.door d).st = x) (known : x ≠ .unknown ∧ x ≠ .emergency)
    (off : s.doorLine d .closed ≠ some .active) : s.derivedState d ev = s.movingState d ev x := by
  unfold State.derivedState
  dsimp only
  rw [trusted, if_neg Bool.false_ne_true, if_neg calm, st, if_neg (by simp [known]), if_neg off]

/-- R136: with the CLOSED line ACTIVE the lines name the position. -/
theorem State.derivedState_shut {ev : DoorEvent} (trusted : s.doorUntrusted d = false)
    (calm : s.doorLine d .emergency ≠ some .active) (on : s.doorLine d .closed = some .active) :
    s.derivedState d ev = if s.doorLocked d = true then .closedLocked else .closed := by
  have position : s.positionState d = if s.doorLocked d = true then .closedLocked else .closed := if_pos on
  unfold State.derivedState
  dsimp only
  rw [trusted, if_neg Bool.false_ne_true, if_neg calm, if_pos on, position, ite_self]

end

/-! ### A flag without a change of state (R137, R139, R144) -/

section
variable (s : State) (d : Fin 4)

/-- What an expiry that raises a flag does: the timer stops, the flag stands and its code is reported once. -/
theorem State.flagRaised_parts (isSet : Door → Bool) (stop : Door → Door) (set : Door → Door) (y : DoorSym)
    (stopMarks : ∀ r, isSet (stop r) = isSet r) :
    WithinDoor d s (((s.modDoor d stop).raiseFlag isSet set d).doorReport y d) ∧
    (((s.modDoor d stop).raiseFlag isSet set d).doorReport y d).door d =
      { (if isSet (s.door d) = true then stop (s.door d) else set (stop (s.door d))) with
        marks := ((((s.modDoor d stop).raiseFlag isSet set d).doorReport y d).door d).marks } ∧
    y ∈ ((((s.modDoor d stop).raiseFlag isSet set d).doorReport y d).door d).marks ∧
    (isSet (s.door d) = false →
      (((s.modDoor d stop).raiseFlag isSet set d).doorReport y d).lif.attention.has .door = true) := by
  let u := s.modDoor d stop
  let v := u.raiseFlag isSet set d
  have stopped : u.door d = stop (s.door d) := s.modDoor_same d _
  have within : WithinDoor d u v := .ite (.refl d u) (.trans (.modDoor d u _) (.attend d _))
  have record : v.door d = if isSet (s.door d) = true then stop (s.door d) else set (stop (s.door d)) := by
    change (ite _ _ _ : State).door d = _
    rw [stopped, stopMarks]
    split
    · exact stopped
    · exact (u.modDoor_same d set).trans (congrArg set stopped)
  obtain ⟨report, marked⟩ := v.doorReport_door d y
  have reported := v.doorReport_within d y
  refine ⟨(WithinDoor.modDoor d s stop).trans (within.trans reported), ?_, marked, fun fresh => reported.raises.keeps _ ?_⟩
  · rw [← record]
    exact report
  · have e : v = (u.modDoor d set).attend .door := if_neg (by rw [stopped, stopMarks, fresh]; exact Bool.false_ne_true)
    rw [e]
    exact Attention.has_raise _ .door

end

section
variable (s : State) (d : Fin 4)

/-- R138: the opening time ends in OPEN, and a set with an end stop reports that it is missing. -/
theorem State.rederive_opened (opening : (s.door d).st = .opening)
    (goes : (s.testEndStops d).derivedState d .openExpired = .opened) :
    OnlyChanges doorParts s (s.rederive d .openExpired) ∧
    ((s.rederive d .openExpired).door d).st = .opened ∧
    ((s.rederive d .openExpired).door d).openTimer = .stopped ∧
    ((s.doorCfg d).openEnd.isSome = true → DoorSym.openEndMissing ∈ ((s.rederive d .openExpired).door d).marks) ∧
    (∀ e, e ≠ d → (s.rederive d .openExpired).door e = s.door e) ∧
    (s.rederive d .openExpired).lif.attention.has .door = true := by
  have st := (s.testEndStops_st d).trans opening
  have enters := (s.testEndStops d).enterDoorState_enters d (new := .opened) (by rw [st]; decide)
  have moved : s.rederive d .openExpired =
      ((s.testEndStops d).enterDoorState d .opened).expiryReport d .openExpired .opening := by
    rw [s.rederive_eq, goes, opening]
  have tested := s.testEndStops_within d
  generalize (s.testEndStops d).enterDoorState d .opened = v at enters moved
  have opened : (v.door d).st = .opened := by rw [enters.record]; rfl
  have stopped : (v.door d).openTimer = .stopped := by rw [enters.record]; rfl
  have others (e : Fin 4) (other : e ≠ d) : v.door e = s.door e := by
    rw [enters.others e other, if_neg (by decide), tested.others e other]
  have cfg : v.doorCfg d = s.doorCfg d :=
    congrArg (fun t : Tables => t.doors[d]) ((tested.only.trans enters.only).same .tables)
  have reports : s.rederive d .openExpired = if (s.doorCfg d).openEnd.isSome = true then v.doorReport .openEndMissing d else v := by
    rw [moved, ← cfg]
    unfold State.expiryReport
    simp only [opened, true_and]
  have within : WithinDoor d v (s.rederive d .openExpired) := by
    rw [reports]
    exact .ite (v.doorReport_within d _) (.refl d v)
  have record : (s.rederive d .openExpired).door d = { v.door d with marks := ((s.rederive d .openExpired).door d).marks } := by
    rw [reports]
    split
    · exact (v.doorReport_door d _).1
    · rfl
  refine ⟨(tested.only.trans enters.only).trans within.only, ?_, ?_, fun ends => ?_,
    fun e other => (within.others e other).trans (others e other), within.raises.keeps _ enters.attends⟩
  · rw [record]; exact opened
  · rw [record]; exact stopped
  · rw [reports, if_pos ends]
    exact (v.doorReport_door d _).2

/-- An expiry that finds the state as it was raises its flag and reports its code. -/
theorem State.rederive_flag {ev : DoorEvent} (isSet : Door → Bool) (stop set : Door → Door) (y : DoorSym)
    (stopMarks : ∀ r, isSet (stop r) = isSet r)
    (stays : (s.testEndStops d).derivedState d ev = ((s.testEndStops d).door d).st)
    (expires : (s.testEndStops d).expiryReport d ev (s.door d).st =
      (((s.testEndStops d).modDoor d stop).raiseFlag isSet set d).doorReport y d) :
    WithinDoor d s (s.rederive d ev) ∧
    (s.rederive d ev).door d = { (if isSet ((s.testEndStops d).door d) = true then stop ((s.testEndStops d).door d)
      else set (stop ((s.testEndStops d).door d))) with marks := ((s.rederive d ev).door d).marks } ∧
    y ∈ ((s.rederive d ev).door d).marks ∧
    (isSet ((s.testEndStops d).door d) = false → (s.rederive d ev).lif.attention.has .door = true) := by
  have still : s.rederive d ev = (((s.testEndStops d).modDoor d stop).raiseFlag isSet set d).doorReport y d := by
    rw [s.rederive_eq, stays, State.enterDoorState_still, expires]
  obtain ⟨flagged, record, marked, attends⟩ := (s.testEndStops d).flagRaised_parts d isSet stop set y stopMarks
  rw [← still] at flagged record marked attends
  exact ⟨(s.testEndStops_within d).trans flagged, record, marked, attends⟩

/-- R135: the inconsistency timer makes the set UNKNOWN and reports it. -/
theorem State.inconsistent_spec (shut : s.doorLine d .closed = some .active) (wide : s.doorLine d .openEnd = some .active) :
    OnlyChanges doorParts s (s.inconsistent d) ∧ ((s.inconsistent d).door d).st = .unknown ∧
    ((s.inconsistent d).door d).inconMark = true ∧ ((s.inconsistent d).door d).inconTimer = .stopped ∧
    DoorSym.inconsistent ∈ ((s.inconsistent d).door d).marks ∧
    (∀ e, e ≠ d → (s.inconsistent d).door e = s.door e) := by
  let m := s.modDoor d fun r => { r with inconTimer := .stopped, inconMark := true }
  have marking : WithinDoor d s m := .modDoor d s _
  have marked : m.door d = { s.door d with inconTimer := .stopped, inconMark := true } := s.modDoor_same d _
  have both : true = true ↔ m.bothEnds d := ⟨fun _ =>
    ⟨((s.modDoor_only d _).doorLine_eq d .closed).trans shut, ((s.modDoor_only d _).doorLine_eq d .openEnd).trans wide⟩,
    fun _ => rfl⟩
  have tested : (m.testEndStops d).door d = m.door d := by
    rw [m.testEndStops_door d both, marked]
    simp [Door.tested]
  have within := marking.trans (m.testEndStops_within d)
  have unknown : (m.testEndStops d).derivedState d .inconExpired = .unknown := by
    have doubt : (m.testEndStops d).doorUntrusted d = true :=
      (State.doorUntrusted_iff _ d).mpr (.inl (by rw [tested, marked]))
    exact if_pos doubt
  have ends : s.inconsistent d = ((m.testEndStops d).enterDoorState d .unknown).doorReport .inconsistent d := by
    rw [State.inconsistent, State.rederive_eq, unknown]
    rfl
  obtain ⟨entered, st, kept, others⟩ : OnlyChanges doorParts (m.testEndStops d) ((m.testEndStops d).enterDoorState d .unknown) ∧
      (((m.testEndStops d).enterDoorState d .unknown).door d).st = .unknown ∧
      ((((m.testEndStops d).enterDoorState d .unknown).door d).inconMark = true ∧
        (((m.testEndStops d).enterDoorState d .unknown).door d).inconTimer = .stopped) ∧
      ∀ e, e ≠ d → ((m.testEndStops d).enterDoorState d .unknown).door e = (m.testEndStops d).door e := by
    by_cases already : ((m.testEndStops d).door d).st = .unknown
    · have still : (m.testEndStops d).enterDoorState d .unknown = m.testEndStops d := by
        rw [← already, State.enterDoorState_still]
      rw [still, tested, marked]
      rw [tested, marked] at already
      exact ⟨.refl _ _, already, ⟨rfl, rfl⟩, fun _ _ => rfl⟩
    · have enters := (m.testEndStops d).enterDoorState_enters d (Ne.symm already)
      rw [enters.record, tested, marked]
      exact ⟨enters.only, rfl, ⟨rfl, rfl⟩, fun e other => (enters.others e other).trans (if_neg (by decide))⟩
  generalize (m.testEndStops d).enterDoorState d .unknown = v at entered st kept others ends
  obtain ⟨report, listed⟩ := v.doorReport_door d .inconsistent
  have reported := v.doorReport_within d .inconsistent
  rw [← ends] at report listed reported
  refine ⟨(within.only.trans entered).trans reported.only, ?_, ?_, ?_, listed,
    fun e other => (reported.others e other).trans ((others e other).trans (within.others e other))⟩
  · rw [report]; exact st
  · rw [report]; exact kept.1
  · rw [report]; exact kept.2

end

/-- Settles O50: each timer by the re-derivation that its expiry brings. -/
theorem doorTimersExpire : Obligations.DoorTimersExpire := by
  refine ⟨fun s d since live running opening trusted calm off => ?_, fun s d since live running closing trusted calm off => ?_,
    fun s d since live running closed trusted calm on unlocked ends => ?_,
    fun s d since live running shut wide => ?_, fun s since live running => ?_⟩
  · let r := s.reach (since + ms (s.doorCfg d).openTimeout)
    have reached : OnlyChanges [.now] s r := s.reach_only _
    have derived := State.derivedState_moving (s := r.testEndStops d) (ev := .openExpired) (r.testEndStops_trusted d trusted)
      (by rw [r.testEndStops_doorLine]; exact calm) ((r.testEndStops_st d).trans opening) ⟨by decide, by decide⟩
      (by rw [r.testEndStops_doorLine]; exact off)
    have goes : (r.testEndStops d).derivedState d .openExpired = .opened := by
      rw [derived, State.movingState]
      exact if_pos (Bool.or_true _)
    obtain ⟨within, st, stopped, marked, others, attends⟩ := r.rederive_opened d opening goes
    refine ⟨r.rederive d .openExpired, ?_, (within.same .now).trans rfl, st, stopped, marked, others, attends,
      reached.andThen within⟩
    rw [exec_runs _ s rfl live, eventEffect, running]; rfl
  · let r := s.reach (since + ms (s.doorCfg d).closeTimeout)
    have reached : OnlyChanges [.now] s r := s.reach_only _
    have derived := State.derivedState_moving (s := r.testEndStops d) (ev := .closeExpired) (r.testEndStops_trusted d trusted)
      (by rw [r.testEndStops_doorLine]; exact calm) ((r.testEndStops_st d).trans closing) ⟨by decide, by decide⟩
      (by rw [r.testEndStops_doorLine]; exact off)
    have stays : (r.testEndStops d).derivedState d .closeExpired = ((r.testEndStops d).door d).st := by
      rw [derived, r.testEndStops_st]
      exact closing.symm
    obtain ⟨within, record, marked, attends⟩ := r.rederive_flag d (ev := .closeExpired) (·.closeTimeout)
      (fun r => { r with closeTimer := .stopped }) (fun r => { r with closeTimeout := true }) .closeTimeout (fun _ => rfl) stays
      (if_pos ⟨closing, (r.testEndStops_st d).trans closing⟩)
    have st : (r.door d).st = .closing := closing
    refine ⟨r.rederive d .closeExpired, ?_, (within.only.same .now).trans rfl, ?_, ?_, ?_, marked, within.others, within.ilk.1,
      fun fresh => attends ?_, reached.andThen within.only⟩
    · rw [exec_runs _ s rfl live, eventEffect, running]; rfl
    · rw [record, r.testEndStops_record d]
      dsimp only
      split <;> exact st
    · rw [record]
      dsimp only
      split <;> rfl
    · rw [record]
      dsimp only
      split
      · assumption
      · rfl
    · rw [r.testEndStops_record d]
      exact fresh
  · let r := s.reach (since + ms (s.doorCfg d).lockTimeout)
    have reached : OnlyChanges [.now] s r := s.reach_only _
    have derived := State.derivedState_shut (s := r.testEndStops d) (ev := .lockExpired) (r.testEndStops_trusted d trusted)
      (by rw [r.testEndStops_doorLine]; exact calm) (by rw [r.testEndStops_doorLine]; exact on)
    have stays : (r.testEndStops d).derivedState d .lockExpired = ((r.testEndStops d).door d).st := by
      have open_ : (r.testEndStops d).doorLocked d = false := by
        rw [State.doorLocked, r.testEndStops_doorLine, r.testEndStops_doorLine]
        exact unlocked
      rw [derived, r.testEndStops_st, open_, if_neg Bool.false_ne_true]
      exact closed.symm
    obtain ⟨within, record, marked, attends⟩ := r.rederive_flag d (ev := .lockExpired) (·.notLocked)
      (fun r => { r with lockTimer := .stopped }) (fun r => { r with notLocked := true }) .notLocked (fun _ => rfl) stays
      (if_pos ⟨closed, (r.testEndStops_st d).trans closed⟩)
    have st : (r.door d).st = .closed := closed
    refine ⟨r.rederive d .lockExpired, ?_, (within.only.same .now).trans rfl, ?_, ?_, ?_, marked, within.others, within.ilk.1,
      fun fresh => attends ?_, reached.andThen within.only⟩
    · rw [exec_runs _ s rfl live, eventEffect, running]; rfl
    · rw [record, r.testEndStops_record d]
      dsimp only
      split <;> exact st
    · rw [record]
      dsimp only
      split <;> rfl
    · rw [record]
      dsimp only
      split
      · assumption
      · rfl
    · rw [r.testEndStops_record d]
      exact fresh
  · let r := s.reach (since + ms s.tables.general.inconsistency)
    obtain ⟨within, st, mark, stopped, marked, others⟩ := r.inconsistent_spec d shut wide
    refine ⟨r.inconsistent d, ?_, (within.same .now).trans rfl, st, mark, stopped, marked, others,
      (s.reach_only _).andThen within⟩
    rw [exec_runs _ s rfl live, eventEffect, running]; rfl
  · let r := s.reach (since + ms 500)
    refine ⟨r.setInterlock .free .stopped, ?_, ((r.setInterlock_only _ _).same .now).trans rfl, ?_, ?_, fun asserted => ?_,
      (s.reach_only _).andThen (r.setInterlock_only _ _)⟩
    · rw [exec_runs _ s rfl live, eventEffect, running]; rfl
    · exact r.setInterlock_dmn _ _
    · rw [State.ilk, r.setInterlock_dmn]; rfl
    · rw [r.setInterlock_attention, if_neg]
      · rfl
      · rw [show r.ilk = s.ilk from rfl, asserted]; decide

end Sys2Proof.Machine
end

section
/-! PROOFS. What a speed update brings about (R57, R147, R13), and the feed timers (O43). -/

namespace Sys2Proof.Machine
set_option Elab.async false

/-! ### The speed -/

section
variable {s t : State}

/-- The speed, and what is compared with it, reads the channels, the lines and the tables. -/
theorem OnlyChanges.speed_eq {l : List Part} (h : OnlyChanges l s t)
    (gve : partsIn [.gve] l = false := by with_unfolding_all rfl)
    (hlm : partsIn [.hlm] l = false := by with_unfolding_all rfl)
    (tables : partsIn [.tables] l = false := by with_unfolding_all rfl) :
    t.moving = s.moving ∧ t.aboveWithdraw = s.aboveWithdraw ∧ t.standing = s.standing := by
  have values : t.logical = s.logical := funext (h.keepsLogical hlm)
  have same : t.tables = s.tables := h.same .tables tables
  simp only [State.moving, State.aboveWithdraw, State.standing, State.speed, State.speedChannel, State.channelCfg,
    State.roleValue, h.knownE gve, same, values, and_self]

/-- What a speed update changes. -/
abbrev speedParts : List Part := [.mctl, .ndr, .pru, .dmn, .forcing, .attention]

theorem State.leaveWorkshop_sweep (s : State) : s.leaveWorkshop.ndr.sweep = s.ndr.sweep := by
  have needles (u : State) : u.endNeedleForces.ndr.sweep = u.ndr.sweep := rfl
  have chime (u : State) : u.endChimeIfForced.ndr = u.ndr :=
    OnlyChanges.same (l := [.forcing, .pru]) (.ite (((u.modWsv_forcing _ (by intro; rfl)).andThen
      (State.soundOff_only _) (n := [.forcing, .pru])).andThen (State.refreshChime_only _)) (.refl _ u)) .ndr
  have lamps (u : State) : u.endLampForces.ndr = u.ndr := u.endLampForces_only.same .ndr
  have after (u : State) : u.refreshPru.ndr = u.ndr := u.refreshPru_only.same .ndr
  rw [State.leaveWorkshop, after, State.endAllForcing, chime, needles, lamps]
  rfl

/-- R13: WORKSHOP is left where it holds and MOVING does. -/
structure LeavesIfMoving (s t : State) : Prop where
  only : OnlyChanges speedParts s t
  leaves : s.mode = .workshop → s.moving = true → t.mode = .run ∧ t.wsv.records = 0 ∧ t.lif.attention.has .mode = true
  stays : s.mode ≠ .workshop ∨ s.moving = false → t = s
  needles : ∀ j, (t.needle j).latest = (s.needle j).latest ∧ (t.needle j).published = (s.needle j).published

theorem State.leaveWorkshopIfMoving_spec (s : State) : LeavesIfMoving s s.leaveWorkshopIfMoving := by
  have only : OnlyChanges speedParts s s.workshopToRun := s.leaveWorkshop_only.andThen (State.attend_only _ _)
  have needle (j : Fin 6) : s.workshopToRun.needle j = (s.needle j).unforce := s.leaveWorkshop_needle j
  have unforced (n : Needle) : n.unforce.latest = n.latest := by
    unfold Needle.unforce Needle.become
    repeat' split
    all_goals rfl
  unfold State.leaveWorkshopIfMoving
  split
  case isTrue goes =>
    refine ⟨only, fun _ _ => ⟨?_, ?_, ?_⟩, fun stays => ?_, fun j => ?_⟩
    · exact congrArg Mctl.mode s.leaveWorkshop_mctl
    · have wsv : s.workshopToRun.wsv = s.leaveWorkshop.wsv := rfl
      rw [wsv, State.leaveWorkshop_wsv]
      exact Wsv.records_empty _
    · exact Attention.has_raise s.leaveWorkshop.lif.attention .mode
    · exact absurd goes fun ⟨m, moves⟩ => stays.elim (fun h => h m) fun h => by rw [h] at moves; cases moves
    · rw [needle]
      exact ⟨unforced _, Needle.unforce_published _⟩
  case isFalse stays =>
    exact ⟨.refl _ s, fun m moves => absurd ⟨m, moves⟩ stays, fun _ => rfl, fun _ => ⟨rfl, rfl⟩⟩

/-! ### The speed update -/

theorem State.refreshOutputs_door (s : State) (d : Fin 4) : (s.refreshOutputs.door d).grant = (s.door d).grant ∧
    (s.refreshOutputs.door d).st = (s.door d).st ∧ ((s.door d).grant = false → (s.refreshOutputs.door d).output = false) := by
  have one (u : State) (e : Fin 4) : ((u.refreshOutput e).door d).grant = (u.door d).grant ∧
      ((u.refreshOutput e).door d).st = (u.door d).st := by
    by_cases same : e = d
    · subst same; rw [State.refreshOutput_door]; exact ⟨rfl, rfl⟩
    · rw [State.refreshOutput_other _ e d same]; exact ⟨rfl, rfl⟩
  have after (l : List (Fin 4)) (u : State) (off : (u.door d).grant = false) (out : d ∉ l → (u.door d).output = false) :
      ((l.foldl (fun s d => s.refreshOutput d) u).door d).output = false := by
    induction l generalizing u with
    | nil => exact out (by simp)
    | cons e l ih =>
      refine ih _ ((one u e).1.trans off) fun other => ?_
      by_cases same : e = d
      · subst same
        rw [State.refreshOutput_door]
        simp [State.outputDue, off]
      · rw [State.refreshOutput_other _ e d same]
        exact out (by simp [Ne.symm same, other])
  have all (l : List (Fin 4)) (u : State) : ((l.foldl (fun s d => s.refreshOutput d) u).door d).grant = (u.door d).grant ∧
      ((l.foldl (fun s d => s.refreshOutput d) u).door d).st = (u.door d).st := by
    induction l generalizing u with
    | nil => exact ⟨rfl, rfl⟩
    | cons e l ih => exact ⟨(ih _).1.trans (one u e).1, (ih _).2.trans (one u e).2⟩
  obtain ⟨grant, st⟩ := all (List.finRange 4) s
  exact ⟨grant, st, fun off => after (List.finRange 4) s off fun other => absurd (List.mem_finRange d) other⟩

/-- R147: above the withdraw speed no grant and no output is left. -/
theorem State.doorSpeedUpdate_withdraws (s : State) (fast : s.aboveWithdraw = true) (d : Fin 4) :
    (s.doorSpeedUpdate.door d).grant = false ∧ (s.doorSpeedUpdate.door d).output = false := by
  have goes : s.doorSpeedUpdate = s.withdrawAll.refreshOutputs := congrArg State.refreshOutputs (if_pos fast)
  obtain ⟨grant, -, output⟩ := s.withdrawAll.refreshOutputs_door d
  have off : (s.withdrawAll.door d).grant = false := by
    rw [State.withdrawAll, State.grantAll_door, if_pos (List.mem_finRange d), State.regranted_grant]
  rw [goes]
  exact ⟨grant.trans off, output off⟩

structure SpeedUpdates (s t : State) (role : Bool) : Prop where
  only : OnlyChanges speedParts s t
  withdraws : role = true → t.aboveWithdraw = true → ∀ d, (t.door d).grant = false ∧ (t.door d).output = false
  leaves : role = true → s.mode = .workshop → t.moving = true →
    t.mode = .run ∧ t.wsv.records = 0 ∧ t.lif.attention.has .mode = true
  stays : s.mode ≠ .workshop ∨ role = false ∨ t.moving = false → t.mctl = s.mctl
  needles : ∀ j, (t.needle j).latest = (s.needle j).latest ∧ (t.needle j).published = (s.needle j).published
  still : t.mode = s.mode → t.ndr = s.ndr

theorem State.speedUpdate_spec (s : State) (k : Fin 6) : SpeedUpdates s (s.speedUpdate k) (s.channelCfg k).hasSpeedRole := by
  unfold State.speedUpdate
  cases role : (s.channelCfg k).hasSpeedRole
  · rw [if_neg Bool.false_ne_true]
    exact ⟨.refl _ s, fun h => absurd h Bool.false_ne_true, fun h => absurd h Bool.false_ne_true, fun _ => rfl,
      fun _ => ⟨rfl, rfl⟩, fun _ => rfl⟩
  · rw [if_pos rfl]
    have doors := s.doorSpeedUpdate_only
    have spec := s.doorSpeedUpdate.leaveWorkshopIfMoving_spec
    obtain ⟨moving, above, -⟩ := spec.only.speed_eq
    obtain ⟨-, fast, -⟩ := doors.speed_eq
    have mode : s.doorSpeedUpdate.mode = s.mode := doors.keepsMode
    have ndr : s.doorSpeedUpdate.ndr = s.ndr := doors.same .ndr
    have mctl : s.doorSpeedUpdate.mctl = s.mctl := doors.same .mctl
    have same (j : Fin 6) : s.doorSpeedUpdate.needle j = s.needle j := congrArg (fun n : Ndr => n.needles[j]) ndr
    have records (d : Fin 4) : s.doorSpeedUpdate.leaveWorkshopIfMoving.door d = s.doorSpeedUpdate.door d := by
      have parts : OnlyChanges (.mctl :: .attention :: forcingParts) s.doorSpeedUpdate s.doorSpeedUpdate.leaveWorkshopIfMoving :=
        .ite ((State.leaveWorkshop_only _).andThen (State.attend_only _ _)) (.refl _ _)
      exact congrArg (fun m : Dmn => m.doors[d]) (parts.same .dmn)
    refine ⟨doors.andThen spec.only, fun _ withdraw d => ?_, fun _ m moves => ?_, fun stays => ?_, fun j => ?_, fun still => ?_⟩
    · rw [records]
      exact s.doorSpeedUpdate_withdraws (fast.symm.trans (above.symm.trans withdraw)) d
    · exact spec.leaves (mode.trans m) (moving.symm.trans moves)
    · rw [spec.stays (by rw [mode, ← moving]; exact stays.imp_right fun h => h.resolve_left (by decide)), mctl]
    · rw [← same]; exact spec.needles j
    · by_cases goes : s.doorSpeedUpdate.mode = .workshop ∧ s.doorSpeedUpdate.moving = true
      · obtain ⟨run, -⟩ := spec.leaves goes.1 goes.2
        rw [← mode, goes.1, run] at still
        cases still
      · rw [spec.stays (by rw [← Bool.not_eq_true]; exact not_and_or.mp goes), ndr]

end

end Sys2Proof.Machine
end

section
/-! PROOFS. What a channel hands its needle, and the feed timers (O43). -/

namespace Sys2Proof.Machine
set_option Elab.async false

section
variable (s : State) (k : Fin 6)

/-! ### What a needle is handed (R65, R66) -/

theorem State.needleInput_others {j : Fin 6} (other : j ≠ k) : (s.needleInput k).needle j = s.needle j := by
  have aimed (t : Nat) : (s.setLatest k t).needle j = s.needle j := State.modNeedle_other _ _ _ _ (Ne.symm other)
  unfold State.needleInput
  repeat' split
  all_goals first | rfl | exact aimed _

/-- Only the targets of a needle follow its channel. -/
theorem State.needleInput_targets (j : Fin 6) : (s.needleInput k).needle j = { s.needle j with
    latest := ((s.needleInput k).needle j).latest, published := ((s.needleInput k).needle j).published } := by
  by_cases other : j = k
  · subst other
    have aimed (t : Nat) : (s.setLatest j t).needle j = { s.needle j with
        latest := ((s.setLatest j t).needle j).latest, published := ((s.setLatest j t).needle j).published } := by
      rw [State.setLatest, State.modNeedle_same]; rfl
    unfold State.needleInput
    repeat' split
    all_goals first | rfl | exact aimed _
  · rw [s.needleInput_others k other]

theorem State.needleInput_sweep : (s.needleInput k).ndr.sweep = s.ndr.sweep := by
  unfold State.needleInput
  repeat' split
  all_goals rfl

/-- R66: the target is kept in INIT and in STALE. -/
theorem State.needleInput_waits (waits : (s.channel k).st = .init ∨ (s.channel k).st = .stale) : s.needleInput k = s := by
  unfold State.needleInput
  obtain st | st := waits <;> rw [st]

/-- R66: the target of a lost value. -/
theorem State.needleInput_lost (lost : (s.channel k).st = .fault ∨ (s.channel k).st = .lost) :
    (s.needleInput k).needle k =
      if (s.channelCfg k).holdLast then s.needle k else (s.needle k).aim s.lif.hold 0 := by
  have goes : s.needleInput k = if (s.channelCfg k).holdLast then s else s.setLatest k 0 := by
    unfold State.needleInput
    obtain st | st := lost <;> rw [st]
  rw [goes]
  split
  · rfl
  · exact State.modNeedle_same _ _ _

/-- R65: the target of a value that the dial shows. -/
theorem State.needleInput_valid (valid : (s.channel k).st = .valid) {f x : Int} (value : (s.channel k).f = some f)
    (shown : curveAt s.tables.dials[k] f = some x) :
    (s.needleInput k).needle k = (s.needle k).aim s.lif.hold x.toNat := by
  have goes : s.needleInput k = s.setLatest k x.toNat := by
    unfold State.needleInput
    rw [valid, value]
    simp only [Option.bind_some, shown]
  rw [goes]
  exact State.modNeedle_same _ _ _

/-! ### The expiries of the feed timer (R53, R60) -/

/-- The record of a channel whose feed is LOST. -/
def Channel.loses (h : Channel) : Channel :=
  { h with st := .lost, expiries := 2, feedTimer := .stopped }

/-- R53, R60: what the second expiry leaves before the needle is handed the loss. -/
def State.lostFeed : State :=
  let u := s.modChannel k Channel.loses
  if (s.channel k).lostMark then u
  else (u.reportActive (.gauge k .lost)).modChannel k fun h => { h with lostMark := true }

theorem State.lostFeed_only : OnlyChanges (.gve :: faultParts) s (s.lostFeed k) := by
  have lost : OnlyChanges [.gve] s (s.modChannel k Channel.loses) := s.modChannel_only k _
  exact .ite lost.mono ((lost.andThen (State.reportActive_only _ _) (n := .gve :: faultParts)).andThen
    (State.modChannel_only _ k _))

theorem State.lostFeed_channel : (s.lostFeed k).channel k = { (s.channel k).loses with lostMark := true } := by
  unfold State.lostFeed
  by_cases mark : (s.channel k).lostMark = true
  · rw [if_pos mark, State.modChannel_same]
    simp [Channel.loses, mark]
  · have reported := ((s.modChannel k Channel.loses).reportActive_only (.gauge k .lost)).channel_eq (j := k)
    rw [if_neg mark, State.modChannel_same, reported, State.modChannel_same]

theorem State.lostFeed_units : (s.lostFeed k).gve.units = s.gve.units := by
  have reported : ((s.modChannel k Channel.loses).reportActive (.gauge k .lost)).gve = (s.modChannel k Channel.loses).gve :=
    ((s.modChannel k Channel.loses).reportActive_only _).same .gve
  unfold State.lostFeed
  split
  · rfl
  · exact (congrArg Gve.units reported :)

theorem State.lostFeed_fmy : (s.lostFeed k).fmy =
    if (s.channel k).lostMark then s.fmy else (s.reportActive (.gauge k .lost)).fmy := by
  have plain (u : State) (fmy : u.fmy = s.fmy) (tables : u.tables = s.tables) :
      (u.reportActive (.gauge k .lost)).fmy = (s.reportActive (.gauge k .lost)).fmy :=
    State.reportActive_fmy_congr fmy _ (fun shows => absurd shows Bool.false_ne_true) tables
  unfold State.lostFeed
  split
  · rfl
  · exact plain _ rfl rfl

theorem State.feedExpired_second (second : (s.channel k).expiries ≠ 0) :
    s.feedExpired k = (s.lostFeed k).needleInput k := by
  have mark : ((s.modChannel k Channel.loses).channel k).lostMark = (s.channel k).lostMark := by
    rw [State.modChannel_same]; rfl
  have shape : s.lostFeed k =
      if ((s.modChannel k Channel.loses).channel k).lostMark then s.modChannel k Channel.loses
      else ((s.modChannel k Channel.loses).reportActive (.gauge k .lost)).modChannel k
        fun h => { h with lostMark := true } := by
    rw [mark]; rfl
  rw [shape]
  exact if_neg second

/-- The record of a channel whose feed is STALE. -/
def Channel.goesStale (now : Nat) (h : Channel) : Channel :=
  { h with st := .stale, expiries := 1, feedTimer := .running (now : Int) }

theorem State.feedExpired_first (first : (s.channel k).expiries = 0) :
    s.feedExpired k = s.modChannel k (Channel.goesStale s.now) := by
  have goes : s.feedExpired k = (s.modChannel k (Channel.goesStale s.now)).needleInput k := if_pos first
  rw [goes]
  exact State.needleInput_waits _ _ (.inr (by rw [State.modChannel_same]; rfl))

end

/-- Settles O43: the first expiry hands the needle nothing and is a speed update, the second hands it the loss. -/
theorem feedTimersExpire : Obligations.FeedTimersExpire := by
  intro s k since live running
  let r := s.reach (since + ms (s.channelCfg k).feedTimeout)
  have reached : OnlyChanges [.now] s r := s.reach_only _
  have runs : exec (.feedTimeout k) s = .next (r.feedTimeout k) := by
    rw [exec_runs _ s rfl live, eventEffect, running]; rfl
  by_cases first : (s.channel k).expiries = 0
  · let u := r.modChannel k (Channel.goesStale r.now)
    have stale : OnlyChanges [.now, .gve] s u := reached.andThen (State.modChannel_only _ _ _)
    have goes : r.feedTimeout k = u.speedUpdate k := by
      have expired : r.feedExpired k = u := r.feedExpired_first k first
      have is : ((r.channel k).expiries == 0) = true := beq_iff_eq.mpr first
      rw [State.feedTimeout, is, expired]
      rfl
    have speed := u.speedUpdate_spec k
    have gve : (u.speedUpdate k).gve = u.gve := speed.only.same .gve
    have channels (j : Fin 6) : (u.speedUpdate k).channel j = u.channel j := congrArg (fun g : Gve => g.channels[j]) gve
    have now : (u.speedUpdate k).now = r.now := (speed.only.same .now).trans rfl
    refine ⟨u.speedUpdate k, by rw [runs, goes], now.trans rfl, ?_, fun j other => ?_,
      (congrArg Gve.units gve).trans rfl, fun second => absurd first second, fun _ => ⟨?_, fun still => ?_, fun j => ?_, ?_⟩⟩
    · rw [if_pos first, channels, State.modChannel_same, now]
      rfl
    · rw [channels, State.modChannel_other _ _ _ _ (Ne.symm other)]
      rfl
    · exact (speed.only.same .fmy).trans rfl
    · exact (speed.still (still.trans rfl)).trans rfl
    · exact speed.needles j
    · exact stale.andThen speed.only
  · let u := r.lostFeed k
    have lost := r.lostFeed_only k
    have goes : r.feedTimeout k = u.needleInput k := by
      have expired : r.feedExpired k = u.needleInput k := r.feedExpired_second k first
      have not : ((r.channel k).expiries == 0) = false := beq_eq_false_iff_ne.mpr first
      rw [State.feedTimeout, not, expired]
      rfl
    have handed := u.needleInput_only k
    have record : (u.needleInput k).channel k = { (s.channel k).loses with lostMark := true } :=
      handed.channel_eq.trans (r.lostFeed_channel k)
    have ndr : u.ndr = s.ndr := (lost.same .ndr).trans rfl
    have needles (j : Fin 6) : u.needle j = s.needle j := congrArg (fun n : Ndr => n.needles[j]) ndr
    have cfg : u.channelCfg k = s.channelCfg k := congrArg (fun t : Tables => t.channels[k]) (lost.same .tables)
    have hold : u.lif.hold = s.lif.hold := (congrArg Lif.hold lost.link_eq :)
    refine ⟨u.needleInput k, by rw [runs, goes], ?_, ?_, fun j other => ?_, ?_,
      fun _ => ⟨?_, ?_, fun j other => ?_, ?_, ?_⟩, fun one => absurd one first⟩
    · exact (handed.same .now).trans (lost.same .now)
    · rw [if_neg first]
      exact record
    · have others : ((r.feedExpired k).channel j) = r.channel j := r.feedExpired_others k j other
      rw [r.feedExpired_second k first] at others
      exact others
    · exact (congrArg Gve.units (handed.same .gve)).trans ((r.lostFeed_units k).trans rfl)
    · rw [← reached.reportActive_fmy]
      exact (handed.same .fmy).trans (r.lostFeed_fmy k)
    · rw [u.needleInput_lost k (.inr (congrArg Channel.st (r.lostFeed_channel k))), needles, cfg, hold]
      rfl
    · rw [u.needleInput_others k other, needles]
    · rw [u.needleInput_sweep, ndr]
    · exact (reached.andThen lost (n := [.now, .gve, .fmy, .cursor, .attention])).andThen handed

end Sys2Proof.Machine
end

section
/-! PROOFS. The writes of the store (O51). -/

namespace Sys2Proof.Machine
set_option Elab.async false

/-! ### The start of a write (R166) -/

section
variable (s : State)

/-- R166: the write that the store makes next. -/
def State.nextWrite : Write :=
  match s.fmy.storeRequested, s.fmy.writes with
  | true, _ => .image s.tables.image
  | false, n :: _ => .slot n (s.fmy.slotContent n) false
  | false, [] => .counters s.fmy.counters

theorem State.nextWrite_store (requested : s.fmy.storeRequested = true) : s.nextWrite = .image s.tables.image := by
  unfold State.nextWrite
  rw [requested]

theorem State.nextWrite_item (unasked : s.fmy.storeRequested = false) {n : Fin 48} {rest : List (Fin 48)}
    (list : s.fmy.writes = n :: rest) : s.nextWrite = .slot n (s.fmy.slotContent n) false := by
  unfold State.nextWrite
  rw [unasked, list]

theorem State.nextWrite_save (unasked : s.fmy.storeRequested = false) (list : s.fmy.writes = []) :
    s.nextWrite = .counters s.fmy.counters := by
  unfold State.nextWrite
  rw [unasked, list]

theorem State.nextWrite_eq : s.nextWrite = match s.fmy.storeRequested, s.fmy.writes with
    | true, _ => .image s.tables.image
    | false, n :: _ => .slot n (match s.fmy.table.find? (·.slot == n) with
        | some e => .entry e
        | none => .empty) false
    | false, [] => .counters s.fmy.counters := rfl

theorem State.startWrite_stays (h : s.fmy.write ≠ .idle ∨ s.fmy.loading = true ∨ s.supply = .crank ∨ s.supply = .high ∨
    (s.fmy.storeRequested = false ∧ s.fmy.writes = [] ∧ s.fmy.counterDue = false)) : s.startWrite = s := by
  unfold State.startWrite
  by_cases barred : s.fmy.write ≠ .idle ∨ s.fmy.loading = true ∨ ¬s.supply.allowsWrite = true
  · exact if_pos barred
  · rw [if_neg barred]
    obtain busy | loading | crank | high | ⟨unasked, list, due⟩ := h
    · exact absurd (.inl busy) barred
    · exact absurd (.inr (.inl loading)) barred
    · exact absurd (.inr (.inr (by rw [crank]; decide))) barred
    · exact absurd (.inr (.inr (by rw [high]; decide))) barred
    · rw [unasked, if_neg Bool.false_ne_true, list, due, if_neg Bool.false_ne_true]

/-- R166: whether the next write is a counter save. -/
def State.savesNext : Bool := !s.fmy.storeRequested && s.fmy.writes.isEmpty

theorem State.savesNext_iff : s.savesNext = true ↔ s.fmy.storeRequested = false ∧ s.fmy.writes = [] := by
  simp [State.savesNext]

/-- R166: the fault memory as the next write starts. -/
def State.writeStarted : Fmy :=
  { s.fmy with
    write := s.nextWrite
    writeTimer := .running s.now
    writes := if s.fmy.storeRequested then s.fmy.writes else s.fmy.writes.drop 1
    storeRequested := false
    counterDue := s.fmy.counterDue && !s.savesNext
    reappend := s.fmy.reappend && (s.fmy.storeRequested || s.savesNext) }

theorem State.startWrite_ready (idle : s.fmy.write = .idle) (loaded : s.fmy.loading = false)
    (allowed : s.supply = .normal ∨ s.supply = .low)
    (due : s.fmy.storeRequested = true ∨ s.fmy.writes ≠ [] ∨ s.fmy.counterDue = true) :
    s.startWrite = (s.modFmy fun _ => s.writeStarted).restartAtWrite s.savesNext := by
  have free : ¬(s.fmy.write ≠ .idle ∨ s.fmy.loading = true ∨ ¬s.supply.allowsWrite = true) := by
    rw [idle, loaded]
    obtain e | e := allowed <;> rw [e] <;> decide
  unfold State.startWrite
  rw [if_neg free]
  cases asked : s.fmy.storeRequested with
  | true =>
    have saves : s.savesNext = false := by rw [State.savesNext, asked]; rfl
    rw [if_pos rfl, saves, State.writeStarted, asked, saves, s.nextWrite_store asked, if_pos rfl, Bool.true_or,
      Bool.and_true, Bool.not_false, Bool.and_true]
    rfl
  | false =>
    rw [if_neg Bool.false_ne_true]
    cases list : s.fmy.writes with
    | nil =>
      have saves : s.savesNext = true := by rw [State.savesNext, asked, list]; rfl
      have save : s.fmy.counterDue = true := due.resolve_left (by rw [asked]; decide) |>.resolve_left fun h => h list
      have stays : s.fmy.writes.drop 1 = s.fmy.writes := by rw [list]; rfl
      rw [saves, State.writeStarted, asked, saves, s.nextWrite_save asked list, stays, if_neg Bool.false_ne_true,
        Bool.or_true, Bool.and_true, Bool.not_true, Bool.and_false, ← asked]
      exact if_pos save
    | cons n rest =>
      have saves : s.savesNext = false := by rw [State.savesNext, asked, list]; rfl
      rw [saves, State.writeStarted, asked, saves, s.nextWrite_item asked list, list, if_neg Bool.false_ne_true,
        Bool.or_false, Bool.and_false, Bool.not_false, Bool.and_true, ← asked]
      rfl

end

/-! ### The completions (R167, R168, R171, R174) -/

section
variable {s t : State}

/-- A CLEARED report does the same to the fault memory with a write of the image in flight and without one. -/
theorem State.reportCleared_writeDone {l : List Byte} (image : s.fmy.write = .image l) (fmy : t.fmy = s.fmy.writeDone)
    (tables : t.tables = s.tables) (c : FaultCode) : (t.reportCleared c).fmy = (s.reportCleared c).fmy.writeDone := by
  have dirty (m : Fmy) (n : Fin 48) (same : m.write = .image l) : m.writeDone.dirty n = (m.dirty n).writeDone := by
    have apart : ¬m.write.slotNo = some n := by rw [same]; nofun
    have resting : ¬m.writeDone.write.slotNo = some n := by nofun
    unfold Fmy.dirty
    rw [if_neg apart, if_neg resting, show m.writeDone.writes = m.writes from rfl]
    split <;> rfl
  have change (i : Nat) (f : FaultEntry → FaultEntry) : (t.changeEntry i f).fmy = (s.changeEntry i f).fmy.writeDone := by
    unfold State.changeEntry
    rw [fmy, show s.fmy.writeDone.table = s.fmy.table from rfl]
    split
    case h_1 => exact fmy
    case h_2 e _ =>
      rw [State.tableChanged_fmy, State.tableChanged_fmy, State.modFmy_fmy, State.modFmy_fmy, fmy]
      exact dirty { s.fmy with table := s.fmy.table.set i (f e) } _ image
  have handled : (t.clearedReport c).fmy = (s.clearedReport c).fmy.writeDone := by
    unfold State.clearedReport
    rw [fmy, show s.fmy.writeDone.position c = s.fmy.position c from rfl, show s.fmy.writeDone.table = s.fmy.table from rfl]
    split
    · split
      · exact change _ _
      · exact fmy
    · exact fmy
  have goes (u : State) (tables : u.tables = s.tables) : u.reportCleared c = if u.fmy.loading = true
      then u.modFmy fun m => { m with held := m.held ++ [(c, c.priority s.tables, false)] } else u.clearedReport c := by
    rw [← tables]; rfl
  rw [goes t tables, goes s rfl, fmy, show s.fmy.writeDone.loading = s.fmy.loading from rfl]
  split
  · rw [State.modFmy_fmy, State.modFmy_fmy, fmy]; rfl
  · exact handled

/-- R165, R167: what the completion of a slot write leaves of the fault memory. -/
theorem Fmy.slotWritten_eq (m : Fmy) (n : Fin 48) : m.slotWritten n = { m with
    write := .idle, writeTimer := .stopped, reappend := false,
    writes := if m.reappend = true ∧ n ∉ m.writes then m.writes ++ [n] else m.writes,
    formers := if m.reappend = true ∨ (∃ e ∈ m.table, e.slot = n) then m.formers else m.formers.set n none } := by
  have owns : m.owns n = true ↔ ∃ e ∈ m.table, e.slot = n := by simp [Fmy.owns]
  unfold Fmy.slotWritten
  by_cases again : m.reappend = true
  · have former : (if m.reappend = true ∨ (∃ e ∈ m.table, e.slot = n) then m.formers else m.formers.set n none) = m.formers :=
      if_pos (.inl again)
    have item : (if m.reappend = true ∧ n ∉ m.writes then m.writes ++ [n] else m.writes) =
        if n ∈ m.writes then m.writes else m.writes ++ [n] := by
      by_cases listed : n ∈ m.writes <;> simp [listed, again]
    rw [if_pos again, former, item]
    rfl
  · have no : m.reappend = false := Bool.eq_false_iff.mpr again
    have item : (if m.reappend = true ∧ n ∉ m.writes then m.writes ++ [n] else m.writes) = m.writes :=
      if_neg fun h => again h.1
    rw [if_neg again, item]
    by_cases owned : m.owns n = true
    · have former : (if m.reappend = true ∨ (∃ e ∈ m.table, e.slot = n) then m.formers else m.formers.set n none) = m.formers :=
        if_pos (.inr (owns.mp owned))
      rw [if_pos owned, former, ← no]
      rfl
    · have former : (if m.reappend = true ∨ (∃ e ∈ m.table, e.slot = n) then m.formers else m.formers.set n none) =
          m.formers.set n none := if_neg (not_or.mpr ⟨again, mt owns.mpr owned⟩)
      rw [if_neg owned, former, ← no]
      rfl

end

/-- R172: what a written slot leaves of the clear in flight. -/
structure LeavesClear (n : Fin 48) (s t : State) : Prop where
  last : ∀ l, s.fmy.clear = some l → (∀ x ∈ l, x = n) → t.fmy.clear = none ∧ t.lif.attention.opdone = true
  more : ∀ l, s.fmy.clear = some l → (∃ x ∈ l, x ≠ n) →
    t.fmy.clear = some (l.filter (· ≠ n)) ∧ t.lif.attention = s.lif.attention
  none : s.fmy.clear = none → t = s
  fmy : t.fmy = { s.fmy with clear := t.fmy.clear }

theorem State.leaveClear_spec (s : State) (n : Fin 48) : LeavesClear n s (s.leaveClear n) := by
  cases flight : s.fmy.clear with
  | none =>
    have stays : s.leaveClear n = s := by unfold State.leaveClear; rw [flight]
    rw [stays]
    exact ⟨fun l e => absurd (flight.symm.trans e) nofun, fun l e => absurd (flight.symm.trans e) nofun, fun _ => rfl, rfl⟩
  | some l =>
    have goes : s.leaveClear n = if (l.filter (· ≠ n)).isEmpty = true then s.clearDone
        else s.modFmy fun m => { m with clear := some (l.filter (· ≠ n)) } := by
      unfold State.leaveClear; rw [flight]
    have is {l' : List (Fin 48)} (e : s.fmy.clear = some l') : l = l' := Option.some.inj (flight.symm.trans e)
    have empty : (l.filter (· ≠ n)).isEmpty = true ↔ ∀ x ∈ l, x = n := by
      simp [List.isEmpty_iff, List.filter_eq_nil_iff]
    have some_ : s.fmy.clear ≠ none := by rw [flight]; nofun
    rw [goes]
    by_cases all : ∀ x ∈ l, x = n
    · rw [if_pos (empty.mpr all)]
      refine ⟨fun _ _ _ => ⟨rfl, rfl⟩, fun l' e ⟨x, mem, ne⟩ => ?_, fun e => absurd e some_, rfl⟩
      exact absurd (all x (is e ▸ mem)) ne
    · rw [if_neg (mt empty.mp all)]
      refine ⟨fun l' e each => absurd (is e ▸ each) all, fun l' e _ => ?_, fun e => absurd e some_, rfl⟩
      rw [← is e]
      exact ⟨rfl, rfl⟩

/-- R165, R167, R172: the completion of a slot write, in full. -/
theorem State.completeSlotWrite_spec (s : State) (n : Fin 48) (c : SlotContent) (stale : Bool) :
    let t := s.completeSlotWrite n c stale
    t.fmy.write = .idle ∧ t.fmy.table = s.fmy.table ∧
    t.fmy.writes = (if s.fmy.reappend = true ∧ n ∉ s.fmy.writes then s.fmy.writes ++ [n] else s.fmy.writes) ∧
    (∀ l, s.fmy.clear = some l → stale = false →
      ((∀ x ∈ l, x = n) → t.fmy.clear = none ∧ t.lif.attention.opdone = true) ∧
      ((∃ x ∈ l, x ≠ n) → t.fmy.clear = some (l.filter (· ≠ n)) ∧ t.lif.attention = s.lif.attention)) ∧
    (s.fmy.clear = none ∨ stale = true → t.fmy.clear = s.fmy.clear ∧ t.lif.attention = s.lif.attention) ∧
    t.fmy = { s.fmy with
      write := .idle, writeTimer := .stopped, reappend := false, writes := t.fmy.writes, clear := t.fmy.clear,
      formers := if s.fmy.reappend = true ∨ (∃ e ∈ s.fmy.table, e.slot = n) then s.fmy.formers
        else s.fmy.formers.set n none } ∧
    t.nv = { s.nv with slots := s.nv.slots.set n c } := by
  let u := ({ s with nv := { s.nv with slots := s.nv.slots.set n c } } : State).modFmy (Fmy.slotWritten n)
  have written : u.fmy = _ := s.fmy.slotWritten_eq n
  have flight : u.fmy.clear = s.fmy.clear := by rw [written]
  have goes : s.completeSlotWrite n c stale = if stale then u else u.leaveClear n := rfl
  intro t
  have is : t = if stale then u else u.leaveClear n := goes
  cases old : stale with
  | true =>
    rw [old, if_pos rfl] at is
    rw [is, written]
    exact ⟨rfl, rfl, rfl, nofun, fun _ => ⟨rfl, rfl⟩, rfl, rfl⟩
  | false =>
    have spec := u.leaveClear_spec n
    have nv : (u.leaveClear n).nv = u.nv := (u.leaveClear_only n).same .nv
    rw [old, if_neg Bool.false_ne_true] at is
    rw [is]
    have fmy := spec.fmy
    rw [written] at fmy
    refine ⟨by rw [fmy], by rw [fmy], by rw [fmy], fun l some _ => ⟨spec.last l (flight.trans some), spec.more l (flight.trans some)⟩,
      fun none => ?_, by rw [fmy], nv⟩
    have stays := spec.none (flight.trans (none.resolve_right Bool.false_ne_true))
    rw [stays]
    exact ⟨flight, rfl⟩

/-- R171: how the completion of a counter save meets a restart that waits for it. -/
theorem State.restartAfterSave_spec (s : State) :
    s.restartAfterSave.mctl = { s.mctl with restart := if s.mctl.restart = .saving then
      (if s.fmy.writes = [] ∧ s.fmy.storeRequested = false then .ready else .waiting) else s.mctl.restart } ∧
    s.restartAfterSave.fmy = { s.fmy with counterDue := s.fmy.counterDue || (s.mctl.restart == .saving &&
      (s.fmy.writes != [] || s.fmy.storeRequested)) } ∧
    s.restartAfterSave.nv = s.nv := by
  have clean : (s.fmy.writes.isEmpty = true ∧ ¬s.fmy.storeRequested = true) ↔
      s.fmy.writes = [] ∧ s.fmy.storeRequested = false := by simp
  unfold State.restartAfterSave
  by_cases saving : s.mctl.restart = .saving
  · rw [if_neg (not_not_intro saving), if_pos saving, if_congr clean rfl rfl, saving, beq_self_eq_true, Bool.true_and]
    by_cases done : s.fmy.writes = [] ∧ s.fmy.storeRequested = false
    · rw [if_pos done, if_pos done, done.1, done.2]
      simp [State.modMctl]
    · have more : (s.fmy.writes != [] || s.fmy.storeRequested) = true := by
        rw [Bool.or_eq_true, bne_iff_ne]
        exact (not_and_or.mp done).imp_right Bool.eq_true_of_not_eq_false
      rw [if_neg done, if_neg done, more, Bool.or_true]
      exact ⟨rfl, rfl, rfl⟩
  · have other : (s.mctl.restart == .saving) = false := beq_eq_false_iff_ne.mpr saving
    rw [if_pos saving, if_neg saving, other, Bool.false_and, Bool.or_false]
    exact ⟨rfl, rfl, rfl⟩

/-- R168: the completion of a store. -/
theorem State.completeStore_spec (s : State) (l : List Byte) (image : s.fmy.write = .image l) :
    (s.completeStore l).nv = { s.nv with image := .bytes l } ∧ (s.completeStore l).lif.attention.opdone = true ∧
    (s.completeStore l).fmy = { (if s.mode = .unconfigured ∨ s.mctl.imageFailed = true
      then s.reportCleared .imageBad else s).fmy with write := .idle, writeTimer := .stopped } := by
  let u := (({ s with nv := { s.nv with image := .bytes l } } : State).modFmy Fmy.writeDone).attend .opdone
  have goes : s.completeStore l =
      if s.mode = .unconfigured ∨ s.mctl.imageFailed = true then u.reportCleared .imageBad else u := rfl
  rw [goes]
  by_cases bad : s.mode = .unconfigured ∨ s.mctl.imageFailed = true
  · rw [if_pos bad, if_pos bad]
    have keeps := (u.reportCleared_raises .imageBad).keeps .opdone
    exact ⟨(u.reportCleared_only .imageBad).same .nv, keeps rfl, State.reportCleared_writeDone (t := u) image rfl rfl _⟩
  · rw [if_neg bad, if_neg bad]
    exact ⟨rfl, rfl, rfl⟩

theorem RestartState.writeStarts_eq (r : RestartState) (b : Bool) :
    r.writeStarts b = if r = .idle then .idle else if b then .saving else .waiting := by
  cases r <;> rfl

/-- Settles O51: the start of a write and the three completions, each by what it leaves of the fault memory. -/
theorem storeMakesItsWrites : Obligations.StoreMakesItsWrites := by
  refine ⟨fun s live => ⟨fun h => ?_, fun idle loaded allowed due => ?_⟩, fun s n c stale since live write running => ?_,
    fun s c since live write running => ?_, fun s l since live write running => ?_⟩
  · rw [exec_runs _ s rfl live]
    exact congrArg _ (s.startWrite_stays h)
  · have goes := s.startWrite_ready idle loaded allowed due
    have runs : exec .writeStart s = .next s.startWrite := exec_runs _ s rfl live
    have only := s.startWrite_only
    rw [goes] at runs only
    refine ⟨_, runs, rfl, ?_, rfl, rfl, fun unasked list => ?_, fun h => ?_, fun unasked some => ?_, rfl, ?_, only⟩
    · exact s.nextWrite_eq
    · have saves : s.savesNext = true := s.savesNext_iff.mpr ⟨unasked, list⟩
      simp [State.restartAtWrite, State.writeStarted, saves]
    · have saves : s.savesNext = false := by
        rw [Bool.eq_false_iff, Ne, s.savesNext_iff]
        exact fun both => h.elim (by rw [both.1]; decide) (· both.2)
      simp [State.restartAtWrite, State.writeStarted, saves]
    · have saves : s.savesNext = false := by
        rw [Bool.eq_false_iff, Ne, s.savesNext_iff]
        exact fun both => some both.2
      simp [State.restartAtWrite, State.writeStarted, saves, unasked]
    · have kind : (if s.savesNext = true then RestartState.saving else .waiting) =
          if s.fmy.storeRequested = false ∧ s.fmy.writes = [] then .saving else .waiting :=
        if_congr s.savesNext_iff rfl rfl
      rw [← kind, ← RestartState.writeStarts_eq]
      rfl
  · let r := s.reach (since + ms 4)
    have reached : OnlyChanges [.now] s r := s.reach_only _
    have runs : exec .slotWriteComplete s = .next (r.completeSlotWrite n c stale) := by
      rw [exec_runs _ s rfl live, eventEffect, write]
      dsimp only
      rw [running]; rfl
    have only := r.completeSlotWrite_only n c stale
    obtain ⟨idle, table, writes, clear, kept, fmy, nv⟩ := r.completeSlotWrite_spec n c stale
    exact ⟨_, runs, (only.same .now).trans rfl, nv, idle, table, writes,
      fun l flight fresh => ⟨(clear l flight fresh).1, (clear l flight fresh).2⟩, kept, fmy, reached.andThen only⟩
  · let r := s.reach (since + ms 4)
    have reached : OnlyChanges [.now] s r := s.reach_only _
    have runs : exec .counterSaveComplete s = .next (r.completeCounterSave c).restartAfterSave := by
      rw [exec_runs _ s rfl live, eventEffect, write]
      dsimp only
      rw [running]; rfl
    have only := (r.completeCounterSave_only c).andThen (State.restartAfterSave_only _) (n := [.mctl, .fmy, .nv])
    obtain ⟨mctl, fmy, nv⟩ := (r.completeCounterSave c).restartAfterSave_spec
    refine ⟨_, runs, (only.same .now).trans rfl, ?_, ?_, ?_, reached.andThen only⟩
    · exact nv.trans rfl
    · exact fmy
    · exact mctl
  · let r := s.reach (since + ms 120)
    have reached : OnlyChanges [.now] s r := s.reach_only _
    have runs : exec .configStoreComplete s = .next (r.completeStore l) := by
      rw [exec_runs _ s rfl live, eventEffect, write]
      dsimp only
      rw [running]; rfl
    have only := r.completeStore_only l
    obtain ⟨nv, attends, fmy⟩ := r.completeStore_spec l write
    have reported : (if r.mode = .unconfigured ∨ r.mctl.imageFailed = true then r.reportCleared .imageBad else r).fmy =
        (if s.mode = .unconfigured ∨ s.mctl.imageFailed = true then s.reportCleared .imageBad else s).fmy := by
      by_cases bad : s.mode = .unconfigured ∨ s.mctl.imageFailed = true
      · have bad' : r.mode = .unconfigured ∨ r.mctl.imageFailed = true := bad
        rw [if_pos bad, if_pos bad', reached.reportCleared_fmy]
      · have good : ¬(r.mode = .unconfigured ∨ r.mctl.imageFailed = true) := bad
        rw [if_neg bad, if_neg good]; rfl
    rw [reported] at fmy
    exact ⟨_, runs, (only.same .now).trans rfl, nv, by rw [fmy], attends, fmy, reached.andThen only⟩

end Sys2Proof.Machine
end

section
/-! PROOFS. A channel sample: the acquired value, the filter, and what the needle is handed (O42). -/

namespace Sys2Proof.Machine
set_option Elab.async false

/-! ### The record that a sample leaves (R42) -/

section
variable (s : State) (k : Fin 6)

/-- Reports change nothing of a channel but its marks. -/
def Channel.marked (lost noise : Bool) (h : Channel) : Channel := { h with lostMark := lost, noiseMark := noise }

/-- From `s` to `t` channel `k` keeps all but its marks, and the units stay. -/
def KeepsButMarks (k : Fin 6) (s t : State) : Prop :=
  (∃ lost noise, t.channel k = (s.channel k).marked lost noise) ∧ t.gve.units = s.gve.units

theorem KeepsButMarks.refl : KeepsButMarks k s s := ⟨⟨_, _, rfl⟩, rfl⟩

variable {s k} in
theorem KeepsButMarks.trans {t u : State} (h : KeepsButMarks k s t) (g : KeepsButMarks k t u) : KeepsButMarks k s u := by
  obtain ⟨⟨_, _, first⟩, units⟩ := h
  obtain ⟨⟨lost, noise, second⟩, units'⟩ := g
  exact ⟨⟨lost, noise, by rw [second, first]; rfl⟩, units'.trans units⟩

variable {s k} in
theorem OnlyChanges.keepsButMarks {t : State} {l : List Part} (h : OnlyChanges l s t)
    (gve : partsIn [.gve] l = false := by with_unfolding_all rfl) : KeepsButMarks k s t :=
  ⟨⟨_, _, (h.channel_eq gve).trans rfl⟩, congrArg Gve.units (h.same .gve gve)⟩

theorem KeepsButMarks.mark (f : Channel → Channel) (marks : ∀ h, ∃ lost noise, f h = h.marked lost noise) :
    KeepsButMarks k s (s.modChannel k f) := by
  obtain ⟨lost, noise, e⟩ := marks (s.channel k)
  exact ⟨⟨lost, noise, (s.modChannel_same k f).trans e⟩, rfl⟩

theorem State.gaugeReports_marks (before : ChannelState) : KeepsButMarks k s (s.gaugeReports k before) := by
  have valid : KeepsButMarks k s (s.gaugeValid k) := by
    delta State.gaugeValid
    extract_lets s1 s2
    have h1 : KeepsButMarks k s s1 := iteInduction (fun _ => (s.reportCleared_only _).keepsButMarks) fun _ => .refl s k
    have h2 : KeepsButMarks k s1 s2 := iteInduction (fun _ => (s1.reportCleared_only _).keepsButMarks) fun _ => .refl s1 k
    exact (h1.trans h2).trans (.mark s2 k _ fun h => ⟨_, _, rfl⟩)
  have noise : KeepsButMarks k s (s.noiseReport k) :=
    iteInduction (fun _ => .refl s k) fun _ => .trans (s.reportActive_only _).keepsButMarks (.mark _ k _ fun h => ⟨_, _, rfl⟩)
  exact iteInduction (fun _ => .refl s k) fun _ => iteInduction (fun _ => valid) fun _ =>
    iteInduction (fun _ => noise) fun _ => .refl s k

/-- R42 to R55: what a sample leaves of its channel, of the units and of the needles. -/
structure Sampled (k : Fin 6) (s t : State) : Prop where
  record : ∃ lost noise, t.channel k =
    (((s.acquire k).channel k).filter (s.channelCfg k) (s.channel k).st).marked lost noise
  units : t.gve.units = (s.acquire k).gve.units
  others : ∀ j, j ≠ k → t.needle j = s.needle j
  targets : ∀ j, t.needle j = { s.needle j with latest := (t.needle j).latest, published := (t.needle j).published }
  sweep : t.ndr.sweep = s.ndr.sweep
  waits : (t.channel k).st = .init ∨ (t.channel k).st = .stale → t.needle k = s.needle k
  lost : (t.channel k).st = .fault ∨ (t.channel k).st = .lost →
    t.needle k = if (s.channelCfg k).holdLast then s.needle k else (s.needle k).aim s.lif.hold 0
  valid : (t.channel k).st = .valid → ∀ f x, (t.channel k).f = some f → curveAt s.tables.dials[k] f = some x →
    t.needle k = (s.needle k).aim s.lif.hold x.toNat

theorem State.sampleChannel_spec : Sampled k s (s.sampleChannel k) := by
  let v := ((s.acquire k).modChannel k (Channel.filter (s.channelCfg k) (s.channel k).st)).gaugeReports k (s.channel k).st
  have cfg : (s.acquire k).channelCfg k = s.channelCfg k :=
    congrArg (fun t : Tables => t.channels[k]) ((s.acquire_only k).same .tables)
  have goes : s.sampleChannel k = v.needleInput k := by
    delta State.sampleChannel
    dsimp only
    rw [cfg]
  have before : OnlyChanges [.free, .gve, .fmy, .cursor, .attention] s v :=
    ((s.acquire_only k).andThen (State.modChannel_only _ k _) (n := [.free, .gve])).andThen (State.gaugeReports_only _ k _)
  obtain ⟨⟨lost, noise, record⟩, units⟩ := State.gaugeReports_marks
    ((s.acquire k).modChannel k (Channel.filter (s.channelCfg k) (s.channel k).st)) k (s.channel k).st
  rw [State.modChannel_same] at record
  have handed := v.needleInput_only k
  have channel : (v.needleInput k).channel k = v.channel k := handed.channel_eq
  have ndr : v.ndr = s.ndr := before.same .ndr
  have needle (j : Fin 6) : v.needle j = s.needle j := congrArg (fun n : Ndr => n.needles[j]) ndr
  have tables : v.tables = s.tables := before.same .tables
  have hold : v.lif.hold = s.lif.hold := (congrArg Lif.hold before.link_eq :)
  rw [goes]
  refine ⟨⟨lost, noise, channel.trans record⟩, (congrArg Gve.units (handed.same .gve)).trans (units.trans rfl),
    fun j other => (v.needleInput_others k other).trans (needle j), fun j => ?_, ?_, fun st => ?_, fun st => ?_,
    fun st f x value shown => ?_⟩
  · rw [v.needleInput_targets k j, needle]
  · rw [v.needleInput_sweep, ndr]
  · rw [channel] at st
    rw [v.needleInput_waits k st, needle]
  · rw [channel] at st
    rw [v.needleInput_lost k st, needle, hold, State.channelCfg, tables]
    rfl
  · rw [channel] at st value
    rw [v.needleInput_valid k st value (by rw [tables]; exact shown), needle, hold]

/-! ### The acquired value (R46 to R50, R54) -/

theorem State.acquire_host (host : (s.channelCfg k).source = .host) :
    (s.acquire k).channel k = hostChannel (s.channelCfg k) (s.channel k) ∧ (s.acquire k).gve.units = s.gve.units := by
  unfold State.acquire
  dsimp only
  rw [host]
  exact ⟨s.modChannel_same k _, rfl⟩

theorem State.acquire_line {n : Fin 32} (line : (s.channelCfg k).source = .line) (input : (s.channelCfg k).input = n.val) :
    (s.acquire k).channel k = s.lineChannel k n (s.channel k) := by
  have free (u : State) (b : Bool) : (u.useFree b).channel k = u.channel k := (u.useFree_only b).channel_eq
  unfold State.acquire
  dsimp only
  rw [line, input]
  dsimp only
  rw [finOf_val]
  exact (free _ _).trans (s.modChannel_same k _)

theorem State.acquire_pulse (pulse : (s.channelCfg k).source = .pulse) {u : Fin 2} (unit : u = (s.channelCfg k).unit) :
    let r := estimate (s.channelCfg k) (s.timeBase u) (s.unit u) (s.channel k)
    (s.acquire k).channel k = { r.2 with st := noiseState (s.unit u).glitches r.2.st } ∧
    (s.acquire k).unit u = { r.1 with glitches := 0 } := by
  subst unit
  unfold State.acquire
  dsimp only
  rw [pulse]
  exact ⟨State.modChannel_same _ k _, s.modUnit_same _ _⟩

/-! ### The period estimator (R46 to R49) -/

variable (c : ChannelCfg) (t : BitVec 32) (u : Capture) (h : Channel)

/-- R46. -/
theorem estimate_edges {ref last : BitVec 32} (edges : 1 ≤ u.edges) (first : u.tRef = some ref) (newest : u.tLast = some last) :
    estimate c t u h = ({ u with tRef := some last, edges := 0 },
      { h with
        start := some (h.start.getD t), pLast := some ((last - ref).toNat / u.edges), standstill := false
        e := some (speedOf c.k ((last - ref).toNat / u.edges) c.emax), st := if h.st = .init then .valid else h.st }) := by
  have goes : estimate c t u h =
      estimateEdges c (u.tRef.getD t) (u.tLast.getD t) u { h with start := some (h.start.getD t) } := if_pos edges
  have start : u.tRef.getD t = ref := by rw [first]; rfl
  have stop : u.tLast.getD t = last := by rw [newest]; rfl
  rw [goes, start, stop]
  rfl

/-- R47. -/
theorem estimate_wait {ref : BitVec 32} {p : Nat} (edges : u.edges = 0) (period : h.pLast = some p) (first : u.tRef = some ref) :
    estimate c t u h = if (t - ref).toNat < ms c.standstill then
        (u, { h with
          start := some (h.start.getD t), standstill := false
          e := some (speedOf c.k (max p (t - ref).toNat) c.emax) })
      else (u.dropReference, { h with start := some (h.start.getD t), e := some 0, standstill := true, pLast := none }) := by
  have goes : estimate c t u h = estimateWait c t (u.tRef.getD t) p u { h with start := some (h.start.getD t) } := by
    unfold estimate
    rw [if_neg (by rw [edges]; decide), period]
  rw [goes, first]
  rfl

/-- R48: the channel start time is that of the first sample. -/
def Channel.begun (t : BitVec 32) (h : Channel) : Channel := { h with start := some (h.start.getD t) }

/-- R48. -/
theorem estimate_none (edges : u.edges = 0) (period : h.pLast = none) :
    estimate c t u h = estimateNone c t (h.start.getD t) u (h.begun t) := by
  unfold estimate
  rw [if_neg (by rw [edges]; decide)]
  split
  case h_1 p some => exact absurd (some.symm.trans period) nofun
  case h_2 => rfl

theorem estimate_filter : (estimate c t u h).2.f256 = h.f256 ∧ (estimate c t u h).2.f = h.f := by
  unfold estimate estimateEdges estimateWait estimateNone Channel.standing
  dsimp only
  repeat' split
  all_goals exact ⟨rfl, rfl⟩

/-- R48: in INIT. -/
theorem estimateNone_init {start : BitVec 32} (init : h.st = .init) :
    estimateNone c t start u h = if ms c.standstill ≤ (t - u.tRef.getD start).toNat then
      (u, { h.standing with st := .valid }) else (u, { h with e := none }) := by
  unfold estimateNone
  rw [init]
  rfl

/-- R48: after INIT. -/
theorem estimateNone_later {start : BitVec 32} (later : h.st ≠ .init) :
    estimateNone c t start u h = if u.tRef ≠ none ∧ ms c.standstill ≤ (t - u.tRef.getD start).toNat then
      (u.dropReference, h.standing) else (u, h.standing) := by
  have iff : (u.tRef.isSome && decide (ms c.standstill ≤ (t - u.tRef.getD start).toNat)) = true ↔
      u.tRef ≠ none ∧ ms c.standstill ≤ (t - u.tRef.getD start).toNat := by
    simp [Option.isSome_iff_ne_none]
  rw [← if_congr iff rfl rfl]
  unfold estimateNone
  cases st : h.st <;> first | exact absurd st later | rfl

/-- R49: the state that glitches leave. -/
theorem noiseState_eq (glitches : Nat) (x : ChannelState) : noiseState glitches x =
    if 16 ≤ glitches then .fault else if x = .fault ∧ glitches = 0 then .valid else x :=
  if_congr Iff.rfl rfl (if_congr and_comm rfl rfl)

/-- R46, R49: the state after an estimate from edges. -/
theorem noiseState_estimated (glitches : Nat) (x : ChannelState) :
    noiseState glitches (if x = .init then .valid else x) = if 16 ≤ glitches then .fault
      else if x = .init ∨ (x = .fault ∧ glitches = 0) then .valid else x := by
  rw [noiseState_eq]
  refine if_congr Iff.rfl rfl ?_
  cases x <;> simp

/-- R47 to R49: what a sample without a new edge makes of the channel and of the unit. -/
theorem estimate_without_edges (edges : u.edges = 0) :
    let r := estimate c t u h
    let after := noiseState u.glitches r.2.st
    let left : Capture := { r.1 with glitches := 0 }
    (∀ p ref, h.pLast = some p → u.tRef = some ref → 0 < p →
      after = (if 16 ≤ u.glitches then .fault else if h.st = .fault ∧ u.glitches = 0 then .valid else h.st) ∧
      ((t - ref).toNat < 1000 * c.standstill →
        r.2.pLast = some p ∧ r.2.standstill = false ∧
        (∀ q, q = max p (t - ref).toNat → r.2.e = some (min (((c.k + q / 2) / q : Nat) : Int) c.emax)) ∧
        left = { u with glitches := 0 }) ∧
      (1000 * c.standstill ≤ (t - ref).toNat →
        r.2.pLast = none ∧ r.2.standstill = true ∧ r.2.e = some 0 ∧
        left = { u with tRef := none, tLast := none, glitches := 0 })) ∧
    (∀ since, h.pLast = none → since = (t - (u.tRef.getD (h.start.getD t))).toNat →
      (h.st = .init → since < 1000 * c.standstill →
        r.2.e = none ∧ r.2.standstill = h.standstill ∧ after = (if 16 ≤ u.glitches then .fault else .init) ∧
        left = { u with glitches := 0 }) ∧
      (h.st = .init → 1000 * c.standstill ≤ since →
        r.2.e = some 0 ∧ r.2.standstill = true ∧ after = (if 16 ≤ u.glitches then .fault else .valid) ∧
        left = { u with glitches := 0 }) ∧
      (h.st = .valid ∨ h.st = .fault →
        r.2.e = some 0 ∧ r.2.standstill = true ∧
        after = (if 16 ≤ u.glitches then .fault else if u.glitches = 0 then .valid else h.st) ∧
        left = (if u.tRef ≠ none ∧ 1000 * c.standstill ≤ since
          then { u with tRef := none, tLast := none, glitches := 0 } else { u with glitches := 0 }))) := by
  have drops : ({ u.dropReference with glitches := 0 } : Capture) = { u with tRef := none, tLast := none, glitches := 0 } := by
    rw [Capture.dropReference, ← edges]
  refine ⟨fun p ref period first _ => ?_, fun since period is => ?_⟩
  · rw [estimate_wait c t u h edges period first]
    by_cases early : (t - ref).toNat < ms c.standstill
    · rw [if_pos early]
      exact ⟨noiseState_eq _ _, fun _ => ⟨period, rfl, fun q is => by rw [is]; rfl, rfl⟩,
        fun late => absurd late (Nat.not_le.mpr early)⟩
    · rw [if_neg early]
      exact ⟨noiseState_eq _ _, fun soon => absurd soon early, fun _ => ⟨rfl, rfl, rfl, drops⟩⟩
  · rw [estimate_none c t u h edges period]
    refine ⟨fun init early => ?_, fun init late => ?_, fun later => ?_⟩
    · have first : (h.begun t).st = .init := init
      rw [estimateNone_init _ _ _ _ first, if_neg (Nat.not_le.mpr (by rw [← is]; exact early))]
      exact ⟨rfl, rfl, (noiseState_eq _ _).trans (by simp [first]), rfl⟩
    · have first : (h.begun t).st = .init := init
      rw [estimateNone_init _ _ _ _ first, if_pos (by rw [← is]; exact late)]
      exact ⟨rfl, rfl, (noiseState_eq _ _).trans (by simp), rfl⟩
    · have past : (h.begun t).st ≠ .init := by
        change h.st ≠ .init
        obtain st | st := later <;> rw [st] <;> decide
      have after : noiseState u.glitches h.st =
          if 16 ≤ u.glitches then .fault else if u.glitches = 0 then .valid else h.st := by
        rw [noiseState_eq]
        obtain st | st := later <;> simp [st]
      rw [estimateNone_later _ _ _ _ past, ← is]
      by_cases overdue : u.tRef ≠ none ∧ ms c.standstill ≤ since
      · rw [if_pos overdue]
        exact ⟨rfl, rfl, after, drops.trans (if_pos overdue).symm⟩
      · rw [if_neg overdue]
        exact ⟨rfl, rfl, after, (if_neg overdue).symm⟩

end

/-! ### The filter (R55) -/

section
variable (c : ChannelCfg) (before : ChannelState) (h : Channel)

theorem Channel.filter_eq : h.filter c before = { h with f256 := (h.filter c before).f256, f := (h.filter c before).f } := by
  unfold Channel.filter
  split <;> rfl

/-- R55: without a value the filter stands. -/
theorem Channel.filter_unknown (valid : h.st ≠ .valid) (stale : h.st ≠ .stale) : h.filter c before = h :=
  if_neg fun known => (h.st.known_iff.mp known).elim valid stale

/-- R55: the filter takes up a value. -/
theorem Channel.filter_known {e : Int} (value : h.e = some e) (known : h.st = .valid ∨ h.st = .stale) :
    (h.filter c before).f256 = (if c.snap = true ∧ h.standstill = true then 0
      else if before = .valid ∨ before = .stale then
        h.f256 + (if Int.tdiv (256 * e - h.f256) (2 ^ c.shift) = 0 then (256 * e - h.f256).sign
          else Int.tdiv (256 * e - h.f256) (2 ^ c.shift))
      else 256 * e) ∧
    (h.filter c before).f = some (((h.filter c before).f256 + 128) / 256) := by
  have goes : h.filter c before = { h with
      f256 := (if (c.snap && h.standstill) = true then 0
        else if before.known = true then h.f256 + filterStep (256 * e - h.f256) c.shift else 256 * e)
      f := some (((if (c.snap && h.standstill) = true then 0
        else if before.known = true then h.f256 + filterStep (256 * e - h.f256) c.shift else 256 * e) + 128) / 256) } := by
    unfold Channel.filter
    rw [if_pos (h.st.known_iff.mpr known), value]
    rfl
  rw [goes, ← if_congr (Bool.and_eq_true c.snap h.standstill).to_iff rfl rfl, ← if_congr before.known_iff rfl rfl]
  exact ⟨rfl, rfl⟩

end

section
variable (s : State) (k : Fin 6)

/-- The acquisition leaves the filter to the filter. -/
theorem State.acquire_filter : ((s.acquire k).channel k).f256 = (s.channel k).f256 ∧
    ((s.acquire k).channel k).f = (s.channel k).f := by
  have line (n : Fin 32) (h : Channel) : (s.lineChannel k n h).f256 = h.f256 ∧ (s.lineChannel k n h).f = h.f := by
    unfold State.lineChannel
    repeat' split
    all_goals exact ⟨rfl, rfl⟩
  have host (c : ChannelCfg) (h : Channel) : (hostChannel c h).f256 = h.f256 ∧ (hostChannel c h).f = h.f := by
    unfold hostChannel
    split <;> exact ⟨rfl, rfl⟩
  cases source : (s.channelCfg k).source with
  | unused =>
    unfold State.acquire
    dsimp only
    rw [source]
    exact ⟨rfl, rfl⟩
  | pulse =>
    obtain ⟨record, -⟩ := s.acquire_pulse k source rfl
    rw [record]
    exact estimate_filter _ _ _ _
  | line =>
    unfold State.acquire
    dsimp only
    rw [source]
    dsimp only
    split
    case h_1 n _ =>
      have free (u : State) (b : Bool) : (u.useFree b).channel k = u.channel k := (u.useFree_only b).channel_eq
      rw [free, State.modChannel_same]
      exact line n _
    case h_2 => exact ⟨rfl, rfl⟩
  | host =>
    rw [(s.acquire_host k source).1]
    exact host _ _

/-- R50: a line that is trusted or not. -/
theorem State.lineChannel_spec (n : Fin 32) (h : Channel) :
    (∀ m x, s.logical n ≠ .invalid → (s.line n).usable = some m →
      curveAt s.tables.sensors[k] ((s.lineCfg n).compared m) = some x →
      (s.lineChannel k n h).st = .valid ∧
      (s.lineChannel k n h).e = some (max (s.channelCfg k).emin (min x (s.channelCfg k).emax))) ∧
    (s.logical n = .invalid → (s.lineChannel k n h).e = h.e ∧
      (s.lineChannel k n h).st = if (s.line n).accepted = none ∧ h.st = .init then .init else .fault) := by
  refine ⟨fun m x trusted usable value => ?_, fun untrusted => ?_⟩
  · have goes : s.lineChannel k n h =
        { h with st := .valid, e := (lineValue (s.channelCfg k) s.tables.sensors[k] (s.usableValue n)).or h.e } := by
      unfold State.lineChannel
      cases e : s.logical n <;> first | exact absurd e trusted | rfl
    have taken : s.usableValue n = (s.lineCfg n).compared m := by unfold State.usableValue; rw [usable]
    rw [goes, taken, lineValue, value]
    exact ⟨rfl, rfl⟩
  · unfold State.lineChannel
    rw [untrusted]
    dsimp only
    by_cases fresh : (s.line n).accepted = none ∧ h.st = .init
    · rw [if_pos fresh, if_pos fresh]
      exact ⟨rfl, fresh.2⟩
    · rw [if_neg fresh, if_neg fresh]
      exact ⟨rfl, rfl⟩

end

/-- What a sample shows is what was acquired, filtered. -/
theorem Sampled.values {s t : State} {k : Fin 6} (h : Sampled k s t) :
    let a := (s.acquire k).channel k
    let g := a.filter (s.channelCfg k) (s.channel k).st
    (t.channel k).st = a.st ∧ (t.channel k).e = a.e ∧ (t.channel k).standstill = a.standstill ∧
    (t.channel k).pLast = a.pLast ∧ (t.channel k).newFeed = a.newFeed ∧
    (t.channel k).f256 = g.f256 ∧ (t.channel k).f = g.f := by
  intro a g
  obtain ⟨lost, noise, record⟩ := h.record
  have filtered : g = { a with f256 := g.f256, f := g.f } := a.filter_eq _ _
  have record : t.channel k = g.marked lost noise := record
  rw [filtered] at record
  rw [record]
  exact ⟨rfl, rfl, rfl, rfl, rfl, rfl, rfl⟩

/-- Settles O42, by the sample's record (`Sampled`) and the speed update behind it (`SpeedUpdates`). -/
theorem channelSamplesFollowTheirSource : Obligations.ChannelSamplesFollowTheirSource := by
  intro s k live started woken
  have awake : s.mode.isAwake = true := by cases e : s.mode <;> simp_all [Mode.isAwake]
  refine ⟨fun unused => ?_, fun used => ?_⟩
  · rw [exec_runs _ s rfl live]
    exact congrArg _ (if_neg fun h => h.2 unused)
  · let u := s.atChannelSample k
    let v := u.sampleChannel k
    let t := v.speedUpdate k
    have runs : exec (.channelSample k) s = .next t := by
      rw [exec_runs _ s rfl live]
      exact congrArg _ (if_pos ⟨awake, used⟩)
    have moved : OnlyChanges [.now, .sched] s u := (Advances.atMoment (l := [.sched]) s _ _).only
    have sampled := u.sampleChannel_only k
    have spec : Sampled k u v := u.sampleChannel_spec k
    have speed : SpeedUpdates v t (v.channelCfg k).hasSpeedRole := v.speedUpdate_spec k
    have channels (j : Fin 6) : t.channel j = v.channel j := speed.only.channel_eq
    have units : t.gve.units = (u.acquire k).gve.units := (congrArg Gve.units (speed.only.same .gve)).trans spec.units
    have unit (j : Fin 2) : t.unit j = (u.acquire k).unit j := congrArg (fun l : Vector Capture 2 => l[j]) units
    have cfg : v.channelCfg k = s.channelCfg k :=
      congrArg (fun l : Tables => l.channels[k]) ((sampled.same .tables).trans rfl)
    have role : (v.channelCfg k).hasSpeedRole = (s.channelCfg k).speedRole := by
      rw [cfg, ChannelCfg.hasSpeedRole, bne_iff_ne.mpr used, Bool.true_and]
    have mode : v.mode = s.mode := sampled.keepsMode.trans rfl
    have mctl : v.mctl = s.mctl := (sampled.same .mctl).trans rfl
    obtain ⟨st, e, standstill, pLast, newFeed, f256, f⟩ := spec.values
    rw [← channels k] at st e standstill pLast newFeed f256 f
    have now : t.now = max s.now s.sched.channels[k] := (speed.only.same .now).trans ((sampled.same .now).trans rfl)
    have sched : t.sched.channels[k] = t.now + 10000 := by
      have same : t.sched = u.sched := (speed.only.same .sched).trans (sampled.same .sched)
      rw [same, now]
      exact Vector.getElem_set_self _
    rw [role] at speed
    refine ⟨t, runs, now, sched, fun j other => ?_, fun host => ?_, fun line n input => ?_,
      fun pulse j ref last is edges first newest positive => ?_, fun pulse j time is edges reads => ?_, fun x value known => ?_,
      fun invalid unstale => ?_, fun gone => ?_, fun waits => ?_, fun j other => ?_, fun still => ?_, fun has => ?_, fun stays => ?_,
      fun valid x y value shown => ?_, ?_⟩
    · rw [channels]
      exact (u.sampleChannel_others k j other).trans rfl
    · obtain ⟨record, kept⟩ := u.acquire_host k host
      have record : (u.acquire k).channel k = hostChannel (s.channelCfg k) (s.channel k) := record
      rw [st, e, newFeed, record]
      refine ⟨units.trans kept, fun w fresh fed => ?_, fun stale => ?_⟩
      · unfold hostChannel
        rw [fresh, fed]
        exact ⟨rfl, rfl, rfl⟩
      · unfold hostChannel
        rw [stale]
        exact ⟨rfl, rfl⟩
    · have record : (u.acquire k).channel k = u.lineChannel k n (s.channel k) := u.acquire_line k line input
      rw [st, e, record]
      exact u.lineChannel_spec k n (s.channel k)
    · obtain ⟨record, taken⟩ := u.acquire_pulse k pulse is
      have goes := estimate_edges (s.channelCfg k) (u.timeBase j) (s.unit j) (s.channel k) edges first newest
      have record : (u.acquire k).channel k = { (estimate (s.channelCfg k) (u.timeBase j) (s.unit j) (s.channel k)).2 with
        st := noiseState (s.unit j).glitches (estimate (s.channelCfg k) (u.timeBase j) (s.unit j) (s.channel k)).2.st } := record
      have taken : (u.acquire k).unit j = { (estimate (s.channelCfg k) (u.timeBase j) (s.unit j) (s.channel k)).1 with
        glitches := 0 } := taken
      rw [goes] at record taken
      rw [pLast, standstill, e, st, unit, record, taken]
      refine ⟨rfl, rfl, fun p is => ?_, ?_, rfl⟩
      · cases is; rfl
      · exact noiseState_estimated _ _
    · obtain ⟨record, taken⟩ := u.acquire_pulse k pulse is
      have base : u.timeBase j = time := by rw [reads, now]; rfl
      have spec := estimate_without_edges (s.channelCfg k) time (s.unit j) (s.channel k) edges
      have record : (u.acquire k).channel k = { (estimate (s.channelCfg k) time (s.unit j) (s.channel k)).2 with
        st := noiseState (s.unit j).glitches (estimate (s.channelCfg k) time (s.unit j) (s.channel k)).2.st } := by
        rw [record, base]; rfl
      have taken : (u.acquire k).unit j = { (estimate (s.channelCfg k) time (s.unit j) (s.channel k)).1 with
        glitches := 0 } := by
        rw [taken, base]; rfl
      rw [pLast, standstill, e, st, unit, record, taken]
      exact spec
    · have known' : ((u.acquire k).channel k).st = .valid ∨ ((u.acquire k).channel k).st = .stale := by rw [← st]; exact known
      obtain ⟨filtered, shown⟩ := Channel.filter_known (s.channelCfg k) (s.channel k).st _ (e.symm.trans value) known'
      have before : ((u.acquire k).channel k).f256 = (s.channel k).f256 := (u.acquire_filter k).1
      rw [← standstill, before] at filtered
      rw [f256, f]
      exact ⟨filtered, shown⟩
    · have stands := Channel.filter_unknown (s.channelCfg k) (s.channel k).st _ (by rw [← st]; exact invalid) (by rw [← st]; exact unstale)
      obtain ⟨before, shown⟩ := u.acquire_filter k
      rw [f256, f]
      exact ⟨(congrArg Channel.f256 stands).trans before, (congrArg Channel.f stands).trans shown⟩
    · obtain ⟨latest, published⟩ := speed.needles k
      rw [latest, published, spec.lost (by rw [← channels]; exact gone)]
      have kept : u.channelCfg k = s.channelCfg k := rfl
      have needle : u.needle k = s.needle k := rfl
      have hold : u.lif.hold = s.lif.hold := rfl
      rw [kept, needle, hold]
      cases (s.channelCfg k).holdLast <;> cases s.lif.hold <;> simp [Needle.aim]
    · obtain ⟨latest, published⟩ := speed.needles k
      rw [latest, published, spec.waits (by rw [← channels]; assumption)]
      exact ⟨rfl, rfl⟩
    · obtain ⟨latest, published⟩ := speed.needles j
      rw [latest, published, spec.others j other]
      exact ⟨rfl, rfl⟩
    · have ndr := speed.still (still.trans mode.symm)
      refine ⟨(congrArg Ndr.sweep ndr).trans (spec.sweep.trans rfl), fun j => ?_⟩
      have same : t.needle j = v.needle j := congrArg (fun n : Ndr => n.needles[j]) ndr
      rw [same]
      exact spec.targets j
    · exact ⟨speed.withdraws has, fun m moves => speed.leaves has (mode.trans m) moves⟩
    · exact (speed.stays (by rw [mode]; exact stays)).trans mctl
    · obtain ⟨latest, published⟩ := speed.needles k
      rw [latest, published, spec.valid (by rw [← channels]; exact valid) x y (by rw [← channels]; exact value) shown]
      exact ⟨rfl, rfl⟩
    · exact (moved.andThen sampled (n := [.now, .free, .sched, .gve, .ndr, .fmy, .cursor, .attention])).andThen speed.only

end Sys2Proof.Machine
end

section
/-! PROOFS. What a change of one rule leaves: its record, the sequence counter, the fault memory and attention cause
WARN. -/

namespace Sys2Proof.Machine
set_option Elab.async false

/-- From `s` to `t` the evaluator makes of rule `m` the record `r`, of the sequence counter `n` and of the fault
memory `f`, and sets WARN where the rule's state changes (R106). -/
structure RuleMoves (m : Fin 64) (r : RuleRec) (n : Nat) (f : Fmy) (s t : State) : Prop where
  rule : t.rule m = r
  others : ∀ j, j ≠ m → t.rule j = s.rule j
  seq : t.wev.seq = n
  fmy : t.fmy = f
  warn : t.lif.attention.warn = (s.lif.attention.warn || decide (r.st ≠ (s.rule m).st))
  only : OnlyChanges ruleParts s t

/-- R107: the fault memory after a rule's mark has ended or stayed. -/
def State.markEnds (m : Fin 64) (after : Bool) (s : State) : Fmy :=
  if (s.rule m).mark = true ∧ after = false then (s.reportCleared (.rule m)).fmy else s.fmy

section
variable (s : State) (m : Fin 64)

theorem State.markEnds_kept : s.markEnds m (s.rule m).mark = s.fmy :=
  if_neg fun h => Bool.false_ne_true (h.2.symm.trans h.1)

theorem State.markEnds_congr {t : State} (mark : (t.rule m).mark = (s.rule m).mark) (fmy : t.fmy = s.fmy)
    (tables : t.tables = s.tables) (after : Bool) : t.markEnds m after = s.markEnds m after := by
  unfold State.markEnds
  rw [mark, State.reportCleared_fmy_congr fmy tables, fmy]

theorem State.rule_eq {t : State} (h : t.wev = s.wev) (j : Fin 64) : t.rule j = s.rule j := by
  rw [State.rule, State.rule, h]

theorem RuleMoves.refl : RuleMoves m (s.rule m) s.wev.seq s.fmy s s :=
  ⟨rfl, fun _ _ => rfl, rfl, rfl, by simp, .refl _ s⟩

theorem RuleMoves.modRule (f : RuleRec → RuleRec) (st : (f (s.rule m)).st = (s.rule m).st) :
    RuleMoves m (f (s.rule m)) s.wev.seq s.fmy s (s.modRule m f) :=
  ⟨s.modRule_same m f, fun j other => s.modRule_other m j f (Ne.symm other), rfl, rfl, by simp [st], (s.modRule_only m f).mono⟩

variable {s m} in
/-- What follows a change that leaves the state alone. -/
theorem RuleMoves.after {t u : State} {r r' : RuleRec} {n n' : Nat} {f f' : Fmy} (h : RuleMoves m r n f s t)
    (st : r.st = (s.rule m).st) (k : RuleMoves m r' n' f' t u) : RuleMoves m r' n' f' s u := by
  refine ⟨k.rule, fun j other => (k.others j other).trans (h.others j other), k.seq, k.fmy, ?_, h.only.trans k.only⟩
  rw [k.warn, h.warn, h.rule, st]
  simp

/-- R107: what the settling of a rule that is OFF leaves. -/
theorem State.settleIfOff_moves : RuleMoves m (s.rule m).settled s.wev.seq (s.markEnds m (s.rule m).settled.mark) s
    (s.settleIfOff m) := by
  have wev := s.settleIfOff_wev m
  have settled (r : RuleRec) : r.settled.st = r.st := by unfold RuleRec.settled; split <;> rfl
  refine ⟨(State.rule_eq _ wev m).trans (s.modRule_same m _),
    fun j other => (State.rule_eq _ wev j).trans (s.modRule_other m j _ (Ne.symm other)), (congrArg Wev.seq wev).trans rfl, ?_, ?_,
    s.settleIfOff_only m⟩
  · unfold State.settleIfOff State.settleRule RuleRec.settled State.markEnds
    by_cases off : (s.rule m).st = .off
    · rw [if_pos off, if_pos off]
      by_cases mark : (s.rule m).mark = true
      · rw [if_pos mark, if_pos ⟨mark, rfl⟩]; rfl
      · rw [if_neg mark, if_neg fun h => mark h.1]
    · rw [if_neg off, if_neg off]
      exact (s.markEnds_kept m).symm
  · rw [s.settleIfOff_warn m, settled]
    simp

variable {s m} in
/-- R107: a step, settled. -/
theorem RuleMoves.settle {t : State} {r : RuleRec} {n : Nat} (h : RuleMoves m r n (s.markEnds m r.mark) s t)
    (mark : r.mark = true → (s.rule m).mark = true) :
    RuleMoves m r.settled n (s.markEnds m r.settled.mark) s (t.settleIfOff m) := by
  have k := t.settleIfOff_moves m
  have settled : r.settled.st = r.st := by unfold RuleRec.settled; split <;> rfl
  refine ⟨k.rule.trans (by rw [h.rule]), fun j other => (k.others j other).trans (h.others j other), k.seq.trans h.seq, ?_, ?_,
    h.only.trans k.only⟩
  · rw [k.fmy, h.rule]
    cases marked : r.mark with
    | false =>
      have same : r.settled.mark = (t.rule m).mark := by
        rw [h.rule, RuleRec.settled]; split
        · exact marked.symm
        · rfl
      rw [same, t.markEnds_kept m, h.fmy, h.rule]
    | true =>
      have fmy : t.fmy = s.fmy := h.fmy.trans (if_neg fun both => Bool.false_ne_true (both.2.symm.trans marked))
      exact s.markEnds_congr m (by rw [h.rule, marked, mark marked]) fmy (h.only.same .tables) _
  · rw [k.warn, h.warn, h.rule, settled]
    simp

/-- R106, R107: a change of a rule's record that leaves its mark to the settling. -/
theorem State.changeRule_moves (f : RuleRec → RuleRec) (mark : (f (s.rule m)).mark = (s.rule m).mark) :
    RuleMoves m (if (f (s.rule m)).st = (s.rule m).st then f (s.rule m) else (f (s.rule m)).settled) s.wev.seq
      (s.markEnds m (if (f (s.rule m)).st = (s.rule m).st then f (s.rule m) else (f (s.rule m)).settled).mark) s
      (s.changeRule m f) := by
  by_cases same : (f (s.rule m)).st = (s.rule m).st
  · have stays : s.changeRule m f = s.modRule m f := if_pos ((congrArg RuleRec.st (s.modRule_same m f)).trans same).symm
    rw [if_pos same, stays, mark, s.markEnds_kept m]
    exact .modRule s m f same
  · delta State.changeRule
    extract_lets old s1 new s2 s3 s4
    have after : new = (f (s.rule m)).st := congrArg RuleRec.st (s.modRule_same m f)
    have made : OnlyChanges [.wev] s s1 := s.modRule_only m f
    have handed : OnlyChanges [.pru] s2 s3 := .ite (s2.clearSingleMark_only m) (.refl _ _)
    have raised : OnlyChanges [.attention, .pru] s1 s3 := (s1.attend_only _).andThen handed
    have rules (j : Fin 64) : s3.rule j = s1.rule j := State.rule_eq s1 (raised.same .wev) j
    have record : s3.rule m = f (s.rule m) := (rules m).trans (s.modRule_same m f)
    have settles : s4 = s3.settleIfOff m := by simp only [s4, State.settleIfOff, record, after]
    have k : RuleMoves m (s3.rule m).settled s3.wev.seq (s3.markEnds m (s3.rule m).settled.mark) s3 s4 := by
      rw [settles]; exact s3.settleIfOff_moves m
    have listed : OnlyChanges [.pru] s4 (s4.listChange m old).refreshPru :=
      (s4.listChange_only m _).andThen (State.refreshPru_only _)
    have settled (r : RuleRec) : r.settled.st = r.st := by unfold RuleRec.settled; split <;> rfl
    have warn : s3.lif.attention.warn = true := (congrArg (fun l : Lif => l.attention.warn) handed.lif_eq).trans rfl
    have goes : (if old = new then s1 else (s4.listChange m old).refreshPru) = (s4.listChange m old).refreshPru :=
      if_neg fun e => same (after.symm.trans e.symm)
    rw [goes, if_neg same]
    rw [record] at k
    refine ⟨(State.rule_eq s4 (listed.same .wev) m).trans k.rule, fun j other => ?_, ?_, ?_, ?_, ?_⟩
    · rw [State.rule_eq s4 (listed.same .wev) j, k.others j other, rules, s.modRule_other m j f (Ne.symm other)]
    · exact (congrArg Wev.seq (listed.same .wev)).trans (k.seq.trans ((congrArg Wev.seq (raised.same .wev) :).trans rfl))
    · rw [listed.same .fmy, k.fmy]
      exact s.markEnds_congr m (by rw [record, mark]) ((raised.same .fmy).trans (made.same .fmy))
        ((raised.same .tables).trans (made.same .tables)) _
    · have set : s4.lif.attention.warn = true := by rw [k.warn, warn, Bool.true_or]
      rw [show (s4.listChange m old).refreshPru.lif = s4.lif from listed.lif_eq, set, settled, decide_eq_true same, Bool.or_true]
    · exact ((made.andThen raised (n := ruleParts)).trans k.only).andThen listed

theorem RuleRec.settled_settled (r : RuleRec) : r.settled.settled = r.settled := by
  by_cases off : r.st = .off
  · have once : r.settled = { r with mark := false } := if_pos off
    rw [once]
    exact if_pos off
  · have never : r.settled = r := if_neg off
    rw [never, never]

theorem RuleRec.settled_mark {r : RuleRec} (h : r.settled.mark = true) : r.mark = true := by
  unfold RuleRec.settled at h
  split at h
  · cases h
  · exact h

/-- R106, R107: a change of a rule's record, settled. -/
theorem State.changeRule_settles (f : RuleRec → RuleRec) (mark : (f (s.rule m)).mark = (s.rule m).mark) :
    RuleMoves m (f (s.rule m)).settled s.wev.seq (s.markEnds m (f (s.rule m)).settled.mark) s
      ((s.changeRule m f).settleIfOff m) := by
  have moves := s.changeRule_moves m f mark
  split at moves
  · exact moves.settle fun h => mark.symm.trans h
  · have settled := moves.settle fun h => mark.symm.trans (RuleRec.settled_mark h)
    rw [RuleRec.settled_settled] at settled
    exact settled

/-- A change of a rule's record but for its state, settled. -/
theorem State.modRule_settles (f : RuleRec → RuleRec) (st : (f (s.rule m)).st = (s.rule m).st)
    (mark : (f (s.rule m)).mark = (s.rule m).mark) :
    RuleMoves m (f (s.rule m)).settled s.wev.seq (s.markEnds m (f (s.rule m)).settled.mark) s
      ((s.modRule m f).settleIfOff m) := by
  have moves := RuleMoves.modRule s m f st
  rw [← s.markEnds_kept m, ← mark] at moves
  exact moves.settle fun h => mark.symm.trans h

end

/-! ### All rules at once (R103, R109) -/

/-- A fold that changes each rule in its turn makes of each rule what its turn makes. -/
theorem State.foldRules_rule (f : Fin 64 → State → State) (r : RuleRec → RuleRec)
    (own : ∀ m u, (f m u).rule m = r (u.rule m)) (others : ∀ m u j, j ≠ m → (f m u).rule j = u.rule j) (s : State) (m : Fin 64) :
    (forEach f s).rule m = r (s.rule m) := by
  have all (l : List (Fin 64)) (nodup : l.Nodup) (u : State) :
      (l.foldl (fun s i => f i s) u).rule m = if m ∈ l then r (u.rule m) else u.rule m := by
    induction l generalizing u with
    | nil => rfl
    | cons i l ih =>
      obtain ⟨fresh, nodup⟩ := List.nodup_cons.mp nodup
      rw [List.foldl_cons, ih nodup]
      by_cases here : m = i
      · subst here
        rw [if_neg fresh, if_pos (List.mem_cons_self ..), own]
      · rw [others i u m here]
        simp [here]
  exact (all _ (List.nodup_finRange 64) s).trans (if_pos (List.mem_finRange m))

/-- The record of a rule that has been set OFF. -/
def RuleRec.ended (r : RuleRec) : RuleRec := { r.toOff with mark := false }

theorem State.changeRule_ended (s : State) (m : Fin 64) (on : (s.rule m).st ≠ .off) :
    (s.changeRule m RuleRec.toOff).rule m = (s.rule m).ended := by
  have moves := (s.changeRule_moves m RuleRec.toOff rfl).rule
  exact moves.trans (if_neg (Ne.symm on))

theorem State.allRulesOff_rule (s : State) (m : Fin 64) :
    s.allRulesOff.rule m = if (s.rule m).st = .off then s.rule m else (s.rule m).ended :=
  State.foldRules_rule _ (fun r => if r.st = .off then r else r.ended)
    (fun m u => by
      split
      case isTrue off => exact rfl
      case isFalse on => exact u.changeRule_ended m on)
    (fun m u j other => by
      split
      · rfl
      · exact (u.changeRule_moves m RuleRec.toOff rfl).others j other) s m

theorem State.endIgnitionLatches_rule (s : State) (m : Fin 64) :
    s.endIgnitionLatches.rule m = if (s.rule m).st = .latchedAck then (s.rule m).ended else s.rule m :=
  State.foldRules_rule _ (fun r => if r.st = .latchedAck then r.ended else r)
    (fun m u => by
      split
      case isTrue latched => exact u.changeRule_ended m (by rw [latched]; decide)
      case isFalse => rfl)
    (fun m u j other => by
      split
      · exact (u.changeRule_moves m RuleRec.toOff rfl).others j other
      · rfl) s m

end Sys2Proof.Machine
end

section
/-! PROOFS. The evaluation pass: each rule's turn as a step of its record (O47). -/

namespace Sys2Proof.Machine
set_option Elab.async false

/-! ### The turn of a rule as a step of its record (R91 to R102) -/

/-- R85, R87, R91 to R95: the record once its slots, qualifier and condition are taken. -/
def State.assessed (s : State) (m : Fin 64) : RuleRec :=
  let c := s.ruleCfg m
  let r := s.rule m
  let holds := s.qualifierHolds c.qualifier
  let raw := combine c.combine (s.evalSlot r.hyst0 c.slot0).1 (s.evalSlot r.hyst1 c.slot1).1 (s.evalSlot r.hyst2 c.slot2).1
  { r with
    res0 := (s.evalSlot r.hyst0 c.slot0).1.getD .no
    res1 := (s.evalSlot r.hyst1 c.slot1).1.getD .no
    res2 := (s.evalSlot r.hyst2 c.slot2).1.getD .no
    hyst0 := (s.evalSlot r.hyst0 c.slot0).2
    hyst1 := (s.evalSlot r.hyst1 c.slot1).2
    hyst2 := (s.evalSlot r.hyst2 c.slot2).2
    raw := raw, qualHeld := holds, frozen := !holds && !c.qualClear
    cond := if holds then onInvalid c.onInvalid r.cond raw else if c.qualClear then false else r.cond }

theorem State.evaluateRule_eq (s : State) (m : Fin 64) : s.evaluateRule m =
    if s.qualifierHolds (s.ruleCfg m).qualifier then ((s.modRule m fun _ => s.assessed m).stepRule m).settleIfOff m
    else if (s.ruleCfg m).qualClear then ((s.modRule m fun _ => s.assessed m).clearRule m).settleIfOff m
    else s.modRule m fun _ => s.assessed m := by
  have made : (s.modRule m fun _ => s.assessed m) = s.modRule m fun r => { r with
      res0 := (s.evalSlot (s.rule m).hyst0 (s.ruleCfg m).slot0).1.getD .no
      res1 := (s.evalSlot (s.rule m).hyst1 (s.ruleCfg m).slot1).1.getD .no
      res2 := (s.evalSlot (s.rule m).hyst2 (s.ruleCfg m).slot2).1.getD .no
      hyst0 := (s.evalSlot (s.rule m).hyst0 (s.ruleCfg m).slot0).2
      hyst1 := (s.evalSlot (s.rule m).hyst1 (s.ruleCfg m).slot1).2
      hyst2 := (s.evalSlot (s.rule m).hyst2 (s.ruleCfg m).slot2).2
      raw := combine (s.ruleCfg m).combine (s.evalSlot (s.rule m).hyst0 (s.ruleCfg m).slot0).1
        (s.evalSlot (s.rule m).hyst1 (s.ruleCfg m).slot1).1 (s.evalSlot (s.rule m).hyst2 (s.ruleCfg m).slot2).1
      qualHeld := s.qualifierHolds (s.ruleCfg m).qualifier
      frozen := !s.qualifierHolds (s.ruleCfg m).qualifier && !(s.ruleCfg m).qualClear
      cond := if s.qualifierHolds (s.ruleCfg m).qualifier then onInvalid (s.ruleCfg m).onInvalid r.cond
          (combine (s.ruleCfg m).combine (s.evalSlot (s.rule m).hyst0 (s.ruleCfg m).slot0).1
            (s.evalSlot (s.rule m).hyst1 (s.ruleCfg m).slot1).1 (s.evalSlot (s.rule m).hyst2 (s.ruleCfg m).slot2).1)
        else if (s.ruleCfg m).qualClear then false else r.cond } := s.modRule_congr m rfl
  rw [made]
  rfl

section
variable (c : RuleCfg) (r : RuleRec)

/-- R101: the reminder of an active rule. -/
def RuleRec.reminded : RuleRec :=
  if r.st = .activeAck ∧ 1 ≤ c.reminder then
    if 100 * c.reminder ≤ r.reminder + 1 then { r with st := .activeNew, reminder := 0 }
    else { r with reminder := r.reminder + 1 }
  else r

/-- R99: an active state left. -/
def RuleRec.released : RuleRec :=
  if releasedState r.st c.latch = .off then r.toOff
  else { r with st := releasedState r.st c.latch, release := none, reminder := 0 }

/-- R99, R101: an active state stepped. -/
def RuleRec.kept : RuleRec :=
  if r.cond then { r with release := none }.reminded c
  else if c.release = 0 then r.released c
  else
    match r.release with
    | none => { r with release := some 0 }.reminded c
    | some t => if 10 * c.release ≤ t + 1 then r.released c else { r with release := some (t + 1) }.reminded c

/-- R98: whether the rule is activated in its turn. -/
def RuleRec.activates : Bool :=
  match r.st with
  | .off => r.cond && c.onset == 0
  | .pending => r.cond && decide (10 * c.onset ≤ r.onset + 1)
  | _ => false

/-- R98 to R102: a step that does not activate. -/
def RuleRec.moved : RuleRec :=
  match r.st with
  | .off => if r.cond then { r with st := .pending, onset := 0 } else r
  | .pending => if r.cond then { r with onset := r.onset + 1 } else r.toOff
  | .activeNew | .activeAck => r.kept c
  | .latchedNew => if r.cond then { r with st := .activeNew } else r
  | .latchedAck => if r.cond then { r with st := .activeAck, reminder := 0 } else r

/-- R94. -/
def RuleRec.cleared : RuleRec :=
  match r.st with
  | .off | .latchedNew | .latchedAck => r
  | .pending | .activeNew | .activeAck => r.toOff

/-- R105: an activation with sequence `n`. -/
def RuleRec.activated (n : Nat) : RuleRec :=
  { r with st := .activeNew, onset := 0, seq := some n, mark := c.record || r.mark }

end

section
variable (s : State) (m : Fin 64)

/-- What a step that does not activate leaves, settled. -/
abbrev Steps (r : RuleRec) (s t : State) : Prop :=
  RuleMoves m r.settled s.wev.seq (s.markEnds m r.settled.mark) s (t.settleIfOff m)

theorem Steps.refl : Steps m (s.rule m) s s := s.settleIfOff_moves m

theorem Steps.of_change (f : RuleRec → RuleRec) (mark : (f (s.rule m)).mark = (s.rule m).mark) :
    Steps m (f (s.rule m)) s (s.changeRule m f) := s.changeRule_settles m f mark

theorem Steps.of_mod (f : RuleRec → RuleRec) (st : (f (s.rule m)).st = (s.rule m).st)
    (mark : (f (s.rule m)).mark = (s.rule m).mark) : Steps m (f (s.rule m)) s (s.modRule m f) := s.modRule_settles m f st mark

variable {s m} in
/-- What follows a change that leaves state and mark alone. -/
theorem Steps.after {t : State} {r : RuleRec} (f : RuleRec → RuleRec) (st : (f (s.rule m)).st = (s.rule m).st)
    (mark : (f (s.rule m)).mark = (s.rule m).mark) (k : Steps m r (s.modRule m f) t) : Steps m r s t := by
  have moves := (RuleMoves.modRule s m f st).after st k
  have ends := s.markEnds_congr m (t := s.modRule m f) (by rw [s.modRule_same, mark]) rfl rfl r.settled.mark
  rw [ends] at moves
  exact moves

theorem State.remind_steps : Steps m ((s.rule m).reminded (s.ruleCfg m)) s (s.remind m) := by
  unfold State.remind RuleRec.reminded
  dsimp only
  split
  · split
    · exact .of_change s m (fun r => { r with st := .activeNew, reminder := 0 }) rfl
    · exact .of_mod s m (fun r => { r with reminder := (s.rule m).reminder + 1 }) rfl rfl
  · exact .refl s m

theorem State.releaseRule_steps : Steps m ((s.rule m).released (s.ruleCfg m)) s (s.releaseRule m) := by
  refine Steps.of_change s m (fun r => if releasedState (s.rule m).st (s.ruleCfg m).latch = .off then r.toOff
    else { r with st := releasedState (s.rule m).st (s.ruleCfg m).latch, release := none, reminder := 0 }) ?_
  split <;> rfl

theorem State.stepActive_steps : Steps m ((s.rule m).kept (s.ruleCfg m)) s (s.stepActive m) := by
  have reminds (x : Option Nat) : Steps m ({ s.rule m with release := x }.reminded (s.ruleCfg m)) s
      ((s.modRule m fun r => { r with release := x }).remind m) := by
    refine Steps.after (fun r => { r with release := x }) rfl rfl ?_
    have k := (s.modRule m fun r => { r with release := x }).remind_steps m
    rw [s.modRule_same m] at k
    exact k
  unfold State.stepActive RuleRec.kept
  dsimp only
  split
  · exact reminds none
  · split
    · exact s.releaseRule_steps m
    · cases (s.rule m).release with
      | none => exact reminds (some 0)
      | some t =>
        dsimp only
        split
        · exact s.releaseRule_steps m
        · exact reminds (some _)

theorem State.stepRule_steps (h : (s.rule m).activates (s.ruleCfg m) = false) :
    Steps m ((s.rule m).moved (s.ruleCfg m)) s (s.stepRule m) := by
  unfold RuleRec.activates at h
  unfold State.stepRule RuleRec.moved
  dsimp only
  cases st : (s.rule m).st with
  | off =>
    rw [st] at h
    dsimp only at h ⊢
    split
    case isTrue holds =>
      rw [holds, Bool.true_and, beq_eq_false_iff_ne] at h
      rw [if_neg h]
      exact .of_change s m (fun r => { r with st := .pending, onset := 0 }) rfl
    case isFalse => exact .refl s m
  | pending =>
    rw [st] at h
    dsimp only at h ⊢
    split
    case isTrue holds =>
      rw [holds, Bool.true_and, decide_eq_false_iff_not] at h
      rw [if_neg h, ← st]
      exact .of_mod s m (fun r => { r with onset := r.onset + 1 }) rfl rfl
    case isFalse => exact .of_change s m RuleRec.toOff rfl
  | activeNew => exact s.stepActive_steps m
  | activeAck => exact s.stepActive_steps m
  | latchedNew =>
    dsimp only
    split
    · exact .of_change s m (fun r => { r with st := .activeNew }) rfl
    · exact .refl s m
  | latchedAck =>
    dsimp only
    split
    · exact .of_change s m (fun r => { r with st := .activeAck, reminder := 0 }) rfl
    · exact .refl s m

theorem State.clearRule_steps : Steps m (s.rule m).cleared s (s.clearRule m) := by
  unfold State.clearRule RuleRec.cleared
  cases (s.rule m).st <;> first | exact .refl s m | exact .of_change s m RuleRec.toOff rfl

/-- R105: an activation, which needs no settling. -/
theorem State.activate_moves :
    RuleMoves m ((s.rule m).activated (s.ruleCfg m) (min (s.wev.seq + 1) counterMax)) (min (s.wev.seq + 1) counterMax)
      (if (s.ruleCfg m).record then (s.reportActive (.rule m)).fmy else s.fmy) s ((s.activate m).settleIfOff m) := by
  let n := min (s.wev.seq + 1) counterMax
  let s1 := s.modWev fun w => { w with seq := n }
  let s2 := if (s1.ruleCfg m).record then (s1.reportActive (.rule m)).modRule m fun r => { r with mark := true } else s1
  have counted : OnlyChanges [.wev] s s1 := s.modWev_only _
  have reported : OnlyChanges faultParts s1 (s1.reportActive (.rule m)) := s1.reportActive_only _
  have wev : s2.wev = (s1.modRule m fun r => { r with mark := (s.ruleCfg m).record || r.mark }).wev ∧
      s2.fmy = (if (s.ruleCfg m).record then (s.reportActive (.rule m)).fmy else s.fmy) ∧
      s2.lif.attention.warn = s.lif.attention.warn ∧ OnlyChanges ruleParts s s2 := by
    change (ite _ _ _ : State).wev = _ ∧ (ite _ _ _ : State).fmy = _ ∧ (ite _ _ _ : State).lif.attention.warn = _ ∧
      OnlyChanges ruleParts s (ite _ _ _)
    have cfg : (s1.ruleCfg m).record = (s.ruleCfg m).record := rfl
    rw [cfg]
    cases (s.ruleCfg m).record with
    | true =>
      rw [if_pos rfl, if_pos rfl]
      refine ⟨State.modRule_wev_congr m _ (reported.same .wev), ?_, ?_, ?_⟩
      · have fmy := counted.reportActive_fmy (c := .rule m)
        exact fmy
      · exact ((s1.reportActive_raises (.rule m)).only .warn (by decide)).trans rfl
      · exact (counted.andThen reported (n := ruleParts)).andThen (State.modRule_only _ m _)
    | false =>
      rw [if_neg Bool.false_ne_true, if_neg Bool.false_ne_true]
      exact ⟨congrArg State.wev (s1.modRule_self m rfl).symm, rfl, rfl, counted.mono⟩
  obtain ⟨wev, fmy, warn, before⟩ := wev
  have record : s2.rule m = { s.rule m with mark := (s.ruleCfg m).record || (s.rule m).mark } :=
    (State.rule_eq _ wev m).trans (s1.modRule_same m _)
  have moves := s2.changeRule_settles m (fun r => { r with st := .activeNew, onset := 0, seq := some n }) rfl
  rw [record] at moves
  have settled : ((s.rule m).activated (s.ruleCfg m) n).settled = (s.rule m).activated (s.ruleCfg m) n :=
    if_neg (by decide : RuleState.activeNew ≠ .off)
  have moves : RuleMoves m ((s.rule m).activated (s.ruleCfg m) n).settled s2.wev.seq
      (s2.markEnds m ((s.rule m).activated (s.ruleCfg m) n).settled.mark) s2 ((s.activate m).settleIfOff m) := moves
  have stays : s2.markEnds m ((s.rule m).activated (s.ruleCfg m) n).mark = s2.fmy := by
    rw [← s2.markEnds_kept m, record]; rfl
  rw [settled, stays] at moves
  refine ⟨moves.rule, fun j other => ?_, moves.seq.trans ((congrArg Wev.seq wev).trans rfl), moves.fmy.trans fmy, ?_,
    before.trans moves.only⟩
  · rw [moves.others j other, State.rule_eq _ wev j, s1.modRule_other m j _ (Ne.symm other)]
    rfl
  · rw [moves.warn, warn, record]

theorem State.stepRule_activates (h : (s.rule m).activates (s.ruleCfg m) = true) :
    RuleMoves m ((s.rule m).activated (s.ruleCfg m) (min (s.wev.seq + 1) counterMax)) (min (s.wev.seq + 1) counterMax)
      (if (s.ruleCfg m).record then (s.reportActive (.rule m)).fmy else s.fmy) s ((s.stepRule m).settleIfOff m) := by
  have goes : s.stepRule m = s.activate m := by
    unfold RuleRec.activates at h
    unfold State.stepRule
    dsimp only
    cases st : (s.rule m).st <;> rw [st] at h <;> dsimp only at h ⊢
    case off =>
      obtain ⟨holds, at_once⟩ := Bool.and_eq_true_iff.mp h
      rw [if_pos holds, if_pos (beq_iff_eq.mp at_once)]
    case pending =>
      obtain ⟨holds, full⟩ := Bool.and_eq_true_iff.mp h
      rw [if_pos holds, if_pos (decide_eq_true_iff.mp full)]
    all_goals exact absurd h Bool.false_ne_true
  rw [goes]
  exact s.activate_moves m

end

/-! ### What the record shows of its turn -/

/-- A step keeps what was assessed. -/
def RuleRec.Keeps (p r : RuleRec) : Prop :=
  r = { p with st := r.st, onset := r.onset, release := r.release, reminder := r.reminder, seq := r.seq, mark := r.mark }

theorem RuleRec.Keeps.parts {p r : RuleRec} (h : p.Keeps r) :
    (r.cond = p.cond ∧ r.raw = p.raw ∧ r.qualHeld = p.qualHeld ∧ r.frozen = p.frozen) ∧
    r.res0 = p.res0 ∧ r.res1 = p.res1 ∧ r.res2 = p.res2 ∧ r.hyst0 = p.hyst0 ∧ r.hyst1 = p.hyst1 ∧ r.hyst2 = p.hyst2 := by
  unfold RuleRec.Keeps at h
  rw [h]
  exact ⟨⟨rfl, rfl, rfl, rfl⟩, rfl, rfl, rfl, rfl, rfl, rfl⟩

theorem RuleRec.Keeps.settled {p r : RuleRec} (h : p.Keeps r) : p.Keeps r.settled := by
  unfold RuleRec.settled
  split
  · rw [h]; rfl
  · exact h

/-- A turn as a step from the assessed record `p` to the record `r`, with `n` the next sequence. -/
structure RecordTurn (c : RuleCfg) (p r : RuleRec) (n : Nat) : Prop where
  same : p.Keeps r
  st : r.st =
    if p.qualHeld = false then
      (if c.qualClear ∧ p.st ≠ .latchedNew ∧ p.st ≠ .latchedAck then .off else p.st)
    else match p.st, p.cond with
      | .off, false => .off
      | .off, true => if c.onset = 0 then .activeNew else .pending
      | .pending, false => .off
      | .pending, true => if 10 * c.onset ≤ p.onset + 1 then .activeNew else .pending
      | .latchedNew, b => if b then .activeNew else .latchedNew
      | .latchedAck, b => if b then .activeAck else .latchedAck
      | x, b =>
        if b = false ∧ (c.release = 0 ∨ ∃ t, p.release = some t ∧ 10 * c.release ≤ t + 1) then
          (match x, c.latch with
            | .activeNew, .unlatched => .off
            | .activeNew, _ => .latchedNew
            | _, .untilIgnition => .latchedAck
            | _, _ => .off)
        else if x = .activeAck ∧ 1 ≤ c.reminder ∧ 100 * c.reminder ≤ p.reminder + 1 then .activeNew
        else x
  onset : r.onset =
    if r.st ≠ p.st ∧ (r.st = .off ∨ r.st = .pending ∨ p.st = .off ∨ p.st = .pending) then 0
    else if p.qualHeld = true ∧ p.st = .pending then p.onset + 1
    else p.onset
  release : r.release =
    if r.st = .off ∧ p.st ≠ .off then none
    else if p.qualHeld = true ∧ (p.st = .activeNew ∨ p.st = .activeAck) then
      (if p.cond = true ∨ r.st = .latchedNew ∨ r.st = .latchedAck then none
      else match p.release with
        | none => some 0
        | some t => some (t + 1))
    else p.release
  reminder : r.reminder =
    if r.st ≠ p.st ∧ (r.st = .off ∨ r.st = .activeAck ∨ p.st = .activeAck ∨ p.st = .activeNew) then 0
    else if p.qualHeld = true ∧ p.st = .activeAck ∧ 1 ≤ c.reminder then p.reminder + 1
    else p.reminder
  seq : r.seq =
    if r.st = .off ∧ p.st ≠ .off then none
    else if r.st = .activeNew ∧ (p.st = .off ∨ p.st = .pending) then some n else p.seq
  mark : r.mark =
    if r.st = .activeNew ∧ (p.st = .off ∨ p.st = .pending) ∧ c.record = true then true
    else if r.st = .off ∧ p.frozen = false then false else p.mark

section
variable {c : RuleCfg} {p : RuleRec} (n : Nat)

/-- R95: a frozen rule. -/
theorem RecordTurn.of_frozen (h : p.qualHeld = false) (holds : c.qualClear = false) (frozen : p.frozen = true) :
    RecordTurn c p p n := by
  constructor
  case same => rfl
  all_goals simp [h, holds, frozen]
  case seq => exact fun active idle => by rw [active] at idle; simp at idle
  case mark => exact fun active idle => by rw [active] at idle; simp at idle

/-- R94: a cleared rule. -/
theorem RecordTurn.of_cleared (h : p.qualHeld = false) (clears : c.qualClear = true) (warm : p.frozen = false) :
    RecordTurn c p p.cleared.settled n := by
  constructor
  case same => exact .settled (by unfold RuleRec.cleared; split <;> rfl)
  all_goals
    unfold RuleRec.cleared RuleRec.settled RuleRec.toOff
    cases st : p.st <;> simp [h, clears, warm, st]

/-- R98, R105: an activated rule. -/
theorem RecordTurn.of_activated (h : p.qualHeld = true) (act : p.activates c = true) :
    RecordTurn c p (p.activated c n) n := by
  constructor
  case same => rfl
  all_goals
    unfold RuleRec.activates at act
    unfold RuleRec.activated
    cases st : p.st <;> simp [st] at act <;> simp [h, act]

/-- R99: an active rule that is released. -/
theorem RecordTurn.of_released (h : p.qualHeld = true) (warm : p.frozen = false) (active : p.st = .activeNew ∨ p.st = .activeAck)
    (cond : p.cond = false) (due : c.release = 0 ∨ ∃ t, p.release = some t ∧ 10 * c.release ≤ t + 1) :
    RecordTurn c p (p.released c).settled n := by
  have keeps : p.Keeps (p.released c) := by
    unfold RuleRec.released
    split <;> rfl
  constructor
  case same => exact keeps.settled
  all_goals
    unfold RuleRec.released releasedState RuleRec.toOff RuleRec.settled
    obtain st | st := active <;> cases c.latch <;> simp [h, warm, st, cond, due]

/-- R97, R101: an active rule that stays active, its release timer at `x`. -/
theorem RecordTurn.of_reminded (h : p.qualHeld = true) (warm : p.frozen = false) (active : p.st = .activeNew ∨ p.st = .activeAck) (x : Option Nat)
    (stays : p.cond = false → ¬(c.release = 0 ∨ ∃ t, p.release = some t ∧ 10 * c.release ≤ t + 1))
    (timer : x = if p.cond = true then none else match p.release with
      | none => some 0
      | some t => some (t + 1)) :
    RecordTurn c p ({ p with release := x }.reminded c).settled n := by
  have away : ¬(p.cond = false ∧ (c.release = 0 ∨ ∃ t, p.release = some t ∧ 10 * c.release ≤ t + 1)) :=
    fun both => stays both.1 both.2
  have keeps : p.Keeps ({ p with release := x }.reminded c) := by
    unfold RuleRec.reminded
    split
    · split <;> rfl
    · rfl
  unfold RuleRec.reminded RuleRec.settled
  obtain st | st := active
  · constructor
    case same => exact .settled keeps
    all_goals simp [h, warm, st, away, timer]
  · constructor
    case same => exact .settled keeps
    all_goals
      by_cases has : 1 ≤ c.reminder <;> by_cases due : 100 * c.reminder ≤ p.reminder + 1 <;>
        simp [h, warm, st, away, timer, has, due]

/-- R99, R101: an active rule. -/
theorem RecordTurn.of_kept (h : p.qualHeld = true) (warm : p.frozen = false) (active : p.st = .activeNew ∨ p.st = .activeAck) :
    RecordTurn c p (p.kept c).settled n := by
  unfold RuleRec.kept
  by_cases cond : p.cond = true
  · rw [if_pos cond]
    exact .of_reminded n h warm active none (fun no => absurd (no.symm.trans cond) Bool.false_ne_true) (if_pos cond).symm
  · have no : p.cond = false := Bool.eq_false_iff.mpr cond
    rw [if_neg cond]
    by_cases none : c.release = 0
    · rw [if_pos none]
      exact .of_released n h warm active no (.inl none)
    · rw [if_neg none]
      split
      case h_1 fresh =>
        exact .of_reminded n h warm active _ (fun _ due => due.elim none fun ⟨t, e, _⟩ => absurd (fresh.symm.trans e) nofun)
          (by rw [if_neg cond, fresh])
      case h_2 t runs =>
        by_cases due : 10 * c.release ≤ t + 1
        · rw [if_pos due]
          exact .of_released n h warm active no (.inr ⟨t, runs, due⟩)
        · rw [if_neg due]
          refine .of_reminded n h warm active _ (fun _ ends => ends.elim none fun ⟨x, e, long⟩ => due ?_) (by rw [if_neg cond, runs])
          rw [Option.some.inj (runs.symm.trans e)]
          exact long

/-- R98 to R102: a rule whose step does not activate it. -/
theorem RecordTurn.of_moved (h : p.qualHeld = true) (warm : p.frozen = false) (act : p.activates c = false) :
    RecordTurn c p (p.moved c).settled n := by
  unfold RuleRec.activates at act
  unfold RuleRec.moved
  cases st : p.st with
  | off =>
    constructor
    case same => exact .settled (by dsimp only; split <;> rfl)
    all_goals cases cond : p.cond <;> simp [st, cond] at act <;> simp [h, warm, st, cond, act, RuleRec.settled]
  | pending =>
    constructor
    case same => exact .settled (by dsimp only; split <;> rfl)
    all_goals
      cases cond : p.cond <;> simp [st, cond] at act <;> simp [h, warm, st, cond, act, RuleRec.settled, RuleRec.toOff]
  | latchedNew =>
    constructor
    case same => exact .settled (by dsimp only; split <;> rfl)
    all_goals cases p.cond <;> simp [h, warm, st, RuleRec.settled]
  | latchedAck =>
    constructor
    case same => exact .settled (by dsimp only; split <;> rfl)
    all_goals cases p.cond <;> simp [h, warm, st, RuleRec.settled]
  | activeNew => exact .of_kept n h warm (.inl st)
  | activeAck => exact .of_kept n h warm (.inr st)

end

/-! ### The turn of an enabled rule (R96) -/

section
variable (s : State) (m : Fin 64)

/-- The record that the turn of a rule leaves. -/
def State.turned : RuleRec :=
  let p := s.assessed m
  let c := s.ruleCfg m
  if p.qualHeld then
    if p.activates c then p.activated c (min (s.wev.seq + 1) counterMax) else (p.moved c).settled
  else if c.qualClear then p.cleared.settled else p

/-- Whether the turn of a rule activates it. -/
def State.activatesIn : Bool := (s.assessed m).qualHeld && (s.assessed m).activates (s.ruleCfg m)

theorem State.turned_turn : RecordTurn (s.ruleCfg m) (s.assessed m) (s.turned m) (min (s.wev.seq + 1) counterMax) := by
  have frozen : (s.assessed m).frozen = (!(s.assessed m).qualHeld && !(s.ruleCfg m).qualClear) := rfl
  unfold State.turned
  dsimp only
  by_cases h : (s.assessed m).qualHeld = true
  · have warm : (s.assessed m).frozen = false := by rw [frozen, h]; rfl
    rw [if_pos h]
    by_cases act : (s.assessed m).activates (s.ruleCfg m) = true
    · rw [if_pos act]
      exact .of_activated _ h act
    · rw [if_neg act]
      exact .of_moved _ h warm (Bool.eq_false_iff.mpr act)
  · have no := Bool.eq_false_iff.mpr h
    rw [if_neg h]
    by_cases clears : (s.ruleCfg m).qualClear = true
    · rw [if_pos clears]
      exact .of_cleared _ no clears (by rw [frozen, clears, no]; rfl)
    · have keeps := Bool.eq_false_iff.mpr clears
      rw [if_neg clears]
      exact .of_frozen _ no keeps (by rw [frozen, keeps, no]; rfl)

/-- R96: the turn of an enabled rule changes its record, and what comes with that. -/
theorem State.evaluateRule_moves : RuleMoves m (s.turned m)
    (if s.activatesIn m then min (s.wev.seq + 1) counterMax else s.wev.seq)
    (if s.activatesIn m then (if (s.ruleCfg m).record then (s.reportActive (.rule m)).fmy else s.fmy)
      else s.markEnds m (s.turned m).mark) s (s.evaluateRule m) := by
  let v := s.modRule m fun _ => s.assessed m
  have made : RuleMoves m (s.assessed m) s.wev.seq s.fmy s v := RuleMoves.modRule s m (fun _ => s.assessed m) rfl
  have record : v.rule m = s.assessed m := made.rule
  have step {r : RuleRec} {t : State} (k : Steps m r v t) : RuleMoves m r.settled s.wev.seq (s.markEnds m r.settled.mark) s
      (t.settleIfOff m) := Steps.after (s := s) (fun _ => s.assessed m) rfl rfl k
  have holds : s.qualifierHolds (s.ruleCfg m).qualifier = (s.assessed m).qualHeld := rfl
  rw [s.evaluateRule_eq, holds]
  unfold State.activatesIn State.turned
  dsimp only
  by_cases h : (s.assessed m).qualHeld = true
  · rw [if_pos h, if_pos h, h, Bool.true_and]
    by_cases act : (s.assessed m).activates (s.ruleCfg m) = true
    · have acts := v.stepRule_activates m (by rw [record]; exact act)
      rw [record] at acts
      have fmy : (if (v.ruleCfg m).record then (v.reportActive (.rule m)).fmy else v.fmy) =
          if (s.ruleCfg m).record then (s.reportActive (.rule m)).fmy else s.fmy := by
        have changed : OnlyChanges [.wev] s v := s.modRule_only m _
        rw [changed.reportActive_fmy]
        rfl
      rw [fmy] at acts
      rw [if_pos act, if_pos act, if_pos act]
      exact made.after rfl acts
    · have steps := v.stepRule_steps m (by rw [record]; exact Bool.eq_false_iff.mpr act)
      rw [record] at steps
      rw [if_neg act, if_neg act, if_neg act]
      exact step steps
  · rw [if_neg h, if_neg h, Bool.eq_false_iff.mpr h, Bool.false_and, if_neg Bool.false_ne_true, if_neg Bool.false_ne_true]
    by_cases clears : (s.ruleCfg m).qualClear = true
    · have steps := v.clearRule_steps m
      rw [record] at steps
      rw [if_pos clears, if_pos clears]
      exact step steps
    · rw [if_neg clears, if_neg clears]
      have stays := s.markEnds_kept m
      have moves := made
      rw [← stays] at moves
      exact moves

/-- R98, R105: a turn activates exactly where the rule goes to ACTIVE_NEW out of OFF or PENDING. -/
theorem State.activatesIn_iff : s.activatesIn m = true ↔
    (s.turned m).st = .activeNew ∧ ((s.rule m).st = .off ∨ (s.rule m).st = .pending) := by
  have turn := (s.turned_turn m).st
  have before : (s.assessed m).st = (s.rule m).st := rfl
  unfold State.activatesIn RuleRec.activates
  rw [turn, before]
  cases (s.assessed m).qualHeld with
  | false =>
    simp only [Bool.false_and, Bool.false_eq_true, false_iff, if_true]
    rintro ⟨active, idle⟩
    obtain st | st := idle <;> rw [st] at active <;> split at active <;> cases active
  | true =>
    rw [Bool.true_and, if_neg (Ne.symm Bool.false_ne_true)]
    cases (s.rule m).st <;> cases (s.assessed m).cond <;> simp

/-- R96: the turn of an enabled rule. -/
theorem State.evaluateRule_turn : RuleTurn m s (s.evaluateRule m) := by
  have moves := s.evaluateRule_moves m
  have turn := s.turned_turn m
  obtain ⟨rule, others, seq, fmy, warn, only⟩ := moves
  obtain ⟨⟨cond, raw, qualHeld, frozen⟩, slots⟩ := turn.same.parts
  have acts := s.activatesIn_iff m
  constructor
  case slots =>
    rw [rule]
    exact slots
  case raw => rw [rule, raw]; rfl
  case qualHeld => rw [rule, qualHeld]; rfl
  case frozen => rw [rule, frozen, qualHeld]; rfl
  case cond =>
    have taken : (s.assessed m).cond = if (s.assessed m).qualHeld then
        onInvalid (s.ruleCfg m).onInvalid (s.rule m).cond (s.assessed m).raw
      else if (s.ruleCfg m).qualClear then false else (s.rule m).cond := rfl
    rw [rule, cond, qualHeld, raw, taken]
    cases (s.ruleCfg m).qualClear <;> rfl
  case st => rw [rule, qualHeld, cond]; exact turn.st
  case onset => rw [rule, qualHeld]; exact turn.onset
  case release => rw [rule, qualHeld, cond]; exact turn.release
  case reminder => rw [rule, qualHeld]; exact turn.reminder
  case seq =>
    rw [rule, seq, turn.seq]
    by_cases act : s.activatesIn m = true
    · rw [if_pos act]; rfl
    · have idle := mt acts.mpr act
      have idle' : ¬((s.turned m).st = .activeNew ∧ ((s.assessed m).st = .off ∨ (s.assessed m).st = .pending)) := idle
      rw [if_neg idle, if_neg idle']; rfl
  case counter => rw [rule, seq]; exact if_congr acts rfl rfl
  case report =>
    rw [rule, fmy]
    by_cases act : s.activatesIn m = true
    · obtain ⟨active, idle⟩ := acts.mp act
      have on : ¬((s.turned m).st = .off ∧ (s.turned m).frozen = false ∧ (s.rule m).mark = true) := by
        rw [active]; nofun
      rw [if_pos act, if_neg on]
      exact if_congr ⟨fun records => ⟨active, idle, records⟩, fun all => all.2.2⟩ rfl rfl
    · have idle : ¬((s.turned m).st = .activeNew ∧ ((s.rule m).st = .off ∨ (s.rule m).st = .pending) ∧
          (s.ruleCfg m).record = true) := fun all => act (acts.mpr ⟨all.1, all.2.1⟩)
      have mark : (s.turned m).mark =
          if (s.turned m).st = .off ∧ (s.assessed m).frozen = false then false else (s.rule m).mark :=
        turn.mark.trans (if_neg idle)
      rw [if_neg act, if_neg idle, State.markEnds, mark, frozen]
      refine if_congr ⟨fun ⟨marked, ended⟩ => ?_, fun ⟨off, warm, marked⟩ => ⟨marked, if_pos ⟨off, warm⟩⟩⟩ rfl rfl
      by_cases ends : (s.turned m).st = .off ∧ (s.assessed m).frozen = false
      · exact ⟨ends.1, ends.2, marked⟩
      · rw [if_neg ends, marked] at ended
        cases ended
  case mark => rw [rule, frozen]; exact turn.mark
  case warn => rw [rule]; exact warn
  case others => exact others
  case only => exact only

end

/-! ### The pass (R96) -/

/-- The pass up to the rules below `n`. -/
def State.passUpTo (s : State) (n : Nat) : State := ((List.finRange 64).take n).foldl (fun s m => s.passRule m) s

section
variable (s : State)

theorem State.passUpTo_succ (m : Fin 64) : s.passUpTo (m.val + 1) = (s.passUpTo m.val).passRule m := by
  have next : (List.finRange 64).take (m.val + 1) = (List.finRange 64).take m.val ++ [m] := by
    rw [List.take_succ_eq_append_getElem (by simp)]
    simp
  rw [State.passUpTo, next, List.foldl_append]
  rfl

theorem State.passUpTo_all : s.passUpTo 64 = s.pass := by
  have all : (List.finRange 64).take 64 = List.finRange 64 := List.take_of_length_le (by simp)
  rw [State.passUpTo, all]
  rfl

theorem State.passRule_only (m : Fin 64) : OnlyChanges ruleParts s (s.passRule m) :=
  .ite (s.evaluateRule_only m) (.refl _ s)

theorem State.passRule_others (m j : Fin 64) (other : j ≠ m) : (s.passRule m).rule j = s.rule j := by
  unfold State.passRule
  split
  · exact (s.evaluateRule_moves m).others j other
  · rfl

theorem State.passUpTo_only (n : Nat) (h : n ≤ 64) : OnlyChanges ruleParts s (s.passUpTo n) := by
  induction n with
  | zero => exact .refl _ s
  | succ n ih =>
    rw [s.passUpTo_succ ⟨n, h⟩]
    exact (ih (Nat.le_of_succ_le h)).trans (State.passRule_only _ _)

/-- Before its turn a rule stands as the pass found it. -/
theorem State.passUpTo_before (m : Fin 64) (n : Nat) (h : n ≤ m.val) : (s.passUpTo n).rule m = s.rule m := by
  induction n with
  | zero => rfl
  | succ n ih =>
    have bound : n < 64 := lt_of_lt_of_le h (Nat.le_of_lt m.isLt)
    have other : m ≠ ⟨n, bound⟩ := fun e => by rw [e] at h; exact absurd h (Nat.lt_irrefl n)
    rw [s.passUpTo_succ ⟨n, bound⟩, State.passRule_others _ _ _ other]
    exact ih (Nat.le_of_succ_le h)

/-- After its turn a rule stands as the turn left it. -/
theorem State.passUpTo_later (m : Fin 64) (n : Nat) (low : m.val + 1 ≤ n) (h : n ≤ 64) :
    (s.passUpTo n).rule m = (s.passUpTo (m.val + 1)).rule m := by
  induction n, low using Nat.le_induction with
  | base => rfl
  | succ n low ih =>
    have other : m ≠ ⟨n, h⟩ := fun e => by rw [e] at low; exact absurd low (Nat.lt_irrefl n)
    rw [s.passUpTo_succ ⟨n, h⟩, State.passRule_others _ _ _ other]
    exact ih (Nat.le_of_succ_le h)

end

/-- Settles O47: the pass is the turns of the rules in number order. -/
theorem passStepsAnEnabledRule : Obligations.PassStepsAnEnabledRule := by
  intro s live passes
  let u := s.atPass
  have moved : OnlyChanges [.now, .sched] s u := (Advances.atMoment (l := [.sched]) s _ _).only
  have runs : exec .evaluationPass s = .next u.pass := by
    rw [exec_runs _ s rfl live]
    exact congrArg _ (if_pos passes)
  refine ⟨u.passUpTo, by rw [runs, u.passUpTo_all], rfl, rfl, moved, fun m => ⟨fun off => ?_, fun on => ?_, ?_, ?_⟩, ?_⟩
  · have cfg : ((u.passUpTo m.val).ruleCfg m).enabled = false :=
      (congrArg (fun t : Tables => (t.rules[m]).enabled) ((u.passUpTo_only _ m.isLt.le).same .tables)).trans off
    rw [u.passUpTo_succ m]
    exact if_neg (by rw [cfg]; decide)
  · have cfg : ((u.passUpTo m.val).ruleCfg m).enabled = true :=
      (congrArg (fun t : Tables => (t.rules[m]).enabled) ((u.passUpTo_only _ m.isLt.le).same .tables)).trans on
    have goes : (u.passUpTo m.val).passRule m = (u.passUpTo m.val).evaluateRule m := if_pos cfg
    rw [u.passUpTo_succ m, goes]
    exact State.evaluateRule_turn _ m
  · exact (u.passUpTo_before m m.val le_rfl).trans rfl
  · exact u.passUpTo_later m 64 m.isLt le_rfl
  · exact moved.andThen (u.passUpTo_only 64 le_rfl)

end Sys2Proof.Machine
end

section
/-! PROOFS. The entry to SETUP (O25). -/

namespace Sys2Proof.Machine
set_option Elab.async false

theorem Needle.become_effective (n : Needle) {x : NeedleState} (moves : x ≠ .suspended) : (n.become x).effective = x := by
  unfold Needle.become
  split
  case isTrue suspended => exact if_pos suspended
  case isFalse => exact if_neg moves

/-- R79: what the parking leaves of a needle. -/
theorem Needle.park_effective (n : Needle) : n.park.effective = match n.effective with
    | .tracking | .sweepUp | .sweepReturn | .forced => .parked
    | x => x := by
  have parked : (n.become .parked).effective = .parked := n.become_effective (by decide)
  unfold Needle.park
  cases st : n.effective <;> first | exact parked | exact st

section
variable (s : State)

theorem State.parkNeedles_needle (k : Fin 6) : s.parkNeedles.needle k = (s.needle k).park := by
  rw [State.parkNeedles, State.endSweep_needle]
  exact updAll_get _ _ k

theorem State.forceInterlock_interlock : s.forceInterlock.dmn.interlock = .forced := by
  delta State.forceInterlock
  extract_lets u
  rw [State.setInterlock_dmn]

/-- R12, R79, R109, R151, R202: what the entry to SETUP leaves. -/
structure EntersSetup (s t : State) : Prop where
  written : t.written = some s.tables
  timer : t.lif.silenceTimer = .stopped
  rules : ∀ m, (t.rule m).st = .off
  interlock : t.dmn.interlock = .forced
  needles : ∀ k, (t.needle k).effective = match (s.needle k).effective with
    | .tracking | .sweepUp | .sweepReturn | .forced => .parked
    | x => x
  mctl : t.mctl = { s.mctl with mode := .setup, sleepPending := false }
  only : OnlyChanges [.mctl, .ndr, .wev, .pru, .dmn, .fmy, .cursor, .attention, .link, .written] s t

theorem EntersSetup.replying {s t : State} (h : EntersSetup s t) (f : Frame) (x : Status) (items : List Byte) :
    EntersSetup s (t.replying f x items) :=
  ⟨h.written, h.timer, h.rules, h.interlock, h.needles, h.mctl, h.only.andThen (t.replying_only _ _ _)⟩

theorem State.enterSetup_spec : EntersSetup s s.enterSetup := by
  let u := ({ s with written := some s.tables } : State).setMode .setup
  let v := u.allRulesOff.parkNeedles
  let w := v.forceInterlock.stopSilenceTimer
  have goes : s.enterSetup = w.refreshPru := rfl
  have off : OnlyChanges ruleParts u u.allRulesOff := u.allRulesOff_only
  have parked : OnlyChanges [.ndr, .attention] u.allRulesOff v := State.parkNeedles_only _
  have forced : OnlyChanges doorParts v v.forceInterlock := v.forceInterlock_only
  have stopped : OnlyChanges [.link] v.forceInterlock w := State.stopSilenceTimer_only _
  have shown : OnlyChanges [.pru] w w.refreshPru := w.refreshPru_only
  have after := forced.andThen (stopped.andThen shown (n := [.link, .pru])) (n := .link :: .pru :: doorParts)
  have only := s.enterSetup_only
  have written := s.enterSetup_written
  rw [goes] at only written ⊢
  refine ⟨written, ?_, fun m => ?_, ?_, fun k => ?_, ?_, only⟩
  · exact (congrArg Lif.silenceTimer shown.lif_eq).trans rfl
  · have wev : w.refreshPru.wev = u.allRulesOff.wev := (after.same .wev).trans (parked.same .wev)
    rw [State.rule_eq _ wev m, u.allRulesOff_rule m]
    split
    · assumption
    · rfl
  · exact (congrArg Dmn.interlock ((shown.same .dmn).trans (stopped.same .dmn))).trans v.forceInterlock_interlock
  · have ndr : w.refreshPru.ndr = v.ndr := after.same .ndr
    have needle : w.refreshPru.needle k = v.needle k := congrArg (fun n : Ndr => n.needles[k]) ndr
    have before : u.allRulesOff.needle k = s.needle k := congrArg (fun n : Ndr => n.needles[k]) ((off.same .ndr).trans rfl)
    rw [needle, State.parkNeedles_needle, before]
    exact Needle.park_effective _
  · have mctl : u.mctl = { s.mctl with mode := .setup, sleepPending := false } := by
      change ({ s.mctl with mode := .setup, sleepPending := s.mctl.sleepPending && false } : Mctl) = _
      rw [Bool.and_false]
    exact (after.same .mctl).trans ((parked.same .mctl).trans ((off.same .mctl).trans mctl))

end

/-- Settles O25, by what the entry to SETUP leaves in each block. -/
theorem setupIsEntered : Obligations.SetupIsEntered := by
  intro s tag ready m
  have startup : s.mode ≠ .startup := by obtain m | m := m <;> rw [m] <;> decide
  have service : setModeService (0x02 : Byte).toNat s = (s.enterSetup, .ok, []) := if_pos m
  have entered := s.enterSetup_spec.replying ⟨0x04, tag, [0x02]⟩ .ok []
  exact ⟨_, exec_setMode ready startup service, congrArg Mctl.mode entered.mctl, entered.written, rfl, entered.timer,
    entered.rules, entered.interlock, entered.needles, entered.mctl, entered.only⟩

end Sys2Proof.Machine
end

section
/-! PROOFS. A sample of a classified line: what it makes of the line's record, and which attention causes it and the
consumers of a changed value raise. -/

namespace Sys2Proof.Machine
set_option Elab.async false

/-! ### The causes that the consumers of a line raise -/

section
variable (s : State)

theorem State.evalInterlock_raises : Raises [.door] s s.evalInterlock := by
  unfold State.evalInterlock
  repeat' split
  all_goals first | with_reducible exact .refl _ s | with_reducible exact s.setInterlock_raises _ _

theorem State.setGrant_raises (g : Bool) (d : Fin 4) : Raises [.door] s (s.setGrant g d) := by
  have changed : Raises [.door] s (s.modDoor d fun r => { r with grant := g }) := .of_lif rfl
  exact .ite (.refl _ s) (((changed.trans (.attend _ _ (by decide))).trans (State.evalInterlock_raises _)).trans (.of_lif rfl))

theorem State.grantAll_raises (sets : List (Fin 4)) (g : Bool) : Raises [.door] s (s.grantAll sets g) :=
  .foldl _ (fun s d => s.setGrant_raises g d) sets s

theorem State.doorReport_raises (y : DoorSym) (d : Fin 4) : Raises [.door, .fault, .lost] s (s.doorReport y d) :=
  .ite (.refl _ s) (.trans (t := s.modDoor d fun r => { r with marks := y :: r.marks }) (.of_lif rfl)
    ((State.reportActive_raises _ _).mono (by decide)))

theorem State.reportAllCleared_door_raises (l : List FaultCode) : Raises [.door, .fault, .lost] s (s.reportAllCleared l) :=
  (State.reportAllCleared_raises l).mono (by decide)

theorem State.enterDoorState_raises (d : Fin 4) (new : DoorState) : Raises [.door, .fault, .lost] s (s.enterDoorState d new) := by
  delta State.enterDoorState
  extract_lets old start s1 s2 s3 s4 s5 s6 s7
  have h1 : Raises [.door, .fault, .lost] s s1 := .of_lif rfl
  have h2 : Raises [.door, .fault, .lost] s1 s2 := .attend _ _ (by decide)
  have h3 : Raises [.door, .fault, .lost] s2 s3 := .ite ((s2.grantAll_raises _ _).mono (by decide)) (.refl _ s2)
  have h4 : Raises [.door, .fault, .lost] s3 s4 := (s3.evalInterlock_raises.mono (by decide)).trans (.of_lif rfl)
  have h5 : Raises [.door, .fault, .lost] s4 s5 := .ite
    (.ite (.trans (t := s4.modDoor d fun r => { r with openWhileMoving := true }) (.of_lif rfl) (State.doorReport_raises _ _ d))
      (.refl _ s4)) (.refl _ s4)
  have h6 : Raises [.door, .fault, .lost] s5 s6 := .ite ((s5.reportAllCleared_door_raises _).trans (.of_lif rfl)) (.refl _ s5)
  have h7 : Raises [.door, .fault, .lost] s6 s7 := .ite (.ite (.of_lif rfl) (.refl _ s6)) (.refl _ s6)
  have h8 : Raises [.door, .fault, .lost] s7 (s7.countObstruction d) := by
    delta State.countObstruction
    extract_lets u1 u2
    have k1 : Raises [.door, .fault, .lost] s7 u1 := .of_lif rfl
    have k2 : Raises [.door, .fault, .lost] u1 u2 := .of_lif rfl
    exact (k1.trans k2).trans (.ite (.trans (t := u2.modDoor d fun r => { r with repeatedObstruction := true }) (.of_lif rfl)
      (State.doorReport_raises _ _ d)) (.refl _ u2))
  exact .ite (.refl _ s) (((((((h1.trans h2).trans h3).trans h4).trans h5).trans h6).trans h7).trans (.ite h8 (.refl _ s7)))

/-- R134: a re-derivation at a change of a line. -/
theorem State.rederive_line_raises (d : Fin 4) (k : DoorSlot) (v : Logical) :
    Raises [.door, .fault, .lost] s (s.rederive d (.line k v)) := by
  have tested : Raises [.door, .fault, .lost] s (s.testEndStops d) := .ite (.refl _ s) (.ite (.of_lif rfl) (.of_lif rfl))
  exact tested.trans (State.enterDoorState_raises _ d _)

theorem State.doorSlotChange_raises (d : Fin 4) (v : Logical) (k : DoorSlot) :
    Raises [.door, .fault, .lost] s (s.doorSlotChange d v k) :=
  (s.rederive_line_raises d k v).trans (.ite ((State.evalInterlock_raises _).mono (by decide)) (.refl _ _))

theorem State.doorLineChange_raises (n : Fin 32) (v : Logical) : Raises [.door, .fault, .lost] s (s.doorLineChange n v) :=
  .foldl _ (fun s d => .foldl _ (fun s k => s.doorSlotChange_raises d v k) _ s) _ s

theorem State.endOverride_raises : Raises [.door, .fault, .lost] s s.endOverride := by
  delta State.endOverride
  extract_lets u
  have h : Raises [.door, .fault, .lost] s u :=
    ((s.reportCleared_raises _).mono (by decide)).trans (.attend _ _ (by decide))
  exact h.trans (.ite ((u.setInterlock_raises _ _).mono (by decide)) ((u.setInterlock_raises _ _).mono (by decide)))

theorem State.overrideChange_raises (v : Logical) : Raises [.door, .fault, .lost] s (s.overrideChange v) := by
  unfold State.overrideChange
  repeat' split
  all_goals first
    | with_reducible exact .refl _ s
    | with_reducible exact s.beginOverride_raises
    | with_reducible exact s.endOverride_raises

theorem State.releaseButton_raises : Raises [.door] s s.releaseButton := by
  exact .ite (.refl _ s) (.ite (s.grantAll_raises _ _) (.ite (s.grantAll_raises _ _) (.attend _ _ (by decide))))

theorem State.leaveWorkshopIfMoving_raises : Raises [.mode] s s.leaveWorkshopIfMoving :=
  .ite (s.leaveWorkshop_only.raises.trans (.attend _ _ (by decide))) (.refl _ s)

theorem State.changeRule_raises (m : Fin 64) (f : RuleRec → RuleRec) : Raises [.warn, .fault, .lost] s (s.changeRule m f) := by
  delta State.changeRule
  extract_lets old s1 new s2 s3 s4
  have h1 : Raises [.warn, .fault, .lost] s s1 := .of_lif rfl
  have h2 : Raises [.warn, .fault, .lost] s1 s2 := .attend _ _ (by decide)
  have h3 : Raises [.warn, .fault, .lost] s2 s3 := .ite (s2.clearSingleMark_only m).raises (.refl _ s2)
  have h4 : Raises [.warn, .fault, .lost] s3 s4 := .ite (.ite (((s3.reportCleared_raises _).mono (by decide)).trans (.of_lif rfl))
    (.refl _ s3)) (.refl _ s3)
  have h5 : OnlyChanges [.pru] s4 (s4.listChange m old).refreshPru := (s4.listChange_only m _).andThen (State.refreshPru_only _)
  exact h1.trans (.ite (.refl _ s1) (((h2.trans h3).trans h4).trans h5.raises))

theorem State.ackButton_raises : Raises [.warn, .fault, .lost] s s.ackButton := by
  unfold State.ackButton State.ackRule
  repeat' split
  all_goals first | with_reducible exact .refl _ s | with_reducible exact s.changeRule_raises _ _

/-- R27: what the consumers of a line raise. -/
abbrev consumerCauses : List Cause := [.door, .fault, .lost, .mode, .warn]

theorem State.roleChange_raises (n : Fin 32) (x v : Logical) : Raises consumerCauses s (s.roleChange n x v) := by
  have first : Raises consumerCauses s (s.interlockRoleChange n v) := by
    delta State.interlockRoleChange
    extract_lets c u
    have h : Raises consumerCauses s u := .ite (s.evalInterlock_raises.mono (by decide)) (.refl _ s)
    exact h.trans (.ite ((u.overrideChange_raises v).mono (by decide)) (.refl _ u))
  have second (u : State) (press : Bool) : Raises consumerCauses u (u.buttonRoleChange n press) := by
    delta State.buttonRoleChange
    extract_lets c u1 u2
    have h1 : Raises consumerCauses u u1 := .ite (u.releaseButton_raises.mono (by decide)) (.refl _ u)
    have h2 : Raises consumerCauses u1 u2 := .ite (u1.leaveWorkshopIfMoving_raises.mono (by decide)) (.refl _ u1)
    exact (h1.trans h2).trans (.ite (u2.ackButton_raises.mono (by decide)) (.refl _ u2))
  exact first.trans (second _ _)

theorem State.handOn_raises (n : Fin 32) (x : Logical) : Raises consumerCauses s (s.handOn n x) :=
  .ite (.refl _ s) (((s.doorLineChange_raises n _).mono (by decide)).trans (State.roleChange_raises _ n _ _))

end

/-! ### The walk of the fault status (R29 to R34) -/

/-- R29 to R33: the state after the reports of a walk, before the record takes it. -/
def State.walkReports (n : Fin 32) (k : LineClass) (s : State) : State :=
  match (s.line n).status, k.symptom with
  | .clear, none | .pending, none =>
    if (s.line n).symptom = .any then s.reportAllCleared (lineSyms.map (.line n)) else s
  | .confirmed, some y | .healing, some y =>
    if (s.line n).symptom = .sym y then s else (s.clearFormer n y).reportActive (.line n y)
  | _, _ => s

/-- R34: whether a walk raises attention cause LINE. -/
def LineRec.walkAttends (k : LineClass) (r : LineRec) : Bool :=
  match r.status, k.symptom with
  | .pending, none | .healing, some _ => true
  | .confirmed, some y => r.symptom != .sym y
  | _, _ => false

/-- What a walk leaves of the record, the fault memory and the causes. -/
structure WalksLine (n : Fin 32) (r : LineRec) (f : Fmy) (attends : Bool) (s t : State) : Prop where
  own : t.line n = r
  others : ∀ j, j ≠ n → t.line j = s.line j
  fmy : t.fmy = f
  attention : t.lif.attention.line = (s.lif.attention.line || attends)

section
variable {s t : State} {n : Fin 32} {r : LineRec} {f : Fmy}

theorem WalksLine.still (s : State) (n : Fin 32) : WalksLine n (s.line n) s.fmy false s s :=
  ⟨rfl, fun _ _ => rfl, rfl, (Bool.or_false _).symm⟩

theorem WalksLine.modLine (s : State) (n : Fin 32) (g : LineRec → LineRec) :
    WalksLine n (g (s.line n)) s.fmy false s (s.modLine n g) :=
  ⟨s.modLine_same n g, fun j other => s.modLine_other n j g other.symm, rfl, (Bool.or_false _).symm⟩

theorem Raises.line (h : Raises [.fault, .lost] s t) : t.lif.attention.line = s.lif.attention.line := h.only .line (by decide)

theorem WalksLine.confirms (s : State) (n : Fin 32) (y : LineSym) : WalksLine n ((s.line n).confirmed y)
    ((s.clearFormer n y).reportActive (.line n y)).fmy true s ((s.reportSymptom n y).enterConfirmed n) := by
  obtain ⟨own, others, fmy, attention⟩ := s.confirmSymptom_parts n y
  exact ⟨own, others, fmy, attention.trans (Bool.or_true _).symm⟩

theorem WalksLine.settles (s : State) (n : Fin 32) : WalksLine n (s.line n).settled
    (if (s.line n).symptom = .any then s.reportAllCleared (lineSyms.map (.line n)) else s).fmy false s (s.settleIfAny n) := by
  obtain ⟨own, others, fmy, raises⟩ := s.settleIfAny_parts n
  exact ⟨own, others, fmy, raises.line.trans (Bool.or_false _).symm⟩

end

theorem State.walkStatus_walks (s : State) (n : Fin 32) (k : LineClass) :
    WalksLine n ((s.line n).walked (Timer.start s.now s.faultTimersRun) k) (s.walkReports n k).fmy
      ((s.line n).walkAttends k) s (s.walkStatus n k) := by
  unfold State.walkStatus LineRec.walked State.walkReports LineRec.walkAttends
  dsimp only
  cases (s.line n).status <;> cases k.symptom <;> dsimp only
  case clear.none => exact .settles s n
  case clear.some => exact .modLine s n fun r => { r with status := .pending, timer := Timer.start s.now s.faultTimersRun, flag := true }
  case pending.none =>
    let u := s.returnToNone n
    have back : OnlyChanges [.hlm, .attention] s u := (s.modLine_only n _).andThen (State.attend_only _ _)
    have record : u.line n = { s.line n with status := .clear, timer := .stopped } := s.modLine_same n _
    obtain ⟨own, others, fmy, attention⟩ := WalksLine.settles u n
    rw [record] at own fmy
    refine ⟨own, fun j other => (others j other).trans (s.modLine_other n j _ other.symm), fmy.trans ?_, ?_⟩
    · split
      · exact (back.reportsAlike.allCleared _).fmy
      · rfl
    · rw [attention, Bool.or_false, Bool.or_true]
      rfl
  case pending.some => exact .still s n
  case confirmed.none => exact .modLine s n fun r => { r with status := .healing, timer := Timer.start s.now s.faultTimersRun }
  case confirmed.some y =>
    by_cases same : (s.line n).symptom = .sym y
    · rw [if_pos same, if_pos same, if_pos same, same, bne_self_eq_false]
      exact .still s n
    · rw [if_neg same, if_neg same, if_neg same, bne_iff_ne.mpr same]
      exact .confirms s n y
  case healing.none => exact .still s n
  case healing.some y =>
    by_cases same : (s.line n).symptom = .sym y
    · rw [if_pos same, if_pos same]
      refine ⟨?_, fun j other => s.modLine_other n j _ other.symm, rfl, (Bool.or_true _).symm⟩
      refine (s.modLine_same n _).trans ?_
      rw [LineRec.confirmed, ← same]
    · rw [if_neg same, if_neg same]
      exact .confirms s n y

end Sys2Proof.Machine
end

section
/-! PROOFS. The scan samples of the sense lines (O38). -/

namespace Sys2Proof.Machine
set_option Elab.async false

/-! ### The classification of a sample (R23 to R25) -/

/-- R23 to R25: the record with a sample taken and debounced. -/
def LineRec.sampled (m : Nat × Nat) (k : LineClass) (limit : Nat) (r : LineRec) : LineRec :=
  LineRec.debounce k limit { r with measured := some m, usable := if k.isFault then r.usable else some m }

theorem LineRec.sampled_eq (m : Nat × Nat) (k : LineClass) (limit : Nat) (r : LineRec) : r.sampled m k limit = { r with
    measured := some m, usable := if k.isFault then r.usable else some m, candidate := some k
    count := if r.candidate = some k then min (r.count + 1) limit else 1 } := by
  unfold LineRec.sampled LineRec.debounce
  dsimp only
  split
  case isTrue same => rw [← same]
  case isFalse => rfl

/-- R25: whether a sample makes the line accept its class. -/
def State.acceptsNow (n : Fin 32) (k : LineClass) (s : State) : Prop :=
  (s.lineCfg n).debounce ≤ s.countWith n k ∧ (s.line n).accepted ≠ some k

section
variable (s : State) (n : Fin 32)

theorem State.modLine_modLine (f g : LineRec → LineRec) : (s.modLine n f).modLine n g = s.modLine n fun r => g (f r) :=
  congrArg (fun v => s.modHlm fun h => { h with lines := v }) (updAt_updAt s.hlm.lines n f g)

variable {s n} in
theorem State.walkReports_congr {u : State} (k : LineClass) (status : (u.line n).status = (s.line n).status)
    (symptom : (u.line n).symptom = (s.line n).symptom) (alike : ReportsAlike s u) :
    (u.walkReports n k).fmy = (s.walkReports n k).fmy := by
  have former (y : LineSym) : ReportsAlike (s.clearFormer n y) (u.clearFormer n y) := by
    unfold State.clearFormer
    rw [symptom]
    cases (s.line n).symptom with
    | any => exact alike.allCleared _
    | sym x => exact alike.cleared _
    | nothing => exact alike
  have settled : (if (s.line n).symptom = .any then u.reportAllCleared (lineSyms.map (.line n)) else u).fmy =
      (if (s.line n).symptom = .any then s.reportAllCleared (lineSyms.map (.line n)) else s).fmy := by
    split
    · exact (alike.allCleared _).fmy
    · exact alike.fmy
  have confirmed (y : LineSym) : (if (s.line n).symptom = .sym y then u else (u.clearFormer n y).reportActive (.line n y)).fmy =
      (if (s.line n).symptom = .sym y then s else (s.clearFormer n y).reportActive (.line n y)).fmy := by
    split
    · exact alike.fmy
    · exact ((former y).active _).fmy
  unfold State.walkReports
  rw [status, symptom]
  cases (s.line n).status <;> cases k.symptom
  case clear.none => exact settled
  case pending.none => exact settled
  case confirmed.some y => exact confirmed y
  case healing.some y => exact confirmed y
  all_goals exact alike.fmy

/-- R23, R37: what a measurement leaves; its ratio is free without a VB measurement (assumption 5). -/
theorem State.measureOnly_spec (mv : Nat) : ∃ r, r ≤ 10000 ∧
    (∀ vb, s.mctl.vb = some vb → 0 < vb → r = min ((min mv 40000 * 10000 + vb / 2) / vb) 10000) ∧
    (s.measureOnly n mv).line n = { s.line n with measured := some (min mv 40000, r) } ∧
    ∀ j, j ≠ n → (s.measureOnly n mv).line j = s.line j := by
  let m := s.measure mv
  have lines (j : Fin 32) : m.1.line j = s.line j := congrArg (fun h : Hlm => h.lines[j]) ((s.measure_only mv).same .hlm)
  have voltage : m.2.1 = min mv 40000 ∧ m.2.2 ≤ 10000 := by
    change (s.measure mv).2.1 = _ ∧ (s.measure mv).2.2 ≤ 10000
    unfold State.measure
    dsimp only
    split
    · split
      · exact ⟨rfl, Nat.min_le_right _ _⟩
      · exact ⟨rfl, Nat.min_le_right _ _⟩
    · exact ⟨rfl, Nat.min_le_right _ _⟩
  refine ⟨m.2.2, voltage.2, fun vb measured positive => ?_, ?_, fun j other => ?_⟩
  · change (s.measure mv).2.2 = _
    rw [s.measure_vb mv measured positive]
    rfl
  · have own : (s.measureOnly n mv).line n = { m.1.line n with measured := some m.2 } := State.modLine_same _ n _
    rw [own, lines, ← voltage.1]
  · exact (State.modLine_other _ n j _ other.symm).trans (lines j)

/-- From `s` to `t` the summary number and the detail snapshot stay. -/
def KeepsSummary (s t : State) : Prop := t.hlm.detail = s.hlm.detail ∧ t.hlm.summaryNo = s.hlm.summaryNo

theorem KeepsSummary.trans {s t u : State} (h : KeepsSummary s t) (k : KeepsSummary t u) : KeepsSummary s u :=
  ⟨k.1.trans h.1, k.2.trans h.2⟩

theorem OnlyChanges.keepsSummary {l : List Part} {s t : State} (h : OnlyChanges l s t)
    (hlm : partsIn [.hlm] l = false := by with_unfolding_all rfl) : KeepsSummary s t :=
  ⟨congrArg Hlm.detail (h.same .hlm hlm), congrArg Hlm.summaryNo (h.same .hlm hlm)⟩

theorem State.walkStatus_summary (k : LineClass) : KeepsSummary s (s.walkStatus n k) := by
  have line (u : State) (f : LineRec → LineRec) : KeepsSummary u (u.modLine n f) := ⟨rfl, rfl⟩
  have settles (u : State) : KeepsSummary u (u.settleIfAny n) := by
    unfold State.settleIfAny
    split
    · exact (State.reportAllCleared_only u _).keepsSummary.trans (line _ _)
    · exact ⟨rfl, rfl⟩
  have confirms (y : LineSym) : KeepsSummary s ((s.reportSymptom n y).enterConfirmed n) := by
    have reports := (s.clearFormer_only n y).trans (State.reportActive_only _ (.line n y))
    exact reports.keepsSummary.trans (line _ _)
  unfold State.walkStatus
  dsimp only
  cases (s.line n).status <;> cases k.symptom <;> dsimp only
  case pending.none => exact (line s _).trans (settles _)
  case clear.none => exact settles s
  case confirmed.some y => split <;> first | exact ⟨rfl, rfl⟩ | exact confirms y
  case healing.some y => split <;> first | exact ⟨rfl, rfl⟩ | exact confirms y
  all_goals exact ⟨rfl, rfl⟩

theorem State.classify_summary (mv : Nat) : KeepsSummary s (s.classify n mv) := by
  have measured : KeepsSummary s (s.measure mv).1 := (s.measure_only mv).keepsSummary
  have accepted (u : State) (k : LineClass) : KeepsSummary u (u.acceptIfDue n k) := by
    unfold State.acceptIfDue
    split
    · exact State.walkStatus_summary _ n k
    · exact ⟨rfl, rfl⟩
  exact measured.trans (accepted _ _)

/-- R25 to R33: what the acceptance of a class leaves, and a sample without one. -/
theorem State.classify_spec {mv vb : Nat} {m : Nat × Nat} {k : LineClass} (measured : s.mctl.vb = some vb) (positive : 0 < vb)
    (voltage : m = (min mv 40000, min ((min mv 40000 * 10000 + vb / 2) / vb) 10000))
    (class_ : k = (s.lineCfg n).classAt (if (s.lineCfg n).fn = .analogVolt then m.1 else m.2)) :
    (s.acceptsNow n k → WalksLine n
      (LineRec.walked (Timer.start s.now s.faultTimersRun) k
        { (s.line n).sampled m k (s.lineCfg n).debounce with accepted := some k })
      (s.walkReports n k).fmy ((s.line n).walkAttends k) s (s.classify n mv) ∧
      OnlyChanges lineParts s (s.classify n mv)) ∧
    (¬s.acceptsNow n k → s.classify n mv = s.modLine n (LineRec.sampled m k (s.lineCfg n).debounce)) := by
  let u := s.modLine n (LineRec.sampled m k (s.lineCfg n).debounce)
  have goes : s.classify n mv = u.acceptIfDue n k := by
    unfold State.classify
    dsimp only
    rw [s.measure_vb mv measured positive]
    dsimp only
    have ratio : (min mv 40000, ratioOf (min mv 40000) vb) = m := voltage.symm
    have class_' : (s.lineCfg n).classAt ((s.lineCfg n).compared m) = k := class_.symm
    rw [ratio, class_', State.modLine_modLine]
    rfl
  have record : u.line n = (s.line n).sampled m k (s.lineCfg n).debounce := s.modLine_same n _
  have sampled := (s.line n).sampled_eq m k (s.lineCfg n).debounce
  have due : ((u.lineCfg n).debounce ≤ (u.line n).count ∧ (u.line n).accepted ≠ some k) ↔ s.acceptsNow n k := by
    rw [record, sampled]; rfl
  refine ⟨fun accepts => ?_, fun stays => goes.trans (if_neg (mt due.mp stays))⟩
  let w := u.modLine n fun r => { r with accepted := some k }
  have taken : s.classify n mv = w.walkStatus n k := goes.trans (if_pos (due.mpr accepts))
  have own : w.line n = { (s.line n).sampled m k (s.lineCfg n).debounce with accepted := some k } := by
    rw [State.modLine_same, record]
  have before : OnlyChanges [.hlm] s w := (s.modLine_only n _).andThen (State.modLine_only _ n _)
  have others (j : Fin 32) (other : j ≠ n) : w.line j = s.line j :=
    (State.modLine_other _ n j _ other.symm).trans (s.modLine_other n j _ other.symm)
  have status : (w.line n).status = (s.line n).status := by rw [own, sampled]
  have symptom : (w.line n).symptom = (s.line n).symptom := by rw [own, sampled]
  have walks := w.walkStatus_walks n k
  rw [taken]
  refine ⟨⟨?_, fun j other => (walks.others j other).trans (others j other), ?_, ?_⟩, before.andThen (w.walkStatus_only n k)⟩
  · rw [walks.own, own]
    rfl
  · rw [walks.fmy, State.walkReports_congr k status symptom before.reportsAlike]
  · rw [walks.attention, LineRec.walkAttends, status, symptom]
    rfl

end

/-! ### A line without consumers (R27) -/

section
variable {s : State} {n : Fin 32}

theorem State.NoDoorNames.of_tables {t : State} (h : s.NoDoorNames n) (tables : t.tables = s.tables) : t.NoDoorNames n := by
  unfold State.NoDoorNames State.doorCfg at h ⊢
  rw [tables]
  exact h

theorem State.RolesAmong.of_tables {t : State} {l : List Role} (h : s.RolesAmong n l) (tables : t.tables = s.tables) :
    t.RolesAmong n l := by
  unfold State.RolesAmong at h ⊢
  rw [tables]
  exact h

theorem State.NoDoorNames.slots (h : s.NoDoorNames n) (d : Fin 4) : s.slotsNaming d n = [] := by
  unfold State.slotsNaming
  split
  case isTrue configured => exact List.filter_eq_nil_iff.mpr fun k _ named => h d k configured (beq_iff_eq.mp named)
  case isFalse => rfl

theorem State.NoDoorNames.doorLineChange (h : s.NoDoorNames n) (v : Logical) : s.doorLineChange n v = s := by
  have all (l : List (Fin 4)) :
      l.foldl (fun s d => (s.slotsNaming d n).foldl (fun s k => s.doorSlotChange d v k) s) s = s := by
    induction l with
    | nil => rfl
    | cons d l ih => rw [List.foldl_cons, h.slots d]; exact ih
  exact all _

theorem State.RolesAmong.interlockRoleChange {l : List Role} (h : s.RolesAmong n l) (kneel : .kneel ∉ l) (override : .override ∉ l)
    (v : Logical) : s.interlockRoleChange n v = s := by
  have first : s.tables.roles.kneel ≠ some n := fun e => kneel (h .kneel e)
  have second : s.tables.roles.override ≠ some n := fun e => override (h .override e)
  unfold State.interlockRoleChange
  dsimp only
  rw [if_neg first, if_neg second]

theorem State.RolesAmong.buttonRoleChange {l : List Role} (h : s.RolesAmong n l) (release : .releaseButton ∉ l)
    (brake : .parkingBrake ∉ l) (ack : .ackButton ∉ l) (press : Bool) : s.buttonRoleChange n press = s := by
  have first : ¬(s.tables.roles.releaseButton = some n ∧ press = true) := fun e => release (h .releaseButton e.1)
  have second : s.tables.roles.parkingBrake ≠ some n := fun e => brake (h .parkingBrake e)
  have third : ¬(s.tables.roles.ackButton = some n ∧ press = true) := fun e => ack (h .ackButton e.1)
  unfold State.buttonRoleChange
  dsimp only
  rw [if_neg first, if_neg second, if_neg third]

theorem State.handOn_unnamed (doors : s.NoDoorNames n) (roles : s.RolesAmong n []) (x : Logical) : s.handOn n x = s := by
  unfold State.handOn
  dsimp only
  split
  · rfl
  · rw [doors.doorLineChange, State.roleChange, roles.interlockRoleChange nofun nofun, roles.buttonRoleChange nofun nofun nofun]

end

/-! ### What a walk shows of the record (R29 to R34) -/

section
variable (start : Timer) (k : LineClass) (r : LineRec)

theorem LineRec.walked_eq : r.walked start k = { r with
    status := (r.walked start k).status, timer := (r.walked start k).timer, symptom := (r.walked start k).symptom
    flag := (r.walked start k).flag } := by
  unfold LineRec.walked LineRec.settled LineRec.confirmed
  repeat' split
  all_goals rfl

theorem LineRec.walked_status : (r.walked start k).status = match r.status, k.isFault with
    | .clear, true => .pending
    | .pending, false => .clear
    | .confirmed, false => .healing
    | .healing, true => .confirmed
    | x, _ => x := by
  unfold LineRec.walked LineRec.settled LineRec.confirmed LineClass.isFault
  cases status : r.status <;> cases k.symptom <;> dsimp only [Option.isSome]
  all_goals (try split) <;> first | rfl | exact status

theorem LineRec.walked_symptom : (r.walked start k).symptom = match r.status, k.symptom with
    | .clear, none | .pending, none => if r.symptom = .any then .nothing else r.symptom
    | .confirmed, some y | .healing, some y => .sym y
    | _, _ => r.symptom := by
  unfold LineRec.walked LineRec.settled LineRec.confirmed
  cases status : r.status <;> cases k.symptom <;> dsimp only
  all_goals (try split) <;> first | rfl | assumption

theorem LineRec.walked_flag : (r.walked start k).flag = (r.flag || match r.status, k.symptom with
    | .clear, some _ | .healing, some _ => true
    | .confirmed, some y => r.symptom != .sym y
    | _, _ => false) := by
  unfold LineRec.walked LineRec.settled LineRec.confirmed
  cases status : r.status <;> cases k.symptom <;> dsimp only
  case confirmed.some y =>
    split
    case isTrue same => rw [same, bne_self_eq_false, Bool.or_false]
    case isFalse other => rw [bne_iff_ne.mpr other, Bool.or_true]
  all_goals (try split) <;> simp

theorem LineRec.walked_timer : (r.walked start k).timer = if (r.walked start k).status = r.status then
      (if r.status = .confirmed ∧ r.symptom ≠ (r.walked start k).symptom then .stopped else r.timer)
    else match (r.walked start k).status with
      | .pending | .healing => start
      | _ => .stopped := by
  unfold LineRec.walked LineRec.settled LineRec.confirmed
  cases status : r.status <;> cases k.symptom <;> dsimp only
  case confirmed.some y =>
    by_cases same : r.symptom = .sym y <;> simp [same, status]
  case clear.some => simp
  case healing.some => simp
  case confirmed.none => simp
  all_goals (try split) <;> simp

end

/-- Settles O38, by the classification (`State.classify_spec`), which the consumers of the line leave alone. -/
theorem lineSamplesAreDebounced : Obligations.LineSamplesAreDebounced := by
  refine ⟨fun s n mv vb live started woken supply classified measured positive => ?_, fun s n mv live => ⟨fun startup supply => ?_,
    fun crank => ?_, fun started off => ?_⟩⟩
  · let u := s.atLineSample n
    have reached : OnlyChanges [.now, .sched] s u := (Advances.atMoment (l := [.sched]) s _ _).only
    let m : Nat × Nat := (min mv 40000, min ((min mv 40000 * 10000 + vb / 2) / vb) 10000)
    let k := (s.lineCfg n).classAt (if (s.lineCfg n).fn = .analogVolt then m.1 else m.2)
    let v := u.classify n mv
    let t := v.handOn n (u.logical n)
    have scanned : s.scanned n = true := by
      have awake : (s.mode != .sleep) = true := bne_iff_ne.mpr woken
      rw [State.scanned, awake, classified, Bool.true_and, Bool.or_true]
    have sample : u.scanSample n mv = t := (if_neg supply).trans (if_neg started)
    have runs : exec (.lineSample n mv) s = .next t := by
      rw [exec_runs _ s rfl live]
      exact congrArg _ ((if_pos scanned).trans sample)
    have handed : OnlyChanges consumerParts v t := v.handOn_only n _
    have lines (j : Fin 32) : t.line j = v.line j := congrArg (fun h : Hlm => h.lines[j]) (handed.same .hlm)
    have now : t.now = u.now := (handed.same .now).trans ((u.classify_only n mv).same .now)
    have causes : t.lif.attention.line = v.lif.attention.line := (v.handOn_raises n _).only .line (by decide)
    have summary : KeepsSummary s t := (u.classify_summary n mv).trans handed.keepsSummary
    obtain ⟨accepting, staying⟩ := u.classify_spec n measured positive (m := m) (k := k) rfl rfl
    have sampled := (s.line n).sampled_eq m k (s.lineCfg n).debounce
    have start : Timer.start u.now u.faultTimersRun = if s.supply = .high then .paused 0 else .running (t.now : Int) := by
      have runs : u.faultTimersRun = (s.supply != .high) := by
        change (s.supply != .crank && s.supply != .high && s.mode != .sleep) = _
        rw [bne_iff_ne.mpr supply, bne_iff_ne.mpr woken, Bool.true_and, Bool.and_true]
      rw [runs, now, Timer.start]
      by_cases high : s.supply = .high
      · rw [if_pos high, high]; rfl
      · rw [if_neg high, bne_iff_ne.mpr high]; rfl
    have tables : v.tables = s.tables := ((u.classify_only n mv).same .tables).trans rfl
    have stands (idle : t.logical n = s.logical n ∨ (s.NoDoorNames n ∧ s.RolesAmong n [])) : t = v := by
      obtain same | ⟨doors, roles⟩ := idle
      · have same : v.logical n = u.logical n := (congrArg (fun r : LineRec => logicalOf r.accepted) (lines n)).symm.trans same
        exact if_pos same
      · exact State.handOn_unnamed (doors.of_tables tables) (roles.of_tables tables) _
    by_cases accepts : u.acceptsNow n k
    · obtain ⟨walks, only⟩ := accepting accepts
      obtain ⟨due, new⟩ := accepts
      have fresh : (s.line n).accepted ≠ some k := new
      let p : LineRec := { (s.line n).sampled m k (s.lineCfg n).debounce with accepted := some k }
      have record : t.line n = p.walked (if s.supply = .high then .paused 0 else .running (t.now : Int)) k := by
        rw [← start]; exact (lines n).trans walks.own
      have keeps := p.walked_eq (if s.supply = .high then .paused 0 else .running (t.now : Int)) k
      have before : p = { s.line n with
        measured := some m, usable := if k.isFault then (s.line n).usable else some m, candidate := some k
        count := if (s.line n).candidate = some k then min ((s.line n).count + 1) (s.lineCfg n).debounce else 1
        accepted := some k } := by
        change ({ (s.line n).sampled m k (s.lineCfg n).debounce with accepted := some k } : LineRec) = _
        rw [sampled]
      have status : p.status = (s.line n).status := by rw [before]
      have symptom : p.symptom = (s.line n).symptom := by rw [before]
      have flag : p.flag = (s.line n).flag := by rw [before]
      have count : (t.line n).count = if (s.line n).candidate = some k
          then min ((s.line n).count + 1) (s.lineCfg n).debounce else 1 := by rw [record, keeps, before]
      have accepted : (t.line n).accepted = some k := by rw [record, keeps]
      refine ⟨t, m, k, runs, rfl, rfl, now.trans rfl, ?_, ?_, ?_, count, ?_, ?_, ?_, ?_, fun j other => ?_, ?_, ?_, fun _ => ⟨?_, ?_, ?_, fun idle => ⟨?_, ?_⟩⟩, fun same => ?_, ?_⟩
      · rw [record, keeps, before]
      · rw [record, keeps, before]
      · rw [record, keeps, before]
      · rw [accepted, count]
        exact (if_pos due).symm
      · rw [record, keeps, before]
      · have walked := LineRec.walked_status (if s.supply = .high then .paused 0 else .running (t.now : Int)) k p
        rw [status] at walked
        rw [accepted, if_neg (Ne.symm fresh), record]
        exact walked
      · have moved : (t.line n).accepted ≠ (s.line n).accepted := by rw [accepted]; exact Ne.symm fresh
        have timer : (t.line n).timer = if (t.line n).status = (s.line n).status then
            (if (s.line n).status = .confirmed ∧ (s.line n).symptom ≠ (t.line n).symptom then .stopped else (s.line n).timer)
            else match (t.line n).status with
              | .pending | .healing => (if s.supply = .high then .paused 0 else .running (t.now : Int))
              | _ => .stopped := by
          rw [record]
          refine (LineRec.walked_timer _ k p).trans ?_
          rw [before]
        rw [timer]
        refine if_congr Iff.rfl (if_congr ⟨fun h => ⟨moved, h⟩, fun h => h.2⟩ rfl rfl) rfl
      · rw [lines, walks.others j other]
        rfl
      · exact summary.1
      · exact summary.2
      · have walked := LineRec.walked_symptom (if s.supply = .high then .paused 0 else .running (t.now : Int)) k p
        rw [status, symptom] at walked
        rw [record]
        exact walked
      · have walked := LineRec.walked_flag (if s.supply = .high then .paused 0 else .running (t.now : Int)) k p
        rw [status, symptom, flag] at walked
        rw [record]
        exact walked
      · exact causes.trans walks.attention
      · rw [stands idle, walks.fmy, State.walkReports_congr (s := s) (u := u) k rfl rfl reached.reportsAlike]
        unfold State.walkReports State.clearFormer
        cases (s.line n).status <;> cases k.symptom <;> rfl
      · rw [stands idle]
        exact reached.andThen only
      · exact absurd (accepted.symm.trans same).symm fresh
      · exact (reached.andThen only (n := [.now, .sched, .hlm, .fmy, .cursor, .attention])).andThen handed
    · have goes : v = u.modLine n (LineRec.sampled m k (s.lineCfg n).debounce) := staying accepts
      have kept : v.line n = (s.line n).sampled m k (s.lineCfg n).debounce := by
        rw [goes]; exact u.modLine_same n _
      have same : t = v := by
        refine if_pos ?_
        rw [State.logical, kept, sampled]
        rfl
      have only : OnlyChanges [.now, .sched, .hlm] s v := by
        rw [goes]; exact reached.andThen (u.modLine_only n _)
      have record : t.line n = { s.line n with
        measured := some m, usable := if k.isFault then (s.line n).usable else some m, candidate := some k
        count := if (s.line n).candidate = some k then min ((s.line n).count + 1) (s.lineCfg n).debounce else 1 } := by
        rw [lines, kept, sampled]
      have accepted : (t.line n).accepted = (s.line n).accepted := by rw [record]
      refine ⟨t, m, k, runs, rfl, rfl, now.trans rfl, by rw [record], by rw [record], by rw [record], by rw [record], ?_,
        by rw [record], ?_, ?_, fun j other => ?_, summary.1, summary.2, fun moved => absurd accepted moved,
        fun _ => ⟨by rw [record], by rw [record], by rw [same]; exact only⟩, by rw [same]; exact only.mono⟩
      · rw [accepted]
        split
        case isTrue due =>
          rw [record] at due
          by_contra other
          exact accepts ⟨due, other⟩
        case isFalse => rfl
      · rw [if_pos accepted, record]
      · have status : (t.line n).status = (s.line n).status := by rw [record]
        rw [if_pos status, if_neg fun moved => moved.1 accepted, record]
      · rw [lines, goes]
        exact u.modLine_other n j _ other.symm
  · let u := s.atLineSample n
    have reached : OnlyChanges [.now, .sched] s u := (Advances.atMoment (l := [.sched]) s _ _).only
    have scanned : s.scanned n = true := by rw [State.scanned, startup]; rfl
    have sample : u.scanSample n mv = u.measureOnly n mv := (if_neg supply).trans (if_pos startup)
    have runs : exec (.lineSample n mv) s = .next (u.measureOnly n mv) := by
      rw [exec_runs _ s rfl live]
      exact congrArg _ ((if_pos scanned).trans sample)
    obtain ⟨r, bound, ratio, own, others⟩ := u.measureOnly_spec n mv
    exact ⟨_, r, runs, bound, ratio, own, others, reached.andThen (u.measureOnly_only n mv)⟩
  · have reached : OnlyChanges [.now, .sched] s (s.atLineSample n) := (Advances.atMoment (l := [.sched]) s _ _).only
    rw [exec_runs _ s rfl live]
    by_cases scanned : s.scanned n = true
    · have stays : (s.atLineSample n).scanSample n mv = s.atLineSample n := if_pos crank
      refine ⟨s.atLineSample n, congrArg _ ?_, reached⟩
      exact (if_pos scanned).trans stays
    · exact ⟨s, congrArg _ (if_neg scanned), .refl _ s⟩
  · have idle : s.scanned n = false := by
      have no : (s.mode == .startup) = false := beq_eq_false_iff_ne.mpr started
      rw [State.scanned, no, Bool.false_or]
      obtain sleep | off := off
      · rw [sleep]; rfl
      · rw [off, Bool.and_false]
    rw [exec_runs _ s rfl live]
    exact congrArg _ (if_neg (by rw [idle]; decide))

end Sys2Proof.Machine
end

section
/-! PROOFS. SLEEP: what its entry leaves, and what a sleep sample does (O9). -/

namespace Sys2Proof.Machine
set_option Elab.async false

/-! ### SLEEP entry (R14) -/

section
variable (s : State)

/-- R206, R207: the needles and the hold where a hold in force ends at SLEEP entry. -/
theorem State.endHoldForSleep_spec : s.endHoldForSleep.lif.hold = false ∧ s.endHoldForSleep.lif.spent = false ∧
    ∀ k, s.endHoldForSleep.needle k =
      { s.needle k with published := if s.lif.hold then (s.needle k).latest else (s.needle k).published } := by
  unfold State.endHoldForSleep
  by_cases held : s.lif.hold = true
  · have ended := s.endHold_endsHold
    rw [if_pos held]
    refine ⟨congrArg Lif.hold ended.lif, rfl, fun k => ?_⟩
    rw [if_pos held]
    exact ended.needle k
  · rw [if_neg held]
    refine ⟨eq_false_of_ne_true held, rfl, fun k => ?_⟩
    rw [if_neg held]
    rfl

/-- R148: no output outside RUN and WORKSHOP. -/
theorem State.refreshOutputs_idle (idle : s.mode.isRunning = false) (d : Fin 4) : (s.refreshOutputs.door d).output = false := by
  have all (l : List (Fin 4)) (u : State) (off : u.mode.isRunning = false) (due : d ∈ l ∨ (u.door d).output = false) :
      ((l.foldl (fun s d => s.refreshOutput d) u).door d).output = false := by
    induction l generalizing u with
    | nil => exact due.resolve_left List.not_mem_nil
    | cons e l ih =>
      refine ih _ off ?_
      by_cases same : e = d
      · subst same
        refine .inr ?_
        rw [State.refreshOutput_door, State.outputDue, off, Bool.and_false]
      · rw [State.refreshOutput_other _ e d same]
        exact due.imp_left fun h => (List.mem_cons.mp h).resolve_left (Ne.symm same)
  exact all _ s idle (.inl (List.mem_finRange d))

theorem State.refreshOutputs_interlock : s.refreshOutputs.dmn.interlock = s.dmn.interlock := by
  have all (l : List (Fin 4)) (u : State) :
      (l.foldl (fun s d => s.refreshOutput d) u).dmn.interlock = u.dmn.interlock := by
    induction l generalizing u with
    | nil => rfl
    | cons d l ih => exact (ih _).trans rfl
  exact all _ s

theorem State.tableChanged_counterDue (n : Fin 48) : (s.tableChanged n).fmy.counterDue = s.fmy.counterDue := by
  change (s.fmy.dirty n).counterDue = _
  unfold Fmy.dirty
  repeat' split
  all_goals rfl

theorem State.reportCleared_counterDue (c : FaultCode) : (s.reportCleared c).fmy.counterDue = s.fmy.counterDue := by
  unfold State.reportCleared State.report State.handleReport State.clearedReport State.changeEntry
  dsimp only
  repeat' split
  case h_2 => exact State.tableChanged_counterDue _ _
  all_goals first | rfl | contradiction

theorem State.forceInterlock_counterDue : s.forceInterlock.fmy.counterDue = s.fmy.counterDue := by
  delta State.forceInterlock
  extract_lets u
  have set : (u.setInterlock .forced .stopped).fmy = u.fmy := (u.setInterlock_only _ _).same .fmy
  rw [set]
  show (if s.dmn.interlock = .overridden then (s.reportCleared .override).attend .door else s).fmy.counterDue = _
  split
  · exact s.reportCleared_counterDue _
  · rfl

theorem State.silenceTimer_stopped {u t : State} (h : t.lif.link = { u.lif.link with silenceTimer := .stopped }) :
    t.lif.hold = u.lif.hold ∧ t.lif.spent = u.lif.spent ∧ t.lif.silenceTimer = .stopped :=
  ⟨(congrArg Lif.hold h :), (congrArg Lif.spent h :), (congrArg Lif.silenceTimer h :)⟩

/-- R14, R81, R151, R207: what SLEEP entry leaves. -/
structure FallsAsleep (s t : State) : Prop where
  mctl : t.mctl = Mctl.toSleep { s.mctl with mode := .sleep, sleepPending := false }
  interlock : t.dmn.interlock = .forced
  output : ∀ d, (t.door d).output = false
  lamp : ∀ n, (t.lamp n).published = .off
  winner : t.pru.winner = none
  due : t.fmy.counterDue = true
  hold : t.lif.hold = false
  spent : t.lif.spent = false
  timer : t.lif.silenceTimer = .stopped
  next : t.sched.sleep = s.now + 50000
  needle : ∀ k, t.needle k = Needle.toSleep
    { s.needle k with published := if s.lif.hold then (s.needle k).latest else (s.needle k).published }
  only : OnlyChanges sleepParts s t

theorem State.enterSleep_spec : FallsAsleep s s.enterSleep := by
  let u := (s.endHoldForSleep.setMode .sleep).modMctl Mctl.toSleep
  let v := u.makeCounterDue.gateFaultTimers.stopComparators.stopGauges
  let w := forNeedles (fun _ n => n.toSleep) v
  let x := w.gateDoorTimers.forceInterlock
  let y := (x.refreshOutputs.mapRetries fun t => t.pause x.refreshOutputs.now).stopSilenceTimer
  let z := y.refreshPru
  have goes : s.enterSleep = z.modSched fun c => { c with sleep := z.now + ms 50 } := rfl
  obtain ⟨hold, spent, needles⟩ := s.endHoldForSleep_spec
  have ended := s.endHoldForSleep_only
  have modes : OnlyChanges [.mctl] s.endHoldForSleep u := (State.setMode_only _ _).andThen (State.modMctl_only _ _)
  have dues : OnlyChanges [.fmy] u u.makeCounterDue := u.makeCounterDue_only
  have stops : OnlyChanges [.hlm, .gve] u.makeCounterDue v :=
    ((forLines_only _ _).andThen (State.stopComparators_only _) (n := [.hlm, .gve])).andThen (State.stopGauges_only _)
  have turns : OnlyChanges [.ndr] v w := forNeedles_only v _
  have forces : OnlyChanges doorParts w x := (w.gateDoorTimers_only).andThen (State.forceInterlock_only _)
  have outputs : OnlyChanges [.dmn] x x.refreshOutputs := x.refreshOutputs_only
  have quiet : OnlyChanges [.pru, .link] x.refreshOutputs y :=
    (State.mapRetries_only _ _).andThen (State.stopSilenceTimer_only _)
  have shown : OnlyChanges [.pru] y z := y.refreshPru_only
  have tail := outputs.andThen (quiet.andThen shown (n := [.pru, .link])) (n := [.dmn, .pru, .link])
  have late : OnlyChanges (.link :: .pru :: doorParts) w z := forces.andThen tail
  have mctl : y.mctl = Mctl.toSleep { s.mctl with mode := .sleep, sleepPending := false } := by
    have before : s.endHoldForSleep.mctl = s.mctl := ended.same .mctl
    have set : u.mctl = Mctl.toSleep { s.mctl with mode := .sleep, sleepPending := false } := by
      change Mctl.toSleep { s.endHoldForSleep.mctl with
        mode := .sleep, sleepPending := s.endHoldForSleep.mctl.sleepPending && false } = _
      rw [Bool.and_false, before]
    exact (quiet.same .mctl).trans ((outputs.same .mctl).trans ((forces.same .mctl).trans ((turns.same .mctl).trans
      ((stops.same .mctl).trans ((dues.same .mctl).trans set)))))
  have asleep : y.mode = .sleep := congrArg Mctl.mode mctl
  have link : y.lif.link = { u.lif.link with silenceTimer := .stopped } := by
    have before : x.refreshOutputs.lif.link = u.lif.link := (outputs.same .link).trans ((forces.same .link).trans
      ((turns.same .link).trans ((stops.same .link).trans (dues.same .link))))
    rw [← before]
    rfl
  have lif : z.lif.link = { u.lif.link with silenceTimer := .stopped } := shown.link_eq.trans link
  have before : u.lif.link = s.endHoldForSleep.lif.link := modes.link_eq
  obtain ⟨held, marked, timer⟩ := State.silenceTimer_stopped lif
  have only := s.enterSleep_only
  rw [goes] at only ⊢
  refine ⟨(shown.same .mctl).trans mctl, ?_, fun d => ?_, fun n => ?_, ?_, ?_, ?_, ?_, timer, ?_,
    fun k => ?_, only⟩
  · have dmn : z.dmn = x.refreshOutputs.dmn := (shown.same .dmn).trans (quiet.same .dmn)
    have kept : x.refreshOutputs.dmn.interlock = x.dmn.interlock := State.refreshOutputs_interlock x
    exact (congrArg Dmn.interlock dmn).trans (kept.trans (State.forceInterlock_interlock _))
  · have idle : x.mode.isRunning = false := by
      have mctl' : x.mctl = y.mctl := ((quiet.same .mctl).trans (outputs.same .mctl)).symm
      have mode : x.mode = .sleep := (congrArg Mctl.mode mctl').trans asleep
      rw [mode]
      rfl
    have door : z.door d = x.refreshOutputs.door d :=
      congrArg (fun m : Dmn => m.doors[d]) ((shown.same .dmn).trans (quiet.same .dmn))
    exact (congrArg Door.output door).trans (x.refreshOutputs_idle idle d)
  · have free : y.lampsFrozen = false := y.lampsFrozen_iff.mpr fun running => by rw [asleep] at running; cases running
    have put := y.refreshPru_published n
    rw [free, if_neg Bool.false_ne_true, y.presentedLevel_dark (.inr (.inr (.inr asleep)))] at put
    exact put
  · have none_ : y.dueWinner = none := y.dueWinner_none.mpr (.inl (y.chimeSilenced_iff.mpr (.inl (by rw [asleep]; rfl))))
    exact (y.refreshPru_winner).trans none_
  · have early : w.gateDoorTimers.fmy = u.makeCounterDue.fmy :=
      ((w.gateDoorTimers_only).same .fmy).trans ((turns.same .fmy).trans (stops.same .fmy))
    exact (congrArg Fmy.counterDue (tail.same .fmy)).trans ((State.forceInterlock_counterDue _).trans
      (congrArg Fmy.counterDue early))
  · exact held.trans ((congrArg Lif.hold before :).trans hold)
  · exact marked.trans ((congrArg Lif.spent before :).trans spent)
  · have now : z.now = s.now := (late.same .now).trans ((turns.same .now).trans ((stops.same .now).trans ((dues.same .now).trans
      ((modes.same .now).trans (ended.same .now)))))
    exact congrArg (· + 50000) now
  · have ndr : z.ndr = w.ndr := late.same .ndr
    have before : v.ndr = s.endHoldForSleep.ndr := (stops.same .ndr).trans ((dues.same .ndr).trans (modes.same .ndr))
    have turned : w.needle k = (v.needle k).toSleep := updAll_get _ _ k
    have stood : v.needle k = s.endHoldForSleep.needle k := congrArg (fun n : Ndr => n.needles[k]) before
    exact (congrArg (fun n : Ndr => n.needles[k]) ndr).trans (turned.trans (by rw [stood, needles k]))

end

/-! ### A line in SLEEP (R38) -/

section
variable (s : State)

/-- R13: outside WORKSHOP a line change does not move the mode. -/
theorem State.handOn_mctl (m : s.mode ≠ .workshop) (n : Fin 32) (x : Logical) : (s.handOn n x).mctl = s.mctl := by
  have role (u : State) (m : u.mode ≠ .workshop) (y : Logical) : (u.roleChange n x y).mctl = u.mctl := by
    let v := u.interlockRoleChange n y
    have first : OnlyChanges doorParts u v := u.interlockRoleChange_only n y
    have mode : v.mode ≠ .workshop := fun e => m ((congrArg Mctl.mode (first.same .mctl)).symm.trans e)
    have stays (w : State) (e : w.mctl = v.mctl) : w.leaveWorkshopIfMoving = w :=
      if_neg fun h => mode ((congrArg Mctl.mode e).symm.trans h.1)
    have button : (v.buttonRoleChange n (x == .inactive && y == .active)).mctl = v.mctl := by
      delta State.buttonRoleChange
      extract_lets c v1 v2
      have h1 : v1.mctl = v.mctl := OnlyChanges.same (l := doorParts) (.ite v.releaseButton_only.mono (.refl _ _)) .mctl
      have h2 : v2.mctl = v1.mctl := by
        have same : (if c.parkingBrake = some n then v1.leaveWorkshopIfMoving else v1) = v1 := by
          rw [stays v1 h1, ite_self]
        exact congrArg State.mctl same
      have h3 : OnlyChanges (.wev :: .pru :: doorParts) v2 (if c.ackButton = some n ∧ (x == .inactive && y == .active) = true
          then v2.ackButton else v2) := .ite v2.ackButton_only.mono (.refl _ _)
      exact (h3.same .mctl).trans (h2.trans h1)
    exact button.trans (first.same .mctl)
  unfold State.handOn
  dsimp only
  split
  · rfl
  · have doors : OnlyChanges doorParts s (s.doorLineChange n (s.logical n)) := s.doorLineChange_only n _
    have mctl : (s.doorLineChange n (s.logical n)).mctl = s.mctl := doors.same .mctl
    exact (role _ (fun e => m ((congrArg Mctl.mode mctl).symm.trans e)) _).trans mctl

/-- From `s` to `t` lines have been sampled, and nothing has moved the mode. -/
structure SamplesLines (s t : State) : Prop where
  only : OnlyChanges (.free :: .hlm :: consumerParts) s t
  mctl : t.mctl = s.mctl

theorem SamplesLines.refl : SamplesLines s s := ⟨.refl _ s, rfl⟩

variable {s} in
theorem SamplesLines.trans {t u : State} (h : SamplesLines s t) (k : SamplesLines t u) : SamplesLines s u :=
  ⟨h.only.trans k.only, k.mctl.trans h.mctl⟩

theorem State.sampleLine_samples (asleep : s.mode = .sleep) (n : Fin 32) (mv : Nat) : SamplesLines s (s.sampleLine n mv) := by
  have taken : (s.classify n mv).mctl = s.mctl := (s.classify_only n mv).same .mctl
  have asleep' : (s.classify n mv).mode ≠ .workshop := by
    rw [State.mode, taken, ← State.mode, asleep]
    decide
  exact ⟨s.sampleLine_only n mv, ((s.classify n mv).handOn_mctl asleep' n _).trans taken⟩

theorem State.sampleLine_line (n j : Fin 32) (mv : Nat) : (s.sampleLine n mv).line j = (s.classify n mv).line j :=
  congrArg (fun h : Hlm => h.lines[j]) ((State.handOn_only _ n _).same .hlm)

/-- A sample changes the record of its own line only. -/
theorem State.sampleLine_other {n j : Fin 32} (other : j ≠ n) (mv : Nat) : (s.sampleLine n mv).line j = s.line j := by
  have record (u : State) (f : LineRec → LineRec) : (u.modLine n f).line j = u.line j := u.modLine_other n j f other.symm
  have accept (u : State) (k : LineClass) : (u.acceptIfDue n k).line j = u.line j := by
    unfold State.acceptIfDue
    split
    · exact ((State.walkStatus_walks _ n k).others j other).trans (record u _)
    · rfl
  have measured : (s.measure mv).1.line j = s.line j :=
    congrArg (fun h : Hlm => h.lines[j]) ((s.measure_only mv).same .hlm)
  rw [s.sampleLine_line]
  exact (accept _ _).trans ((record _ _).trans ((record _ _).trans measured))

end

section
variable {s : State} {n : Fin 32} {mv : Nat} {k : LineClass}

/-- R25, R26: the acceptance of a class gives the line its logical value. -/
theorem State.AcceptsClass.sampled (h : s.AcceptsClass n mv k) :
    (s.sampleLine n mv).logical n = logicalOf (some k) := by
  obtain ⟨⟨-, vb, measured, positive, class_⟩, due, new⟩ := h
  obtain ⟨walks, -⟩ := (s.classify_spec n measured positive rfl class_).1 ⟨due, new⟩
  rw [State.logical, s.sampleLine_line, walks.own, LineRec.walked_eq]

/-- A sample that leaves the logical value reaches no consumer. -/
theorem State.ReadsClass.sampled (h : s.ReadsClass n mv k)
    (stays : s.countWith n k < (s.lineCfg n).debounce ∨ s.logical n = logicalOf (some k)) :
    OnlyChanges lineParts s (s.sampleLine n mv) ∧ (s.sampleLine n mv).logical n = s.logical n := by
  obtain ⟨-, vb, measured, positive, class_⟩ := h
  obtain ⟨accepting, staying⟩ := s.classify_spec n measured positive rfl class_
  have same : (s.classify n mv).logical n = s.logical n := by
    by_cases accepts : s.acceptsNow n k
    · rw [State.logical, (accepting accepts).1.own, LineRec.walked_eq]
      exact (stays.resolve_left fun low => absurd accepts.1 (by omega)).symm
    · rw [State.logical, staying accepts, State.modLine_same, LineRec.sampled_eq]
      rfl
  have taken : s.sampleLine n mv = s.classify n mv := if_pos same
  rw [taken]
  by_cases accepts : s.acceptsNow n k
  · exact ⟨(accepting accepts).2, same⟩
  · rw [staying accepts] at same ⊢
    exact ⟨(s.modLine_only n _).mono, same⟩

end

/-! ### The watched lines of a sleep sample (R38) -/

/-- One line's turn in the sleep sample; the mark says whether a logical value has changed. -/
def State.sleepTurn (mv : Vector Nat 32) (q : State × Bool) (n : Fin 32) : State × Bool :=
  if q.1.watched n && (q.1.lineCfg n).fn.classified then
    (q.1.sampleLine n mv[n], q.2 || (q.1.sampleLine n mv[n]).logical n != q.1.logical n)
  else q

section
variable {mv : Vector Nat 32} {q : State × Bool} {n : Fin 32}

theorem State.sleepTurn_idle (h : n ∉ q.1.tables.doorLines ∨ (q.1.lineCfg n).fn.classified = false) :
    State.sleepTurn mv q n = q := by
  refine if_neg ?_
  obtain h | h := h
  · rw [State.watched, List.contains_eq_mem, decide_eq_false h, Bool.false_and]
    exact Bool.false_ne_true
  · rw [h, Bool.and_false]
    exact Bool.false_ne_true

theorem State.sleepTurn_due (h : n ∈ q.1.tables.doorLines) (classified : (q.1.lineCfg n).fn.classified = true) :
    State.sleepTurn mv q n =
      (q.1.sampleLine n mv[n], q.2 || (q.1.sampleLine n mv[n]).logical n != q.1.logical n) := by
  refine if_pos ?_
  rw [State.watched, List.contains_eq_mem, decide_eq_true h, classified]
  rfl

theorem State.sleepTurn_samples (asleep : q.1.mode = .sleep) : SamplesLines q.1 (State.sleepTurn mv q n).1 ∧
    (q.2 = true → (State.sleepTurn mv q n).2 = true) := by
  unfold State.sleepTurn
  split
  · exact ⟨q.1.sampleLine_samples asleep n _, fun h => by rw [h]; rfl⟩
  · exact ⟨.refl _, id⟩

theorem State.sleepTurns_samples (l : List (Fin 32)) (q : State × Bool) (asleep : q.1.mode = .sleep) :
    SamplesLines q.1 (l.foldl (State.sleepTurn mv) q).1 ∧ (q.2 = true → (l.foldl (State.sleepTurn mv) q).2 = true) := by
  induction l generalizing q with
  | nil => exact ⟨.refl _, id⟩
  | cons n l ih =>
    obtain ⟨first, marks⟩ := State.sleepTurn_samples (mv := mv) (n := n) asleep
    obtain ⟨rest, keeps⟩ := ih (State.sleepTurn mv q n) ((congrArg Mctl.mode first.mctl).trans asleep)
    exact ⟨first.trans rest, fun h => keeps (marks h)⟩

theorem State.sleepTurn_other {j : Fin 32} (other : j ≠ n) : (State.sleepTurn mv q n).1.line j = q.1.line j := by
  unfold State.sleepTurn
  split
  · exact q.1.sampleLine_other other _
  · rfl

theorem State.sleepTurns_other {j : Fin 32} (l : List (Fin 32)) (q : State × Bool) (other : j ∉ l) :
    (l.foldl (State.sleepTurn mv) q).1.line j = q.1.line j := by
  induction l generalizing q with
  | nil => rfl
  | cons n l ih =>
    obtain ⟨first, rest⟩ := not_or.mp (mt List.mem_cons.mpr other)
    exact (ih _ rest).trans (State.sleepTurn_other first)

end

theorem State.AcceptsClass.of_same {s t : State} {n : Fin 32} {mv : Nat} {k : LineClass} (h : s.AcceptsClass n mv k)
    (tables : t.tables = s.tables) (mctl : t.mctl = s.mctl) (line : t.line n = s.line n) : t.AcceptsClass n mv k := by
  unfold State.AcceptsClass State.ReadsClass State.countWith State.lineCfg at h ⊢
  rw [tables, mctl, line]
  exact h

/-- R15, R38: a watched line that changes its logical value is noted, and keeps that value. -/
theorem State.sleepTurns_changed {mv : Vector Nat 32} {n : Fin 32} {k : LineClass} (l : List (Fin 32)) (once : l.Nodup)
    (q : State × Bool) (member : n ∈ l) (asleep : q.1.mode = .sleep) (watched : n ∈ q.1.tables.doorLines)
    (accepts : q.1.AcceptsClass n mv[n] k) (changes : q.1.logical n ≠ logicalOf (some k)) :
    (l.foldl (State.sleepTurn mv) q).2 = true ∧ (l.foldl (State.sleepTurn mv) q).1.logical n = logicalOf (some k) := by
  induction l generalizing q with
  | nil => exact absurd member List.not_mem_nil
  | cons j l ih =>
    obtain ⟨fresh, once⟩ := List.nodup_cons.mp once
    obtain ⟨first, -⟩ := State.sleepTurn_samples (mv := mv) (n := j) asleep
    have asleep' : (State.sleepTurn mv q j).1.mode = .sleep := (congrArg Mctl.mode first.mctl).trans asleep
    by_cases own : n = j
    · subst own
      have turn := State.sleepTurn_due (mv := mv) watched accepts.1.1
      have value : (State.sleepTurn mv q n).1.logical n = logicalOf (some k) := by rw [turn]; exact accepts.sampled
      have noted : (State.sleepTurn mv q n).2 = true := by
        have moved : ((q.1.sampleLine n mv[n]).logical n != q.1.logical n) = true := by
          rw [accepts.sampled]
          exact bne_iff_ne.mpr (Ne.symm changes)
        rw [turn]
        exact Bool.or_eq_true_iff.mpr (.inr moved)
      refine ⟨(State.sleepTurns_samples l _ asleep').2 noted, ?_⟩
      rw [← value]
      exact congrArg (fun r : LineRec => logicalOf r.accepted) (State.sleepTurns_other l _ fresh)
    · have line : (State.sleepTurn mv q j).1.line n = q.1.line n := State.sleepTurn_other own
      have tables : (State.sleepTurn mv q j).1.tables = q.1.tables := first.only.same .tables
      refine ih once _ ((List.mem_cons.mp member).resolve_left own) asleep' (by rw [tables]; exact watched)
        (accepts.of_same tables first.mctl line) ?_
      rw [State.logical, line]
      exact changes

/-- What a sample of a watched line finds where it leaves the logical value (R38). -/
def State.StaysAsleep (s : State) (mv : Vector Nat 32) (n : Fin 32) : Prop :=
  n ∈ s.tables.doorLines → (s.lineCfg n).fn.classified = true → ∃ k, s.ReadsClass n mv[n] k ∧
    (s.countWith n k < (s.lineCfg n).debounce ∨ s.logical n = logicalOf (some k))

theorem State.StaysAsleep.of_same {s t : State} {mv : Vector Nat 32} {n : Fin 32} (h : s.StaysAsleep mv n)
    (tables : t.tables = s.tables) (mctl : t.mctl = s.mctl) (line : t.line n = s.line n) : t.StaysAsleep mv n := by
  unfold State.StaysAsleep State.ReadsClass State.countWith State.logical State.lineCfg at h ⊢
  rw [tables, mctl, line]
  exact h

/-- R38: a sleep sample in which every watched line keeps its logical value. -/
structure Slumbers (q r : State × Bool) : Prop where
  mark : r.2 = q.2
  logical : ∀ n, r.1.logical n = q.1.logical n
  unwatched : ∀ n, n ∉ q.1.tables.doorLines → r.1.line n = q.1.line n
  only : OnlyChanges lineParts q.1 r.1

theorem State.sleepTurn_slumbers {mv : Vector Nat 32} {n : Fin 32} {q : State × Bool} (stays : q.1.StaysAsleep mv n) :
    Slumbers q (State.sleepTurn mv q n) := by
  have idle (h : n ∉ q.1.tables.doorLines ∨ (q.1.lineCfg n).fn.classified = false) : Slumbers q (State.sleepTurn mv q n) := by
    rw [State.sleepTurn_idle h]
    exact ⟨rfl, fun _ => rfl, fun _ _ => rfl, .refl _ _⟩
  by_cases watched : n ∈ q.1.tables.doorLines
  case neg => exact idle (.inl watched)
  cases classified : (q.1.lineCfg n).fn.classified
  case false => exact idle (.inr classified)
  obtain ⟨k, reads, keeps⟩ := stays watched classified
  obtain ⟨only, same⟩ := reads.sampled keeps
  rw [State.sleepTurn_due watched classified]
  refine ⟨?_, fun j => ?_, fun j other => q.1.sampleLine_other (fun e => other (by rw [e]; exact watched)) _, only⟩
  · rw [same, bne_self_eq_false, Bool.or_false]
  · by_cases own : j = n
    · rw [own]; exact same
    · exact congrArg (fun r : LineRec => logicalOf r.accepted) (q.1.sampleLine_other own _)

theorem State.sleepTurns_slumber {mv : Vector Nat 32} (l : List (Fin 32)) (once : l.Nodup) (q : State × Bool)
    (stays : ∀ n ∈ l, q.1.StaysAsleep mv n) : Slumbers q (l.foldl (State.sleepTurn mv) q) := by
  induction l generalizing q with
  | nil => exact ⟨rfl, fun _ => rfl, fun _ _ => rfl, .refl _ _⟩
  | cons j l ih =>
    obtain ⟨fresh, once⟩ := List.nodup_cons.mp once
    have first := State.sleepTurn_slumbers (stays j List.mem_cons_self)
    have tables : (State.sleepTurn mv q j).1.tables = q.1.tables := first.only.same .tables
    have rest := ih once (State.sleepTurn mv q j) fun n member =>
      (stays n (List.mem_cons_of_mem _ member)).of_same tables (first.only.same .mctl)
        (State.sleepTurn_other fun e => fresh (e ▸ member))
    exact ⟨rest.mark.trans first.mark, fun n => (rest.logical n).trans (first.logical n),
      fun n other => (rest.unwatched n (by rw [tables]; exact other)).trans (first.unwatched n other), first.only.trans rest.only⟩

/-! ### The wake by a sleep sample (R15) -/

section
variable (s : State)

theorem State.wakeLines_logical : KeepsLogical s s.wakeLines := by
  have scanned : KeepsLogical s (forLines (fun n r => if s.watched n then r else r.restartDebounce) s) :=
    .forLines s _ fun n r => by split <;> rfl
  have gated (u : State) : KeepsLogical u u.gateFaultTimers := .forLines u _ fun _ _ => rfl
  have started (u : State) : KeepsLogical u u.startComparators := .forLines u _ fun _ r => by split <;> rfl
  exact scanned.trans ((gated _).trans (started _))

theorem State.wake_logical : KeepsLogical s s.wake := by
  have standby : KeepsLogical s s.inStandby := s.inStandby_only.keepsLogical
  have after : OnlyChanges [.gve, .dmn, .pru] s.inStandby.wakeLines s.awakened :=
    (((State.wakeGauges_only _).andThen (State.gateDoorTimers_only _) (n := [.gve, .dmn])).andThen
      (State.mapRetries_only _ _) (n := [.gve, .dmn, .pru])).andThen (State.restartPhase_only _)
  exact standby.trans ((State.wakeLines_logical _).trans (after.keepsLogical.trans s.wake_after.keepsLogical))

/-- The moment of a sleep sample, with the next one 50 ms later (R14). -/
def State.atSleepSample : State :=
  { s with now := max s.now s.sched.sleep }.modSched fun c => { c with sleep := max s.now s.sched.sleep + ms 50 }

theorem State.atSleepSample_only : OnlyChanges [.now, .sched] s s.atSleepSample :=
  (Advances.atMoment (l := [.sched]) s _ _).only

/-- The watched lines of a sleep sample, with the mark that a logical value has changed. -/
def State.sleepScan (mv : Vector Nat 32) : State × Bool :=
  (List.finRange 32).foldl (State.sleepTurn mv) (s.atSleepSample, false)

theorem State.sleepLines_eq (mv : Vector Nat 32) : s.atSleepSample.sleepLines mv = s.sleepScan mv :=
  List.foldl_ext _ _ _ fun q n _ => by obtain ⟨u, b⟩ := q; rfl

theorem State.sleepSample_eq (ign : Bool) (mv : Vector Nat 32) : s.sleepSample ign mv =
    if (ign || (s.sleepScan mv).2) = true
    then ((s.sleepScan mv).1.modMctl (Mctl.ignSample ign (s.sleepScan mv).1.now)).wake
    else (s.sleepScan mv).1.modMctl (Mctl.ignSample ign (s.sleepScan mv).1.now) := by
  delta State.sleepSample
  extract_lets t s1
  have lines : s1.sleepLines mv = s.sleepScan mv := s.sleepLines_eq mv
  rw [lines]

theorem Mctl.ignSample_eq (active : Bool) (now : Nat) (c : Mctl) :
    c.ignSample active now = { c with ignTimer := (c.ignSample active now).ignTimer } := by
  unfold Mctl.ignSample
  dsimp only
  repeat' split
  all_goals rfl

variable {s} in
theorem State.sleepScan_samples (asleep : s.mode = .sleep) (mv : Vector Nat 32) : SamplesLines s.atSleepSample (s.sleepScan mv).1 :=
  (State.sleepTurns_samples (List.finRange 32) (s.atSleepSample, false) asleep).1

end

section
variable {s : State}

/-- R15: what the wake by a sleep sample leaves. -/
theorem State.sleepSample_wakes (asleep : s.mode = .sleep) {ign : Bool} {mv : Vector Nat 32}
    (wakes : (ign || (s.sleepScan mv).2) = true) : (s.sleepSample ign mv).mode = .standby ∧
    (s.sleepSample ign mv).now = max s.now s.sched.sleep ∧
    (s.sleepSample ign mv).sched.vb = (s.sleepSample ign mv).now + 2000 ∧
    (∀ n, (s.sleepSample ign mv).logical n = (s.sleepScan mv).1.logical n) ∧
    (s.sleepSample ign mv).lif.attention.mode = true ∧ (s.sleepSample ign mv).mctl.ign = s.mctl.ign ∧
    (s.sleepSample ign mv).dmn.interlock ≠ .forced := by
  rw [s.sleepSample_eq, if_pos wakes]
  have lines := State.sleepScan_samples asleep mv
  generalize s.sleepScan mv = q at lines
  let u := q.1.modMctl (Mctl.ignSample ign q.1.now)
  have now : u.now = max s.now s.sched.sleep := lines.only.same .now
  have same : q.1.mctl = s.mctl := lines.mctl.trans rfl
  have ign' : u.mctl.ign = s.mctl.ign := by
    change (Mctl.ignSample ign q.1.now q.1.mctl).ign = _
    rw [Mctl.ignSample_eq]
    exact (congrArg (fun c : Mctl => c.ign) same :)
  have after : u.wake.now = u.now := u.wake_parts.same .now
  refine ⟨congrArg Mctl.mode u.wake_mctl, after.trans now, ?_, fun n => ?_, u.wake_attends, ?_, u.wake_interlock⟩
  · exact u.wake_vb.trans (congrArg (· + 2000) after.symm)
  · exact (u.wake_logical n).trans rfl
  · exact (congrArg Mctl.ign u.wake_mctl).trans ign'

/-- R14, R38: what a sleep sample leaves that changes no watched logical value. -/
theorem State.sleepSample_slumbers {mv : Vector Nat 32} (still : Slumbers (s.atSleepSample, false) (s.sleepScan mv)) :
    (s.sleepSample false mv).mctl = { s.mctl with ignTimer := (s.sleepSample false mv).mctl.ignTimer } ∧
    (s.sleepSample false mv).now = max s.now s.sched.sleep ∧
    (s.sleepSample false mv).sched.sleep = max s.now s.sched.sleep + 50000 ∧
    (∀ n, (s.sleepSample false mv).logical n = s.logical n) ∧
    (∀ n, n ∉ s.tables.doorLines → (s.sleepSample false mv).line n = s.line n) ∧
    OnlyChanges [.mctl] (s.sleepScan mv).1 (s.sleepSample false mv) := by
  have quiet : (false || (s.sleepScan mv).2) = false := by rw [Bool.false_or]; exact still.mark
  rw [s.sleepSample_eq, if_neg (by rw [quiet]; exact Bool.false_ne_true)]
  generalize s.sleepScan mv = q at still
  have same : q.1.mctl = s.mctl := (still.only.same .mctl).trans rfl
  refine ⟨?_, (still.only.same .now).trans rfl, ?_, fun n => (still.logical n).trans rfl,
    fun n other => (still.unwatched n other).trans rfl, State.modMctl_only _ _⟩
  · rw [← same]
    exact Mctl.ignSample_eq false q.1.now q.1.mctl
  · exact (congrArg Sched.sleep (still.only.same .sched)).trans rfl

end

/-- Settles O9, by what SLEEP entry leaves (`State.enterSleep_spec`) and what a sleep sample does with and without a
changed logical value. -/
theorem sleepIsEnteredAndLeft : Obligations.SleepIsEnteredAndLeft := by
  refine ⟨fun s live pending standby tx queue supply => ?_, fun s mv live asleep => ?_, fun s mv live asleep bare => ?_,
    fun s mv ign n k live asleep watched accepts changes => ?_, fun s mv live asleep stays => ?_⟩
  · have may : s.mayEnterSleep = true := by
      unfold State.mayEnterSleep
      rw [pending, standby, tx, queue]
      obtain supply | supply := supply <;> rw [supply] <;> rfl
    have runs : exec .sleepEntry s = .next s.enterSleep := by
      rw [exec_runs _ s rfl live]
      exact congrArg _ (if_pos may)
    have falls := s.enterSleep_spec
    have mode : s.enterSleep.mode = .sleep := congrArg Mctl.mode falls.mctl
    refine ⟨_, runs, mode, congrArg Mctl.sleepPending falls.mctl, falls.interlock, ?_, falls.output, fun n => ⟨falls.lamp n, ?_⟩,
      falls.winner, falls.due, falls.hold, falls.spent, falls.timer, congrArg Mctl.lowReport falls.mctl,
      congrArg Mctl.highReport falls.mctl, congrArg Mctl.highTimer falls.mctl, congrArg Mctl.recoveryTimer falls.mctl,
      falls.next, fun k => ⟨?_, ?_, ?_⟩, falls.only⟩
    · rw [State.ilk, falls.interlock]
      rfl
    · rw [State.driverOn, Lamp.driverOn, falls.lamp n]
      rfl
    · rw [State.driveEnergised, mode]
      rfl
    · rw [falls.needle k]
      unfold Needle.toSleep
      dsimp only
      split <;> rfl
    · rw [falls.needle k]
      generalize s.needle k = n
      obtain ⟨st, _⟩ := n
      cases st <;> rfl
  · obtain ⟨mode, now, vb, -, attends, ign, interlock⟩ := State.sleepSample_wakes asleep (ign := true) (mv := mv) rfl
    exact ⟨_, (exec_runs _ s rfl live).trans (congrArg _ (if_pos asleep)), mode, now, vb, attends, ign, interlock⟩
  · have idle (l : List (Fin 32)) : l.foldl (State.sleepTurn mv) (s.atSleepSample, false) = (s.atSleepSample, false) := by
      induction l with
      | nil => rfl
      | cons n l ih =>
        have turn : State.sleepTurn mv (s.atSleepSample, false) n = (s.atSleepSample, false) :=
          State.sleepTurn_idle (.inl (by
            rw [show s.atSleepSample.tables.doorLines = [] from bare]
            exact List.not_mem_nil))
        rw [List.foldl_cons, turn, ih]
    have scan : s.sleepScan mv = (s.atSleepSample, false) := idle _
    have still : Slumbers (s.atSleepSample, false) (s.sleepScan mv) := by
      rw [scan]
      exact ⟨rfl, fun _ => rfl, fun _ _ => rfl, .refl _ _⟩
    obtain ⟨mctl, now, next, -, -, only⟩ := State.sleepSample_slumbers still
    rw [scan] at only
    exact ⟨_, (exec_runs _ s rfl live).trans (congrArg _ (if_pos asleep)), (congrArg Mctl.mode mctl).trans asleep, now,
      next.trans (congrArg (· + 50000) now.symm), s.atSleepSample_only.andThen only⟩
  · have start : SamplesLines s.atSleepSample s.atSleepSample := .refl _
    have found := State.sleepTurns_changed (List.finRange 32) (List.nodup_finRange 32) (s.atSleepSample, false)
      (List.mem_finRange n) asleep watched (accepts.of_same rfl rfl rfl) changes
    obtain ⟨mode, now, vb, logical, attends, ign', interlock⟩ :=
      State.sleepSample_wakes asleep (ign := ign) (mv := mv) (Bool.or_eq_true_iff.mpr (.inr found.1))
    exact ⟨_, (exec_runs _ s rfl live).trans (congrArg _ (if_pos asleep)), mode, now, vb, (logical n).trans found.2, attends,
      ign', interlock⟩
  · have still : Slumbers (s.atSleepSample, false) (s.sleepScan mv) :=
      State.sleepTurns_slumber _ (List.nodup_finRange 32) (s.atSleepSample, false) fun n _ watched classified =>
        stays n watched classified
    obtain ⟨mctl, now, next, logical, unwatched, only⟩ := State.sleepSample_slumbers still
    exact ⟨_, (exec_runs _ s rfl live).trans (congrArg _ (if_pos asleep)), (congrArg Mctl.mode mctl).trans asleep, now,
      next.trans (congrArg (· + 50000) now.symm), logical, unwatched, mctl,
      (s.atSleepSample_only.andThen still.only (n := [.now, .sched, .hlm, .fmy, .cursor, .attention])).andThen only⟩

end Sys2Proof.Machine
end

section
/-! PROOFS. Ignition-on and ignition-off (R10, R11): what they leave of the modes, rules, needles, doors and faults (O8). -/

namespace Sys2Proof.Machine
set_option Elab.async false

/-! ### The aging of the faults (R161) -/

section
variable (s : State) (pick : FaultEntry → Bool) (f : FaultEntry → FaultEntry)

/-- The turn of one position in a change of the picked entries. -/
def State.changeAt (u : State) (i : Nat) : State :=
  if (u.fmy.table[i]?.map pick).getD false then u.changeEntry i f else u

theorem State.changeAt_table {u : State} {k : Nat} {e : FaultEntry} (here : u.fmy.table[k]? = some e) :
    (u.changeAt pick f k).fmy.table = u.fmy.table.set k (changed pick f e) := by
  unfold State.changeAt changed
  rw [here, Option.map_some, Option.getD_some]
  split
  · exact State.changeEntry_table_set here f
  · obtain ⟨inside, same⟩ := List.getElem?_eq_some_iff.mp here
    rw [← same, List.set_getElem_self]

theorem State.changeEntries_table : (s.changeEntries pick f).fmy.table = s.fmy.table.map (changed pick f) := by
  have prefixes (k : Nat) (bound : k ≤ s.fmy.table.length) : ((List.range k).foldl (State.changeAt pick f) s).fmy.table =
      (s.fmy.table.take k).map (changed pick f) ++ s.fmy.table.drop k := by
    induction k with
    | zero => rfl
    | succ k ih =>
      have table := ih (by omega)
      rw [List.range_succ, List.foldl_append, List.foldl_cons, List.foldl_nil]
      generalize (List.range k).foldl (State.changeAt pick f) s = u at table
      have length : ((s.fmy.table.take k).map (changed pick f)).length = k := by simp; omega
      have here : u.fmy.table[k]? = some s.fmy.table[k] := by
        rw [table, List.getElem?_append_right length.le, length, Nat.sub_self, List.getElem?_drop]
        exact List.getElem?_eq_getElem bound
      rw [State.changeAt_table pick f here, table, List.drop_eq_getElem_cons bound, List.set_append_right _ _ length.le, length,
        Nat.sub_self, List.set_cons_zero, List.take_succ_eq_append_getElem bound, List.map_append, List.append_assoc]
      rfl
  have whole := prefixes s.fmy.table.length le_rfl
  rw [List.take_length, List.drop_length, List.append_nil] at whole
  exact whole

/-- R165: a change of entries frees no slot of its write, and it leaves the former codes. -/
theorem State.changeEntries_keeps : (∀ n, s.fmy.Covers n → (s.changeEntries pick f).fmy.Covers n) ∧
    (s.changeEntries pick f).fmy.formers = s.fmy.formers := by
  have one (u : State) (i : Nat) : (∀ n, u.fmy.Covers n → (u.changeEntry i f).fmy.Covers n) ∧
      (u.changeEntry i f).fmy.formers = u.fmy.formers := by
    refine ⟨fun n covered => ?_, u.changeEntry_formers i f⟩
    unfold State.changeEntry
    split
    case h_1 => exact covered
    case h_2 e found =>
      rw [State.tableChanged_fmy, State.modFmy_fmy]
      refine Fmy.Covers.dirty ?_ e.slot
      exact covered
  have all (l : List Nat) (u : State) : (∀ n, u.fmy.Covers n → (l.foldl (State.changeAt pick f) u).fmy.Covers n) ∧
      (l.foldl (State.changeAt pick f) u).fmy.formers = u.fmy.formers := by
    induction l generalizing u with
    | nil => exact ⟨fun _ h => h, rfl⟩
    | cons i l ih =>
      obtain ⟨covers, formers⟩ := ih (u.changeAt pick f i)
      unfold State.changeAt at covers formers ⊢
      by_cases here : (u.fmy.table[i]?.map pick).getD false = true
      · rw [if_pos here] at covers formers
        rw [List.foldl_cons, if_pos here]
        exact ⟨fun n h => covers n ((one u i).1 n h), formers.trans (one u i).2⟩
      · rw [if_neg here] at covers formers
        rw [List.foldl_cons, if_neg here]
        exact ⟨covers, formers⟩
  exact all _ s

end

/-- R161: what the aging at an ignition-off leaves of the fault memory. -/
structure AgesFaults (s t : State) : Prop where
  due : t.fmy.counterDue = true
  table : t.fmy.table = ((s.fmy.table.map fun e =>
      if e.active then e else { e with aging := e.aging + 1 }).filter fun e =>
        e.active || decide (e.aging < s.tables.general.agingLimit)).map (fun e =>
      if e.active && e.code.isSlotLost then { e with active := false, aging := 0 } else e)
  removed : ∀ e ∈ s.fmy.table, e.active = false → s.tables.general.agingLimit ≤ e.aging + 1 →
    t.fmy.Covers e.slot ∧ ((s.fmy.table.map (·.slot)).Nodup → t.fmy.formers[e.slot] = some e.code)

theorem State.ageFaults_spec (s : State) : AgesFaults s s.ageFaults := by
  let older (e : FaultEntry) : FaultEntry := { e with aging := e.aging + 1 }
  let ended (e : FaultEntry) : FaultEntry := { e with active := false, aging := 0 }
  let gone (e : FaultEntry) : Bool := !e.active && s.tables.general.agingLimit ≤ e.aging
  let u := s.changeEntries (!·.active) older
  let v := u.removeEntries gone
  let w := v.changeEntries (fun e => e.active && e.code.isSlotLost) ended
  have goes : s.ageFaults = w.makeCounterDue := rfl
  have aged : u.fmy.table = s.fmy.table.map (changed (!·.active) older) := s.changeEntries_table _ _
  have run : Removal gone [] u.fmy.table u v := u.removeEntries_removal
  have settles : w.fmy.table = v.fmy.table.map (changed (fun e => e.active && e.code.isSlotLost) ended) :=
    v.changeEntries_table _ _
  obtain ⟨covers, formers⟩ := v.changeEntries_keeps (fun e => e.active && e.code.isSlotLost) ended
  have slots : u.fmy.table.map (·.slot) = s.fmy.table.map (·.slot) := by
    rw [aged, List.map_map]
    refine List.map_congr_left fun e _ => ?_
    rw [Function.comp_apply, changed]
    split <;> rfl
  rw [goes]
  refine ⟨rfl, ?_, fun e member idle limit => ?_⟩
  · have first : s.fmy.table.map (changed (!·.active) older) =
        s.fmy.table.map fun e => if e.active then e else { e with aging := e.aging + 1 } :=
      List.map_congr_left fun e _ => by
        obtain ⟨_, _, active⟩ := e
        cases active <;> rfl
    have stays : (fun e => !gone e) = fun e : FaultEntry => e.active || decide (e.aging < s.tables.general.agingLimit) :=
      funext fun e => by
        simp only [gone, Bool.not_and, Bool.not_not, ← decide_not, not_le]
    have left : v.fmy.table = u.fmy.table.filter fun e => !gone e := run.table_eq.trans (List.nil_append _)
    rw [stays, aged, first] at left
    exact settles.trans (congrArg _ left)
  · have old : changed (!·.active) older e = older e := if_pos (by change (!e.active) = true; rw [idle]; rfl)
    have there : older e ∈ u.fmy.table := by
      rw [aged, ← old]
      exact List.mem_map_of_mem member
    have picked : gone (older e) = true := by
      simp only [gone, older, idle, Bool.not_false, Bool.true_and]
      exact decide_eq_true limit
    exact ⟨covers e.slot (run.covers (older e) there picked), fun once => (congrArg (fun x => x[e.slot]) formers).trans
      (run.formers_eq (by rw [slots]; exact once) (older e) there picked)⟩

/-! ### Ignition-on (R11) -/

section
variable (n : Needle) (c : ChannelCfg)

theorem Needle.enterRun_homes (homes : n.st = .homingWaiting ∨ (c.homing = true ∧ n.effective ≠ .homingDriving)) :
    n.enterRun c = n.homesOver c.pmax := by
  by_cases parked : n.effective = .parked
  · have tracks : (n.become .tracking).effective = .tracking := n.become_effective (by decide)
    have turns : n.enterRun c = (n.become .tracking).beginHoming c.pmax := by
      unfold Needle.enterRun
      rw [if_pos parked]
      refine if_pos (.inr ⟨?_, by rw [tracks]; decide⟩)
      refine homes.elim (fun waits => ?_) And.left
      rw [Needle.effective, waits] at parked
      exact nomatch parked
    rw [turns]
    unfold Needle.beginHoming Needle.become Needle.homesOver
    by_cases suspended : n.st = .suspended <;> simp [suspended]
  · have turns : n.enterRun c = n.beginHoming c.pmax := by
      unfold Needle.enterRun
      rw [if_neg parked]
      exact if_pos homes
    rw [turns]
    unfold Needle.beginHoming Needle.become Needle.homesOver
    by_cases suspended : n.st = .suspended <;> simp [suspended]

theorem Needle.enterRun_stays (moves : n.st ≠ .homingWaiting) (stays : c.homing = false ∨ n.effective = .homingDriving) :
    n.enterRun c = if n.effective = .parked then n.become .tracking else n := by
  have idle (n' : Needle) (st : n'.st ≠ .homingWaiting) (none_ : c.homing = false ∨ n'.effective = .homingDriving) :
      (if n'.st = .homingWaiting ∨ (c.homing = true ∧ n'.effective ≠ .homingDriving) then n'.beginHoming c.pmax else n') = n' :=
    if_neg fun h => h.elim st fun homes => none_.elim (fun off => by rw [off] at homes; cases homes.1) homes.2
  unfold Needle.enterRun
  by_cases parked : n.effective = .parked
  · have off : c.homing = false := stays.resolve_right fun e => by rw [parked] at e; cases e
    have tracks : (n.become .tracking).st ≠ .homingWaiting := by
      unfold Needle.become
      split
      case isTrue suspended => exact moves
      case isFalse => exact fun e => nomatch e
    rw [if_pos parked]
    exact idle _ tracks (.inl off)
  · rw [if_neg parked]
    exact idle _ moves stays

end

section
variable (s : State)

theorem State.listChange_check (m : Fin 64) (old : RuleState) : (s.listChange m old).pru.lampCheck = s.pru.lampCheck := by
  have publishes (u : State) : u.publishList.pru.lampCheck = u.pru.lampCheck := by
    unfold State.publishList
    split <;> rfl
  have delists : (s.delist m).pru.lampCheck = s.pru.lampCheck := by
    unfold State.delist
    split
    · dsimp only
      split <;> rfl
    · rfl
  unfold State.listChange
  dsimp only
  repeat' split
  case isTrue.isTrue.isTrue => exact publishes _
  case isTrue.isTrue.isFalse => exact publishes _
  case isTrue.isFalse.isTrue => exact (publishes _).trans delists
  all_goals rfl

theorem State.changeRule_checkAndCounters (m : Fin 64) (f : RuleRec → RuleRec) :
    (s.changeRule m f).pru.lampCheck = s.pru.lampCheck ∧ (s.changeRule m f).fmy.counters = s.fmy.counters := by
  delta State.changeRule
  extract_lets old s1 new s2 s3 s4
  have h1 : OnlyChanges [.wev] s s1 := s.modRule_only m f
  have h2 : OnlyChanges [.attention] s1 s2 := s1.attend_only _
  have h3 : s3.pru.lampCheck = s2.pru.lampCheck ∧ s3.fmy = s2.fmy := by
    change (if new = .activeNew then s2.clearSingleMark m else s2).pru.lampCheck = _ ∧
      (if new = .activeNew then s2.clearSingleMark m else s2).fmy = _
    split <;> exact ⟨rfl, rfl⟩
  have h4 : s4.pru = s3.pru ∧ s4.fmy.counters = s3.fmy.counters := by
    change (if new = .off then s3.settleRule m else s3).pru = _ ∧ (if new = .off then s3.settleRule m else s3).fmy.counters = _
    unfold State.settleRule
    repeat' split
    · exact ⟨((State.reportCleared_only _ _).same .pru).trans rfl, s3.report_counters _ false⟩
    all_goals exact ⟨rfl, rfl⟩
  have pru : s2.pru = s.pru := (h2.same .pru).trans (h1.same .pru)
  have fmy : s2.fmy = s.fmy := (h2.same .fmy).trans (h1.same .fmy)
  split
  · exact ⟨congrArg Pru.lampCheck (h1.same .pru), congrArg Fmy.counters (h1.same .fmy)⟩
  · have shown : OnlyChanges [.pru] s4 (s4.listChange m old).refreshPru := (s4.listChange_only m old).trans (State.refreshPru_only _)
    exact ⟨(State.refreshPru_putsOut _).check.trans ((s4.listChange_check m old).trans ((congrArg Pru.lampCheck h4.1).trans
      (h3.1.trans (congrArg Pru.lampCheck pru)))), (congrArg Fmy.counters (shown.same .fmy)).trans (h4.2.trans
      (congrArg Fmy.counters (h3.2.trans fmy)))⟩

/-- What PRU takes over from a rule's change keeps the lamp check, and no report touches a counter. -/
theorem RuleStable.checkAndCounters (x : Timer) (c : Vector Nat 12) :
    RuleStable fun u => u.pru.lampCheck = x ∧ u.fmy.counters = c where
  quiet _ _ _ _ _ h := h
  counter _ _ h := h
  report u code active h := by
    have pru : (u.report code active).pru = u.pru := (u.report_only code active).same .pru
    exact ⟨(congrArg Pru.lampCheck pru).trans h.1, (u.report_counters code active).trans h.2⟩
  change u m f _ h := ⟨(u.changeRule_checkAndCounters m f).1.trans h.1, (u.changeRule_checkAndCounters m f).2.trans h.2⟩

theorem State.endIgnitionLatches_checkAndCounters : s.endIgnitionLatches.pru.lampCheck = s.pru.lampCheck ∧
    s.endIgnitionLatches.fmy.counters = s.fmy.counters :=
  (RuleStable.checkAndCounters s.pru.lampCheck s.fmy.counters).endIgnitionLatches ⟨rfl, rfl⟩

/-- R10, R11, R103: what an ignition-on leaves, from any mode. -/
structure EntersRun (s t : State) : Prop where
  mctl : t.mctl = { s.mctl with
    mode := .run, sleepPending := false, cycle := true, minute := s.mctl.minute.goOn s.now }
  count : t.counter ignitionPlace = min (s.counter ignitionPlace + 1) counterMax
  rule : ∀ m, t.rule m = if (s.rule m).st = .latchedAck then (s.rule m).ended else s.rule m
  ignition : IgnitionOn s t
  only : OnlyChanges ignitionParts s t

theorem State.enterRun_spec : EntersRun s s.enterRun := by
  let a := (s.setMode .run).bump ignitionPlace
  let b := a.modMctl fun c => { c with cycle := true, minute := c.minute.goOn a.now }
  let c := b.startLampCheck
  obtain ⟨check, counters⟩ := c.endIgnitionLatches_checkAndCounters
  have latches := c.endIgnitionLatches_only
  have rules := c.endIgnitionLatches_rule
  have goes : s.enterRun = c.endIgnitionLatches.runNeedles.publishLamps.refreshChime := rfl
  generalize c.endIgnitionLatches = d at check counters latches rules goes
  let e := d.runNeedles
  have out : PutsOut e s.enterRun := by
    rw [goes]
    exact e.publishLamps_putsOut.trans (State.refreshChime_putsOut _)
  have counted : OnlyChanges [.fmy] (s.setMode .run) a := (s.setMode .run).bump_only _
  have early : OnlyChanges [.mctl, .pru] a c := (a.modMctl_only _).andThen (State.startLampCheck_only _)
  have turns : OnlyChanges [.ndr] d e := d.runNeedles_only
  have mctl : s.enterRun.mctl = b.mctl := (out.only.same .mctl).trans ((turns.same .mctl).trans (latches.same .mctl))
  have now : s.enterRun.now = s.now := s.enterRun_only.same .now
  have tables : s.enterRun.tables = s.tables := s.enterRun_only.same .tables
  have ndr : s.enterRun.ndr = e.ndr := out.only.same .ndr
  have still : d.ndr = s.ndr := (latches.same .ndr).trans rfl
  have needle (k : Fin 6) : s.enterRun.needle k = (s.needle k).enterRun (s.enterRun.channelCfg k) := by
    have turned : e.needle k = (d.needle k).enterRun (d.channelCfg k) := updAll_get _ _ k
    have cfg : d.channelCfg k = s.enterRun.channelCfg k := by
      have same : d.tables = s.tables := (latches.same .tables).trans rfl
      rw [State.channelCfg, State.channelCfg, same, tables]
    have before : d.needle k = s.needle k := congrArg (fun n : Ndr => n.needles[k]) still
    rw [← cfg, ← before]
    exact (congrArg (fun n : Ndr => n.needles[k]) ndr).trans turned
  refine ⟨?_, ?_, fun m => ?_, ⟨fun k homes => ?_, fun k moves stays => ?_, ?_, ?_⟩, s.enterRun_only⟩
  · rw [mctl]
    change ({ s.mctl with mode := .run, sleepPending := s.mctl.sleepPending && false, cycle := true, minute := s.mctl.minute.goOn s.now } : Mctl) = _
    rw [Bool.and_false]
  · have last : s.enterRun.fmy = d.fmy := (out.only.same .fmy).trans (turns.same .fmy)
    have first : c.fmy = a.fmy := early.same .fmy
    have fmy : s.enterRun.fmy.counters = a.fmy.counters := by rw [last, counters, first]
    have counter : s.enterRun.counter ignitionPlace = a.counter ignitionPlace :=
      congrArg (fun v : Vector Nat 12 => v[ignitionPlace]) fmy
    rw [counter, State.bump_counter, if_pos rfl]
    rfl
  · have wev : s.enterRun.wev = d.wev := (out.only.same .wev).trans (turns.same .wev)
    rw [State.rule_eq _ wev m]
    have before : c.wev = s.wev := (early.same .wev).trans (counted.same .wev)
    rw [← State.rule_eq s before m]
    exact rules m
  · rw [needle]
    exact Needle.enterRun_homes _ _ homes
  · rw [needle]
    exact Needle.enterRun_stays _ _ moves stays
  · exact (congrArg Ndr.sweep ndr).trans ((congrArg Ndr.sweep still :))
  · have pru : e.pru = d.pru := turns.same .pru
    rw [out.check, pru, check, tables, now]
    have started : c.pru.lampCheck = if 1 ≤ s.tables.general.lampCheck then Timer.running s.now else .stopped := rfl
    rw [started]
    by_cases zero : s.tables.general.lampCheck = 0
    · rw [if_pos zero, if_neg (by omega)]
    · rw [if_neg zero, if_pos (by omega)]

/-- R10, R11, R147, R161, R184: what an ignition-off leaves. -/
structure LeavesRun (s t : State) : Prop where
  mctl : t.mctl = { s.mctl with mode := .standby, cycle := false, minute := s.mctl.minute.pause s.now }
  ages : AgesFaults s t
  door : ∀ d, (t.door d).grant = false ∧ (t.door d).output = false
  records : s.mode = .workshop → t.wsv.records = 0
  only : OnlyChanges ignitionOffParts s t

theorem AgesFaults.of_fmy {s t u v : State} (h : AgesFaults u v) (before : u.fmy = s.fmy) (tables : u.tables = s.tables)
    (after : t.fmy = v.fmy) : AgesFaults s t := by
  obtain ⟨due, table, removed⟩ := h
  rw [before, tables] at table removed
  rw [← after] at due table removed
  exact ⟨due, table, removed⟩

theorem State.endAllForcing_records : s.endAllForcing.wsv.records = 0 := by
  rw [State.endAllForcing_wsv]
  exact Wsv.records_empty _

theorem State.ignitionOff_spec : LeavesRun s s.ignitionOff := by
  let a := (s.setMode .standby).modMctl fun c => { c with cycle := false, minute := c.minute.pause s.now }
  let b := a.endLampCheck
  have ages : AgesFaults b b.ageFaults := b.ageFaults_spec
  have aged : OnlyChanges faultParts b b.ageFaults := b.ageFaults_only
  have goes : s.ignitionOff = ((b.ageFaults.withdrawAll.refreshOutputs.endForcingOf s.mode).parkNeedles).refreshPru := rfl
  generalize b.ageFaults = c at ages aged goes
  let d := c.withdrawAll.refreshOutputs
  let e := d.endForcingOf s.mode
  have doors : OnlyChanges [.dmn, .attention] c d := (c.withdrawAll_only).andThen (State.refreshOutputs_only _)
  have ended : OnlyChanges forcingParts d e := d.endForcingOf_only _
  have last : OnlyChanges [.ndr, .pru, .attention] e e.parkNeedles.refreshPru := (e.parkNeedles_only).andThen (State.refreshPru_only _)
  have mctl : a.mctl = { s.mctl with mode := .standby, cycle := false, minute := s.mctl.minute.pause s.now } := by
    have pending : (s.setMode .standby).mctl = { s.mctl with mode := .standby } := by
      rw [State.setMode, State.modMctl_mctl]
      simp only [beq_self_eq_true, Bool.and_true]
    exact congrArg (fun c : Mctl => { c with cycle := false, minute := c.minute.pause s.now }) pending
  have only := s.ignitionOff_only
  rw [goes] at only ⊢
  refine ⟨?_, ages.of_fmy rfl rfl ?_, fun k => ?_, fun workshop => ?_, only⟩
  · exact (last.same .mctl).trans ((ended.same .mctl).trans ((doors.same .mctl).trans ((aged.same .mctl).trans mctl)))
  · exact (last.same .fmy).trans ((ended.same .fmy).trans (doors.same .fmy))
  · have dmn : e.parkNeedles.refreshPru.dmn = d.dmn := (last.same .dmn).trans (ended.same .dmn)
    have door : e.parkNeedles.refreshPru.door k = d.door k := congrArg (fun m : Dmn => m.doors[k]) dmn
    obtain ⟨grant, -, output⟩ := c.withdrawAll.refreshOutputs_door k
    have off : (c.withdrawAll.door k).grant = false := by
      rw [State.withdrawAll, State.grantAll_door, if_pos (List.mem_finRange k), State.regranted_grant]
    exact ⟨(congrArg Door.grant door).trans (grant.trans off), (congrArg Door.output door).trans (output off)⟩
  · have all : e = d.endAllForcing := if_pos workshop
    have forcing : e.parkNeedles.refreshPru.wsv.records = e.wsv.records :=
      (congrArg Wsv.records (last.same .forcing) :)
    rw [forcing, all]
    exact d.endAllForcing_records

/-- R10: the mode that an accepted level of IGN leads to. -/
def Mode.afterIgn (m : Mode) (level : Bool) : Mode :=
  match m, level with
  | .standby, true => .run
  | .run, false | .workshop, false => .standby
  | m, _ => m

/-- The state in which an accepted level of IGN is known (R5). -/
def State.ignKnown (level : Bool) : State :=
  s.modMctl fun c => { c with ign := if level then .active else .inactive, ignTimer := none }

theorem State.acceptIgn_on (standby : s.mode = .standby) : s.acceptIgn true = (s.ignKnown true).enterRun.attend .mode := by
  delta State.acceptIgn
  extract_lets u
  have same : u.mode = .standby := standby
  rw [same]
  rfl

theorem State.acceptIgn_off (running : s.mode.isRunning = true) :
    s.acceptIgn false = (s.ignKnown false).ignitionOff.attend .mode := by
  delta State.acceptIgn
  extract_lets u
  have same : u.mode = s.mode := rfl
  rw [same]
  cases e : s.mode <;> rw [e] at running <;> first | exact absurd running Bool.false_ne_true | rfl

theorem State.acceptIgn_stays (level : Bool) (on : level = true → s.mode ≠ .standby)
    (off : level = false → s.mode.isRunning = false) : s.acceptIgn level = (s.ignKnown level).refreshPru := by
  delta State.acceptIgn
  extract_lets u
  have same : u.mode = s.mode := rfl
  rw [same]
  cases e : s.mode <;> cases level <;> rw [e] at on off <;>
    first | exact absurd rfl (on rfl) | exact absurd (off rfl).symm Bool.false_ne_true | rfl

end

end Sys2Proof.Machine
end

section
/-! PROOFS. The supply state: its table, and what a change of it does to marks, timers, needles and doors (O6). -/

namespace Sys2Proof.Machine
set_option Elab.async false

/-! ### Timers and needles (R35, R36, R78, R143) -/

theorem Timer.gated_eq (t : Timer) {stop run : Bool} (h : run = !stop) (now : Nat) :
    (if run then t.resume now else t.pause now) = t.gated stop now := by
  subst h
  cases stop <;> cases t <;> rfl

theorem Needle.suspend_eq (n : Needle) : n.suspend = match n.st with
    | .homingWaiting | .suspended => n
    | x => { n with st := .suspended, resume := some x, speed := 0 } := by
  unfold Needle.suspend
  cases n.st <;> rfl

theorem Needle.wakeUp_eq (n : Needle) : n.wakeUp = if n.st = .suspended then (match n.resume with
      | some x => { n with st := x, resume := none }
      | none => n) else n := by
  unfold Needle.wakeUp
  by_cases suspended : n.st = .suspended
  · rw [if_pos suspended, if_pos suspended]
    obtain ⟨st, _, _, _, _, _, _, resume⟩ := n
    obtain rfl : st = .suspended := suspended
    cases resume <;> rfl
  · rw [if_neg suspended, if_neg suspended]

/-! ### The marks and their reports (R3) -/

section
variable (s : State)

/-- R3: the reports of an entry to NORMAL. -/
def State.supplyCleared : State :=
  [(s.mctl.lowMark, FaultCode.supply .low), (s.mctl.highMark, .supply .high)].foldl
    (fun u q => if q.1 then u.reportCleared q.2 else u) s

theorem State.supplyCleared_only : OnlyChanges faultParts s s.supplyCleared :=
  .trans (t := if s.mctl.lowMark then s.reportCleared (.supply .low) else s)
    (.ite (s.reportCleared_only _) (.refl _ _)) (.ite (State.reportCleared_only _ _) (.refl _ _))

theorem State.clearSupplyMarks_eq :
    s.clearSupplyMarks = s.supplyCleared.modMctl fun c => { c with lowMark := false, highMark := false } := by
  delta State.clearSupplyMarks
  extract_lets u v
  have low : u.mctl = s.mctl := OnlyChanges.same (l := faultParts) (.ite (s.reportCleared_only _) (.refl _ _)) .mctl
  have both : v = s.supplyCleared := by
    change (if u.mctl.highMark then u.reportCleared (.supply .high) else u) = _
    rw [low]
    rfl
  rw [both]

variable {s} in
/-- A CLEARED report reads the fault memory and the tables only. -/
theorem State.supplyCleared_fmy_congr {t : State} (fmy : t.fmy = s.fmy) (tables : t.tables = s.tables)
    (low : t.mctl.lowMark = s.mctl.lowMark) (high : t.mctl.highMark = s.mctl.highMark) :
    t.supplyCleared.fmy = s.supplyCleared.fmy := by
  have one {u v : State} (h : v.fmy = u.fmy ∧ v.tables = u.tables) (b : Bool) (c : FaultCode) :
      (if b then v.reportCleared c else v).fmy = (if b then u.reportCleared c else u).fmy ∧
      (if b then v.reportCleared c else v).tables = (if b then u.reportCleared c else u).tables := by
    cases b
    · exact h
    · exact ⟨State.reportCleared_fmy_congr h.1 h.2 c,
        ((v.reportCleared_only c).same .tables).trans (h.2.trans ((u.reportCleared_only c).same .tables).symm)⟩
  unfold State.supplyCleared
  rw [low, high]
  exact (one (one ⟨fmy, tables⟩ s.mctl.lowMark (.supply .low)) s.mctl.highMark (.supply .high)).1

/-! ### A change of the supply state -/

/-- R3, R4, R5: what a change of the supply state leaves. -/
structure ChangesSupply (new : Supply) (s t : State) : Prop where
  mctl : t.mctl = { s.mctl with
    supply := new
    lowReport := if new = .low then .running s.now else .stopped
    highReport := if new = .high then .running s.now else .stopped
    lowMark := s.mctl.lowMark && new != .normal
    highMark := s.mctl.highMark && new != .normal
    ignTimer := if new = .crank then s.mctl.ignTimer.filter (fun t => t.1) else s.mctl.ignTimer }
  attends : t.lif.attention.supply = true
  change : SupplyChange s t
  only : OnlyChanges supplyParts s t

/-- The change as MCTL takes it, with the reports of R3. -/
def State.supplySet (new : Supply) : State :=
  let u := (s.modMctl (Mctl.enterSupply new s.now)).attend .supply
  if new = .normal then u.clearSupplyMarks else u

theorem State.supplySet_spec (new : Supply) : (s.supplySet new).mctl = { s.mctl with
      supply := new
      lowReport := if new = .low then .running s.now else .stopped
      highReport := if new = .high then .running s.now else .stopped
      lowMark := s.mctl.lowMark && new != .normal
      highMark := s.mctl.highMark && new != .normal } ∧
    (s.supplySet new).fmy = (if new = .normal then s.supplyCleared.fmy else s.fmy) ∧
    (s.supplySet new).lif.attention.has .supply = true ∧
    OnlyChanges [.mctl, .fmy, .cursor, .attention] s (s.supplySet new) := by
  let u := (s.modMctl (Mctl.enterSupply new s.now)).attend .supply
  have entered : OnlyChanges [.mctl, .attention] s u := (s.modMctl_only _).andThen (State.attend_only _ _)
  have attends : u.lif.attention.has .supply = true := Attention.has_raise s.lif.attention .supply
  by_cases normal : new = .normal
  · have goes : s.supplySet new = u.supplyCleared.modMctl fun c => { c with lowMark := false, highMark := false } :=
      (if_pos normal).trans u.clearSupplyMarks_eq
    have cleared : u.supplyCleared.mctl = u.mctl := u.supplyCleared_only.same .mctl
    have raises : Raises [.fault, .lost] u u.supplyCleared :=
      .trans (t := if u.mctl.lowMark then u.reportCleared (.supply .low) else u)
        (.ite (u.reportCleared_raises _) (.refl _ u)) (.ite (State.reportCleared_raises _ _) (.refl _ _))
    rw [goes]
    refine ⟨?_, ?_, raises.keeps .supply attends, (entered.andThen u.supplyCleared_only (n := [.mctl, .fmy, .cursor, .attention])).andThen
      (State.modMctl_only _ _)⟩
    · have marks : (new != .normal) = false := by rw [normal]; rfl
      rw [State.modMctl_mctl, cleared, marks, Bool.and_false, Bool.and_false]
      rfl
    · rw [if_pos normal, State.modMctl_fmy]
      exact State.supplyCleared_fmy_congr rfl rfl rfl rfl
  · have goes : s.supplySet new = u := if_neg normal
    have marks : (new != .normal) = true := bne_iff_ne.mpr normal
    rw [goes, if_neg normal, marks, Bool.and_true, Bool.and_true]
    exact ⟨rfl, rfl, attends, entered.mono⟩

theorem forLines_summary (f : Fin 32 → LineRec → LineRec) : KeepsSummary s (forLines f s) :=
  ⟨by rw [Machine.forLines, State.modHlm_hlm], by rw [Machine.forLines, State.modHlm_hlm]⟩

/-- R35, R36: the fault timers stand where the supply state stops them. -/
theorem State.gateFaultTimers_line {stop : Bool} (run : s.faultTimersRun = !stop) (n : Fin 32) :
    s.gateFaultTimers.line n = { s.line n with timer := (s.line n).timer.gated stop s.now } := by
  rw [← Timer.gated_eq _ run, State.line, State.gateFaultTimers, forLines, State.modHlm_hlm]
  dsimp only
  rw [updAll_get, State.line]

/-- R143: the door timers stand where the supply state stops them. -/
theorem State.gateDoorTimers_door {stop : Bool} (run : s.doorTimersRun = !stop) (d : Fin 4) :
    s.gateDoorTimers.door d = (s.door d).mapTimers fun t => t.gated stop s.now := by
  have same : (fun t : Timer => t.gated stop s.now) = fun t => if s.doorTimersRun then t.resume s.now else t.pause s.now :=
    funext fun t => (Timer.gated_eq t run s.now).symm
  rw [same]
  exact updAll_get s.dmn.doors _ d

theorem State.gateDoorTimers_interlock : s.gateDoorTimers.dmn.interlock = s.dmn.interlock ∧
    s.gateDoorTimers.dmn.delay = s.dmn.delay := ⟨rfl, rfl⟩

/-- The blocks at the end and at the beginning of CRANK (R5, R35, R78). -/
theorem State.crankChange_spec {old new : Supply} (moves : new ≠ old) :
    (s.crankChange old new).mctl = { s.mctl with
      ignTimer := if new = .crank then s.mctl.ignTimer.filter (fun t => t.1) else s.mctl.ignTimer } ∧
    (∀ n, (s.crankChange old new).line n = { s.line n with
      candidate := if old = .crank ∧ (s.lineCfg n).fn.classified = true then none else (s.line n).candidate,
      count := if old = .crank ∧ (s.lineCfg n).fn.classified = true then 0 else (s.line n).count }) ∧
    KeepsSummary s (s.crankChange old new) ∧
    (∀ k, (s.crankChange old new).needle k = if new = .crank then (s.needle k).suspend
      else if old = .crank then (s.needle k).wakeUp else s.needle k) ∧
    (s.crankChange old new).ndr.sweep = s.ndr.sweep := by
  have turned (u : State) (f : Fin 6 → Needle → Needle) (k : Fin 6) : (forNeedles f u).needle k = f k (u.needle k) :=
    updAll_get u.ndr.needles f k
  have still (u : State) (f : Fin 6 → Needle → Needle) : KeepsSummary u (forNeedles f u) := (forNeedles_only u f).keepsSummary
  have swept (u : State) (f : Fin 6 → Needle → Needle) : (forNeedles f u).ndr.sweep = u.ndr.sweep := rfl
  by_cases leaves : old = .crank
  · have stays : new ≠ .crank := fun e => moves (e.trans leaves.symm)
    have goes : s.crankChange old new = forNeedles (fun _ n => n.wakeUp) s.restartDebounces := if_pos leaves
    rw [goes]
    refine ⟨?_, fun n => ?_, (forLines_summary s _).trans (still _ _), fun k => ?_, swept _ _⟩
    · rw [if_neg stays]
      exact ((forNeedles_only _ _).same .mctl).trans (s.restartDebounces_only.same .mctl)
    · have line : (forNeedles (fun _ n => n.wakeUp) s.restartDebounces).line n =
          if (s.lineCfg n).fn.classified then (s.line n).restartDebounce else s.line n := updAll_get _ _ n
      rw [line]
      by_cases classified : (s.lineCfg n).fn.classified = true
      · rw [if_pos classified, if_pos ⟨leaves, classified⟩, if_pos ⟨leaves, classified⟩]; rfl
      · rw [if_neg classified, if_neg fun h => classified h.2, if_neg fun h => classified h.2]
    · have before : s.restartDebounces.needle k = s.needle k :=
        congrArg (fun n : Ndr => n.needles[k]) (s.restartDebounces_only.same .ndr)
      rw [turned, before, if_neg stays, if_pos leaves]
  · have quiet (n : Fin 32) : ¬(old = .crank ∧ (s.lineCfg n).fn.classified = true) := fun h => leaves h.1
    by_cases enters : new = .crank
    · have goes : s.crankChange old new = forNeedles (fun _ n => n.suspend) (s.modMctl Mctl.crankEntry) :=
        (if_neg leaves).trans (if_pos enters)
      rw [goes]
      refine ⟨?_, fun n => ?_, (OnlyChanges.keepsSummary (s.modMctl_only _)).trans (still _ _), fun k => ?_, swept _ _⟩
      · rw [if_pos enters]; rfl
      · rw [if_neg (quiet n), if_neg (quiet n)]; rfl
      · rw [turned, if_pos enters]; rfl
    · have goes : s.crankChange old new = s := (if_neg leaves).trans (if_neg enters)
      rw [goes]
      refine ⟨by rw [if_neg enters], fun n => by rw [if_neg (quiet n), if_neg (quiet n)], ⟨rfl, rfl⟩, fun k => ?_, rfl⟩
      rw [if_neg enters, if_neg leaves]

theorem State.changeSupply_spec {new : Supply} (awake : s.mode ≠ .sleep) (moves : new ≠ s.supply) :
    ChangesSupply new s (s.changeSupply new) := by
  let a := s.supplySet new
  let b := a.crankChange s.supply new
  let c := b.gateFaultTimers.gateDoorTimers
  have goes : s.changeSupply new = c.refreshPru := if_neg moves
  obtain ⟨mctl, fmy, attends, entered⟩ := s.supplySet_spec new
  change a.mctl = _ at mctl
  change a.fmy = _ at fmy
  change a.lif.attention.has .supply = true at attends
  change OnlyChanges _ s a at entered
  have cranks : OnlyChanges [.mctl, .hlm, .ndr] a b := by
    refine OnlyChanges.ite ?_ (OnlyChanges.ite ?_ (.refl _ _))
    · exact (a.restartDebounces_only).andThen (forNeedles_only _ _)
    · exact (a.modMctl_only _).andThen (forNeedles_only _ _)
  have gates : OnlyChanges [.hlm, .dmn] b c := (b.gateFaultTimers_only).andThen (State.gateDoorTimers_only _)
  have shown : OnlyChanges [.pru] c c.refreshPru := c.refreshPru_only
  have only := s.changeSupply_only new
  obtain ⟨cranked, lines, summary, needles, sweep⟩ := a.crankChange_spec moves
  change b.mctl = _ at cranked
  change ∀ n, b.line n = _ at lines
  change ∀ k, b.needle k = _ at needles
  have later : c.refreshPru.mctl = b.mctl := (shown.same .mctl).trans (gates.same .mctl)
  have final : c.refreshPru.mctl = { s.mctl with
      supply := new
      lowReport := if new = .low then .running s.now else .stopped
      highReport := if new = .high then .running s.now else .stopped
      lowMark := s.mctl.lowMark && new != .normal
      highMark := s.mctl.highMark && new != .normal
      ignTimer := if new = .crank then s.mctl.ignTimer.filter (fun t => t.1) else s.mctl.ignTimer } := by
    rw [later, cranked, mctl]
  have supply : c.refreshPru.supply = new := congrArg Mctl.supply final
  rw [goes] at only ⊢
  have now : c.refreshPru.now = s.now := only.same .now
  have supplyB : b.supply = new := (congrArg Mctl.supply later).symm.trans supply
  have modeB : b.mode ≠ .sleep := by
    have mode : b.mode = s.mode := (congrArg Mctl.mode later).symm.trans ((congrArg (fun c : Mctl => c.mode) final).trans rfl)
    rw [mode]; exact awake
  have hlm : a.hlm = s.hlm := entered.same .hlm
  have ndr : a.ndr = s.ndr := entered.same .ndr
  have tables : a.tables = s.tables := entered.same .tables
  have nowB : b.now = s.now := (cranks.same .now).trans (entered.same .now)
  refine ⟨final, ?_, ⟨?_, ?_, ?_, fun n => ?_, ?_, fun k => ?_, ?_, fun d => ?_, ?_⟩, only⟩
  · exact ((cranks.andThen (gates.andThen shown (n := [.hlm, .dmn, .pru])) (n := [.mctl, .hlm, .ndr, .dmn, .pru])).raises
      (cs := [])).keeps .supply attends
  · rw [supply]
    exact ((shown.same .fmy).trans ((gates.same .fmy).trans (cranks.same .fmy))).trans fmy
  · rw [supply]
    exact ⟨(congrArg (fun c : Mctl => c.lowMark) final).trans rfl, (congrArg (fun c : Mctl => c.highMark) final).trans rfl⟩
  · rw [supply, now]
    exact ⟨(congrArg (fun c : Mctl => c.lowReport) final).trans rfl, (congrArg (fun c : Mctl => c.highReport) final).trans rfl⟩
  · have runs : b.faultTimersRun = !(c.refreshPru.supply == .crank || c.refreshPru.supply == .high) := by
      rw [State.faultTimersRun, supplyB, supply, bne_iff_ne.mpr modeB, Bool.and_true]
      cases new <;> rfl
    have line : c.refreshPru.line n = b.gateFaultTimers.line n :=
      congrArg (fun h : Hlm => h.lines[n]) ((shown.same .hlm).trans ((State.gateDoorTimers_only _).same .hlm))
    have before : a.line n = s.line n := congrArg (fun h : Hlm => h.lines[n]) hlm
    rw [line, b.gateFaultTimers_line runs, lines n, before, nowB, now, State.lineCfg, State.lineCfg, tables]
  · exact ((entered.keepsSummary.trans summary).trans (forLines_summary b _)).trans
      (((State.gateDoorTimers_only _).keepsSummary).trans shown.keepsSummary)
  · have ndr' : c.refreshPru.needle k = b.needle k :=
      congrArg (fun n : Ndr => n.needles[k]) ((shown.same .ndr).trans (gates.same .ndr))
    have before : a.needle k = s.needle k := congrArg (fun n : Ndr => n.needles[k]) ndr
    rw [ndr', needles k, before, supply]
    refine if_congr Iff.rfl (Needle.suspend_eq _) ?_
    by_cases leaves : s.supply = .crank
    · rw [if_pos leaves, Needle.wakeUp_eq]
      exact if_congr ⟨fun h => ⟨leaves, h⟩, fun h => h.2⟩ rfl rfl
    · rw [if_neg leaves, if_neg fun h => leaves h.1]
  · exact ((congrArg Ndr.sweep ((shown.same .ndr).trans (gates.same .ndr))).trans sweep).trans (congrArg Ndr.sweep ndr)
  · have runs : b.gateFaultTimers.doorTimersRun = !(c.refreshPru.supply == .crank) := by
      have same : b.gateFaultTimers.mctl = b.mctl := b.gateFaultTimers_only.same .mctl
      rw [State.doorTimersRun, State.supply, State.mode, same, ← State.supply, ← State.mode, supplyB, supply,
        bne_iff_ne.mpr modeB, Bool.and_true]
      cases new <;> rfl
    have door : c.refreshPru.door d = c.door d := congrArg (fun m : Dmn => m.doors[d]) (shown.same .dmn)
    have before : b.gateFaultTimers.door d = s.door d := congrArg (fun m : Dmn => m.doors[d])
      ((b.gateFaultTimers_only.same .dmn).trans ((cranks.same .dmn).trans (entered.same .dmn)))
    have time : b.gateFaultTimers.now = c.refreshPru.now :=
      (b.gateFaultTimers_only.same .now).trans (nowB.trans now.symm)
    rw [door, b.gateFaultTimers.gateDoorTimers_door runs, before, time]
    rfl
  · have dmn : b.gateFaultTimers.dmn = s.dmn :=
      (b.gateFaultTimers_only.same .dmn).trans ((cranks.same .dmn).trans (entered.same .dmn))
    have same : c.refreshPru.dmn = c.dmn := shown.same .dmn
    rw [same, ← dmn]
    exact b.gateFaultTimers.gateDoorTimers_interlock

end

/-! ### A measurement (R1, R2, R5) -/

section
variable {s u t : State}

/-- A change of the supply state as seen from before the measurement. -/
theorem SupplyChange.of_moment (h : SupplyChange u t) (only : OnlyChanges [.now, .sched, .mctl] s u)
    (supply : u.supply = s.supply) (low : u.mctl.lowMark = s.mctl.lowMark) (high : u.mctl.highMark = s.mctl.highMark) :
    SupplyChange s t := by
  have fmy : u.fmy = s.fmy := only.same .fmy
  have tables : u.tables = s.tables := only.same .tables
  have line (n : Fin 32) : u.line n = s.line n := congrArg (fun h : Hlm => h.lines[n]) (only.same .hlm)
  have cfg (n : Fin 32) : u.lineCfg n = s.lineCfg n := by rw [State.lineCfg, State.lineCfg, tables]
  have needle (k : Fin 6) : u.needle k = s.needle k := congrArg (fun n : Ndr => n.needles[k]) (only.same .ndr)
  have door (d : Fin 4) : u.door d = s.door d := congrArg (fun m : Dmn => m.doors[d]) (only.same .dmn)
  have hlm : u.hlm = s.hlm := only.same .hlm
  have ndr : u.ndr = s.ndr := only.same .ndr
  have dmn : u.dmn = s.dmn := only.same .dmn
  have reports := h.reports
  have cleared : u.supplyCleared.fmy = s.supplyCleared.fmy := State.supplyCleared_fmy_congr fmy tables low high
  change t.fmy = if t.supply = .normal then u.supplyCleared.fmy else u.fmy at reports
  rw [cleared, fmy] at reports
  refine ⟨reports, by rw [← low, ← high]; exact h.marks, h.reportTimers, fun n => ?_, by rw [← hlm]; exact h.summary,
    fun k => ?_, by rw [← ndr]; exact h.sweep, fun d => by rw [← door d]; exact h.door d, by rw [← dmn]; exact h.interlock⟩
  · rw [← line n, ← cfg n, ← supply]
    exact h.line n
  · rw [← needle k, ← supply]
    exact h.needle k

/-- The moment of a VB measurement, with IGN sampled. -/
def State.vbMoment (s : State) (ign : Bool) : State :=
  s.atVbMeasurement.modMctl fun c => c.ignSample ign (max s.now s.sched.vb)

/-- R1, R2, R5: a measurement that leaves `c` in MCTL before the supply state follows, seen from before it. -/
structure Measures (s : State) (c : Mctl) (t : State) : Prop where
  now : t.now = max s.now s.sched.vb
  next : t.sched.vb = t.now + 2000
  attends : t.lif.attention.supply = (s.lif.attention.supply || decide (t.supply ≠ s.supply))
  mctl : t.mctl = { c with
    supply := t.supply, lowReport := t.mctl.lowReport, highReport := t.mctl.highReport,
    lowMark := t.mctl.lowMark, highMark := t.mctl.highMark, ignTimer := t.mctl.ignTimer }
  stays : t.supply = s.supply → t.mctl = c ∧ OnlyChanges [.now, .sched, .mctl] s t
  moves : t.supply ≠ s.supply → SupplyChange s t
  ignTimer : t.mctl.ignTimer = if t.supply = .crank ∧ s.supply ≠ .crank then c.ignTimer.filter (fun t => t.1) else c.ignTimer
  only : OnlyChanges (.now :: .sched :: supplyParts) s t

theorem State.changeSupply_measures {ign : Bool} {new : Supply} {c : Mctl} (awake : s.mode ≠ .sleep)
    (parts : c.mode = s.mctl.mode ∧ c.supply = s.mctl.supply ∧ c.lowMark = s.mctl.lowMark ∧ c.highMark = s.mctl.highMark)
    (here : u = (s.vbMoment ign).modMctl fun _ => c) :
    Measures s c (u.changeSupply new) ∧ (u.changeSupply new).supply = new := by
  obtain ⟨mode, supply, low, high⟩ := parts
  have before : OnlyChanges [.now, .sched, .mctl] s u := by
    rw [here]
    exact (((Advances.atMoment (l := [.sched]) s _ _).only.andThen (State.modMctl_only _ _) (n := [.now, .sched, .mctl])).andThen
      (State.modMctl_only _ _))
  have now : u.now = max s.now s.sched.vb := by rw [here]; rfl
  have sched : u.sched.vb = max s.now s.sched.vb + 2000 := by rw [here]; rfl
  have mctl : u.mctl = c := by rw [here]; rfl
  have supplyU : u.supply = s.supply := (congrArg Mctl.supply mctl).trans supply
  have attention : u.lif.attention = s.lif.attention := before.same .attention
  by_cases moves : new = u.supply
  · have goes : u.changeSupply new = u := if_pos moves
    have still : new = s.supply := moves.trans supplyU
    rw [goes]
    refine ⟨⟨now, sched.trans (congrArg (· + 2000) now.symm), ?_, ?_, fun _ => ⟨mctl, before⟩, fun h => absurd supplyU h, ?_, before.mono⟩,
      moves.symm⟩
    · rw [attention, supplyU]
      simp
    · rw [State.supply, mctl]
    · rw [supplyU, mctl, if_neg fun h => h.2 h.1]
  · have awakeU : u.mode ≠ .sleep := by
      rw [State.mode, mctl, mode]
      exact awake
    have moved : new ≠ s.supply := fun e => moves (e.trans supplyU.symm)
    have spec := u.changeSupply_spec awakeU moves
    have after : (u.changeSupply new).now = u.now := spec.only.same .now
    have supplyT : (u.changeSupply new).supply = new := congrArg Mctl.supply spec.mctl
    have whole := spec.mctl
    rw [mctl] at whole
    refine ⟨⟨after.trans now, ?_, ?_, ?_, fun h => absurd (supplyT.symm.trans h) moved, fun _ => ?_, ?_, before.andThen spec.only⟩, supplyT⟩
    · exact (congrArg Sched.vb (spec.only.same .sched)).trans (sched.trans (congrArg (· + 2000) (after.trans now).symm))
    · rw [spec.attends, supplyT, decide_eq_true moved, Bool.or_true]
    · rw [supplyT, whole]
    · exact spec.change.of_moment before supplyU (by rw [mctl, low]) (by rw [mctl, high])
    · rw [supplyT, whole]
      exact if_congr ⟨fun e => ⟨e, fun old => moved (e.trans old.symm)⟩, fun h => h.1⟩ rfl rfl

end

theorem Timer.continueIf_elapsed (t : Timer) (now : Nat) : (t.continueIf true now).elapsed now = t.elapsed now := by
  cases t
  case stopped => exact congrArg Int.toNat (sub_self (now : Int))
  all_goals rfl

theorem Timer.continueIf_eq (t : Timer) (holds : Bool) (now : Nat) : t.continueIf holds now =
    if holds = true then (if t = .stopped then .running now else t) else .stopped := by
  cases holds <;> cases t <;> rfl

/-- R1: the row of the state with the timers as they stood before the measurement. -/
theorem supplyRow_continued (now mv : Nat) (high recovery : Timer) (x : Supply) :
    supplyRow now mv (high.continueIf (x == .normal && decide (32500 < mv)) now)
        (recovery.continueIf (x == .crank && decide (16000 ≤ mv)) now) x =
      match x with
      | .normal =>
        if mv < 15000 then .crank else if mv < 17500 then .low
        else if 32500 < mv ∧ 10000 ≤ high.elapsed now then .high else .normal
      | .low => if mv < 15000 then .crank else if 18000 ≤ mv then .normal else .low
      | .high => if mv < 15000 then .crank else if mv ≤ 31500 then .normal else .high
      | .crank => if 16000 ≤ mv ∧ 100000 ≤ recovery.elapsed now then .low else .crank := by
  have held (t : Timer) {b : Nat} {p : Prop} [Decidable p] (h : p) : (b ≤ (t.continueIf (true && decide p) now).elapsed now ↔ b ≤ t.elapsed now) := by
    rw [decide_eq_true h, Bool.true_and, Timer.continueIf_elapsed]
  cases x
  case normal =>
    refine if_congr Iff.rfl rfl (if_congr Iff.rfl rfl (if_congr ?_ rfl rfl))
    exact and_congr_right fun large => held high large
  case crank => exact if_congr (and_congr_right fun large => held recovery large) rfl rfl
  all_goals rfl

/-- Settles O6, by what a measurement leaves (`State.changeSupply_measures`) with the first row and the table. -/
theorem supplyFollowsItsTable : Obligations.SupplyFollowsItsTable := by
  refine ⟨fun s mv ign live awake fresh => ?_, fun s mv v ign live awake measured => ?_, fun s mv ign asleep => ?_⟩
  · let r := s.vbMoment ign
    let c : Mctl := { r.mctl with
      vb := some mv, highTimer := if 32500 < mv then .running r.now else .stopped,
      lowReport := if supplyFirst mv = .low then .running r.now else .stopped }
    have sampled := Mctl.ignSample_eq ign (max s.now s.sched.vb) s.mctl
    have mctl : r.mctl = s.mctl.ignSample ign (max s.now s.sched.vb) := rfl
    have first : r.mctl.vb = none := by rw [mctl, sampled]; exact fresh
    have goes : r.measureVb mv = (r.modMctl fun _ => c).changeSupply (supplyFirst mv) := if_pos (by rw [first]; rfl)
    have runs : exec (.vbMeasurement mv ign) s = .next (r.measureVb mv) := by
      rw [exec_runs _ s rfl live]
      exact congrArg _ (if_neg awake)
    obtain ⟨spec, supply⟩ := State.changeSupply_measures (s := s) (ign := ign) (new := supplyFirst mv) (c := c) awake
      (by change r.mctl.mode = _ ∧ r.mctl.supply = _ ∧ r.mctl.lowMark = _ ∧ r.mctl.highMark = _
          rw [mctl, sampled]
          exact ⟨rfl, rfl, rfl, rfl⟩) rfl
    rw [← goes] at spec supply
    have now : (r.measureVb mv).now = r.now := spec.now
    have high : (r.measureVb mv).mctl.highTimer = c.highTimer := (congrArg (fun c : Mctl => c.highTimer) spec.mctl :)
    have low : (r.measureVb mv).mctl.lowReport = if (r.measureVb mv).supply = .low then .running ((r.measureVb mv).now : Int)
        else .stopped := by
      by_cases stays : (r.measureVb mv).supply = s.supply
      · rw [(spec.stays stays).1, supply, now]
      · exact (spec.moves stays).reportTimers.1
    refine ⟨_, runs, (congrArg (fun c : Mctl => c.vb) spec.mctl).trans rfl, spec.now, spec.next, supply, ?_, low, spec.attends, ?_, fun stays => ?_,
      spec.moves, spec.only⟩
    · rw [high, now]
    · refine spec.mctl.trans ?_
      rw [high]
      change ({ r.mctl with
        vb := some mv, highTimer := c.highTimer, supply := (r.measureVb mv).supply
        lowReport := (r.measureVb mv).mctl.lowReport, highReport := (r.measureVb mv).mctl.highReport
        lowMark := (r.measureVb mv).mctl.lowMark, highMark := (r.measureVb mv).mctl.highMark
        ignTimer := (r.measureVb mv).mctl.ignTimer } : Mctl) = _
      rw [mctl, sampled]
    · obtain ⟨same, only⟩ := spec.stays stays
      rw [same]
      refine ⟨?_, ?_, ?_, only⟩
      · exact (congrArg Mctl.highReport sampled :)
      · exact (congrArg Mctl.lowMark sampled :)
      · exact (congrArg Mctl.highMark sampled :)
  · let r := s.vbMoment ign
    have sampled := Mctl.ignSample_eq ign (max s.now s.sched.vb) s.mctl
    have mctl : r.mctl = s.mctl.ignSample ign (max s.now s.sched.vb) := rfl
    let high := s.mctl.highTimer.continueIf (s.supply == .normal && decide (32500 < mv)) r.now
    let recovery := s.mctl.recoveryTimer.continueIf (s.supply == .crank && decide (16000 ≤ mv)) r.now
    let new := supplyRow r.now mv high recovery s.supply
    let c : Mctl := { r.mctl with
      vb := some mv, highTimer := if new = .normal then high else .stopped,
      recoveryTimer := if new = .crank then recovery else .stopped }
    have later : r.mctl.vb = some v := by rw [mctl, sampled]; exact measured
    have goes : r.measureVb mv = (r.modMctl fun _ => c).changeSupply new := by
      have second : r.measureVb mv = r.measureLater mv := if_neg (by rw [later]; exact Bool.false_ne_true)
      have parts : r.mctl.supply = s.supply ∧ r.mctl.highTimer = s.mctl.highTimer ∧ r.mctl.recoveryTimer = s.mctl.recoveryTimer := by
        rw [mctl, sampled]
        exact ⟨rfl, rfl, rfl⟩
      rw [second]
      delta State.measureLater
      extract_lets c' high' recovery' new'
      have sameHigh : high' = high := by
        change r.mctl.highTimer.continueIf (r.mctl.supply == .normal && decide (32500 < mv)) r.now = _
        rw [parts.1, parts.2.1]
      have sameRecovery : recovery' = recovery := by
        change r.mctl.recoveryTimer.continueIf (r.mctl.supply == .crank && decide (16000 ≤ mv)) r.now = _
        rw [parts.1, parts.2.2]
      have sameNew : new' = new := by
        change supplyRow r.now mv high' recovery' r.mctl.supply = _
        rw [sameHigh, sameRecovery, parts.1]
      rw [sameHigh, sameRecovery, sameNew]
      rfl
    have runs : exec (.vbMeasurement mv ign) s = .next (r.measureVb mv) := by
      rw [exec_runs _ s rfl live]
      exact congrArg _ (if_neg awake)
    obtain ⟨spec, supply⟩ := State.changeSupply_measures (s := s) (ign := ign) (new := new) (c := c) awake
      (by change r.mctl.mode = _ ∧ r.mctl.supply = _ ∧ r.mctl.lowMark = _ ∧ r.mctl.highMark = _
          rw [mctl, sampled]
          exact ⟨rfl, rfl, rfl, rfl⟩) rfl
    rw [← goes] at spec supply
    have now : (r.measureVb mv).now = r.now := spec.now
    have highT : (r.measureVb mv).mctl.highTimer = c.highTimer := (congrArg (fun c : Mctl => c.highTimer) spec.mctl :)
    have recoveryT : (r.measureVb mv).mctl.recoveryTimer = c.recoveryTimer :=
      (congrArg (fun c : Mctl => c.recoveryTimer) spec.mctl :)
    refine ⟨_, runs, (congrArg (fun c : Mctl => c.vb) spec.mctl).trans rfl, spec.now, spec.next, ?_, ?_, ?_, spec.attends, ?_, fun stays => ?_,
      spec.moves, spec.only⟩
    · rw [supply, now]
      exact supplyRow_continued _ _ _ _ _
    · rw [highT, supply, now]
      change (if new = .normal then s.mctl.highTimer.continueIf (s.supply == .normal && decide (32500 < mv)) r.now else .stopped) = _
      rw [Timer.continueIf_eq]
      by_cases normal : s.supply = .normal <;> by_cases after : new = .normal <;> by_cases large : 32500 < mv <;>
        simp [normal, after, large]
    · rw [recoveryT, supply, now]
      change (if new = .crank then s.mctl.recoveryTimer.continueIf (s.supply == .crank && decide (16000 ≤ mv)) r.now else .stopped) = _
      rw [Timer.continueIf_eq]
      by_cases crank : s.supply = .crank <;> by_cases after : new = .crank <;> by_cases large : 16000 ≤ mv <;>
        simp [crank, after, large]
    · refine spec.mctl.trans ?_
      rw [highT, recoveryT]
      change ({ r.mctl with
        vb := some mv, highTimer := c.highTimer, recoveryTimer := c.recoveryTimer, supply := (r.measureVb mv).supply
        lowReport := (r.measureVb mv).mctl.lowReport, highReport := (r.measureVb mv).mctl.highReport
        lowMark := (r.measureVb mv).mctl.lowMark, highMark := (r.measureVb mv).mctl.highMark
        ignTimer := (r.measureVb mv).mctl.ignTimer } : Mctl) = _
      rw [mctl, sampled]
    · obtain ⟨same, only⟩ := spec.stays stays
      rw [same]
      refine ⟨?_, ?_, ?_, ?_, only⟩
      · exact (congrArg Mctl.lowReport sampled :)
      · exact (congrArg Mctl.highReport sampled :)
      · exact (congrArg Mctl.lowMark sampled :)
      · exact (congrArg Mctl.highMark sampled :)
  · rw [exec_event _ s rfl]
    split
    · rfl
    · exact congrArg _ (if_pos asleep)

end Sys2Proof.Machine
end

section
/-! PROOFS. The ignition input (R5): its samples and the acceptance of a level (O8). -/

namespace Sys2Proof.Machine
set_option Elab.async false

/-- R5: a sample of IGN runs or clears the debounce timer of its level. -/
theorem Mctl.ignSample_ignTimer (ign : Bool) (now : Nat) (c : Mctl) : (c.ignSample ign now).ignTimer =
    if c.ign = (if ign then .active else .inactive) ∨ (ign = false ∧ c.supply = .crank) then none
    else match c.ignTimer with
      | some (level, x) => some (if level = ign then (level, x) else (ign, .running (now : Int)))
      | none => some (ign, .running (now : Int)) := by
  have accepted : ((if ign then c.ign == .active else c.ign == .inactive) || (!ign && c.supply == .crank)) = true ↔
      c.ign = (if ign then .active else .inactive) ∨ (ign = false ∧ c.supply = .crank) := by
    cases ign <;> simp
  unfold Mctl.ignSample
  dsimp only
  by_cases h : c.ign = (if ign then .active else .inactive) ∨ (ign = false ∧ c.supply = .crank)
  · rw [if_pos h, if_pos (accepted.mpr h)]
  · rw [if_neg h, if_neg (mt accepted.mp h)]
    cases c.ignTimer <;> rfl

section
variable {s : State}

/-- R5: what a measurement leaves of the debounce timer. -/
theorem State.vbMeasurement_ignTimer (awake : s.mode ≠ .sleep) (live : s.heldInReset = false) (mv : Nat) (ign : Bool) :
    ∃ (t : State) (c : Mctl), exec (.vbMeasurement mv ign) s = .next t ∧ Measures s c t ∧
      c.ignTimer = (s.mctl.ignSample ign (max s.now s.sched.vb)).ignTimer := by
  let r := s.vbMoment ign
  have runs : exec (.vbMeasurement mv ign) s = .next (r.measureVb mv) := by
    rw [exec_runs _ s rfl live]
    exact congrArg _ (if_neg awake)
  have sampled := Mctl.ignSample_eq ign (max s.now s.sched.vb) s.mctl
  have parts : r.mctl.mode = s.mctl.mode ∧ r.mctl.supply = s.mctl.supply ∧ r.mctl.lowMark = s.mctl.lowMark ∧
      r.mctl.highMark = s.mctl.highMark := by
    change (s.mctl.ignSample ign (max s.now s.sched.vb)).mode = _ ∧ (s.mctl.ignSample ign (max s.now s.sched.vb)).supply = _ ∧
      (s.mctl.ignSample ign (max s.now s.sched.vb)).lowMark = _ ∧ (s.mctl.ignSample ign (max s.now s.sched.vb)).highMark = _
    rw [sampled]
    exact ⟨rfl, rfl, rfl, rfl⟩
  have spec (f : Mctl → Mctl) (new : Supply) (mode : (f r.mctl).mode = r.mctl.mode) (supply : (f r.mctl).supply = r.mctl.supply)
      (low : (f r.mctl).lowMark = r.mctl.lowMark) (high : (f r.mctl).highMark = r.mctl.highMark) :
      Measures s (f r.mctl) ((r.modMctl f).changeSupply new) :=
    (State.changeSupply_measures (ign := ign) awake
      ⟨mode.trans parts.1, supply.trans parts.2.1, low.trans parts.2.2.1, high.trans parts.2.2.2⟩ rfl).1
  by_cases first : r.mctl.vb.isNone = true
  · have goes : r.measureVb mv = r.measureFirst mv := if_pos first
    rw [goes] at runs
    exact ⟨_, _, runs, spec _ _ rfl rfl rfl rfl, rfl⟩
  · have goes : r.measureVb mv = r.measureLater mv := if_neg first
    rw [goes] at runs
    exact ⟨_, _, runs, spec _ _ rfl rfl rfl rfl, rfl⟩

end

theorem EntersRun.attend {s t : State} (h : EntersRun s t) : EntersRun s (t.attend .mode) where
  mctl := h.mctl
  count := h.count
  rule := h.rule
  ignition := ⟨h.ignition.homes, h.ignition.others, h.ignition.sweep, h.ignition.lampCheck⟩
  only := h.only.andThen (State.attend_only _ _)

theorem LeavesRun.attend {s t : State} (h : LeavesRun s t) : LeavesRun s (t.attend .mode) where
  mctl := h.mctl
  ages := ⟨h.ages.due, h.ages.table, h.ages.removed⟩
  door := h.door
  records := h.records
  only := h.only.andThen (State.attend_only _ _)

/-- Settles O8: the samples by `State.vbMeasurement_ignTimer`, the acceptance by what an ignition-on and an ignition-off
leave. -/
theorem acceptedIgnitionMovesTheMode : Obligations.AcceptedIgnitionMovesTheMode := by
  refine ⟨fun s mv ign live awake => ?_, fun s level since live timer => ?_⟩
  · obtain ⟨t, c, runs, measures, sampled⟩ := State.vbMeasurement_ignTimer awake live mv ign
    refine ⟨t, runs, fun same => ?_, fun before after x => ?_⟩
    · have idle : ¬(t.supply = .crank ∧ s.supply ≠ .crank) := fun h => same.elim (fun e => h.2 e) fun e => e h.1
      rw [measures.ignTimer, if_neg idle, sampled, Mctl.ignSample_ignTimer, measures.now]
      refine if_congr Iff.rfl rfl ?_
      cases s.mctl.ignTimer <;> rfl
    · rw [measures.ignTimer, if_pos ⟨after, before⟩]
      intro e
      have kept := (Option.filter_eq_some_iff.mp e).2
      exact absurd kept Bool.false_ne_true
  · let r := s.reach (since + ms 20)
    let u := r.ignKnown level
    have reached : OnlyChanges [.now, .mctl] s u := (s.reach_only _).andThen (r.modMctl_only _)
    have known : u.mctl = { s.mctl with ign := if level then .active else .inactive, ignTimer := none } := rfl
    have now : u.now = max s.now (since + 20000).toNat := rfl
    have runs : exec .ignDebounceExpiry s = .next (r.acceptIgn level) := by
      rw [exec_runs _ s rfl live, eventEffect, timer]
      rfl
    have rule (m : Fin 64) : u.rule m = s.rule m := rfl
    by_cases on : s.mode = .standby ∧ level = true
    · obtain ⟨standby, rfl⟩ := on
      have goes : r.acceptIgn true = u.enterRun.attend .mode := r.acceptIgn_on standby
      have enters := u.enterRun_spec.attend
      rw [goes] at runs
      have mctl : (u.enterRun.attend .mode).mctl = { s.mctl with
          mode := .run, ign := .active, ignTimer := none, cycle := true, minute := s.mctl.minute.goOn u.now
          sleepPending := false } := by
        rw [enters.mctl]
        exact rfl
      have mode : (u.enterRun.attend .mode).mode = .run := congrArg Mctl.mode mctl
      have moved : (u.enterRun.attend .mode).mode ≠ s.mode := by rw [mode, standby]; decide
      have time : (u.enterRun.attend .mode).now = u.now := enters.only.same .now
      refine ⟨_, runs, time.trans now, congrArg Mctl.ign mctl, congrArg Mctl.ignTimer mctl, ?_, ?_, ?_,
        fun _ _ => ⟨congrArg Mctl.cycle mctl, ?_, enters.count, fun m => ?_, ?_⟩, fun _ off => absurd off (by decide),
        fun _ off => absurd off (by decide), fun same => absurd same moved, reached.andThen enters.only⟩
      · rw [mode, standby]
      · rw [mctl, mode]
      · rw [decide_eq_true moved, Bool.or_true]
        exact Attention.has_raise _ .mode
      · rw [mctl]
        cases s.mctl.minute <;> rfl
      · have ended := enters.rule m
        rw [rule m] at ended
        exact ended
      · exact ⟨enters.ignition.homes, enters.ignition.others, enters.ignition.sweep, enters.ignition.lampCheck⟩
    · by_cases off : s.mode.isRunning = true ∧ level = false
      · obtain ⟨running, rfl⟩ := off
        have goes : r.acceptIgn false = u.ignitionOff.attend .mode := r.acceptIgn_off running
        have leaves := u.ignitionOff_spec.attend
        rw [goes] at runs
        have mctl : (u.ignitionOff.attend .mode).mctl = { s.mctl with
            mode := .standby, ign := .inactive, ignTimer := none, cycle := false, minute := s.mctl.minute.pause u.now } :=
          leaves.mctl.trans rfl
        have mode : (u.ignitionOff.attend .mode).mode = .standby := congrArg Mctl.mode mctl
        have moved : (u.ignitionOff.attend .mode).mode ≠ s.mode := by
          rw [mode]
          intro e
          rw [← e] at running
          exact absurd running Bool.false_ne_true
        have time : (u.ignitionOff.attend .mode).now = u.now := leaves.only.same .now
        refine ⟨_, runs, time.trans now, congrArg Mctl.ign mctl, congrArg Mctl.ignTimer mctl, ?_, ?_, ?_,
          fun _ on => absurd on (by decide), fun _ _ => ⟨congrArg Mctl.cycle mctl, ?_, leaves.ages.due, leaves.ages.table,
            leaves.ages.removed, leaves.door⟩, fun workshop _ => leaves.records workshop, fun same => absurd same moved,
          reached.andThen leaves.only⟩
        · rw [mode]
          cases e : s.mode <;> rw [e] at running <;> exact absurd running Bool.false_ne_true
        · rw [mctl, mode]
        · rw [decide_eq_true moved, Bool.or_true]
          exact Attention.has_raise _ .mode
        · rw [time]
          exact congrArg Mctl.minute mctl
      · have idleOn : level = true → r.mode ≠ .standby := fun l m => on ⟨m, l⟩
        have idleOff : level = false → r.mode.isRunning = false := fun l => eq_false_of_ne_true fun m => off ⟨m, l⟩
        have goes : r.acceptIgn level = u.refreshPru := r.acceptIgn_stays level idleOn idleOff
        have shown : OnlyChanges [.pru] u u.refreshPru := u.refreshPru_only
        have mctl : u.refreshPru.mctl = u.mctl := shown.same .mctl
        have mode : u.refreshPru.mode = s.mode := (congrArg (fun c : Mctl => c.mode) mctl).trans rfl
        have attention : u.refreshPru.lif.attention = s.lif.attention := shown.same .attention
        rw [goes] at runs
        refine ⟨_, runs, (shown.same .now).trans now, congrArg Mctl.ign mctl, congrArg Mctl.ignTimer mctl, ?_, ?_, ?_,
          fun m l => absurd m (idleOn l), fun m l => absurd ((idleOff l).symm.trans m) Bool.false_ne_true,
          fun m l => ?_, fun _ => reached.andThen shown, reached.andThen shown⟩
        · rw [mode]
          cases e : s.mode <;> cases level <;> first
            | exact absurd e (idleOn rfl)
            | exact absurd ((congrArg Mode.isRunning e).symm.trans (idleOff rfl)).symm Bool.false_ne_true
            | rfl
        · rw [mctl, mode]
          exact rfl
        · rw [attention, mode]
          simp
        · have running := idleOff l
          rw [show r.mode = .workshop from m] at running
          exact absurd running.symm Bool.false_ne_true

end Sys2Proof.Machine
end

section
/-! PROOFS. The records as bytes (11.3): what a record reads as writes the same bytes again. -/

namespace Sys2Proof.Machine
set_option Elab.async false

/-! ### Numbers (R210) -/

section
variable (p : List Byte) (i : Nat)

theorem ofNat_byte (b : Byte) : BitVec.ofNat 8 b.toNat = b := by simp

theorem rd8_lt : rd8 p i < 256 := (p.getD i 0).isLt

theorem u8_rd8 : u8 (rd8 p i) = [p.getD i 0] := congrArg (fun b => [b]) (ofNat_byte _)

theorem ofNat_low (a b : Nat) : BitVec.ofNat 8 (256 * a + b) = BitVec.ofNat 8 b := by
  refine BitVec.eq_of_toNat_eq ?_
  simp only [BitVec.toNat_ofNat]
  omega

theorem u16_rd16 : u16 (rd16 p i) = [p.getD i 0, p.getD (i + 1) 0] := by
  have low := rd8_lt p (i + 1)
  have high : (256 * rd8 p i + rd8 p (i + 1)) / 256 = rd8 p i := by omega
  rw [u16, rd16, high, ofNat_low]
  exact congrArg₂ (fun a b => [a, b]) (ofNat_byte _) (ofNat_byte _)

theorem u32_rd32 : u32 (rd32 p i) = [p.getD i 0, p.getD (i + 1) 0, p.getD (i + 2) 0, p.getD (i + 3) 0] := by
  have a := rd8_lt p i
  have b := rd8_lt p (i + 1)
  have c := rd8_lt p (i + 2)
  have d := rd8_lt p (i + 3)
  have value : rd32 p i = 16777216 * rd8 p i + 65536 * rd8 p (i + 1) + 256 * rd8 p (i + 2) + rd8 p (i + 3) := by
    have last : i + 2 + 1 = i + 3 := rfl
    simp only [rd32, rd16, last]
    omega
  have first : rd32 p i / 16777216 = rd8 p i := by omega
  have second : rd32 p i / 65536 = 256 * rd8 p i + rd8 p (i + 1) := by omega
  have third : rd32 p i / 256 = 256 * (256 * rd8 p i + rd8 p (i + 1)) + rd8 p (i + 2) := by omega
  have fourth : rd32 p i = 256 * (65536 * rd8 p i + 256 * rd8 p (i + 1) + rd8 p (i + 2)) + rd8 p (i + 3) := by omega
  rw [u32, first, second, third, fourth, ofNat_low, ofNat_low, ofNat_low]
  simp only [rd8, ofNat_byte]

theorem rd16_lt : rd16 p i < 65536 := by
  have a := rd8_lt p i
  have b := rd8_lt p (i + 1)
  unfold rd16
  omega

theorem i16_rdI16 : i16 (rdI16 p i) = u16 (rd16 p i) := by
  have bound := rd16_lt p i
  have value : (rdI16 p i % 65536).toNat = rd16 p i := by
    unfold rdI16 toSigned
    split <;> omega
  rw [i16, value]

theorem i16_rd16 : i16 (rd16 p i : Int) = u16 (rd16 p i) := by
  have bound := rd16_lt p i
  have value : ((rd16 p i : Int) % 65536).toNat = rd16 p i := by omega
  rw [i16, value]

end

/-! ### Lists of bytes -/

section
variable {p : List Byte}

/-- A slice of a list, byte by byte. -/
theorem slice_eq (i w : Nat) (h : i + w ≤ p.length) : (p.drop i).take w = (List.range w).map fun j => p.getD (i + j) 0 := by
  refine List.ext_getElem (by simp; omega) fun j low high => ?_
  have inside : i + j < p.length := by simp at low; omega
  simp [List.getElem_take, List.getElem_drop, List.getD_eq_getElem?_getD, List.getElem?_eq_getElem inside]

theorem bytes_eq {n : Nat} (h : p.length = n) : p = (List.range n).map fun j => p.getD j 0 := by
  have whole := slice_eq (p := p) 0 n (by omega)
  rw [List.drop_zero, List.take_of_length_le h.le] at whole
  exact whole.trans (List.map_congr_left fun j _ => by rw [Nat.zero_add])

theorem zeros_eq {n : Nat} (h : (p.drop n).all (· == 0) = true) : p.drop n = List.replicate (p.length - n) 0 := by
  have all := List.all_eq_true.mp h
  exact List.eq_replicate_iff.mpr ⟨List.length_drop, fun b mem => by simpa using all b mem⟩

end

/-! ### Codes and bits -/

section
variable {n : Nat}

theorem LineFn.code_ofCode {x : LineFn} (h : LineFn.ofCode n = some x) : x.code = n := by
  unfold LineFn.ofCode at h; split at h <;> cases h <;> rfl
theorem Bias.code_ofCode {x : Bias} (h : Bias.ofCode n = some x) : x.code = n := by
  unfold Bias.ofCode at h; split at h <;> cases h <;> rfl
theorem LineClass.code_ofCode {x : LineClass} (h : LineClass.ofCode n = some x) : x.code = n := by
  unfold LineClass.ofCode at h; split at h <;> cases h <;> rfl
theorem Source.code_ofCode {x : Source} (h : Source.ofCode n = some x) : x.code = n := by
  unfold Source.ofCode at h; split at h <;> cases h <;> rfl
theorem Combine.code_ofCode {x : Combine} (h : Combine.ofCode n = some x) : x.code = n := by
  unfold Combine.ofCode at h; split at h <;> cases h <;> rfl
theorem OnInvalid.code_ofCode {x : OnInvalid} (h : OnInvalid.ofCode n = some x) : x.code = n := by
  unfold OnInvalid.ofCode at h; split at h <;> cases h <;> rfl
theorem Qualifier.code_ofCode {x : Qualifier} (h : Qualifier.ofCode n = some x) : x.code = n := by
  unfold Qualifier.ofCode at h; split at h <;> cases h <;> rfl
theorem Latch.code_ofCode {x : Latch} (h : Latch.ofCode n = some x) : x.code = n := by
  unfold Latch.ofCode at h; split at h <;> cases h <;> rfl
theorem Level.code_ofCode {x : Level} (h : Level.ofCode n = some x) : x.code = n := by
  unfold Level.ofCode at h; split at h <;> cases h <;> rfl
theorem LineTest.code_ofCode {x : LineTest} (h : LineTest.ofCode n = some x) : x.code = n := by
  unfold LineTest.ofCode at h; split at h <;> cases h <;> rfl
theorem DoorTest.code_ofCode {x : DoorTest} (h : DoorTest.ofCode n = some x) : x.code = n := by
  unfold DoorTest.ofCode at h; split at h <;> cases h <;> rfl
theorem patternCode_ofCode {x : Option Pattern} (h : patternOfCode n = some x) : patternCode x = n := by
  unfold patternOfCode at h; split at h <;> cases h <;> rfl

theorem indexCode_rdIndex {m : Nat} {x : Option (Fin m)} (h : rdIndex m n = some x) : indexCode x = n := by
  unfold rdIndex at h
  split at h
  case isTrue absent =>
    cases h
    exact absent.symm
  case isFalse =>
    obtain ⟨k, place, rfl⟩ := Option.map_eq_some_iff.mp h
    exact (finOf_eq_some_iff.mp place).symm

theorem ofBool_rdBool {b : Bool} (h : rdBool n = some b) : (if b then 1 else 0) = n := by
  unfold rdBool at h
  split at h
  case isTrue zero => cases h; exact zero.symm
  case isFalse =>
    split at h
    case isTrue one => cases h; exact one.symm
    case isFalse => cases h

theorem bitOf_val (v b : Nat) : (if bitOf v b then 1 else 0) = v / 2 ^ b % 2 := by
  unfold bitOf
  have parts := Nat.mod_two_eq_zero_or_one (v / 2 ^ b)
  obtain e | e := parts <;> rw [e] <;> rfl

theorem bits_two (h : n < 4) : bits [bitOf n 0, bitOf n 1] = n := by
  interval_cases n <;> rfl
theorem bits_three (h : n < 8) : bits [bitOf n 0, bitOf n 1, bitOf n 2] = n := by
  interval_cases n <;> rfl
theorem bits_four (h : n < 16) : bits [bitOf n 0, bitOf n 1, bitOf n 2, bitOf n 3] = n := by
  interval_cases n <;> rfl

theorem bit_scaled (v b c : Nat) : (if bitOf v b then c else 0) = c * (v / 2 ^ b % 2) := by
  rw [← bitOf_val]
  split <;> simp

end

/-! ### Records -/

section
variable {p : List Byte}

theorem GeneralCfg.toBytes_of {c : GeneralCfg} (h : GeneralCfg.ofBytes p = some c) : c.toBytes = p ∧ p.length = 11 := by
  unfold GeneralCfg.ofBytes at h
  split at h
  case isFalse => cases h
  case isTrue length =>
    cases h
    refine ⟨?_, length⟩
    conv_rhs => rw [bytes_eq length]
    simp only [GeneralCfg.toBytes, u16_rd16, u8_rd8]
    rfl

theorem LineCfg.toBytes_of {c : LineCfg} (h : LineCfg.ofBytes p = some c) : c.toBytes = p ∧ p.length = 24 := by
  unfold LineCfg.ofBytes at h
  split at h
  case isFalse => cases h
  case isTrue shape =>
    obtain ⟨length, flags⟩ := shape
    simp only [Option.pure_def, Option.bind_eq_bind, Option.bind_eq_some_iff, Option.some.injEq] at h
    obtain ⟨fn, hfn, bias, hbias, b0, h0, b1, h1, b2, h2, b3, h3, b4, h4, b5, h5, rfl⟩ := h
    refine ⟨?_, length⟩
    conv_rhs => rw [bytes_eq length]
    simp only [LineCfg.toBytes, LineFn.code_ofCode hfn, Bias.code_ofCode hbias, LineClass.code_ofCode h0, LineClass.code_ofCode h1,
      LineClass.code_ofCode h2, LineClass.code_ofCode h3, LineClass.code_ofCode h4, LineClass.code_ofCode h5,
      bits_three flags, u16_rd16, u8_rd8]
    rfl

theorem RoleCfg.toBytes_of {c : RoleCfg} (h : RoleCfg.ofBytes p = some c) : c.toBytes = p ∧ p.length = 5 := by
  unfold RoleCfg.ofBytes at h
  split at h
  case isFalse => cases h
  case isTrue length =>
    simp only [Option.pure_def, Option.bind_eq_bind, Option.bind_eq_some_iff, Option.some.injEq] at h
    obtain ⟨a, ha, b, hb, o, ho, d, hd, e, he, rfl⟩ := h
    refine ⟨?_, length⟩
    conv_rhs => rw [bytes_eq length]
    simp only [RoleCfg.toBytes, indexCode_rdIndex ha, indexCode_rdIndex hb, indexCode_rdIndex ho, indexCode_rdIndex hd,
      indexCode_rdIndex he, u8_rd8]
    rfl

theorem ChannelCfg.toBytes_of {c : ChannelCfg} (h : ChannelCfg.ofBytes p = some c) : c.toBytes = p ∧ p.length = 22 := by
  unfold ChannelCfg.ofBytes at h
  split at h
  case isFalse => cases h
  case isTrue shape =>
    obtain ⟨length, flags, spare⟩ := shape
    simp only [Option.pure_def, Option.bind_eq_bind, Option.bind_eq_some_iff, Option.some.injEq] at h
    obtain ⟨source, hsource, rfl⟩ := h
    refine ⟨?_, length⟩
    conv_rhs => rw [bytes_eq length]
    have last : u8 0 = [p.getD 21 0] := by rw [← spare, u8_rd8]
    simp only [ChannelCfg.toBytes, Source.code_ofCode hsource, bits_four flags, i16_rdI16, u32_rd32, u16_rd16, u8_rd8, last]
    rfl

theorem LampCfg.toBytes_of {c : LampCfg} (h : LampCfg.ofBytes p = some c) : c.toBytes = p ∧ p.length = 3 := by
  unfold LampCfg.ofBytes at h
  split at h
  case isFalse => cases h
  case isTrue length =>
    simp only [Option.pure_def, Option.bind_eq_bind, Option.bind_eq_some_iff, Option.some.injEq] at h
    obtain ⟨a, ha, b, hb, d, hd, rfl⟩ := h
    refine ⟨?_, length⟩
    conv_rhs => rw [bytes_eq length]
    simp only [LampCfg.toBytes, ofBool_rdBool ha, indexCode_rdIndex hb, ofBool_rdBool hd, u8_rd8]
    rfl

theorem DoorCfg.toBytes_of {c : DoorCfg} (h : DoorCfg.ofBytes p = some c) : c.toBytes = p ∧ p.length = 14 := by
  unfold DoorCfg.ofBytes at h
  split at h
  case isFalse => cases h
  case isTrue length =>
    simp only [Option.pure_def, Option.bind_eq_bind, Option.bind_eq_some_iff, Option.some.injEq] at h
    obtain ⟨a, ha, b, hb, d, hd, e, he, f, hf, g, hg, i, hi, j, hj, rfl⟩ := h
    refine ⟨?_, length⟩
    conv_rhs => rw [bytes_eq length]
    simp only [DoorCfg.toBytes, ofBool_rdBool ha, indexCode_rdIndex hb, indexCode_rdIndex hd, indexCode_rdIndex he,
      indexCode_rdIndex hf, indexCode_rdIndex hg, indexCode_rdIndex hi, ofBool_rdBool hj, u16_rd16, u8_rd8]
    rfl

/-! ### Curves -/

theorem rdPoint_bytes (sensor : Bool) (i : Nat) (inside : 1 + 4 * i + 4 ≤ p.length) :
    i16 (rdPoint sensor p i).1 ++ i16 (rdPoint sensor p i).2 = (p.drop (1 + 4 * i)).take 4 := by
  have second : 3 + 4 * i = 1 + 4 * i + 2 := by omega
  rw [slice_eq _ _ inside]
  cases sensor
  · simp only [rdPoint, Bool.false_eq_true, if_false, i16_rdI16, i16_rd16, u16_rd16, second]
    rfl
  · simp only [rdPoint, if_true, i16_rdI16, i16_rd16, u16_rd16, second]
    rfl

theorem points_bytes (sensor : Bool) (k : Nat) (inside : 1 + 4 * k ≤ p.length) :
    ((List.range k).map (rdPoint sensor p)).flatMap (fun q => i16 q.1 ++ i16 q.2) = (p.drop 1).take (4 * k) := by
  induction k with
  | zero => rfl
  | succ k ih =>
    rw [List.range_succ, List.map_append, List.flatMap_append, ih (by omega), List.map_singleton, List.flatMap_singleton,
      rdPoint_bytes sensor k (by omega), show 4 * (k + 1) = 4 * k + 4 from rfl, List.take_add, List.drop_drop]

theorem curveToBytes_of {sensor : Bool} {c : Curve} (h : curveOfBytes sensor p = some c) : curveToBytes c = p ∧ p.length = 33 := by
  unfold curveOfBytes at h
  dsimp only at h
  split at h
  case isFalse => cases h
  case isTrue shape =>
    obtain ⟨length, count, zeros⟩ := shape
    have few : rd8 p 0 ≤ 8 := by omega
    cases h
    refine ⟨?_, length⟩
    have first : p.take 1 = u8 (rd8 p 0) := by
      have byte := slice_eq (p := p) 0 1 (by omega)
      rw [List.drop_zero] at byte
      rw [byte, u8_rd8]
      rfl
    have rest := zeros_eq zeros
    have left : p.length - (1 + 4 * rd8 p 0) = 32 - 4 * rd8 p 0 := by omega
    rw [left] at rest
    rw [curveToBytes, points_bytes sensor _ (by omega), List.length_map, List.length_range, ← first, ← rest, ← List.drop_drop,
      List.append_assoc, List.take_append_drop, List.take_append_drop]

/-! ### Rules -/

/-- A slot whose bytes from one place on are zero. -/
theorem slot_zeros {m : Nat} (length : p.length = 8) (zeros : (p.drop m).all (· == 0) = true) (inside : m ≤ 8) :
    p = ((List.range m).map fun j => p.getD j 0) ++ List.replicate (8 - m) 0 := by
  have rest := zeros_eq zeros
  have front := slice_eq (p := p) 0 m (by omega)
  rw [List.drop_zero] at front
  rw [length] at rest
  conv_lhs => rw [← List.take_append_drop m p, rest, front]
  simp only [Nat.zero_add]

theorem Term.toBytes_of {k : TermKind} {x : Term} (length : p.length = 8) (used : rd8 p 0 = 0x80)
    (h : Term.ofBytes k p = some x) : x.toBytes = p := by
  have first : u8 0x80 = [p.getD 0 0] := by rw [← used, u8_rd8]
  unfold Term.ofBytes at h
  split at h
  case h_1 =>
    split at h
    case isFalse => cases h
    case isTrue zeros =>
      simp only [Option.pure_def, Option.bind_eq_bind, Option.bind_eq_some_iff, Option.some.injEq] at h
      obtain ⟨n, hn, t, ht, rfl⟩ := h
      conv_rhs => rw [slot_zeros length zeros (by decide)]
      simp only [Term.toBytes, first, ← finOf_eq_some_iff.mp hn, LineTest.code_ofCode ht, u8_rd8]
      rfl
  case h_2 =>
    split at h
    case isFalse => cases h
    case isTrue shape =>
      obtain ⟨zeros, flags⟩ := shape
      simp only [Option.pure_def, Option.bind_eq_bind, Option.bind_eq_some_iff, Option.some.injEq] at h
      obtain ⟨n, hn, rfl⟩ := h
      conv_rhs => rw [slot_zeros length zeros (by decide)]
      simp only [Term.toBytes, first, ← finOf_eq_some_iff.mp hn, bits_two flags, i16_rdI16, u16_rd16, u8_rd8]
      rfl
  case h_3 =>
    split at h
    case isFalse => cases h
    case isTrue zeros =>
      simp only [Option.pure_def, Option.bind_eq_bind, Option.bind_eq_some_iff, Option.some.injEq] at h
      obtain ⟨t, ht, rfl⟩ := h
      conv_rhs => rw [slot_zeros length zeros (by decide)]
      simp only [Term.toBytes, first, DoorTest.code_ofCode ht, u8_rd8]
      rfl
  case h_4 =>
    split at h
    case isFalse => cases h
    case isTrue zeros =>
      obtain ⟨n, hn, rfl⟩ := Option.map_eq_some_iff.mp h
      conv_rhs => rw [slot_zeros length zeros (by decide)]
      simp only [Term.toBytes, first, ← finOf_eq_some_iff.mp hn, u8_rd8]
      rfl
  case h_5 =>
    split at h
    case isFalse => cases h
    case isTrue zeros =>
      obtain ⟨c, hc, rfl⟩ := Option.map_eq_some_iff.mp h
      conv_rhs => rw [slot_zeros length zeros (by decide)]
      simp only [Term.toBytes, first, SourceClass.code_ofCode hc, u8_rd8]
      rfl
  case h_6 =>
    split at h
    case isFalse => cases h
    case isTrue shape =>
      cases h
      conv_rhs => rw [slot_zeros length shape.1 (by decide)]
      simp only [Term.toBytes, first, u8_rd8]
      rfl

theorem slotToBytes_of {k : TermKind} {x : Option Term} (length : p.length = 8) (h : slotOfBytes k p = some x) :
    slotToBytes x = p := by
  unfold slotOfBytes at h
  split at h
  case isTrue used =>
    obtain ⟨t, ht, rfl⟩ := Option.map_eq_some_iff.mp h
    exact Term.toBytes_of length used ht
  case isFalse =>
    split at h
    case isTrue zeros =>
      cases h
      have whole := zeros_eq (p := p) (n := 0) zeros
      rw [List.drop_zero, length] at whole
      exact whole.symm
    case isFalse => cases h

/-- The fields of a byte put together again. -/
theorem byte_split (v : Nat) (h : v < 256) :
    fieldOf v 0 4 + 16 * fieldOf v 4 3 + (if bitOf v 7 then 128 else 0) = v ∧
    fieldOf v 0 2 + 4 * fieldOf v 2 2 + 16 * fieldOf v 4 3 + (if bitOf v 7 then 128 else 0) = v ∧
    fieldOf v 0 2 + (if bitOf v 2 then 4 else 0) + (if bitOf v 3 then 8 else 0) + 16 * fieldOf v 4 3 +
      (if bitOf v 7 then 128 else 0) = v ∧
    (v < 16 → fieldOf v 0 2 + 4 * fieldOf v 2 2 = v) := by
  simp only [fieldOf, bit_scaled, Nat.reducePow, Nat.pow_zero, Nat.div_one]
  omega

theorem RuleCfg.toBytes_of {c : RuleCfg} (h : RuleCfg.ofBytes p = some c) : c.toBytes = p ∧ p.length = 34 := by
  unfold RuleCfg.ofBytes at h
  split at h
  case isFalse => cases h
  case isTrue shape =>
    obtain ⟨length, spare, high, levels, blank⟩ := shape
    simp only [Option.pure_def, Option.bind_eq_bind, Option.bind_eq_some_iff, Option.some.injEq] at h
    obtain ⟨⟨k0, k1, k2⟩, -, co, hco, oi, hoi, qu, hqu, la, hla, ch, hch, lp, hlp, ln, hln, lk, hlk, x, hx, y, hy, z, hz, rfl⟩ := h
    refine ⟨?_, length⟩
    have slice (i : Nat) (inside : i + 8 ≤ 34) : ((p.drop i).take 8).length = 8 := by simp; omega
    have whole : p = p.take 10 ++ ((p.drop 10).take 8 ++ ((p.drop 18).take 8 ++ (p.drop 26).take 8)) := by
      have last : (p.drop 26).take 8 = p.drop 26 := List.take_of_length_le (by simp; omega)
      have third : (p.drop 18).take 8 ++ p.drop 26 = p.drop 18 := by
        rw [show p.drop 26 = (p.drop 18).drop 8 by rw [List.drop_drop], List.take_append_drop]
      have second : (p.drop 10).take 8 ++ p.drop 18 = p.drop 10 := by
        rw [show p.drop 18 = (p.drop 10).drop 8 by rw [List.drop_drop], List.take_append_drop]
      rw [last, third, second, List.take_append_drop]
    have front := slice_eq (p := p) 0 10 (by omega)
    rw [List.drop_zero] at front
    conv_rhs => rw [whole, front]
    obtain ⟨byte0, -, -, -⟩ := byte_split _ (rd8_lt p 0)
    obtain ⟨-, byte1, -, -⟩ := byte_split _ (rd8_lt p 1)
    obtain ⟨-, -, byte4, -⟩ := byte_split _ (rd8_lt p 4)
    obtain ⟨-, -, -, byte8⟩ := byte_split _ (rd8_lt p 8)
    rw [spare, Nat.mul_zero, Nat.add_zero] at byte0
    rw [if_neg high, Nat.add_zero] at byte4
    have last : u8 0 = [p.getD 9 0] := by rw [← blank, u8_rd8]
    simp only [RuleCfg.toBytes, Combine.code_ofCode hco, OnInvalid.code_ofCode hoi, Qualifier.code_ofCode hqu, Latch.code_ofCode hla,
      patternCode_ofCode hch, indexCode_rdIndex hlp, Level.code_ofCode hln, Level.code_ofCode hlk, byte0, byte1, byte4,
      byte8 levels, u8_rd8, last, slotToBytes_of (slice 10 (by decide)) hx, slotToBytes_of (slice 18 (by decide)) hy,
      slotToBytes_of (slice 26 (by decide)) hz, List.append_assoc]
    rfl

end

/-! ### The record of a name -/

section
variable (t : Tables)

theorem Tables.recordBytes_line (n : Fin 32) : t.recordBytes 1 n.val = (t.lines[n]).toBytes := by
  simp [Tables.recordBytes, finOf_val]
theorem Tables.recordBytes_channel (k : Fin 6) : t.recordBytes 3 k.val = (t.channels[k]).toBytes := by
  simp [Tables.recordBytes, finOf_val]
theorem Tables.recordBytes_sensor (k : Fin 6) : t.recordBytes 4 k.val = curveToBytes t.sensors[k] := by
  simp [Tables.recordBytes, finOf_val]
theorem Tables.recordBytes_dial (k : Fin 6) : t.recordBytes 5 k.val = curveToBytes t.dials[k] := by
  simp [Tables.recordBytes, finOf_val]
theorem Tables.recordBytes_rule (m : Fin 64) : t.recordBytes 6 m.val = (t.rules[m]).toBytes := by
  simp [Tables.recordBytes, finOf_val]
theorem Tables.recordBytes_lamp (n : Fin 24) : t.recordBytes 7 n.val = (t.lamps[n]).toBytes := by
  simp [Tables.recordBytes, finOf_val]
theorem Tables.recordBytes_door (d : Fin 4) : t.recordBytes 8 d.val = (t.doors[d]).toBytes := by
  simp [Tables.recordBytes, finOf_val]

theorem set_same {α : Type} {n : Nat} (v : Vector α n) (k : Fin n) (x : α) : (v.set k x)[k] = x := Vector.getElem_set_self _

theorem set_other {α : Type} {n : Nat} (v : Vector α n) {j k : Fin n} (x : α) (other : j ≠ k) : (v.set k x)[j] = v[j] :=
  Vector.getElem_set_ne _ _ fun e => other (Fin.ext e.symm)

variable {t} {w : Tables} {a i : Nat} {p : List Byte}

/-- R212: a record that is read in writes the bytes that were read. -/
theorem Tables.Replaces.reads (h : t.Replaces a i p w) : w.recordBytes a i = p ∧ p.length = recordSize a := by
  cases h
  case general read => exact GeneralCfg.toBytes_of read
  case line n c read =>
    rw [Tables.recordBytes_line, set_same]
    exact LineCfg.toBytes_of read
  case roles read => exact RoleCfg.toBytes_of read
  case channel k c read =>
    rw [Tables.recordBytes_channel, set_same]
    exact ChannelCfg.toBytes_of read
  case sensor k c read =>
    rw [Tables.recordBytes_sensor, set_same]
    exact curveToBytes_of read
  case dial k c read =>
    rw [Tables.recordBytes_dial, set_same]
    exact curveToBytes_of read
  case rule m c read =>
    rw [Tables.recordBytes_rule, set_same]
    exact RuleCfg.toBytes_of read
  case lamp n c read =>
    rw [Tables.recordBytes_lamp, set_same]
    exact LampCfg.toBytes_of read
  case door d c read =>
    rw [Tables.recordBytes_door, set_same]
    exact DoorCfg.toBytes_of read

/-- R212: no other record changes. -/
theorem Tables.Replaces.others (h : t.Replaces a i p w) {b j : Nat} (name : RecordName b j) (other : (b, j) ≠ (a, i)) :
    w.recordBytes b j = t.recordBytes b j := by
  have apart {n : Nat} {k m : Fin n} (e : (b, k.val) ≠ (b, m.val)) : k ≠ m := fun same => e (by rw [same])
  cases h
  case general => cases name <;> first | exact absurd rfl other | rfl
  case roles => cases name <;> first | exact absurd rfl other | rfl
  case line m c _ =>
    cases name
    case line n => rw [Tables.recordBytes_line, Tables.recordBytes_line, set_other _ _ (apart other)]
    all_goals rfl
  case channel m c _ =>
    cases name
    case channel k => rw [Tables.recordBytes_channel, Tables.recordBytes_channel, set_other _ _ (apart other)]
    all_goals rfl
  case sensor m c _ =>
    cases name
    case sensor k => rw [Tables.recordBytes_sensor, Tables.recordBytes_sensor, set_other _ _ (apart other)]
    all_goals rfl
  case dial m c _ =>
    cases name
    case dial k => rw [Tables.recordBytes_dial, Tables.recordBytes_dial, set_other _ _ (apart other)]
    all_goals rfl
  case rule m c _ =>
    cases name
    case rule k => rw [Tables.recordBytes_rule, Tables.recordBytes_rule, set_other _ _ (apart other)]
    all_goals rfl
  case lamp m c _ =>
    cases name
    case lamp k => rw [Tables.recordBytes_lamp, Tables.recordBytes_lamp, set_other _ _ (apart other)]
    all_goals rfl
  case door m c _ =>
    cases name
    case door k => rw [Tables.recordBytes_door, Tables.recordBytes_door, set_other _ _ (apart other)]
    all_goals rfl

end

end Sys2Proof.Machine
end

section
/-! PROOFS. The image (R215): the records of a store, read one after the other, give its tables (O29). -/

namespace Sys2Proof.Machine
set_option Elab.async false

/-- Two tables have the record of a name in common. -/
def Tables.Shares (u t : Tables) (a i : Nat) : Prop :=
  match a with
  | 0 => u.general = t.general
  | 1 => ∀ n : Fin 32, n.val = i → u.lines[n] = t.lines[n]
  | 2 => u.roles = t.roles
  | 3 => ∀ k : Fin 6, k.val = i → u.channels[k] = t.channels[k]
  | 4 => ∀ k : Fin 6, k.val = i → u.sensors[k] = t.sensors[k]
  | 5 => ∀ k : Fin 6, k.val = i → u.dials[k] = t.dials[k]
  | 6 => ∀ m : Fin 64, m.val = i → u.rules[m] = t.rules[m]
  | 7 => ∀ n : Fin 24, n.val = i → u.lamps[n] = t.lamps[n]
  | 8 => ∀ d : Fin 4, d.val = i → u.doors[d] = t.doors[d]
  | _ => True

section
variable {t u w : Tables} {a i : Nat} {p : List Byte}

theorem vector_ext {α : Type} {n : Nat} {v x : Vector α n} (h : ∀ k : Fin n, v[k] = x[k]) : v = x :=
  Vector.ext fun k inside => h ⟨k, inside⟩

/-- Tables that share every record are the same. -/
theorem Tables.eq_of_shares (h : ∀ a i, RecordName a i → u.Shares t a i) : u = t := by
  have general : u.general = t.general := h 0 0 .general
  have lines : u.lines = t.lines := vector_ext fun n => h 1 _ (.line n) n rfl
  have roles : u.roles = t.roles := h 2 0 .roles
  have channels : u.channels = t.channels := vector_ext fun k => h 3 _ (.channel k) k rfl
  have sensors : u.sensors = t.sensors := vector_ext fun k => h 4 _ (.sensor k) k rfl
  have dials : u.dials = t.dials := vector_ext fun k => h 5 _ (.dial k) k rfl
  have rules : u.rules = t.rules := vector_ext fun m => h 6 _ (.rule m) m rfl
  have lamps : u.lamps = t.lamps := vector_ext fun n => h 7 _ (.lamp n) n rfl
  have doors : u.doors = t.doors := vector_ext fun d => h 8 _ (.door d) d rfl
  obtain ⟨_, _, _, _, _, _, _, _, _⟩ := u
  obtain ⟨_, _, _, _, _, _, _, _, _⟩ := t
  cases general; cases lines; cases roles; cases channels; cases sensors; cases dials; cases rules; cases lamps; cases doors
  rfl

/-- An element that is written with the value of another vector agrees with it, and so do those that agreed. -/
theorem set_shares {α : Type} {n : Nat} {v x : Vector α n} {k : Fin n} {c : α} (own : c = x[k]) (j : Fin n)
    (h : j = k ∨ v[j] = x[j]) : (v.set k c)[j] = x[j] := by
  by_cases here : j = k
  · rw [here, set_same, own]
  · rw [set_other v c here]
    exact h.resolve_left here

theorem set_own {α : Type} {n : Nat} {v : Vector α n} {k : Fin n} {c : α} (h : v.set k c = v) : c = v[k] := by
  rw [← set_same v k c]
  exact congrArg (fun x : Vector α n => x[k]) h

theorem Tables.Replaces.set (h : t.Replaces a i p w) : t.setRecord a i p = some w := by
  cases h <;> simp [Tables.setRecord, finOf_val, *]

/-- A record of `t`, read into any tables, makes them share it and keeps what they share. -/
theorem Tables.Replaces.shares (h : t.Replaces a i p w) (same : w = t) (u : Tables) : ∃ u', u.setRecord a i p = some u' ∧
    u'.Shares t a i ∧ ∀ b j, u.Shares t b j → u'.Shares t b j := by
  cases h
  case general c read =>
    have record : c = t.general := congrArg Tables.general same
    refine ⟨_, (Tables.Replaces.general read).set, record, fun b j keep => ?_⟩
    unfold Tables.Shares at keep ⊢
    split at keep <;> first | exact record | exact keep
  case roles c read =>
    have record : c = t.roles := congrArg Tables.roles same
    refine ⟨_, (Tables.Replaces.roles read).set, record, fun b j keep => ?_⟩
    unfold Tables.Shares at keep ⊢
    split at keep <;> first | exact record | exact keep
  case line n c read =>
    have record := set_own (congrArg Tables.lines same)
    refine ⟨_, (Tables.Replaces.line n read).set, fun m e => set_shares record m (.inl (Fin.ext e)), fun b j keep => ?_⟩
    unfold Tables.Shares at keep ⊢
    split at keep <;> first | exact fun m e => set_shares record m (.inr (keep m e)) | exact keep
  case channel n c read =>
    have record := set_own (congrArg Tables.channels same)
    refine ⟨_, (Tables.Replaces.channel n read).set, fun m e => set_shares record m (.inl (Fin.ext e)), fun b j keep => ?_⟩
    unfold Tables.Shares at keep ⊢
    split at keep <;> first | exact fun m e => set_shares record m (.inr (keep m e)) | exact keep
  case sensor n c read =>
    have record := set_own (congrArg Tables.sensors same)
    refine ⟨_, (Tables.Replaces.sensor n read).set, fun m e => set_shares record m (.inl (Fin.ext e)), fun b j keep => ?_⟩
    unfold Tables.Shares at keep ⊢
    split at keep <;> first | exact fun m e => set_shares record m (.inr (keep m e)) | exact keep
  case dial n c read =>
    have record := set_own (congrArg Tables.dials same)
    refine ⟨_, (Tables.Replaces.dial n read).set, fun m e => set_shares record m (.inl (Fin.ext e)), fun b j keep => ?_⟩
    unfold Tables.Shares at keep ⊢
    split at keep <;> first | exact fun m e => set_shares record m (.inr (keep m e)) | exact keep
  case rule n c read =>
    have record := set_own (congrArg Tables.rules same)
    refine ⟨_, (Tables.Replaces.rule n read).set, fun m e => set_shares record m (.inl (Fin.ext e)), fun b j keep => ?_⟩
    unfold Tables.Shares at keep ⊢
    split at keep <;> first | exact fun m e => set_shares record m (.inr (keep m e)) | exact keep
  case lamp n c read =>
    have record := set_own (congrArg Tables.lamps same)
    refine ⟨_, (Tables.Replaces.lamp n read).set, fun m e => set_shares record m (.inl (Fin.ext e)), fun b j keep => ?_⟩
    unfold Tables.Shares at keep ⊢
    split at keep <;> first | exact fun m e => set_shares record m (.inr (keep m e)) | exact keep
  case door n c read =>
    have record := set_own (congrArg Tables.doors same)
    refine ⟨_, (Tables.Replaces.door n read).set, fun m e => set_shares record m (.inl (Fin.ext e)), fun b j keep => ?_⟩
    unfold Tables.Shares at keep ⊢
    split at keep <;> first | exact fun m e => set_shares record m (.inr (keep m e)) | exact keep

/-- Records of `t`, read one after the other into any tables, give tables that share them. -/
theorem readRecords_shares {t : Tables} (names : List (Nat × Nat))
    (own : ∀ q ∈ names, t.setRecord q.1 q.2 (t.recordBytes q.1 q.2) = some t) (u : Tables) :
    ∃ u', readRecords names (names.flatMap fun q => t.recordBytes q.1 q.2) u = some u' ∧
      (∀ q ∈ names, u'.Shares t q.1 q.2) ∧ ∀ b j, u.Shares t b j → u'.Shares t b j := by
  induction names generalizing u with
  | nil => exact ⟨u, rfl, fun _ mem => absurd mem List.not_mem_nil, fun _ _ keep => keep⟩
  | cons q rest ih =>
    obtain ⟨a, i⟩ := q
    have here := own (a, i) List.mem_cons_self
    have size := (Tables.replaces_of here).reads.2
    obtain ⟨v, set, shares, keeps⟩ := (Tables.replaces_of here).shares rfl u
    obtain ⟨u', read, all, kept⟩ := ih (fun q mem => own q (List.mem_cons_of_mem _ mem)) v
    refine ⟨u', ?_, ?_, fun b j keep => kept b j (keeps b j keep)⟩
    · rw [List.flatMap_cons, readRecords, ← size, List.take_left, List.drop_left, set]
      exact read
    · rintro q mem
      obtain rfl | mem := List.mem_cons.mp mem
      · exact kept _ _ shares
      · exact all q mem

theorem RecordName.mem (h : RecordName a i) : (a, i) ∈ recordNames := by
  have listed (below : a < 9) (n : Nat) (count : recordCount a = some n) (inside : i < n) : (a, i) ∈ recordNames :=
    List.mem_flatMap.mpr ⟨a, List.mem_range.mpr below,
      List.mem_map.mpr ⟨i, List.mem_range.mpr (by rw [count]; exact inside), rfl⟩⟩
  cases h <;> exact listed (by decide) _ rfl (by omega)

theorem imageCheckOk_image (t : Tables) : imageCheckOk t.image = true := by
  have word (n : Nat) : (u16 n).length = 2 := rfl
  have length : t.image.length - 2 = t.imageBody.length := by
    rw [Tables.image, List.length_append, word]
    omega
  have long : 2 ≤ t.image.length := by
    rw [Tables.image, List.length_append, word]
    omega
  unfold imageCheckOk
  dsimp only
  rw [length, Tables.image, List.take_left, List.drop_left, Bool.and_eq_true, Bool.and_eq_true]
  exact ⟨⟨decide_eq_true long, BEq.rfl⟩, rfl⟩

end

/-- Settles O29: the records after the format byte are read one after the other, each into tables that share those
before it. -/
theorem storedImageLoads : Obligations.StoredImageLoads := by
  intro t records cross
  obtain ⟨u, read, shares, -⟩ := readRecords_shares recordNames (fun q mem => (records q mem).1) {}
  obtain rfl : u = t := Tables.eq_of_shares fun a i name => shares (a, i) name.mem
  have checks : (recordNames.all fun q => u.recordOk q.1 q.2) = true := List.all_eq_true.mpr fun q mem => (records q mem).2
  have body : (u.image.take (u.image.length - 2)).drop 1 = recordNames.flatMap fun q => u.recordBytes q.1 q.2 := by
    have length : u.image.length - 2 = u.imageBody.length := by
      rw [Tables.image, List.length_append]
      exact Nat.add_sub_cancel _ _
    rw [length, Tables.image, List.take_left]
    rfl
  unfold tablesOfImage
  dsimp only
  rw [if_pos (imageCheckOk_image u), body, read]
  dsimp only
  rw [checks, cross]
  rfl

end Sys2Proof.Machine
end

section
/-! PROOFS. The field checks (R213) said field by field, and what WRITE_TABLE takes (O28). -/

namespace Sys2Proof.Machine
set_option Elab.async false

theorem within_iff {lo v hi : Nat} : within lo v hi = true ↔ lo ≤ v ∧ v ≤ hi := by
  simp [within]

/-! ### Lines that several slots name -/

section
variable {ι α : Type} {slots : List ι} (all : ∀ j, j ∈ slots) (f : ι → Option α)
include all

/-- No two slots name the same. -/
theorem nodup_named (distinct : slots.Nodup) :
    (slots.filterMap f).Nodup ↔ ∀ j k n, f j = some n → f k = some n → j = k := by
  refine List.pairwise_filterMap.trans ⟨fun h j k n hj hk => ?_, fun h => distinct.imp fun apart x hx y hy same => ?_⟩
  · by_contra apart
    have symmetric : Std.Symm fun j k => ∀ x, f j = some x → ∀ y, f k = some y → x ≠ y :=
      ⟨fun _ _ apart x hx y hy same => apart y hy x hx same.symm⟩
    exact h.forall (all j) (all k) apart n hj n hk rfl
  · subst same
    exact apart (h _ _ x hx hy)

theorem all_named {P : α → Bool} : (slots.filterMap f).all P = true ↔ ∀ j n, f j = some n → P n = true := by
  rw [List.all_eq_true]
  refine ⟨fun h j n e => h n (List.mem_filterMap.mpr ⟨j, all j, e⟩), fun h n mem => ?_⟩
  obtain ⟨j, -, e⟩ := List.mem_filterMap.mp mem
  exact h j n e

end

theorem mem_roles (r : Role) : r ∈ [Role.ackButton, .releaseButton, .override, .parkingBrake, .kneel] := by
  cases r <;> decide

theorem mem_doorSlots (k : DoorSlot) : k ∈ doorSlots := by
  cases k <;> decide

theorem RoleCfg.named_eq (c : RoleCfg) :
    c.named = [Role.ackButton, .releaseButton, .override, .parkingBrake, .kneel].filterMap c.of :=
  (List.filterMap_map (f := c.of) (g := id)).symm ▸ rfl

theorem DoorCfg.named_eq (c : DoorCfg) : c.named = doorSlots.filterMap c.line :=
  (List.filterMap_map (f := c.line) (g := id)).symm ▸ rfl

section
variable (t : Tables)

theorem Tables.isPulse_iff (n : Fin 32) : (!t.isPulse n) = true ↔ (t.lines[n]).fn ≠ .pulse := by
  simp [Tables.isPulse]

/-! ### The checks -/

theorem GeneralCfg.ok_iff (c : GeneralCfg) : c.ok = true ↔
    c.releaseSpeed ≤ 200 ∧ 1 ≤ c.withdrawSpeed ∧ c.withdrawSpeed ≤ 400 ∧ c.releaseSpeed ≤ c.withdrawSpeed ∧
    100 ≤ c.inconsistency ∧ c.inconsistency ≤ 2000 ∧ c.inconsistency % 100 = 0 ∧ 1 ≤ c.agingLimit ∧ c.agingLimit ≤ 100 ∧
    100 ≤ c.hostSilence ∧ c.hostSilence ≤ 2000 ∧ c.lampCheck ≤ 5000 := by
  simp only [GeneralCfg.ok, within_iff, Bool.and_eq_true, decide_eq_true_eq, beq_iff_eq, and_assoc]

theorem LineClass.code_eq_zero (x : LineClass) : x.code = 0 ↔ x = .active := by
  cases x <;> simp [LineClass.code]

/-- A line that is OFF holds zeros. -/
theorem LineCfg.off_iff (c : LineCfg) (off : c.fn = .off) : c = {} ↔
    c.bias = .unbiased ∧ c.w1 = 0 ∧ c.w2 = 0 ∧ c.w3 = 0 ∧ c.w4 = 0 ∧ c.w5 = 0 ∧
    (∀ x ∈ [c.b0, c.b1, c.b2, c.b3, c.b4, c.b5], x.code = 0) ∧ c.debounce = 0 ∧ c.qualify = 0 ∧ c.heal = 0 ∧
    c.suppressed = false ∧ c.unitC1 = false ∧ c.falling = false := by
  cases c
  cases off
  simp [LineClass.code_eq_zero, and_assoc]

theorem LineCfg.ok_iff (c : LineCfg) : c.ok = true ↔
    (c.fn = .off → c.bias = .unbiased ∧ c.w1 = 0 ∧ c.w2 = 0 ∧ c.w3 = 0 ∧ c.w4 = 0 ∧ c.w5 = 0 ∧
      (∀ x ∈ [c.b0, c.b1, c.b2, c.b3, c.b4, c.b5], x.code = 0) ∧ c.debounce = 0 ∧
      c.qualify = 0 ∧ c.heal = 0 ∧ c.suppressed = false ∧ c.unitC1 = false ∧ c.falling = false) ∧
    (c.fn = .switchGnd → c.bias = .pullUp) ∧ (c.fn = .switchBat → c.bias = .pullDown) ∧
    (c.fn = .pulse → c.w1 < c.w2 ∧ c.w2 ≤ 10000 ∧ c.w3 = 0 ∧ c.w4 = 0 ∧ c.w5 = 0 ∧
      (∀ x ∈ [c.b0, c.b1, c.b2, c.b3, c.b4, c.b5], x.code = 0) ∧ c.qualify = 0 ∧ c.heal = 0 ∧ c.suppressed = false) ∧
    (c.fn ≠ .off → c.fn ≠ .pulse → c.w1 < c.w2 ∧ c.w2 < c.w3 ∧ c.w3 < c.w4 ∧ c.w4 < c.w5 ∧
      c.w5 ≤ (if c.fn = .analogVolt then 40000 else 10000) ∧ 1 ≤ c.debounce ∧ c.debounce ≤ 32 ∧
      20 ≤ c.qualify ∧ c.qualify ≤ 2000 ∧ 20 ≤ c.heal ∧ c.heal ≤ 5000) := by
  cases fn : c.fn
  case off =>
    simp only [LineCfg.ok, LineCfg.biasOk, fn, Bool.and_eq_true, beq_iff_eq, LineCfg.off_iff c fn]
    simp
  case pulse =>
    simp only [LineCfg.ok, LineCfg.biasOk, fn, Bool.and_eq_true, beq_iff_eq, decide_eq_true_eq, List.all_eq_true,
      Bool.not_eq_true', and_assoc]
    simp
  all_goals
    simp only [LineCfg.ok, LineCfg.biasOk, fn, Bool.and_eq_true, beq_iff_eq, decide_eq_true_eq, within_iff, and_assoc]
    simp

theorem Tables.rolesOk_iff : t.rolesOk = true ↔
    (∀ (r : Role) (n : Fin 32), t.roles.of r = some n → (t.lines[n]).fn ≠ .pulse) ∧
    ∀ (q r : Role) (n : Fin 32), t.roles.of q = some n → t.roles.of r = some n → q = r := by
  rw [Tables.rolesOk, RoleCfg.named_eq, Bool.and_eq_true, decide_eq_true_eq, nodup_named mem_roles _ (by decide),
    all_named mem_roles, and_comm]
  simp only [t.isPulse_iff]

theorem curvePositionsOk_iff (c : Curve) (pmax : Nat) : curvePositionsOk c pmax = true ↔ ∀ q ∈ c, q.2 ≤ (pmax : Int) := by
  simp only [curvePositionsOk, List.all_eq_true, decide_eq_true_eq]

theorem Tables.channelOk_iff (k : Fin 6) {c : ChannelCfg} (record : c = t.channels[k]) : t.channelOk k = true ↔
    (c.source ≠ .unused → c.emin < c.emax ∧ c.shift ≤ 7) ∧ (c.source = .line → c.input < 32) ∧
    (c.source = .pulse → c.emin ≤ 0 ∧ 0 < c.emax ∧ c.input < 2 ∧ 1 ≤ c.k ∧ 50 ≤ c.pMin ∧ c.pMin ≤ 5000 ∧
      500 ≤ c.standstill ∧ c.standstill ≤ 4000) ∧
    (c.source = .host → 100 ≤ c.feedTimeout ∧ c.feedTimeout ≤ 2000) ∧
    240 ≤ c.pmax ∧ c.pmax ≤ 3840 ∧ 1 ≤ c.smax ∧ c.smax ≤ 24 ∧ ∀ q ∈ t.dials[k], q.2 ≤ (c.pmax : Int) := by
  unfold Tables.channelOk
  rw [← record]
  have fits := curvePositionsOk_iff t.dials[k] c.pmax
  generalize (∀ q ∈ t.dials[k], q.2 ≤ (c.pmax : Int)) = positions at fits
  cases source : c.source <;>
    simp only [source, Bool.and_eq_true, decide_eq_true_eq, within_iff, fits, and_assoc, ne_eq, reduceCtorEq,
      not_true_eq_false, not_false_eq_true, forall_const, false_implies, true_and]
  case pulse =>
    constructor
    · rintro ⟨low, high, shift, rest⟩
      exact ⟨by omega, shift, low, high, rest⟩
    · rintro ⟨-, shift, low, high, rest⟩
      exact ⟨low, high, shift, rest⟩

theorem Tables.dialOk_iff (k : Fin 6) : t.dialOk k = true ↔ ((t.dials[k]).Pairwise fun a b => a.1 < b.1) ∧
    ∀ q ∈ t.dials[k], q.2 ≤ ((t.channels[k]).pmax : Int) := by
  rw [Tables.dialOk, Bool.and_eq_true, increasing_iff, curvePositionsOk_iff]

/-- R84: what a term may name. -/
theorem Tables.termOk_iff (x : Term) : t.termOk x = true ↔
    (match x with
      | .line n _ => (t.lines[n]).fn ≠ .pulse
      | .value _ _ _ _ h => h ≤ 1000
      | .door d test _ flag => (test ≠ .interlock → 1 ≤ d ∧ d ≤ 4) ∧ (test = .flag → flag ≤ 3)
      | .rule _ | .fault _ | .supply _ => True) := by
  cases x
  case line n _ => exact t.isPulse_iff n
  case value => exact decide_eq_true_iff
  case door d test _ flag => cases test <;> simp [Tables.termOk, within_iff]
  all_goals exact iff_of_true rfl trivial

theorem RuleCfg.mem_terms (c : RuleCfg) (x : Term) :
    x ∈ c.terms ↔ c.slot0 = some x ∨ c.slot1 = some x ∨ c.slot2 = some x := by
  simp [RuleCfg.terms, eq_comm]

theorem Tables.ruleOk_iff (m : Fin 64) {c : RuleCfg} (record : c = t.rules[m]) : t.ruleOk m = true ↔
    c.priority ≤ 15 ∧ (c.lamp = none → c.lampNew = .off ∧ c.lampAcked = .off) ∧ ∀ x ∈ c.terms, t.termOk x = true := by
  unfold Tables.ruleOk
  rw [← record]
  simp only [Bool.and_eq_true, Bool.or_eq_true, decide_eq_true_eq, beq_iff_eq, List.all_eq_true]
  cases c.lamp
  case none =>
    simp only [Option.isSome_none, Bool.false_eq_true, false_or, forall_const]
    tauto
  case some => simp

/-- A door set that is not configured has the default record. -/
theorem DoorCfg.blank_iff (c : DoorCfg) (blank : c.configured = false) : c = {} ↔
    (∀ k, c.line k = none) ∧ c.inMask = false ∧ c.openTimeout = 5000 ∧ c.closeTimeout = 8000 ∧ c.lockTimeout = 2000 := by
  have each : (∀ k, c.line k = none) ↔ c.closed = none ∧ c.locked = none ∧ c.openEnd = none ∧ c.edge = none ∧
      c.emergency = none ∧ c.ramp = none := by
    refine ⟨fun h => ⟨h .closed, h .locked, h .openEnd, h .edge, h .emergency, h .ramp⟩, ?_⟩
    rintro ⟨a, b, c, d, e, f⟩ (_ | _ | _ | _ | _ | _) <;> assumption
  rw [each]
  cases c
  cases blank
  simp [and_assoc]

theorem Tables.doorOk_iff (d : Fin 4) {c : DoorCfg} (record : c = t.doors[d]) : t.doorOk d = true ↔
    (c.configured = true → c.closed ≠ none ∧ c.emergency ≠ none ∧
      (∀ (j k : DoorSlot) (n : Fin 32), c.line j = some n → c.line k = some n → j = k) ∧
      (∀ (k : DoorSlot) (n : Fin 32), c.line k = some n → (t.lines[n]).fn ≠ .pulse) ∧
      500 ≤ c.openTimeout ∧ c.openTimeout ≤ 30000 ∧ c.openTimeout % 100 = 0 ∧
      500 ≤ c.closeTimeout ∧ c.closeTimeout ≤ 30000 ∧ c.closeTimeout % 100 = 0 ∧
      100 ≤ c.lockTimeout ∧ c.lockTimeout ≤ 10000 ∧ c.lockTimeout % 100 = 0) ∧
    (c.configured = false → (∀ k, c.line k = none) ∧ c.inMask = false ∧
      c.openTimeout = 5000 ∧ c.closeTimeout = 8000 ∧ c.lockTimeout = 2000) := by
  unfold Tables.doorOk
  rw [← record]
  cases configured : c.configured
  case false =>
    simp only [configured, Bool.false_eq_true, if_false, beq_iff_eq, DoorCfg.blank_iff c configured]
    simp
  case true =>
    simp only [configured, if_true, Bool.and_eq_true, beq_iff_eq, decide_eq_true_eq, within_iff, and_assoc, c.named_eq,
      nodup_named mem_doorSlots _ (by decide), all_named mem_doorSlots, t.isPulse_iff, Option.isSome_iff_ne_none]
    simp

end

/-- R213: a record that is taken. -/
theorem Tables.write_takes {t w : Tables} {a i : Nat} {p : List Byte} (h : t.write a i p = some w) :
    namesRecord a i = true ∧ p.length = recordSize a ∧ w.recordBytes a i = p ∧ w.recordOk a i = true ∧
    ∀ b j, namesRecord b j = true → (b, j) ≠ (a, i) → w.recordBytes b j = t.recordBytes b j := by
  obtain ⟨replaces, ok⟩ := Tables.write_parts h
  obtain ⟨bytes, size⟩ := replaces.reads
  exact ⟨replaces.name.names, size, bytes, ok, fun b j names other => replaces.others (recordName_of names) other⟩

/-- Settles O28: what a record reads as writes its bytes again, and the checks table by table. -/
theorem writtenRecordReadsBack : Obligations.WrittenRecordReadsBack := by
  refine ⟨fun t w a i p h => Tables.write_takes h, fun w => ⟨?general, ?line, ?roles, ?channel, ?sensor, ?dial, ?rule, ?lamp, ?door⟩⟩
  case general => exact w.general.ok_iff
  case line =>
    rintro n c rfl
    rw [Tables.recordOk_line]
    exact (w.lines[n]).ok_iff
  case roles => exact w.rolesOk_iff
  case channel =>
    intro k c record
    rw [Tables.recordOk_channel]
    exact w.channelOk_iff k record
  case sensor =>
    intro k
    rw [Tables.recordOk_sensor]
    exact increasing_iff _
  case dial =>
    intro k
    rw [Tables.recordOk_dial]
    exact w.dialOk_iff k
  case rule =>
    intro m c record
    rw [Tables.recordOk_rule, w.ruleOk_iff m record]
    exact and_congr_right' (and_congr_right' (forall_congr' fun x => imp_congr (c.mem_terms x) (w.termOk_iff x)))
  case lamp =>
    intro n
    rw [Tables.recordOk_lamp]
    exact bne_iff_ne
  case door =>
    intro d c record
    rw [Tables.recordOk_door]
    exact w.doorOk_iff d record

end Sys2Proof.Machine
end

section
/-! PROOFS. What a report makes of the codes of the fault table (R158 to R160). -/

namespace Sys2Proof.Machine
set_option Elab.async false

/-- R156: the entries are of different codes. -/
def State.OneEach (s : State) : Prop := (s.fmy.table.map (·.code)).Nodup

/-- R160: an entry with the codes of a set INACTIVE. -/
def FaultEntry.cleared (codes : FaultCode → Bool) (e : FaultEntry) : FaultEntry :=
  if codes e.code then { e with active := false } else e

section
variable (s : State) (c : FaultCode)

theorem FaultEntry.cleared_code (codes : FaultCode → Bool) (e : FaultEntry) : (e.cleared codes).code = e.code := by
  unfold FaultEntry.cleared
  split <;> rfl

/-! ### Loading -/

theorem State.dirtied_loading (m : Fmy) (n : Fin 48) : (m.dirty n).loading = m.loading := by
  unfold Fmy.dirty
  repeat' split
  all_goals rfl

theorem State.report_loading (a : Bool) : (s.report c a).fmy.loading = s.fmy.loading := by
  have changes (u : State) (i : Nat) (f : FaultEntry → FaultEntry) : (u.changeEntry i f).fmy.loading = u.fmy.loading := by
    unfold State.changeEntry
    split
    · rfl
    · exact State.dirtied_loading _ _
  have removes (u : State) (i : Nat) : (u.removeEntry i).fmy.loading = u.fmy.loading := by
    unfold State.removeEntry
    split
    · rfl
    · exact State.dirtied_loading _ _
  have creates (u : State) (p : Nat) (n : Fin 48) : (u.createEntry c p n).fmy.loading = u.fmy.loading :=
    State.dirtied_loading _ n
  unfold State.report State.handleReport
  dsimp only
  split
  · rfl
  · split
    · unfold State.activeReport
      repeat' split
      · rfl
      · exact changes s _ _
      · exact creates s _ _
      · exact (creates _ _ _).trans (removes s _)
      · rfl
      · rfl
    · unfold State.clearedReport
      repeat' split
      · exact changes s _ _
      · rfl
      · rfl

variable {s}

theorem State.report_eq (a : Bool) (loaded : s.fmy.loading = false) :
    s.report c a = s.handleReport c (c.priority s.tables) a := if_neg (by rw [loaded]; exact Bool.false_ne_true)

/-! ### A CLEARED report -/

/-- R160: a CLEARED report neither makes nor removes an entry. -/
theorem State.reportCleared_length (s : State) : (s.reportCleared c).fmy.table.length = s.fmy.table.length := by
  cases loaded : s.fmy.loading with
  | true =>
    have held : s.reportCleared c = s.modFmy fun m => { m with held := m.held ++ [(c, c.priority s.tables, false)] } :=
      if_pos loaded
    rw [held]
    rfl
  | false =>
    have goes : s.reportCleared c = s.clearedReport c := s.report_eq c false loaded
    rw [goes]
    cases found : s.fmy.position c with
    | none => rw [State.clearedReport_absent (Fmy.position_eq_none_iff.mp found)]
    | some i =>
      obtain ⟨e, h⟩ := Fmy.exists_of_position found
      rw [State.clearedReport_present found h]
      split
      · rw [State.changeEntry_table_set h, List.length_set]
      · rfl

theorem State.reportCleared_absent (loaded : s.fmy.loading = false) (absent : ∀ e ∈ s.fmy.table, e.code ≠ c) :
    s.reportCleared c = s :=
  (s.report_eq c false loaded).trans (State.clearedReport_absent absent)

/-- R160: a CLEARED report makes the entry of its code INACTIVE. -/
theorem State.reportCleared_table (loaded : s.fmy.loading = false) (one : s.OneEach) :
    (s.reportCleared c).fmy.table = s.fmy.table.map (FaultEntry.cleared (· == c)) := by
  have goes : s.reportCleared c = s.clearedReport c := s.report_eq c false loaded
  rw [goes]
  cases found : s.fmy.position c with
  | none =>
    have absent := Fmy.position_eq_none_iff.mp found
    rw [State.clearedReport_absent absent]
    refine (List.map_id'' (fun _ => rfl) _).symm.trans (List.map_congr_left fun e mem => ?_)
    exact (if_neg (by simpa using absent e mem)).symm
  | some i =>
    obtain ⟨e, h⟩ := Fmy.exists_of_position found
    have code := Fmy.code_of_position found h
    obtain ⟨inside, here⟩ := List.getElem?_eq_some_iff.mp h
    have written : (s.clearedReport c).fmy.table = s.fmy.table.set i { e with active := false } := by
      rw [State.clearedReport_present found h]
      split
      case isTrue => exact State.changeEntry_table_set h _
      case isFalse quiet =>
        have same : { e with active := false } = e := by rw [← Bool.eq_false_iff.mpr quiet]
        rw [same, ← here, List.set_getElem_self]
    rw [written]
    refine List.ext_getElem (by simp) fun j low high => ?_
    have within : j < s.fmy.table.length := by simpa using high
    rw [List.getElem_set, List.getElem_map, FaultEntry.cleared]
    split
    case isTrue same =>
      subst same
      rw [here, if_pos (beq_iff_eq.mpr code)]
    case isFalse other =>
      refine (if_neg fun matched => other ?_).symm
      have codes : (s.fmy.table.map (·.code))[i]'(by simpa using inside) = (s.fmy.table.map (·.code))[j]'(by simpa using within) := by
        rw [List.getElem_map, List.getElem_map, here, code]
        exact (beq_iff_eq.mp matched).symm
      exact (List.Nodup.getElem_inj_iff one).mp codes

theorem State.OneEach.of_table {t : State} (h : s.OneEach) (codes : t.fmy.table.map (·.code) = s.fmy.table.map (·.code)) :
    t.OneEach := by
  unfold State.OneEach
  rwa [codes]

theorem State.OneEach.reportCleared (h : s.OneEach) (loaded : s.fmy.loading = false) : (s.reportCleared c).OneEach := by
  refine h.of_table ?_
  rw [State.reportCleared_table c loaded h, List.map_map]
  exact List.map_congr_left fun e _ => e.cleared_code _

/-! ### An ACTIVE report -/

/-- R158, R159: what becomes of the table at an ACTIVE report. -/
theorem State.reportActive_cases (loaded : s.fmy.loading = false) :
    (∃ i e x, s.fmy.table[i]? = some e ∧ e.code = c ∧ x.code = c ∧ x.active = true ∧
      (s.reportActive c).fmy.table = s.fmy.table.set i x) ∨
    (∀ e ∈ s.fmy.table, e.code ≠ c) ∧
      ((∃ l x, (s.reportActive c).fmy.table = l ++ [x] ∧ l.Sublist s.fmy.table ∧ x.code = c ∧ x.active = true) ∨
        (48 ≤ s.fmy.table.length ∧ (s.reportActive c).fmy.table = s.fmy.table)) := by
  have goes : s.reportActive c = s.activeReport c (c.priority s.tables) := s.report_eq c true loaded
  rw [goes]
  cases found : s.fmy.position c with
  | some i =>
    obtain ⟨e, h⟩ := Fmy.exists_of_position found
    have code := Fmy.code_of_position found h
    refine .inl ?_
    rw [State.activeReport_present found h]
    split
    case isTrue active =>
      obtain ⟨_, rfl⟩ := List.getElem?_eq_some_iff.mp h
      exact ⟨i, _, _, h, code, code, active, (List.set_getElem_self _).symm⟩
    case isFalse =>
      refine ⟨i, e, _, h, code, ?_, ?_, State.changeEntry_table_set h _⟩
      · exact code
      · rfl
  | none =>
    have absent := Fmy.position_eq_none_iff.mp found
    refine .inr ⟨absent, ?_⟩
    by_cases room : s.fmy.table.length < 48
    · rw [State.activeReport_room absent room]
      obtain ⟨x, table, -, code, -, active, -⟩ := s.createEntry_new c (c.priority s.tables) (s.fmy.slotFor c)
      exact .inl ⟨_, x, table, List.Sublist.refl _, code, active⟩
    · have full : s.activeReport c (c.priority s.tables) = match candidateFrom s.fmy.table 0 with
          | some (i, e) => if e.priority ≤ c.priority s.tables then
              (s.removeEntry i).createEntry c (c.priority s.tables) e.slot else s.reportLost
          | none => s.reportLost := by
        unfold State.activeReport
        rw [found]
        exact if_neg room
      rw [full]
      cases candidate : candidateFrom s.fmy.table 0 with
      | none => exact .inr ⟨by omega, rfl⟩
      | some best =>
        obtain ⟨i, e⟩ := best
        dsimp only
        split
        case isTrue =>
          obtain ⟨x, table, -, code, -, active, -⟩ := (s.removeEntry i).createEntry_new c (c.priority s.tables) e.slot
          rw [s.removeEntry_table] at table
          exact .inl ⟨_, x, table, List.eraseIdx_sublist _ _, code, active⟩
        case isFalse => exact .inr ⟨by omega, rfl⟩

/-- R158: with room for it, an ACTIVE report leaves an ACTIVE entry of its code. -/
theorem State.reportActive_active (loaded : s.fmy.loading = false) (room : s.fmy.table.length < 48) :
    ∃ e ∈ (s.reportActive c).fmy.table, e.code = c ∧ e.active = true := by
  obtain ⟨i, e, x, h, -, code, active, table⟩ | ⟨-, ⟨l, x, table, -, code, active⟩ | ⟨full, -⟩⟩ := s.reportActive_cases c loaded
  · obtain ⟨inside, -⟩ := List.getElem?_eq_some_iff.mp h
    refine ⟨x, ?_, code, active⟩
    rw [table]
    exact List.mem_iff_getElem.mpr ⟨i, by simpa using inside, List.getElem_set_self _⟩
  · refine ⟨x, ?_, code, active⟩
    rw [table]
    exact List.mem_append_right _ (List.mem_singleton_self x)
  · omega

theorem State.OneEach.reportActive (h : s.OneEach) (loaded : s.fmy.loading = false) : (s.reportActive c).OneEach := by
  obtain ⟨i, e, x, found, was, code, -, table⟩ | ⟨absent, ⟨l, x, table, sub, code, -⟩ | ⟨-, table⟩⟩ :=
    State.reportActive_cases c loaded
  · refine h.of_table ?_
    obtain ⟨inside, rfl⟩ := List.getElem?_eq_some_iff.mp found
    have here : (s.fmy.table.map (·.code))[i]'(by simpa using inside) = x.code := by
      rw [List.getElem_map, was, code]
    rw [table, List.map_set, ← here, List.set_getElem_self]
  · unfold State.OneEach
    rw [table, List.map_append, List.nodup_append]
    refine ⟨h.sublist (sub.map _), List.nodup_singleton _, fun a mem b last => ?_⟩
    obtain ⟨e, there, rfl⟩ := List.mem_map.mp mem
    rw [List.map_singleton, List.mem_singleton] at last
    rw [last, code]
    exact absent e (sub.subset there)
  · exact h.of_table (by rw [table])

/-! ### CLEARED for several codes -/

theorem State.reportAllCleared_loading (l : List FaultCode) (s : State) :
    (s.reportAllCleared l).fmy.loading = s.fmy.loading := by
  induction l generalizing s with
  | nil => rfl
  | cons c l ih => exact (ih _).trans (s.report_loading c false)

theorem State.OneEach.reportAllCleared {s : State} (h : s.OneEach) (loaded : s.fmy.loading = false) (l : List FaultCode) :
    (s.reportAllCleared l).OneEach := by
  induction l generalizing s with
  | nil => exact h
  | cons c l ih => exact ih (h.reportCleared c loaded) ((s.report_loading c false).trans loaded)

theorem FaultEntry.cleared_cleared (p q : FaultCode → Bool) (e : FaultEntry) :
    (e.cleared p).cleared q = e.cleared fun c => p c || q c := by
  unfold FaultEntry.cleared
  by_cases first : p e.code = true <;> by_cases second : q e.code = true <;> simp [first, second]

theorem State.reportAllCleared_table (l : List FaultCode) {s : State} (loaded : s.fmy.loading = false) (one : s.OneEach) :
    (s.reportAllCleared l).fmy.table = s.fmy.table.map (FaultEntry.cleared l.contains) := by
  induction l generalizing s with
  | nil => exact (List.map_id'' (fun _ => rfl) _).symm
  | cons c l ih =>
    refine (ih (s := s.reportCleared c) ((s.report_loading c false).trans loaded) (one.reportCleared c loaded)).trans ?_
    rw [State.reportCleared_table c loaded one, List.map_map]
    refine List.map_congr_left fun e _ => ?_
    rw [Function.comp, FaultEntry.cleared_cleared]
    refine congrArg (FaultEntry.cleared · e) (funext fun x => ?_)
    rw [List.contains_cons]

end

end Sys2Proof.Machine
end

section
/-! PROOFS. A sample that changes a line's logical value: the state that its consumers find (R27). -/

namespace Sys2Proof.Machine
set_option Elab.async false

section
variable {s : State} {n : Fin 32} {k : LineClass}

/-- The reports of a walk, one after the other; a class that is no fault makes CLEARED ones only. -/
theorem State.walkReports_induct (P : State → Prop) (base : P s)
    (step : ∀ u c a, (a = true → k.symptom ≠ none) → P u → P (u.report c a)) : P (s.walkReports n k) := by
  have all (l : List FaultCode) (u : State) (h : P u) : P (u.reportAllCleared l) := by
    induction l generalizing u with
    | nil => exact h
    | cons c l ih => exact ih _ (step u c false nofun h)
  unfold State.walkReports
  split
  · split
    · exact all _ s base
    · exact base
  · split
    · exact all _ s base
    · exact base
  · split
    · exact base
    · refine step _ _ true (fun _ e => ?_) ?_
      · simp_all
      · unfold State.clearFormer
        split
        · exact all _ s base
        · exact step s _ false nofun base
        · exact base
  · split
    · exact base
    · refine step _ _ true (fun _ e => ?_) ?_
      · simp_all
      · unfold State.clearFormer
        split
        · exact all _ s base
        · exact step s _ false nofun base
        · exact base
  · exact base

end

/-- The state `u` in which a line has its new logical value and no consumer has taken it. -/
structure HandsOn (n : Fin 32) (v : Logical) (s u : State) : Prop where
  value : u.logical n = v
  others : ∀ j, j ≠ n → u.logical j = s.logical j
  only : OnlyChanges [.now, .sched, .hlm, .fmy, .cursor, .attention] s u
  counters : u.fmy.counters = s.fmy.counters
  loading : u.fmy.loading = s.fmy.loading
  codes : s.fmy.loading = false → s.OneEach → u.OneEach
  room : v = .active → u.fmy.table.length = s.fmy.table.length

theorem logicalOf_active {k : LineClass} (h : logicalOf (some k) = .active) : k = .active := by
  cases k <;> first | rfl | cases h

/-- R25 to R27: the sample is taken, and the consumers of the line follow. -/
theorem State.ChangesTo.handsOn {s : State} {n : Fin 32} {mv : Nat} {v : Logical} (h : s.ChangesTo n mv v) : ∃ u,
    exec (.lineSample n mv) s = .next ((u.doorLineChange n v).roleChange n (s.logical n) v) ∧ HandsOn n v s u := by
  obtain ⟨live, ⟨started, woken, supply⟩, ⟨k, ⟨⟨classified, vb, measured, positive, class_⟩, due, new⟩, rfl⟩, changed⟩ := h
  let r := s.atLineSample n
  have reached : OnlyChanges [.now, .sched] s r := (Advances.atMoment (l := [.sched]) s _ _).only
  obtain ⟨walks, only⟩ := (r.classify_spec n (mv := mv) (k := k) measured positive rfl class_).1 ⟨due, new⟩
  generalize after : r.classify n mv = u at walks only
  have value : u.logical n = logicalOf (some k) := by rw [State.logical, walks.own, LineRec.walked_eq]
  have awake : (s.mode != .sleep) = true := bne_iff_ne.mpr woken
  have scanned : s.scanned n = true := by rw [State.scanned, awake, classified, Bool.true_and, Bool.or_true]
  have sample : r.scanSample n mv = r.sampleLine n mv := (if_neg supply).trans (if_neg started)
  have handed : r.sampleLine n mv = (u.doorLineChange n (logicalOf (some k))).roleChange n (s.logical n) (logicalOf (some k)) := by
    rw [State.sampleLine, after, State.handOn]
    rw [value]
    exact if_neg (Ne.symm changed)
  refine ⟨u, ?_, value, fun j other => ?_, reached.andThen only, ?_, ?_, fun loaded one => ?_, fun active => ?_⟩
  · rw [exec_runs _ s rfl live]
    exact congrArg _ ((if_pos scanned).trans (sample.trans handed))
  · exact congrArg (fun q : LineRec => logicalOf q.accepted) (walks.others j other)
  · rw [walks.fmy]
    exact State.walkReports_induct (fun w => w.fmy.counters = s.fmy.counters) rfl
      fun w c a _ same => (w.report_counters c a).trans same
  · rw [walks.fmy]
    exact State.walkReports_induct (fun w => w.fmy.loading = s.fmy.loading) rfl
      fun w c a _ same => (w.report_loading c a).trans same
  · have both := State.walkReports_induct (s := r) (n := n) (k := k) (fun w => w.fmy.loading = false ∧ w.OneEach)
      ⟨loaded, one⟩ fun w c a _ ⟨loaded, one⟩ => ⟨(w.report_loading c a).trans loaded, by
        cases a
        · exact one.reportCleared c loaded
        · exact one.reportActive c loaded⟩
    exact both.2.of_table (by rw [walks.fmy])
  · rw [walks.fmy]
    refine State.walkReports_induct (fun w => w.fmy.table.length = s.fmy.table.length) rfl fun w c a reports same => ?_
    cases a
    · exact (State.reportCleared_length c w).trans same
    · rw [logicalOf_active active] at reports
      exact absurd rfl (reports rfl)

namespace HandsOn

variable {n : Fin 32} {v : Logical} {s u : State}

theorem tables (h : HandsOn n v s u) : u.tables = s.tables := h.only.same .tables

theorem door (h : HandsOn n v s u) (d : Fin 4) : u.door d = s.door d := h.only.door_eq d

theorem counter (h : HandsOn n v s u) (c : Fin 12) : u.counter c = s.counter c :=
  congrArg (fun v : Vector Nat 12 => v[c]) h.counters

/-- The speed and what is compared with it, but for the parking brake. -/
theorem above (h : HandsOn n v s u) : u.aboveWithdraw = s.aboveWithdraw := by
  have tables := h.tables
  simp only [State.aboveWithdraw, State.speed, State.speedChannel, State.channelCfg, h.only.knownE, tables]

end HandsOn

end Sys2Proof.Machine
end

section
/-! PROOFS. What the changed value of a line does where one role names it (R149, R150, R146, R117, R13). -/

namespace Sys2Proof.Machine
set_option Elab.async false

/-! ### The one consumer of a role line -/

section
variable {s : State} {n : Fin 32}

theorem State.roleChange_kneel (named : s.tables.roles.kneel = some n) (roles : s.RolesAmong n [.kneel]) (x v : Logical) :
    s.roleChange n x v = s.evalInterlock := by
  have other : s.tables.roles.override ≠ some n := fun e => absurd (roles .override e) (by decide)
  have first : s.interlockRoleChange n v = s.evalInterlock := by
    unfold State.interlockRoleChange
    dsimp only
    rw [if_pos named, if_neg other]
  rw [State.roleChange, first]
  exact (roles.of_tables (s.evalInterlock_only.same .tables)).buttonRoleChange (by decide) (by decide) (by decide) _

theorem State.roleChange_override (named : s.tables.roles.override = some n) (roles : s.RolesAmong n [.override]) (x v : Logical) :
    s.roleChange n x v = s.overrideChange v := by
  have other : s.tables.roles.kneel ≠ some n := fun e => absurd (roles .kneel e) (by decide)
  have first : s.interlockRoleChange n v = s.overrideChange v := by
    unfold State.interlockRoleChange
    dsimp only
    rw [if_neg other, if_pos named]
  rw [State.roleChange, first]
  exact (roles.of_tables ((s.overrideChange_only v).same .tables)).buttonRoleChange (by decide) (by decide) (by decide) _

/-- R27: a press edge is a change from INACTIVE to ACTIVE. -/
def pressEdge (x v : Logical) : Bool := x == .inactive && v == .active

theorem pressEdge_iff {x v : Logical} : pressEdge x v = true ↔ x = .inactive ∧ v = .active := by
  cases x <;> cases v <;> decide

theorem State.roleChange_release (named : s.tables.roles.releaseButton = some n) (roles : s.RolesAmong n [.releaseButton])
    (x v : Logical) : s.roleChange n x v = if pressEdge x v = true then s.releaseButton else s := by
  have brake : s.tables.roles.parkingBrake ≠ some n := fun e => absurd (roles .parkingBrake e) (by decide)
  have ack : ¬(s.tables.roles.ackButton = some n ∧ pressEdge x v = true) := fun e => absurd (roles .ackButton e.1) (by decide)
  have press : (s.tables.roles.releaseButton = some n ∧ pressEdge x v = true) ↔ pressEdge x v = true := and_iff_right named
  rw [State.roleChange, roles.interlockRoleChange (by decide) (by decide)]
  unfold State.buttonRoleChange
  dsimp only
  rw [if_neg brake]
  refine (if_neg ack).trans (if_congr press rfl rfl)

theorem State.roleChange_brake (named : s.tables.roles.parkingBrake = some n) (roles : s.RolesAmong n [.parkingBrake])
    (x v : Logical) : s.roleChange n x v = s.leaveWorkshopIfMoving := by
  have release : ¬(s.tables.roles.releaseButton = some n ∧ pressEdge x v = true) :=
    fun e => absurd (roles .releaseButton e.1) (by decide)
  have ack : ¬(s.tables.roles.ackButton = some n ∧ pressEdge x v = true) := fun e => absurd (roles .ackButton e.1) (by decide)
  rw [State.roleChange, roles.interlockRoleChange (by decide) (by decide)]
  unfold State.buttonRoleChange
  dsimp only
  refine (if_neg ack).trans ((if_pos named).trans ?_)
  exact congrArg State.leaveWorkshopIfMoving (if_neg release)

theorem State.roleChange_ack (named : s.tables.roles.ackButton = some n) (roles : s.RolesAmong n [.ackButton])
    (x v : Logical) : s.roleChange n x v = if pressEdge x v = true then s.ackButton else s := by
  have brake : s.tables.roles.parkingBrake ≠ some n := fun e => absurd (roles .parkingBrake e) (by decide)
  have release : ¬(s.tables.roles.releaseButton = some n ∧ pressEdge x v = true) :=
    fun e => absurd (roles .releaseButton e.1) (by decide)
  have press : (s.tables.roles.ackButton = some n ∧ pressEdge x v = true) ↔ pressEdge x v = true := and_iff_right named
  rw [State.roleChange, roles.interlockRoleChange (by decide) (by decide)]
  unfold State.buttonRoleChange
  dsimp only
  rw [if_neg brake]
  have kept : (if s.tables.roles.releaseButton = some n ∧ pressEdge x v = true then s.releaseButton else s) = s := if_neg release
  refine Eq.trans ?_ (if_congr press rfl rfl)
  exact congrArg (fun w : State => if s.tables.roles.ackButton = some n ∧ pressEdge x v = true then w.ackButton else w) kept

end

/-! ### The interlock (R149, R150) -/

section
variable (s : State)

theorem Interlock.evaluated_eq (i : Interlock) (b : Bool) : i.evaluated b = (match i with
    | .held => if b then .held else .delay
    | .delay => if b then .held else .delay
    | .free => if b then .held else .free
    | x => x) := by
  cases i <;> cases b <;> rfl

/-- R149: an evaluation moves the interlock alone. -/
theorem State.evalInterlock_spec : s.evalInterlock.dmn.doors = s.dmn.doors ∧
    s.evalInterlock.anyCondition = s.anyCondition ∧
    s.evalInterlock.dmn.interlock = s.dmn.interlock.evaluated s.evalInterlock.anyCondition := by
  have conditions : s.evalInterlock.anyCondition = s.anyCondition :=
    s.evalInterlock_only.anyCondition_eq fun d => by rw [State.evalInterlock_door]; exact ⟨rfl, rfl⟩
  refine ⟨?_, conditions, by rw [conditions]; exact s.evalInterlock_interlock⟩
  obtain ⟨e, -⟩ | ⟨delay, e⟩ := s.evalInterlock_cases <;> rw [e]
  rw [s.setInterlock_dmn]

/-- R150: the beginning of an override episode. -/
theorem State.beginOverride_spec : s.beginOverride.dmn = { s.dmn with interlock := .overridden, delay := .stopped } ∧
    s.beginOverride.counter overridePlace = min (s.counter overridePlace + 1) counterMax ∧
    s.beginOverride.lif.attention.has .door = true ∧
    (s.fmy.loading = false → s.fmy.table.length < 48 → ∃ e ∈ s.beginOverride.fmy.table, e.code = .override ∧ e.active = true) := by
  let u := s.setInterlock .overridden .stopped
  let w := (u.bump overridePlace).attend .door
  have fmy : u.fmy = s.fmy := (s.setInterlock_only _ _).same .fmy
  have counted : w.counter overridePlace = min (s.counter overridePlace + 1) counterMax := by
    refine (u.bump_counter overridePlace overridePlace).trans ?_
    rw [if_pos rfl, State.counter, fmy]
    rfl
  have kept : w.fmy.loading = s.fmy.loading ∧ w.fmy.table = s.fmy.table := by
    constructor
    · exact (congrArg Fmy.loading fmy :)
    · exact (congrArg Fmy.table fmy :)
  have reported : s.beginOverride = w.reportActive .override := rfl
  rw [reported]
  refine ⟨?_, ?_, ?_, fun loaded room => ?_⟩
  · refine ((w.reportActive_only _).same .dmn).trans ?_
    exact s.setInterlock_dmn _ _
  · have counters : (w.reportActive .override).fmy.counters = w.fmy.counters := w.report_counters _ true
    rw [State.counter, counters]
    exact counted
  · exact (w.reportActive_raises _).keeps .door (Attention.has_raise (u.bump overridePlace).lif.attention .door)
  · exact State.reportActive_active _ (kept.1.trans loaded) (by rw [kept.2]; exact room)

/-- R150: the end of an override episode. -/
theorem State.endOverride_spec : s.endOverride.dmn.doors = s.dmn.doors ∧
    s.endOverride.dmn.interlock = (if s.endOverride.anyCondition then .held else .free) ∧
    s.endOverride.dmn.delay = .stopped ∧ s.endOverride.lif.attention.has .door = true ∧
    s.endOverride.fmy = (s.reportCleared .override).fmy := by
  let w := (s.reportCleared .override).attend .door
  have before : w.dmn = s.dmn := (s.reportCleared_only _).same .dmn
  have raised : w.lif.attention.has .door = true := Attention.has_raise (s.reportCleared .override).lif.attention .door
  have fmy : w.fmy = (s.reportCleared .override).fmy := rfl
  have goes : s.endOverride = w.setInterlock (if w.anyCondition then .held else .free) .stopped := by
    have cases_ : s.endOverride = if w.anyCondition then w.setInterlock .held .stopped else w.setInterlock .free .stopped := rfl
    rw [cases_]
    split <;> rfl
  generalize w = w at before raised fmy goes
  have conditions : s.endOverride.anyCondition = w.anyCondition := by
    rw [goes]
    refine (w.setInterlock_only _ _).anyCondition_eq fun d => ?_
    rw [State.door, State.setInterlock_dmn]
    exact ⟨rfl, rfl⟩
  rw [conditions, goes, State.setInterlock_dmn, before]
  refine ⟨rfl, rfl, rfl, (w.setInterlock_raises _ _).keeps .door raised, ?_⟩
  exact ((w.setInterlock_only _ _).same .fmy).trans fmy

end

section
variable {n : Fin 32} {v : Logical} {s u : State}

theorem HandsOn.dmn (h : HandsOn n v s u) : u.dmn = s.dmn := h.only.same .dmn

theorem HandsOn.wev (h : HandsOn n v s u) : u.wev = s.wev := h.only.same .wev

/-- R149. -/
theorem HandsOn.kneel (h : HandsOn n v s u) : u.evalInterlock.dmn.doors = s.dmn.doors ∧
    u.evalInterlock.dmn.interlock = (match s.dmn.interlock with
      | .held => if u.evalInterlock.anyCondition then .held else .delay
      | .delay => if u.evalInterlock.anyCondition then .held else .delay
      | .free => if u.evalInterlock.anyCondition then .held else .free
      | x => x) ∧
    OnlyChanges [.now, .sched, .hlm, .dmn, .fmy, .cursor, .attention] s u.evalInterlock := by
  obtain ⟨doors, -, interlock⟩ := u.evalInterlock_spec
  rw [h.dmn] at doors interlock
  exact ⟨doors, interlock.trans (Interlock.evaluated_eq _ _), h.only.andThen u.evalInterlock_only⟩

/-- R150: what the OVERRIDE line does in each state of the interlock. -/
theorem HandsOn.override (h : HandsOn n v s u) :
    (v = .active → s.dmn.interlock = .held ∨ s.dmn.interlock = .delay ∨ s.dmn.interlock = .free →
      u.overrideChange v = u.beginOverride) ∧
    (v ≠ .active → s.dmn.interlock = .overridden → u.overrideChange v = u.endOverride) ∧
    (s.dmn.interlock = .forced ∨ (v = .active ↔ s.dmn.interlock = .overridden) → u.overrideChange v = u) := by
  rw [← h.dmn]
  unfold State.overrideChange
  refine ⟨fun active some => ?_, fun other overridden => ?_, fun stays => ?_⟩
  · obtain e | e | e := some <;> rw [e] <;> exact if_pos active
  · rw [overridden]
    exact if_neg other
  · cases e : u.dmn.interlock
    case forced => rfl
    case overridden =>
      rw [e] at stays
      exact if_pos ((stays.resolve_left nofun).mpr rfl)
    all_goals
      rw [e] at stays
      refine if_neg fun active => ?_
      exact absurd ((stays.resolve_left nofun).mp active) nofun

end

end Sys2Proof.Machine
end

section
/-! PROOFS. The two buttons at a press edge (R117, R146). -/

namespace Sys2Proof.Machine
set_option Elab.async false

/-! ### The RELEASE_BUTTON (R146) -/

/-- Whether a door set is in the button mask. -/
def State.masked (s : State) (d : Fin 4) : Bool := (s.doorCfg d).configured && (s.doorCfg d).inMask

section
variable (s : State)

theorem State.mem_buttonMask (d : Fin 4) : d ∈ s.buttonMask ↔ s.masked d = true := by
  simp [State.buttonMask, State.masked]

theorem State.masked_iff (d : Fin 4) : s.masked d = true ↔ (s.doorCfg d).configured = true ∧ (s.doorCfg d).inMask = true :=
  Bool.and_eq_true_iff

variable {s}

theorem State.releaseButton_idle (none : ∀ d, s.masked d = false) : s.releaseButton = s := by
  have empty : s.buttonMask.isEmpty = true := by
    rw [List.isEmpty_iff, List.eq_nil_iff_forall_not_mem]
    intro d mem
    rw [s.mem_buttonMask, none d] at mem
    cases mem
  exact if_pos empty

/-- What a press edge does: it withdraws where the mask has a grant, else grants where a release stands, else is
refused. -/
theorem State.releaseButton_press (some : ∃ d, s.masked d = true) : s.releaseButton =
    if ∃ d, s.masked d = true ∧ (s.door d).grant = true then s.grantAll s.buttonMask false
    else if s.mode.isRunning = true ∧ s.standing = true ∧ s.aboveWithdraw = false ∧
        ∀ d, s.masked d = true → (s.door d).st ≠ .emergency then s.grantAll s.buttonMask true
    else s.attend .door := by
  have full : ¬s.buttonMask.isEmpty = true := by
    obtain ⟨d, masked⟩ := some
    rw [List.isEmpty_iff]
    exact List.ne_nil_of_mem ((s.mem_buttonMask d).mpr masked)
  have granted : (s.buttonMask.any fun d => (s.door d).grant) = true ↔ ∃ d, s.masked d = true ∧ (s.door d).grant = true := by
    simp only [List.any_eq_true, s.mem_buttonMask]
  have stands : (s.mode.isRunning && s.releaseStanding s.buttonMask) = true ↔ s.mode.isRunning = true ∧ s.standing = true ∧
      s.aboveWithdraw = false ∧ ∀ d, s.masked d = true → (s.door d).st ≠ .emergency := by
    simp only [State.releaseStanding, Bool.and_eq_true, Bool.not_eq_true', List.all_eq_true, s.mem_buttonMask, bne_iff_ne,
      and_assoc]
  unfold State.releaseButton
  dsimp only
  rw [if_neg full]
  exact if_congr granted rfl (if_congr stands rfl rfl)

/-- What the grants are after a change of the mask to `g`, and what the outputs. -/
theorem State.grantButton_door (g : Bool) (d : Fin 4) : (s.grantAll s.buttonMask g).door d =
    if s.masked d = true then s.regranted g (s.door d) else s.door d := by
  rw [State.grantAll_door]
  exact if_congr (s.mem_buttonMask d) rfl rfl

end

section
variable {n : Fin 32} {v : Logical} {s u : State}

theorem HandsOn.masked (h : HandsOn n v s u) (d : Fin 4) : u.masked d = s.masked d := by
  rw [State.masked, State.masked, State.doorCfg, State.doorCfg, h.tables]

theorem HandsOn.mode (h : HandsOn n v s u) : u.mode = s.mode := congrArg Mctl.mode (h.only.same .mctl)

/-- R59: where the line is not the parking brake's, STANDING stays. -/
theorem HandsOn.standing (h : HandsOn n v s u) (brake : s.tables.roles.parkingBrake ≠ some n) : u.standing = s.standing := by
  have tables := h.tables
  have value : u.roleValue .parkingBrake = s.roleValue .parkingBrake := by
    rw [State.roleValue, State.roleValue, tables, RoleCfg.of]
    cases named : s.tables.roles.parkingBrake with
    | none => rfl
    | some j =>
      rw [named] at brake
      exact congrArg some (h.others j fun e => brake (congrArg some e))
  simp only [State.standing, State.speed, State.speedChannel, State.channelCfg, h.only.knownE, tables, value]

/-- R146: a press edge where the mask has a grant withdraws every grant of the mask. -/
theorem HandsOn.withdraws (h : HandsOn n v s u) (granted : ∃ d, s.masked d = true ∧ (s.door d).grant = true) (d : Fin 4) :
    (u.releaseButton.door d).grant = ((s.door d).grant && !s.masked d) ∧
    ((s.door d).grant = true → (u.releaseButton.door d).grant = false → (u.releaseButton.door d).output = false) := by
  have here : ∃ d, u.masked d = true ∧ (u.door d).grant = true := by simpa only [h.masked, h.door] using granted
  have goes : u.releaseButton = u.grantAll u.buttonMask false := by
    rw [State.releaseButton_press (here.imp fun _ e => e.1), if_pos here]
  rw [goes, State.grantButton_door, h.masked, h.door]
  cases masked : s.masked d
  · rw [if_neg Bool.false_ne_true]
    exact ⟨(Bool.and_true _).symm, fun on off => absurd (on.symm.trans off) (by decide)⟩
  · rw [if_pos rfl, State.regranted_grant]
    refine ⟨(Bool.and_false _).symm, fun on _ => ?_⟩
    rw [State.regranted, if_neg (by rw [on]; decide)]
    rfl

/-- R146: a press edge where the mask has no grant and a release stands grants every set of the mask. -/
theorem HandsOn.grants (h : HandsOn n v s u) (brake : s.tables.roles.parkingBrake ≠ some n)
    (some : ∃ d, s.masked d = true) (none : ∀ d, s.masked d = true → (s.door d).grant = false)
    (running : s.mode.isRunning = true) (standing : s.standing = true) (slow : s.aboveWithdraw = false)
    (calm : ∀ d, s.masked d = true → (s.door d).st ≠ .emergency) :
    (∀ d, (u.releaseButton.door d).grant = ((s.door d).grant || s.masked d) ∧
      ((s.door d).grant = false → (u.releaseButton.door d).grant = true → (u.releaseButton.door d).output = true)) ∧
    u.releaseButton.dmn.interlock = s.dmn.interlock.evaluated true := by
  have some' : ∃ d, u.masked d = true := by simpa only [h.masked] using some
  have none' : ¬∃ d, u.masked d = true ∧ (u.door d).grant = true := by
    rintro ⟨d, masked, grant⟩
    rw [h.masked] at masked
    rw [h.door, none d masked] at grant
    cases grant
  have stands : u.mode.isRunning = true ∧ u.standing = true ∧ u.aboveWithdraw = false ∧
      ∀ d, u.masked d = true → (u.door d).st ≠ .emergency := by
    simpa only [h.mode, h.standing brake, h.above, h.masked, h.door] using ⟨running, standing, slow, calm⟩
  have goes : u.releaseButton = u.grantAll u.buttonMask true := by
    rw [State.releaseButton_press some', if_neg none', if_pos stands]
  rw [goes]
  refine ⟨fun d => ?_, ?_⟩
  · rw [State.grantButton_door, h.masked, h.door]
    cases masked : s.masked d
    · rw [if_neg Bool.false_ne_true]
      exact ⟨(Bool.or_false _).symm, fun off on => absurd (off.symm.trans on) (by decide)⟩
    · rw [if_pos rfl, State.regranted_grant]
      refine ⟨(Bool.or_true _).symm, fun off _ => ?_⟩
      have quiet : ((s.door d).st != .emergency) = true := bne_iff_ne.mpr (calm d masked)
      rw [State.regranted, if_neg (by rw [off]; decide), h.above, slow, h.mode, running, quiet]
      rfl
  · obtain ⟨d, masked⟩ := some'
    have mem := (u.mem_buttonMask d).mpr masked
    have condition : (u.grantAll u.buttonMask true).anyCondition = true := by
      refine State.anyCondition_of_grant (d := d) ?_
      rw [State.grantButton_door, if_pos masked, State.regranted_grant]
    have change : ∃ d ∈ u.buttonMask, (u.door d).grant ≠ true := ⟨d, mem, fun grant => none' ⟨d, masked, grant⟩⟩
    rw [u.grantAll_interlock _ change (.inr condition), condition, h.dmn]

/-- R146: a press edge that grants nothing is refused. -/
theorem HandsOn.refuses (h : HandsOn n v s u) (brake : s.tables.roles.parkingBrake ≠ some n)
    (some : ∃ d, s.masked d = true) (none : ∀ d, s.masked d = true → (s.door d).grant = false)
    (falls : s.mode.isRunning = false ∨ s.standing = false ∨ s.aboveWithdraw = true ∨
      ∃ d, s.masked d = true ∧ (s.door d).st = .emergency) : u.releaseButton = u.attend .door := by
  have some' : ∃ d, u.masked d = true := by simpa only [h.masked] using some
  have none' : ¬∃ d, u.masked d = true ∧ (u.door d).grant = true := by
    rintro ⟨d, masked, grant⟩
    rw [h.masked] at masked
    rw [h.door, none d masked] at grant
    cases grant
  rw [State.releaseButton_press some', if_neg none', if_neg]
  simp only [h.mode, h.standing brake, h.above, h.masked, h.door]
  rintro ⟨running, standing, slow, calm⟩
  obtain e | e | e | ⟨d, masked, e⟩ := falls
  · rw [running] at e; cases e
  · rw [standing] at e; cases e
  · rw [slow] at e; cases e
  · exact calm d masked e

/-- R145, R147: every press edge that a mask answers sets attention cause DOOR. -/
theorem State.releaseButton_attends (some : ∃ d, u.masked d = true) : u.releaseButton.lif.attention.has .door = true := by
  rw [State.releaseButton_press some]
  split
  case isTrue granted =>
    obtain ⟨d, masked, grant⟩ := granted
    exact State.grantAll_raises_door _ _ ⟨d, (u.mem_buttonMask d).mpr masked, by rw [grant]; decide⟩
  case isFalse none =>
    split
    · obtain ⟨d, masked⟩ := some
      exact State.grantAll_raises_door _ _ ⟨d, (u.mem_buttonMask d).mpr masked, fun grant => none ⟨d, masked, grant⟩⟩
    · exact Attention.has_raise u.lif.attention .door

/-! ### The ACK_BUTTON (R117) -/

/-- R104: the record that an acknowledgement leaves, taken or not. -/
def RuleRec.answered (l : Latch) (r : RuleRec) : RuleRec :=
  match r.st, l with
  | .activeNew, _ => { r with st := .activeAck, reminder := 0 }
  | .latchedNew, .untilIgnition => { r with st := .latchedAck }
  | .latchedNew, .untilAck => { r.toOff with mark := false }
  | _, _ => r

theorem State.ackRule_answers (s : State) (m : Fin 64) :
    ((s.ackRule m).rule m = (s.rule m).answered (s.ruleCfg m).latch ∧ (∀ j, j ≠ m → (s.ackRule m).rule j = s.rule j) ∧
      (s.ackRule m).wev.seq = s.wev.seq) ∧
    (((s.ackRule m).rule m).st ≠ (s.rule m).st → (s.ackRule m).lif.attention.warn = true ∧
      ((s.ruleCfg m).popup = true → listed (s.ackRule m).pru.list m = false)) := by
  cases taken : s.ackTaken m with
  | false =>
    rw [s.ackRule_refused m taken]
    refine ⟨⟨?_, fun _ _ => rfl, rfl⟩, fun other => absurd rfl other⟩
    unfold State.ackTaken at taken
    unfold RuleRec.answered
    cases st : (s.rule m).st <;> simp only [st, Bool.true_eq_false, bne_eq_false_iff_eq] at taken ⊢
    rw [taken]
  | true =>
    obtain ⟨wev, warn, popup⟩ := s.ackRule_effect m taken
    refine ⟨⟨?_, fun j other => ?_, ?_⟩, fun _ => ⟨warn, popup⟩⟩
    · have record : (s.ackRule m).rule m = (s.rule m).acknowledged (s.ruleCfg m).latch :=
        (congrArg (fun w : Wev => w.rules[m]) wev).trans (s.modRule_same m _)
      rw [record]
      unfold RuleRec.acknowledged RuleRec.answered
      obtain st | ⟨st, latch⟩ := (s.ackTaken_iff m).mp taken
      · rw [st]
      · rw [st]
        cases kind : (s.ruleCfg m).latch
        · exact absurd kind latch
        · rfl
        · rfl
    · exact (congrArg (fun w : Wev => w.rules[j]) wev).trans (s.modRule_other m j _ (Ne.symm other))
    · exact (congrArg Wev.seq wev :)

end

end Sys2Proof.Machine
end

section
/-! PROOFS. A changed line in one slot of one door set (R134 to R141, R144, R149). -/

namespace Sys2Proof.Machine
set_option Elab.async false

/-! ### The one slot -/

section
variable {s : State} {n : Fin 32} {d : Fin 4} {k : DoorSlot}

/-- One slot of one configured door set names a line, and no other does. -/
structure State.NamedOnce (s : State) (n : Fin 32) (d : Fin 4) (k : DoorSlot) : Prop where
  configured : (s.doorCfg d).configured = true
  named : (s.doorCfg d).line k = some n
  only : ∀ e j, (s.doorCfg e).configured = true → (s.doorCfg e).line j = some n → e = d ∧ j = k

theorem State.NamedOnce.of_tables {t : State} (h : s.NamedOnce n d k) (tables : t.tables = s.tables) : t.NamedOnce n d k := by
  obtain ⟨configured, named, only⟩ := h
  unfold State.doorCfg at configured named only
  rw [← tables] at configured named only
  exact ⟨configured, named, only⟩

theorem State.NamedOnce.slots (h : s.NamedOnce n d k) : s.slotsNaming d n = [k] := by
  have same (j : DoorSlot) : ((s.doorCfg d).line j == some n) = decide (j = k) := by
    refine Bool.eq_iff_iff.mpr ?_
    rw [beq_iff_eq, decide_eq_true_iff]
    exact ⟨fun e => (h.only d j h.configured e).2, fun e => e ▸ h.named⟩
  rw [State.slotsNaming, if_pos h.configured]
  simp only [same]
  cases k <;> decide

theorem State.NamedOnce.no_slots (h : s.NamedOnce n d k) {e : Fin 4} (other : e ≠ d) : s.slotsNaming e n = [] := by
  unfold State.slotsNaming
  split
  case isTrue configured =>
    exact List.filter_eq_nil_iff.mpr fun j _ named => other (h.only e j configured (beq_iff_eq.mp named)).1
  case isFalse => rfl

/-- R27: only that slot takes the new value. -/
theorem State.NamedOnce.doorLineChange (h : s.NamedOnce n d k) (v : Logical) :
    s.doorLineChange n v = s.doorSlotChange d v k := by
  let turn (s : State) (e : Fin 4) : State := (s.slotsNaming e n).foldl (fun s k => s.doorSlotChange e v k) s
  have passes (l : List (Fin 4)) (u : State) (h : u.NamedOnce n d k) (out : d ∉ l) : l.foldl turn u = u := by
    induction l with
    | nil => rfl
    | cons e l ih =>
      obtain ⟨here, there⟩ := not_or.mp (mt List.mem_cons.mpr out)
      have still : turn u e = u := by
        change (u.slotsNaming e n).foldl _ u = u
        rw [h.no_slots (Ne.symm here)]
        rfl
      rw [List.foldl_cons, still]
      exact ih there
  have takes (l : List (Fin 4)) (u : State) (h : u.NamedOnce n d k) (distinct : l.Nodup) (in_ : d ∈ l) :
      l.foldl turn u = u.doorSlotChange d v k := by
    induction l with
    | nil => cases in_
    | cons e l ih =>
      obtain ⟨out, distinct⟩ := List.nodup_cons.mp distinct
      rw [List.foldl_cons]
      by_cases here : e = d
      · subst here
        have moved : turn u e = u.doorSlotChange e v k := by
          change (u.slotsNaming e n).foldl _ u = _
          rw [h.slots]
          rfl
        rw [moved]
        exact passes l _ (h.of_tables ((u.doorSlotChange_only e v k).same .tables)) out
      · have still : turn u e = u := by
          change (u.slotsNaming e n).foldl _ u = u
          rw [h.no_slots here]
          rfl
        rw [still]
        exact ih distinct ((List.mem_cons.mp in_).resolve_left (Ne.symm here))
  exact takes _ s h (List.nodup_finRange 4) (List.mem_finRange d)

end

/-! ### What the re-derivation gives (R134 to R139) -/

section
variable (s : State) (d : Fin 4)

theorem State.doorLocked_iff (shut : s.doorLine d .closed = some .active) : s.doorLocked d = true ↔
    s.doorLine d .locked = some .active ∨ (s.doorCfg d).locked = none := by
  unfold State.doorLocked
  have line : s.doorLine d .locked = (s.doorCfg d).locked.map s.logical := rfl
  rw [line]
  cases (s.doorCfg d).locked with
  | none => simp [shut]
  | some j => simp

/-- R134 to R139: the state that a line change of slot `k` to `v` derives. -/
theorem State.derivedState_line (k : DoorSlot) (v : Logical) {bad : Bool} (broken : bad = true ↔ ∃ j, s.doorLine d j = some .invalid) :
    s.derivedState d (.line k v) =
      if (s.door d).inconMark = true ∨ bad = true then .unknown
      else if s.doorLine d .emergency = some .active then .emergency
      else if s.doorLine d .closed = some .active then
        (if s.doorLine d .locked = some .active ∨ (s.doorCfg d).locked = none then .closedLocked else .closed)
      else match (s.door d).st with
        | .unknown | .emergency | .closed | .closedLocked | .opening =>
          if s.doorLine d .openEnd = some .active then .opened else .opening
        | .opened =>
          if k = .openEnd ∧ v = .inactive then (if s.doorLine d .edge = some .active then .obstructed else .closing)
          else .opened
        | .closing =>
          if k = .edge ∧ v = .active then .obstructed
          else if k = .openEnd ∧ v = .active then .opened else .closing
        | .obstructed =>
          if k = .edge ∧ v = .inactive then (if s.doorLine d .openEnd = some .active then .opened else .closing)
          else .obstructed := by
  have doubt : s.doorUntrusted d = true ↔ (s.door d).inconMark = true ∨ bad = true := by
    rw [State.doorUntrusted_iff, broken]
  have edge (j : DoorSlot) (x : Logical) : DoorEvent.line k v = .line j x ↔ k = j ∧ v = x := by
    rw [DoorEvent.line.injEq]
  by_cases untrusted : (s.door d).inconMark = true ∨ bad = true
  · rw [if_pos untrusted]
    exact if_pos (doubt.mpr untrusted)
  rw [if_neg untrusted]
  have trusted : s.doorUntrusted d = false := Bool.eq_false_iff.mpr (mt doubt.mp untrusted)
  by_cases alarm : s.doorLine d .emergency = some .active
  · rw [if_pos alarm]
    unfold State.derivedState
    dsimp only
    rw [trusted, if_neg Bool.false_ne_true, if_pos alarm]
  rw [if_neg alarm]
  by_cases shut : s.doorLine d .closed = some .active
  · rw [if_pos shut, State.derivedState_shut trusted alarm shut]
    exact if_congr (s.doorLocked_iff d shut) rfl rfl
  rw [if_neg shut]
  by_cases known : (s.door d).st = .unknown ∨ (s.door d).st = .emergency
  · have position : s.derivedState d (.line k v) = if s.doorLine d .openEnd = some .active then .opened else .opening := by
      unfold State.derivedState State.positionState
      dsimp only
      rw [trusted, if_neg Bool.false_ne_true, if_neg alarm, if_pos known, if_neg shut]
    rw [position]
    obtain e | e := known <;> rw [e]
  · obtain ⟨first, second⟩ := not_or.mp known
    rw [State.derivedState_moving trusted alarm rfl ⟨first, second⟩ shut]
    unfold State.movingState
    cases st : (s.door d).st
    case unknown => exact absurd st first
    case emergency => exact absurd st second
    all_goals simp only [beq_iff_eq, edge, Bool.or_eq_true, reduceCtorEq, or_false]

/-- R149: a RAMP_STOWED line has the conditions evaluated once more. -/
theorem State.rampEvaluated_spec (k : DoorSlot) : ∃ t, t = (if k = .ramp then s.evalInterlock else s) ∧
    OnlyChanges grantParts s t ∧ (∀ e, t.door e = s.door e) ∧ (∀ c, s.lif.attention.has c = true → t.lif.attention.has c = true) ∧
    t.dmn.interlock = if k = .ramp then s.dmn.interlock.evaluated t.anyCondition else s.dmn.interlock := by
  refine ⟨_, rfl, ?_⟩
  split
  case isTrue =>
    have conditions : s.evalInterlock.anyCondition = s.anyCondition :=
      s.evalInterlock_only.anyCondition_eq fun d => by rw [State.evalInterlock_door]; exact ⟨rfl, rfl⟩
    exact ⟨s.evalInterlock_only, s.evalInterlock_door, s.evalInterlock_keeps_cause, by
      rw [conditions]; exact s.evalInterlock_interlock⟩
  case isFalse => exact ⟨.refl _ s, fun _ => rfl, fun _ h => h, rfl⟩

theorem cyclePlace_ne (d : Fin 4) : obstructionPlace d ≠ cyclePlace d := fun e => by
  have := congrArg Fin.val e
  simp only [cyclePlace, obstructionPlace] at this
  omega

/-- The re-derivation of a changed slot, with what follows it: the set's record, the others, the interlock and the
counters. -/
structure DoorTurns (d : Fin 4) (k : DoorSlot) (v : Logical) (s t : State) : Prop where
  only : OnlyChanges doorParts s t
  tested : ∀ both : Bool, (both = true ↔ s.bothEnds d) →
    (t.door d).inconMark = ((s.door d).inconMark && ((s.doorCfg d).openEnd.isNone || both)) ∧
    (t.door d).inconTimer = ((s.door d).tested ((s.doorCfg d).openEnd.isNone) both
      (Timer.start s.now s.doorTimersRun)).inconTimer
  state : (t.door d).st = (s.testEndStops d).derivedState d (.line k v)
  stays : (t.door d).st = (s.door d).st →
    t.door d = { s.door d with inconMark := (t.door d).inconMark, inconTimer := (t.door d).inconTimer } ∧
    (∀ e, e ≠ d → t.door e = s.door e) ∧
    t.dmn.interlock = if k = .ramp then s.dmn.interlock.evaluated t.anyCondition else s.dmn.interlock
  moves : (t.door d).st ≠ (s.door d).st → ∃ r, DoorEnters d (t.door d).st (s.testEndStops d) r ∧
    (∀ e, t.door e = r.door e) ∧ t.fmy = r.fmy ∧ t.lif.attention.has .door = true ∧
    ((s.doorCfg d).configured = true → t.dmn.interlock = s.dmn.interlock.evaluated t.anyCondition)

theorem State.doorSlotChange_turns (k : DoorSlot) (v : Logical) : DoorTurns d k v s (s.doorSlotChange d v k) := by
  let a := s.testEndStops d
  let new := a.derivedState d (.line k v)
  have within := s.testEndStops_within d
  have goes : s.doorSlotChange d v k = if k = .ramp then (a.enterDoorState d new).evalInterlock else a.enterDoorState d new := rfl
  by_cases same : new = (a.door d).st
  · have still : a.enterDoorState d new = a := by rw [same]; exact a.enterDoorState_still d
    rw [still] at goes
    obtain ⟨t, e, only, doors, -, interlock⟩ := a.rampEvaluated_spec k
    rw [goes, ← e]
    have st : (t.door d).st = new := by rw [doors]; exact same.symm
    refine ⟨within.only.andThen only, fun both ends => ?_, st, fun _ => ⟨?_, fun e other => ?_, ?_⟩, fun moved => ?_⟩
    · rw [doors]
      change ((s.testEndStops d).door d).inconMark = _ ∧ ((s.testEndStops d).door d).inconTimer = _
      rw [s.testEndStops_door d ends]
      exact ⟨rfl, rfl⟩
    · rw [doors]
      exact s.testEndStops_record d
    · rw [doors]
      exact within.others e other
    · rw [interlock]
      exact if_congr Iff.rfl (by rw [within.ilk.1]) within.ilk.1
    · rw [st, same] at moved
      exact absurd (s.testEndStops_st d) moved
  · have enters := a.enterDoorState_enters d same
    generalize a.enterDoorState d new = r at enters goes
    obtain ⟨t, e, only, doors, causes, interlock⟩ := r.rampEvaluated_spec k
    rw [goes, ← e]
    have st : (t.door d).st = new := by rw [doors, enters.record]; rfl
    have conditions : t.anyCondition = r.anyCondition :=
      only.anyCondition_eq fun e => by rw [doors]; exact ⟨rfl, rfl⟩
    refine ⟨(within.only.trans enters.only).andThen only, fun both ends => ?_, st, fun stays => ?_,
      fun _ => ⟨r, st ▸ enters, doors, only.same .fmy, causes _ enters.attends, fun configured => ?_⟩⟩
    · have record : (t.door d).inconMark = (a.door d).inconMark ∧ (t.door d).inconTimer = (a.door d).inconTimer := by
        rw [doors, enters.record]
        exact ⟨rfl, rfl⟩
      rw [record.1, record.2]
      change ((s.testEndStops d).door d).inconMark = _ ∧ ((s.testEndStops d).door d).inconTimer = _
      rw [s.testEndStops_door d ends]
      exact ⟨rfl, rfl⟩
    · rw [st] at stays
      exact absurd (stays.trans (s.testEndStops_st d).symm) same
    · have cfg : a.doorCfg d = s.doorCfg d := congrArg (fun w : Tables => w.doors[d]) (within.only.same .tables)
      have first : r.dmn.interlock = s.dmn.interlock.evaluated t.anyCondition := by
        rw [enters.interlock (by rw [cfg]; exact configured), conditions]
        exact congrArg (Interlock.evaluated · _) within.ilk.1
      rw [interlock]
      split
      case isTrue =>
        rw [first]
        cases s.dmn.interlock <;> cases t.anyCondition <;> rfl
      case isFalse => exact first

end

end Sys2Proof.Machine
end

section
/-! PROOFS. The changed logical value of a line at each of its consumers (O40). -/

namespace Sys2Proof.Machine
set_option Elab.async false

section
variable {s : State} {n : Fin 32} {mv : Nat} {v : Logical}

/-- R27: a line that one role names and no door set hands its value to that role. -/
theorem State.ChangesTo.toRole (h : s.ChangesTo n mv v) (doors : s.NoDoorNames n) : ∃ u, HandsOn n v s u ∧
    exec (.lineSample n mv) s = .next (u.roleChange n (s.logical n) v) := by
  obtain ⟨u, runs, hands⟩ := h.handsOn
  rw [(doors.of_tables hands.tables).doorLineChange] at runs
  exact ⟨u, hands, runs⟩

/-- R27: a line that one door set names and no role hands its value to that set. -/
theorem State.ChangesTo.toDoor (h : s.ChangesTo n mv v) {d : Fin 4} {k : DoorSlot} (once : s.NamedOnce n d k)
    (roles : s.RolesAmong n []) : ∃ u, HandsOn n v s u ∧ exec (.lineSample n mv) s = .next (u.doorSlotChange d v k) := by
  obtain ⟨u, runs, hands⟩ := h.handsOn
  have tables : (u.doorSlotChange d v k).tables = s.tables := ((u.doorSlotChange_only d v k).same .tables).trans hands.tables
  have roles := roles.of_tables tables
  rw [(once.of_tables hands.tables).doorLineChange, State.roleChange, roles.interlockRoleChange nofun nofun,
    roles.buttonRoleChange nofun nofun nofun] at runs
  exact ⟨u, hands, runs⟩

/-- R143: outside CRANK and SLEEP the door timers run. -/
theorem State.ChangesTo.doorTimersRun (h : s.ChangesTo n mv v) : s.doorTimersRun = true := by
  obtain ⟨-, woken, supply⟩ := h.scanned
  rw [State.doorTimersRun, bne_iff_ne.mpr supply, bne_iff_ne.mpr woken]
  rfl

end

theorem State.overrideChange_doors (s : State) (v : Logical) : (s.overrideChange v).dmn.doors = s.dmn.doors := by
  have begins : s.beginOverride.dmn.doors = s.dmn.doors := by rw [s.beginOverride_spec.1]
  unfold State.overrideChange
  split
  case h_4 =>
    split
    · rfl
    · exact s.endOverride_spec.1
  case h_5 => rfl
  all_goals
    split
    · exact begins
    · rfl

theorem exists_bool_iff (p : Prop) : ∃ b : Bool, b = true ↔ p := by
  classical exact ⟨decide p, decide_eq_true_iff⟩

/-- R137 to R144: the fields of a record that has moved to another state. -/
theorem Door.moved_flagged {start : Timer} {above running : Bool} {old new : DoorState} {marks : List DoorSym} {q r : Door}
    (h : q = (r.moved start (!above) running new).flagged above old new marks) :
    q.openTimer = (if new = .opening then start else .stopped) ∧
    q.closeTimer = (if new = .closing then start else .stopped) ∧
    q.lockTimer = (if new = .closed then start else .stopped) ∧
    q.grant = (r.grant && new != .emergency) ∧
    q.output = (q.grant && !above && running) ∧
    q.obstructions = (if new = .closedLocked then 0 else if new = .obstructed then min (r.obstructions + 1) 255 else r.obstructions) ∧
    q.repeatedObstruction = (new != .closedLocked && (r.repeatedObstruction || (new == .obstructed && 3 ≤ q.obstructions))) ∧
    q.openWhileMoving = (new != .closedLocked && (r.openWhileMoving || (old == .closedLocked && new != .unknown && above))) ∧
    (new = .closedLocked → q.closeTimeout = false ∧ q.notLocked = false) ∧
    q.cycle = (new == .closedLocked || (r.cycle && (new == .emergency || new == .unknown || new == .closed))) := by
  subst h
  refine ⟨rfl, rfl, rfl, rfl, rfl, rfl, ?_, rfl, fun shut => ?_, ?_⟩
  · unfold Door.flagged
    cases new <;> rfl
  · unfold Door.flagged
    rw [shut]
    exact ⟨rfl, rfl⟩
  · unfold Door.flagged Door.moved
    cases new <;> cases r.cycle <;> rfl

/-- Settles O40: the state with the new value (`State.ChangesTo.handsOn`) is handed to the door set, to the interlock, to
one of the buttons or to the parking brake. -/
theorem lineChangesReachTheirConsumers : Obligations.LineChangesReachTheirConsumers := by
  refine ⟨fun s n mv v d k changes configured named once roles => ?door, fun s n mv v changes doors =>
    ⟨fun named roles => ?kneel, fun named roles => ?override, fun named roles => ?release, fun named roles => ?ack,
      fun named roles => ?brake⟩⟩
  case door =>
    obtain ⟨u, hands, runs⟩ := changes.toDoor ⟨configured, named, once⟩ roles
    have turns := u.doorSlotChange_turns d k v
    generalize u.doorSlotChange d v k = t at runs turns
    have tables : t.tables = s.tables := (turns.only.same .tables).trans hands.tables
    have now : u.now = t.now := (turns.only.same .now).symm
    have lines (j : DoorSlot) : t.doorLine d j = u.doorLine d j := turns.only.doorLine_eq d j
    have value : t.logical n = v := (turns.only.keepsLogical rfl n).trans hands.value
    have mctl : t.mctl = u.mctl := turns.only.same .mctl
    have above : t.aboveWithdraw = u.aboveWithdraw := turns.only.speed_eq.2.1
    have mode : t.mode = u.mode := congrArg Mctl.mode mctl
    have runsOn : u.doorTimersRun = true := by
      rw [← changes.doorTimersRun]
      exact congrArg (fun c : Mctl => c.supply != .crank && c.mode != .sleep) (hands.only.same .mctl)
    have start : Timer.start u.now u.doorTimersRun = .running (t.now : Int) := by rw [runsOn, now]; rfl
    have cfg : u.doorCfg d = s.doorCfg d := congrArg (fun w : Tables => w.doors[d]) hands.tables
    have before := hands.door d
    obtain ⟨both, ends⟩ := exists_bool_iff (u.bothEnds d)
    obtain ⟨mark, timer⟩ := turns.tested both ends
    obtain ⟨bad, broken⟩ := exists_bool_iff (∃ j, t.doorLine d j = some .invalid)
    have testedLines (j : DoorSlot) : (u.testEndStops d).doorLine d j = t.doorLine d j :=
      (u.testEndStops_doorLine d j).trans (lines j).symm
    have testedCfg : (u.testEndStops d).doorCfg d = s.doorCfg d :=
      (congrArg (fun w : Tables => w.doors[d]) ((u.testEndStops_within d).only.same .tables)).trans cfg
    have testedMark : ((u.testEndStops d).door d).inconMark = (t.door d).inconMark := by
      rw [mark, u.testEndStops_door d ends]
      rfl
    have state := (u.testEndStops d).derivedState_line d k v (bad := bad) (by simp only [testedLines]; exact broken)
    simp only [testedLines, testedCfg, testedMark, u.testEndStops_st, before] at state
    rw [← turns.state] at state
    refine ⟨t, both, bad, (t.door d).st, runs, value, broken, ?_, ?_, ?_, rfl, state, fun still => ?_, fun moved => ?_, ?_,
      hands.only.andThen turns.only⟩
    · rw [lines, lines]
      exact ends
    · rw [mark, before, cfg]
    · rw [timer, start, before, cfg]
      unfold Door.tested
      dsimp only
      refine if_congr ?_ rfl rfl
      exact Option.isNone_iff_eq_none
    · obtain ⟨record, others, -⟩ := turns.stays (by rw [before]; exact still)
      rw [before] at record
      exact ⟨record, fun e other => (others e other).trans (hands.door e)⟩
    · obtain ⟨r, enters, doors, fmy, attends, -⟩ := turns.moves (by rw [before]; exact moved)
      have record : t.door d = r.door d := doors d
      have entered := enters.record
      have cleared := enters.cleared
      have others := enters.others
      have counters := enters.counter
      have testedAbove : (u.testEndStops d).aboveWithdraw = t.aboveWithdraw :=
        ((u.testEndStops_within d).only.speed_eq.2.1).trans above.symm
      have testedMode : (u.testEndStops d).mode = t.mode := Eq.trans (u.testEndStops_within d).only.keepsMode mode.symm
      have testedStart : Timer.start (u.testEndStops d).now (u.testEndStops d).doorTimersRun = .running (t.now : Int) := by
        rw [← start]
        have same : (u.testEndStops d).now = u.now ∧ (u.testEndStops d).mctl = u.mctl :=
          ⟨(u.testEndStops_within d).only.same .now, (u.testEndStops_within d).only.same .mctl⟩
        rw [same.1, State.doorTimersRun, State.doorTimersRun, State.supply, State.mode, State.supply, State.mode, same.2]
      rw [testedAbove, testedMode, testedStart, u.testEndStops_record d, before, ← record] at entered
      rw [← record] at cleared
      obtain ⟨openTimer, closeTimer, lockTimer, grant, output, obstructions, repeated, moving, flags, cycle⟩ :=
        Door.moved_flagged entered
      have counter (c : Fin 12) : t.counter c = r.counter c := congrArg (fun m : Fmy => m.counters[c]) fmy
      have testedCycle : ((u.testEndStops d).door d).cycle = (s.door d).cycle := by
        rw [u.testEndStops_record d, before]
      have testedCounter (c : Fin 12) : (u.testEndStops d).counter c = s.counter c :=
        (congrArg (fun m : Fmy => m.counters[c]) ((u.testEndStops_only_dmn d).same .fmy)).trans (hands.counter c)
      refine ⟨attends, openTimer, closeTimer, lockTimer, fun e => ?_, output, obstructions, repeated, moving,
        fun shut => ⟨(flags shut).1, (flags shut).2, cleared shut⟩, cycle, ?_, ?_⟩
      · by_cases here : e = d
        · rw [here]; exact grant
        · rw [doors, others e here, (u.testEndStops_within d).others e here, hands.door]
          split
          case isTrue emergency =>
            rw [State.regranted_grant, emergency]
            exact (Bool.and_false _).symm
          case isFalse calm => rw [bne_iff_ne.mpr calm, Bool.and_true]
      · rw [counter, counters, testedCycle, testedCounter]
        have opens : (t.door d).st.isOpening = true ↔ (t.door d).st = .opening ∨ (t.door d).st = .opened ∨
            (t.door d).st = .closing ∨ (t.door d).st = .obstructed := by
          cases (t.door d).st <;> simp [DoorState.isOpening]
        rw [if_neg fun h : cyclePlace d = obstructionPlace d ∧ _ => cyclePlace_ne d h.1.symm]
        exact if_congr (by rw [opens]; exact and_iff_right rfl) rfl rfl
      · rw [counter, counters, testedCounter]
        rw [if_neg fun h : obstructionPlace d = cyclePlace d ∧ _ => cyclePlace_ne d h.1]
        exact if_congr (and_iff_right rfl) rfl rfl
    · by_cases still : (t.door d).st = (s.door d).st
      · obtain ⟨-, -, interlock⟩ := turns.stays (by rw [before]; exact still)
        rw [hands.dmn] at interlock
        exact interlock.trans (if_congr ⟨.inr, fun h => h.resolve_left fun moved => moved still⟩ (Interlock.evaluated_eq _ _) rfl)
      · obtain ⟨r, -, -, -, -, interlock⟩ := turns.moves (by rw [before]; exact still)
        have interlock := interlock (by rw [cfg]; exact configured)
        rw [hands.dmn] at interlock
        rw [if_pos (.inl still)]
        exact interlock.trans (Interlock.evaluated_eq _ _)
  case kneel =>
    obtain ⟨u, hands, runs⟩ := changes.toRole doors
    rw [State.roleChange_kneel ((congrArg (fun w : Tables => w.roles.kneel) hands.tables).trans named)
      (roles.of_tables hands.tables)] at runs
    exact ⟨_, runs, hands.kneel⟩
  case override =>
    obtain ⟨u, hands, runs⟩ := changes.toRole doors
    rw [State.roleChange_override ((congrArg (fun w : Tables => w.roles.override) hands.tables).trans named)
      (roles.of_tables hands.tables)] at runs
    obtain ⟨begins, ends, stays⟩ := hands.override
    refine ⟨_, runs, ?_, fun active held => ?_, fun other overridden => ?_, fun idle => ?_,
      hands.only.andThen (u.overrideChange_only v)⟩
    · exact (u.overrideChange_doors v).trans (congrArg Dmn.doors hands.dmn)
    · obtain ⟨dmn, count, attends, report⟩ := u.beginOverride_spec
      rw [begins active held, State.ilk, dmn]
      exact ⟨rfl, rfl, rfl, by rw [count, hands.counter], attends, fun loaded room =>
        report (hands.loading.trans loaded) (by rw [hands.room active]; exact room)⟩
    · obtain ⟨-, interlock, delay, attends, fmy⟩ := u.endOverride_spec
      rw [ends other overridden]
      refine ⟨interlock, delay, ?_, attends, fun loaded one e mem code => ?_⟩
      · rw [State.counter, fmy, ← hands.counter]
        exact congrArg (fun v : Vector Nat 12 => v[overridePlace]) (u.report_counters .override false)
      · have table := State.reportCleared_table .override (hands.loading.trans loaded) (hands.codes loaded one)
        rw [fmy, table] at mem
        obtain ⟨x, -, rfl⟩ := List.mem_map.mp mem
        rw [FaultEntry.cleared_code] at code
        rw [FaultEntry.cleared, if_pos (beq_iff_eq.mpr code)]
    · rw [stays idle]
      exact hands.dmn
  case release =>
    obtain ⟨u, hands, runs⟩ := changes.toRole doors
    rw [State.roleChange_release ((congrArg (fun w : Tables => w.roles.releaseButton) hands.tables).trans named)
      (roles.of_tables hands.tables)] at runs
    have brake : s.tables.roles.parkingBrake ≠ some n := fun e => absurd (roles .parkingBrake e) (by decide)
    have masked {P : Fin 4 → Prop} : (∃ d, (s.doorCfg d).configured = true ∧ (s.doorCfg d).inMask = true ∧ P d) ↔
        ∃ d, s.masked d = true ∧ P d := by simp only [s.masked_iff, and_assoc]
    have masked' : (∃ d, (s.doorCfg d).configured = true ∧ (s.doorCfg d).inMask = true) ↔ ∃ d, s.masked d = true := by
      simp only [s.masked_iff]
    refine ⟨_, runs, fun idle => ?_, fun active inactive some_ => ?_, hands.only.andThen (.ite u.releaseButton_only (.refl _ u))⟩
    · split
      case isTrue press =>
        obtain ⟨inactive, active⟩ := pressEdge_iff.mp press
        obtain e | e | none := idle
        · exact absurd active e
        · exact absurd inactive e
        · rw [State.releaseButton_idle fun d => ?_]
          · exact hands.dmn
          · rw [hands.masked, State.masked]
            cases configured : (s.doorCfg d).configured
            · rfl
            · exact none d configured
      case isFalse => exact hands.dmn
    · rw [if_pos (pressEdge_iff.mpr ⟨inactive, active⟩)]
      have some_ := masked'.mp some_
      refine ⟨State.releaseButton_attends (by simpa only [hands.masked] using some_), fun granted => hands.withdraws (masked.mp granted),
        fun none => ?_⟩
      have none (d : Fin 4) (masked : s.masked d = true) : (s.door d).grant = false := by
        obtain ⟨configured, inMask⟩ := (s.masked_iff d).mp masked
        exact none d configured inMask
      refine ⟨fun ⟨running, standing, slow, calm⟩ => ?_, fun falls => ?_⟩
      · obtain ⟨doors, interlock⟩ := hands.grants brake some_ none running standing slow fun d masked => by
          obtain ⟨configured, inMask⟩ := (s.masked_iff d).mp masked
          exact calm d configured inMask
        refine ⟨doors, interlock.trans ?_⟩
        cases s.dmn.interlock <;> rfl
      · rw [hands.refuses brake some_ none (by rw [masked] at falls; exact falls)]
        exact hands.dmn
  case ack =>
    obtain ⟨u, hands, runs⟩ := changes.toRole doors
    rw [State.roleChange_ack ((congrArg (fun w : Tables => w.roles.ackButton) hands.tables).trans named)
      (roles.of_tables hands.tables)] at runs
    have pru : u.pru = s.pru := hands.only.same .pru
    have top : u.topRule = s.topRule := by rw [State.topRule, pru]; rfl
    refine ⟨_, runs, fun idle => ?_, fun m active inactive first => ?_, hands.only.andThen (.ite u.ackButton_only (.refl _ u))⟩
    · split
      case isTrue press =>
        obtain ⟨inactive, active⟩ := pressEdge_iff.mp press
        obtain e | e | empty := idle
        · exact absurd active e
        · exact absurd inactive e
        · have still : u.ackButton = u := by
            have none : u.topRule = none := by rw [top, State.topRule, empty]; rfl
            rw [State.ackButton, none]
          rw [still]
          exact ⟨hands.wev, pru⟩
      case isFalse => exact ⟨hands.wev, pru⟩
    · have goes : u.ackButton = u.ackRule m := by rw [State.ackButton, top, first]
      have rule (j : Fin 64) : u.rule j = s.rule j := congrArg (fun w : Wev => w.rules[j]) hands.wev
      have cfg : u.ruleCfg m = s.ruleCfg m := congrArg (fun w : Tables => w.rules[m]) hands.tables
      obtain ⟨⟨record, others, seq⟩, left⟩ := u.ackRule_answers m
      rw [if_pos (pressEdge_iff.mpr ⟨inactive, active⟩), goes]
      rw [cfg, rule] at record left
      exact ⟨record, fun j other => (others j other).trans (rule j), seq.trans (congrArg Wev.seq hands.wev), left⟩
  case brake =>
    obtain ⟨u, hands, runs⟩ := changes.toRole doors
    rw [State.roleChange_brake ((congrArg (fun w : Tables => w.roles.parkingBrake) hands.tables).trans named)
      (roles.of_tables hands.tables)] at runs
    have spec := u.leaveWorkshopIfMoving_spec
    have moving : u.leaveWorkshopIfMoving.moving = u.moving := spec.only.speed_eq.1
    have only : OnlyChanges (.mctl :: .attention :: forcingParts) u u.leaveWorkshopIfMoving :=
      .ite ((State.leaveWorkshop_only _).andThen (State.attend_only _ _)) (.refl _ _)
    refine ⟨_, runs, fun workshop moves => ?_, fun stays => ?_, hands.only.andThen only⟩
    · exact spec.leaves (hands.mode.trans workshop) (moving.symm.trans moves)
    · rw [spec.stays (by rw [hands.mode, ← moving]; exact stays)]
      exact hands.only

end Sys2Proof.Machine
end

section
/-! PROOFS. The settling reports at the end of STARTUP and the exit from SETUP (R33, R60, R107, R127, R142): which codes
are reported CLEARED, and what is left of the records. -/

namespace Sys2Proof.Machine
set_option Elab.async false

/-! ### Objects in index order -/

section
variable {n : Nat} {β : Type} {w : Tables}

/-- A turn per object that changes the object's own record only. -/
theorem forEach_record (read : State → Fin n → β) (f : Fin n → State → State) (g : Fin n → β → β)
    (tables : ∀ i s, (f i s).tables = s.tables) (own : ∀ i s, s.tables = w → read (f i s) i = g i (read s i))
    (other : ∀ i s j, j ≠ i → read (f i s) j = read s j) (s : State) (same : s.tables = w) (j : Fin n) :
    read (forEach f s) j = g j (read s j) := by
  have turns (l : List (Fin n)) (distinct : l.Nodup) (u : State) (same : u.tables = w) :
      read (l.foldl (fun s i => f i s) u) j = if j ∈ l then g j (read u j) else read u j := by
    induction l generalizing u with
    | nil => rfl
    | cons i l ih =>
      obtain ⟨out, distinct⟩ := List.nodup_cons.mp distinct
      rw [List.foldl_cons, ih distinct _ ((tables i u).trans same)]
      by_cases here : j = i
      · subst here
        rw [if_neg out, if_pos List.mem_cons_self, own _ u same]
      · rw [other i u j here]
        exact if_congr ⟨List.mem_cons_of_mem i, fun mem => (List.mem_cons.mp mem).resolve_left here⟩ rfl rfl
  exact (turns _ (List.nodup_finRange n) s same).trans (if_pos (List.mem_finRange j))

end

/-- What turns keep, one by one. -/
theorem forEach_keeps {n : Nat} {β : Type} (read : State → β) (f : Fin n → State → State)
    (keeps : ∀ i s, read (f i s) = read s) (s : State) : read (forEach f s) = read s := by
  have turns (l : List (Fin n)) (u : State) : read (l.foldl (fun s i => f i s) u) = read u := by
    induction l generalizing u with
    | nil => rfl
    | cons i l ih => exact (ih _).trans (keeps i u)
  exact turns _ s

/-! ### CLEARED for a list of codes -/

/-- From `s` to `t` the fault memory takes CLEARED for a list of codes, and nothing else. -/
structure Clears (l : List FaultCode) (s t : State) : Prop where
  fmy : t.fmy = (s.reportAllCleared l).fmy
  tables : t.tables = s.tables

namespace Clears

variable {s t u : State} {l k : List FaultCode}

theorem quiet {p : List Part} (h : OnlyChanges p s t) (fmy : partsIn [.fmy] p = false := by with_unfolding_all rfl)
    (tables : partsIn [.tables] p = false := by with_unfolding_all rfl) : Clears [] s t :=
  ⟨h.same .fmy fmy, h.same .tables tables⟩

theorem all (s : State) (l : List FaultCode) : Clears l s (s.reportAllCleared l) :=
  ⟨rfl, (s.reportAllCleared_only l).same .tables⟩

theorem one (s : State) (c : FaultCode) : Clears [c] s (s.reportCleared c) := all s [c]

theorem reportAllCleared_fmy (h : t.fmy = u.fmy) (tables : t.tables = u.tables) (l : List FaultCode) :
    (t.reportAllCleared l).fmy = (u.reportAllCleared l).fmy := by
  induction l generalizing t u with
  | nil => exact h
  | cons c l ih =>
    exact ih (t := t.reportCleared c) (u := u.reportCleared c) (State.reportCleared_fmy_congr h tables c)
      (((t.reportCleared_only c).same .tables).trans (tables.trans ((u.reportCleared_only c).same .tables).symm))

theorem trans (h : Clears l s t) (g : Clears k t u) : Clears (l ++ k) s u := by
  refine ⟨?_, g.tables.trans h.tables⟩
  have append : s.reportAllCleared (l ++ k) = (s.reportAllCleared l).reportAllCleared k := List.foldl_append
  rw [append, g.fmy]
  exact reportAllCleared_fmy h.fmy (h.tables.trans ((s.reportAllCleared_only l).same .tables).symm) k

/-- With something between that leaves the fault memory alone. -/
theorem andThen {p : List Part} (h : Clears l s t) (g : OnlyChanges p t u)
    (fmy : partsIn [.fmy] p = false := by with_unfolding_all rfl)
    (tables : partsIn [.tables] p = false := by with_unfolding_all rfl) : Clears l s u :=
  ⟨(g.same .fmy fmy).trans h.fmy, (g.same .tables tables).trans h.tables⟩

theorem forEach {n : Nat} {w : Tables} (f : Fin n → State → State) (g : Fin n → List FaultCode)
    (turn : ∀ i s, s.tables = w → Clears (g i) s (f i s)) (s : State) (same : s.tables = w) :
    Clears ((List.finRange n).flatMap g) s (forEach f s) := by
  have turns (l : List (Fin n)) (u : State) (same : u.tables = w) : Clears (l.flatMap g) u (l.foldl (fun s i => f i s) u) := by
    induction l generalizing u with
    | nil => exact ⟨rfl, rfl⟩
    | cons i l ih =>
      have first := turn i u same
      exact first.trans (ih _ (first.tables.trans same))
  exact turns _ s same

end Clears

/-! ### The five blocks -/

section
variable (s : State)

/-- R33: a line that is not classified, or whose diagnosis is SUPPRESSED, is settled. -/
def Tables.settlesLine (w : Tables) (n : Fin 32) : Bool := !(w.lines[n]).fn.classified || (w.lines[n]).suppressed

theorem State.settleLine_line (n : Fin 32) : (s.settleLine n).line n = { s.line n with symptom := .nothing } ∧
    ∀ j, j ≠ n → (s.settleLine n).line j = s.line j := by
  have reports : OnlyChanges faultParts s (s.reportAllCleared (lineSyms.map (.line n))) := s.reportAllCleared_only _
  have kept (j : Fin 32) : (s.reportAllCleared (lineSyms.map (.line n))).line j = s.line j :=
    congrArg (fun h : Hlm => h.lines[j]) (reports.same .hlm)
  refine ⟨?_, fun j other => ?_⟩
  · rw [State.settleLine, State.modLine_same, kept]
  · exact (State.modLine_other _ n j _ other.symm).trans (kept j)

theorem State.settleLine_clears (n : Fin 32) : Clears (lineSyms.map (.line n)) s (s.settleLine n) :=
  (Clears.all s _).andThen (State.modLine_only _ n _)

theorem State.settleLines_line (n : Fin 32) : s.settleLines.line n =
    { s.line n with symptom := if s.tables.settlesLine n then .nothing else (s.line n).symptom } := by
  refine forEach_record (w := s.tables) State.line _ (fun n r => { r with
    symptom := if s.tables.settlesLine n then .nothing else r.symptom }) (fun i u => ?_) (fun i u same => ?_)
    (fun i u j other => ?_) s rfl n
  · split
    · exact (u.settleLine_clears i).tables
    · rfl
  · have settles : (!(u.lineCfg i).fn.classified || (u.lineCfg i).suppressed) = s.tables.settlesLine i := by
      rw [State.lineCfg, same]; rfl
    rw [settles]
    split
    · exact (u.settleLine_line i).1
    · rfl
  · split
    · exact (u.settleLine_line i).2 j other
    · rfl

theorem State.settleLines_summary : KeepsSummary s s.settleLines := by
  have turn (i : Fin 32) (u : State) : (u.settleLine i).hlm.detail = u.hlm.detail ∧
      (u.settleLine i).hlm.summaryNo = u.hlm.summaryNo := by
    have reports : OnlyChanges faultParts u (u.reportAllCleared (lineSyms.map (.line i))) := u.reportAllCleared_only _
    exact ⟨(congrArg Hlm.detail (reports.same .hlm) :), (congrArg Hlm.summaryNo (reports.same .hlm) :)⟩
  unfold State.settleLines
  constructor
  · refine forEach_keeps (fun s => s.hlm.detail) _ (fun i u => ?_) s
    split
    · exact (turn i u).1
    · rfl
  · refine forEach_keeps (fun s => s.hlm.summaryNo) _ (fun i u => ?_) s
    split
    · exact (turn i u).2
    · rfl

theorem State.settleLines_clears : Clears ((List.finRange 32).flatMap fun n =>
    if s.tables.settlesLine n then lineSyms.map (.line n) else []) s s.settleLines := by
  refine Clears.forEach (w := s.tables) _ _ (fun i u same => ?_) s rfl
  have settles : (!(u.lineCfg i).fn.classified || (u.lineCfg i).suppressed) = s.tables.settlesLine i := by
    rw [State.lineCfg, same]; rfl
  rw [settles]
  split
  · exact u.settleLine_clears i
  · exact ⟨rfl, rfl⟩

/-- R60: the codes that a channel settles. -/
def Tables.gaugeCodes (w : Tables) (k : Fin 6) : List FaultCode :=
  (if (w.channels[k]).source.settles.1 then [.gauge k .lost] else []) ++
    if (w.channels[k]).source.settles.2 then [.gauge k .pulseNoise] else []

/-- R60: the turn of one channel. -/
def State.settleGauge (k : Fin 6) (s : State) : State :=
  let x := (s.channelCfg k).source.settles
  let s := if x.1 then s.reportCleared (.gauge k .lost) else s
  if x.2 then s.reportCleared (.gauge k .pulseNoise) else s

/-- R60: a channel's marks that it settles. -/
def Channel.settled (x : Source) (h : Channel) : Channel :=
  { h with lostMark := h.lostMark && !x.settles.1, noiseMark := h.noiseMark && !x.settles.2 }

theorem State.settleGauge_clears (k : Fin 6) : Clears (s.tables.gaugeCodes k) s (s.settleGauge k) ∧
    OnlyChanges faultParts s (s.settleGauge k) := by
  delta State.settleGauge
  extract_lets x u
  have first : Clears (if (s.tables.channels[k]).source.settles.1 then [.gauge k .lost] else []) s u ∧
      OnlyChanges faultParts s u := by
    change Clears _ s (if (s.tables.channels[k]).source.settles.1 = true then _ else _) ∧
      OnlyChanges faultParts s (if (s.tables.channels[k]).source.settles.1 = true then _ else _)
    split
    · exact ⟨.one s _, s.reportCleared_only _⟩
    · exact ⟨⟨rfl, rfl⟩, .refl _ s⟩
  have settles : x = (s.tables.channels[k]).source.settles := rfl
  rw [settles, Tables.gaugeCodes]
  by_cases noise : (s.tables.channels[k]).source.settles.2 = true
  · rw [if_pos noise, if_pos noise]
    exact ⟨first.1.trans (.one u _), first.2.trans (u.reportCleared_only _)⟩
  · rw [if_neg noise, if_neg noise]
    exact ⟨first.1.trans ⟨rfl, rfl⟩, first.2⟩

theorem State.settleGauges_eq : s.settleGauges = forEach (fun k s =>
    (s.settleGauge k).modChannel k (Channel.settled (s.channelCfg k).source)) s := by
  unfold State.settleGauges
  refine congrArg (fun f => forEach f s) (funext fun k => funext fun u => ?_)
  delta State.settleGauge Channel.settled
  generalize (u.channelCfg k).source.settles = x
  rfl

theorem State.settleGauges_clears : Clears ((List.finRange 6).flatMap s.tables.gaugeCodes) s s.settleGauges := by
  rw [State.settleGauges_eq]
  refine Clears.forEach (w := s.tables) _ _ (fun i u same => ?_) s rfl
  rw [← same]
  exact (u.settleGauge_clears i).1.andThen (State.modChannel_only _ i _)

theorem State.settleGauges_channel (k : Fin 6) :
    s.settleGauges.channel k = (s.channel k).settled (s.tables.channels[k]).source := by
  rw [State.settleGauges_eq]
  have kept (u : State) (i j : Fin 6) : (u.settleGauge i).channel j = u.channel j :=
    congrArg (fun g : Gve => g.channels[j]) ((u.settleGauge_clears i).2.same .gve)
  refine forEach_record (w := s.tables) State.channel _ (fun k h => h.settled (s.tables.channels[k]).source)
    (fun i u => ?_) (fun i u same => ?_) (fun i u j other => ?_) s rfl k
  · exact ((u.settleGauge_clears i).1.andThen (State.modChannel_only _ i _)).tables
  · rw [State.modChannel_same, kept, State.channelCfg, same]
  · exact (State.modChannel_other _ i j _ other.symm).trans (kept u i j)

theorem State.settleGauges_units : s.settleGauges.gve.units = s.gve.units := by
  rw [State.settleGauges_eq]
  refine forEach_keeps (fun s => s.gve.units) _ (fun i u => ?_) s
  exact (congrArg Gve.units ((u.settleGauge_clears i).2.same .gve) :)

/-- R107: a rule that is not enabled, or makes no record, is settled. -/
def Tables.settlesRule (w : Tables) (m : Fin 64) : Bool := !((w.rules[m]).enabled && (w.rules[m]).record)

theorem State.settleRules_parts : Clears ((List.finRange 64).flatMap fun m =>
      if s.tables.settlesRule m then [FaultCode.rule m] else []) s s.settleRules ∧
    (∀ m, s.settleRules.rule m = { s.rule m with mark := (s.rule m).mark && !s.tables.settlesRule m }) ∧
    s.settleRules.wev.seq = s.wev.seq ∧ s.settleRules.pru = s.pru := by
  have cfg (u : State) (same : u.tables = s.tables) (m : Fin 64) : ((u.ruleCfg m).enabled && (u.ruleCfg m).record) =
      !s.tables.settlesRule m := by
    rw [State.ruleCfg, same, Tables.settlesRule, Bool.not_not]
  have kept (u : State) (i j : Fin 64) : (u.reportCleared (.rule i)).rule j = u.rule j :=
    congrArg (fun w : Wev => w.rules[j]) ((u.reportCleared_only _).same .wev)
  refine ⟨Clears.forEach (w := s.tables) _ _ (fun i u same => ?_) s rfl, fun m => ?_, ?_, ?_⟩
  · rw [cfg u same]
    cases s.tables.settlesRule i
    · exact ⟨rfl, rfl⟩
    · exact (Clears.one u _).andThen (State.modRule_only _ i _)
  · refine forEach_record (w := s.tables) State.rule _ (fun m r => { r with mark := r.mark && !s.tables.settlesRule m })
      (fun i u => ?_) (fun i u same => ?_) (fun i u j other => ?_) s rfl m
    · split
      · rfl
      · exact ((Clears.one u _).andThen (State.modRule_only _ i _)).tables
    · rw [cfg u same]
      cases s.tables.settlesRule i
      · simp
      · rw [if_neg (by decide), State.modRule_same, kept, Bool.not_true, Bool.and_false]
    · split
      · rfl
      · exact (State.modRule_other _ i j _ other.symm).trans (kept u i j)
  · unfold State.settleRules
    refine forEach_keeps (fun s => s.wev.seq) _ (fun i u => ?_) s
    split
    · rfl
    · exact (congrArg Wev.seq ((u.reportCleared_only (.rule i)).same .wev) :)
  · unfold State.settleRules
    refine forEach_keeps State.pru _ (fun i u => ?_) s
    split
    · rfl
    · exact (u.reportCleared_only (.rule i)).same .pru

/-- R127: a lamp whose diagnosis is SUPPRESSED is settled. -/
def Lamp.settled (suppressed : Bool) (l : Lamp) : Lamp :=
  { l with openStatus := if suppressed then .good else l.openStatus
           shortStatus := if suppressed then .good else l.shortStatus }

theorem State.settleLamps_parts : Clears ((List.finRange 24).flatMap fun n =>
      if (s.tables.lamps[n]).suppressed then [FaultCode.lamp n .openWire, .lamp n .short] else []) s s.settleLamps ∧
    (∀ n, s.settleLamps.lamp n = (s.lamp n).settled (s.tables.lamps[n]).suppressed) ∧
    (∀ p, { s.settleLamps.pru with lamps := p } = { s.pru with lamps := p }) := by
  have cfg (u : State) (same : u.tables = s.tables) (n : Fin 24) : (u.lampCfg n).suppressed = (s.tables.lamps[n]).suppressed := by
    rw [State.lampCfg, same]
  have kept (u : State) (l : List FaultCode) (j : Fin 24) : (u.reportAllCleared l).lamp j = u.lamp j :=
    congrArg (fun p : Pru => p.lamps[j]) ((u.reportAllCleared_only l).same .pru)
  refine ⟨Clears.forEach (w := s.tables) _ _ (fun i u same => ?_) s rfl, fun n => ?_, fun p => ?_⟩
  · rw [cfg u same]
    split
    · exact (Clears.all u _).andThen (State.modLamp_only _ i _)
    · exact ⟨rfl, rfl⟩
  · refine forEach_record (w := s.tables) State.lamp _ (fun n l => l.settled (s.tables.lamps[n]).suppressed)
      (fun i u => ?_) (fun i u same => ?_) (fun i u j other => ?_) s rfl n
    · split
      · exact ((Clears.all u _).andThen (State.modLamp_only _ i _)).tables
      · rfl
    · rw [cfg u same, Lamp.settled]
      split
      · rw [State.modLamp_same, kept]
      · rfl
    · split
      · exact (State.modLamp_other _ i j _ other.symm).trans (kept u _ j)
      · rfl
  · unfold State.settleLamps
    refine forEach_keeps (fun s => { s.pru with lamps := p }) _ (fun i u => ?_) s
    dsimp only
    split
    · exact (congrArg (fun q : Pru => { q with lamps := p }) ((u.reportAllCleared_only _).same .pru) :)
    · rfl

/-- R142: the codes of a door set that is not configured. -/
def Tables.doorCodes (w : Tables) (d : Fin 4) : List FaultCode :=
  if (w.doors[d]).configured then [] else doorSyms.map (.door d)

theorem State.settleDoors_parts : Clears ((List.finRange 4).flatMap s.tables.doorCodes ++ [.override]) s s.settleDoors ∧
    (∀ d, s.settleDoors.door d = { s.door d with marks := if (s.tables.doors[d]).configured then (s.door d).marks else [] }) ∧
    s.settleDoors.dmn.interlock = s.dmn.interlock ∧ s.settleDoors.dmn.delay = s.dmn.delay := by
  let turn (d : Fin 4) (s : State) : State := if (s.doorCfg d).configured then s
    else (s.reportAllCleared (doorSyms.map (.door d))).modDoor d fun r => { r with marks := [] }
  let u := forEach turn s
  have cfg (u : State) (same : u.tables = s.tables) (d : Fin 4) : (u.doorCfg d).configured = (s.tables.doors[d]).configured := by
    rw [State.doorCfg, same]
  have kept (u : State) (l : List FaultCode) : (u.reportAllCleared l).dmn = u.dmn := (u.reportAllCleared_only l).same .dmn
  have clears : Clears ((List.finRange 4).flatMap s.tables.doorCodes) s u := by
    refine Clears.forEach (w := s.tables) turn _ (fun i u same => ?_) s rfl
    change Clears _ u (if (u.doorCfg i).configured = true then u else _)
    rw [cfg u same, Tables.doorCodes]
    split
    · exact ⟨rfl, rfl⟩
    · exact (Clears.all u _).andThen (State.modDoor_only _ i _)
  have doors (d : Fin 4) : u.door d = { s.door d with marks := if (s.tables.doors[d]).configured then (s.door d).marks else [] } := by
    refine forEach_record (w := s.tables) State.door turn (fun d r =>
      { r with marks := if (s.tables.doors[d]).configured then r.marks else [] }) (fun i u => ?_) (fun i u same => ?_)
      (fun i u j other => ?_) s rfl d
    · change (if (u.doorCfg i).configured = true then u else _ : State).tables = _
      split
      · rfl
      · exact ((Clears.all u _).andThen (State.modDoor_only _ i _)).tables
    · change State.door (if (u.doorCfg i).configured = true then u else _) i = _
      rw [cfg u same]
      split
      · rfl
      · rw [State.modDoor_same]
        exact congrArg (fun m : Dmn => { m.doors[i] with marks := [] }) (kept u _)
    · change State.door (if (u.doorCfg i).configured = true then u else _) j = _
      split
      · rfl
      · exact (State.modDoor_other _ i j _ other.symm).trans (congrArg (fun m : Dmn => m.doors[j]) (kept u _))
  have rest : u.dmn.interlock = s.dmn.interlock ∧ u.dmn.delay = s.dmn.delay := by
    constructor
    · refine forEach_keeps (fun s => s.dmn.interlock) turn (fun i u => ?_) s
      change (State.dmn (if (u.doorCfg i).configured = true then u else _)).interlock = _
      split
      · rfl
      · exact (congrArg Dmn.interlock (kept u _) :)
    · refine forEach_keeps (fun s => s.dmn.delay) turn (fun i u => ?_) s
      change (State.dmn (if (u.doorCfg i).configured = true then u else _)).delay = _
      split
      · rfl
      · exact (congrArg Dmn.delay (kept u _) :)
  have last : s.settleDoors = u.reportCleared .override := rfl
  have dmn : s.settleDoors.dmn = u.dmn := by rw [last]; exact (u.reportCleared_only _).same .dmn
  refine ⟨?_, fun d => ?_, ?_, ?_⟩
  · rw [last]; exact clears.trans (.one u _)
  · exact (congrArg (fun m : Dmn => m.doors[d]) dmn).trans (doors d)
  · rw [dmn]; exact rest.1
  · rw [dmn]; exact rest.2

end

/-! ### The blocks together -/

/-- R33, R60, R107, R127, R142, R150: the codes that the settling reports CLEARED, in their order. -/
def Tables.blockCodes (w : Tables) : List FaultCode :=
  ((List.finRange 32).flatMap fun n => if w.settlesLine n then lineSyms.map (.line n) else []) ++
  (List.finRange 6).flatMap w.gaugeCodes ++
  ((List.finRange 64).flatMap fun m => if w.settlesRule m then [FaultCode.rule m] else []) ++
  ((List.finRange 24).flatMap fun n => if (w.lamps[n]).suppressed then [FaultCode.lamp n .openWire, .lamp n .short] else []) ++
  ((List.finRange 4).flatMap w.doorCodes ++ [.override])

/-- What the settling of the blocks leaves. -/
structure SettlesBlocks (s t : State) : Prop where
  clears : Clears s.tables.blockCodes s t
  line : ∀ n, t.line n = { s.line n with symptom := if s.tables.settlesLine n then .nothing else (s.line n).symptom }
  summary : KeepsSummary s t
  channel : ∀ k, t.channel k = (s.channel k).settled (s.tables.channels[k]).source
  units : t.gve.units = s.gve.units
  rule : ∀ m, t.rule m = { s.rule m with mark := (s.rule m).mark && !s.tables.settlesRule m }
  seq : t.wev.seq = s.wev.seq
  lamp : ∀ n, t.lamp n = (s.lamp n).settled (s.tables.lamps[n]).suppressed
  pru : ∀ p, { t.pru with lamps := p } = { s.pru with lamps := p }
  door : ∀ d, t.door d = { s.door d with marks := if (s.tables.doors[d]).configured then (s.door d).marks else [] }
  interlock : t.dmn.interlock = s.dmn.interlock ∧ t.dmn.delay = s.dmn.delay
  only : OnlyChanges settleParts s t

theorem State.settleBlocks_settles (s : State) : SettlesBlocks s s.settleBlocks := by
  obtain ⟨a, ea⟩ : ∃ a, s.settleLines = a := ⟨_, rfl⟩
  obtain ⟨b, eb⟩ : ∃ b, a.settleGauges = b := ⟨_, rfl⟩
  obtain ⟨c, ec⟩ : ∃ c, b.settleRules = c := ⟨_, rfl⟩
  obtain ⟨d, ed⟩ : ∃ d, c.settleLamps = d := ⟨_, rfl⟩
  obtain ⟨t, et⟩ : ∃ t, d.settleDoors = t := ⟨_, rfl⟩
  have goes : s.settleBlocks = t := by rw [State.settleBlocks, ea, eb, ec, ed, et]
  have only := s.settleBlocks_only
  rw [goes] at only ⊢
  have lines : OnlyChanges lineParts s a := ea ▸ s.settleLines_only
  have gauges : OnlyChanges (.gve :: faultParts) a b := eb ▸ a.settleGauges_only
  have rules : OnlyChanges ruleParts b c := ec ▸ b.settleRules_only
  have lamps : OnlyChanges pruParts c d := ed ▸ c.settleLamps_only
  have doors : OnlyChanges doorParts d t := et ▸ d.settleDoors_only
  have wa : a.tables = s.tables := lines.same .tables
  have wb : b.tables = s.tables := (gauges.same .tables).trans wa
  have wc : c.tables = s.tables := (rules.same .tables).trans wb
  have wd : d.tables = s.tables := (lamps.same .tables).trans wc
  have line := s.settleLines_line
  have summary := s.settleLines_summary
  have lineClears := s.settleLines_clears
  have channel := a.settleGauges_channel
  have units := a.settleGauges_units
  have gaugeClears := a.settleGauges_clears
  obtain ⟨ruleClears, rule, seq, published⟩ := b.settleRules_parts
  obtain ⟨lampClears, lamp, rest⟩ := c.settleLamps_parts
  obtain ⟨doorClears, door, interlock⟩ := d.settleDoors_parts
  rw [ea] at line summary lineClears
  rw [eb] at channel units gaugeClears
  rw [ec] at ruleClears rule seq published
  rw [ed] at lampClears lamp rest
  rw [et] at doorClears door interlock
  rw [wa] at channel gaugeClears
  rw [wb] at ruleClears rule
  rw [wc] at lampClears lamp
  rw [wd] at doorClears door
  have hlm : t.hlm = a.hlm := (doors.same .hlm).trans ((lamps.same .hlm).trans ((rules.same .hlm).trans (gauges.same .hlm)))
  have gve : t.gve = b.gve := (doors.same .gve).trans ((lamps.same .gve).trans (rules.same .gve))
  have gve' : a.gve = s.gve := lines.same .gve
  have wev : t.wev = c.wev := (doors.same .wev).trans (lamps.same .wev)
  have wev' : b.wev = s.wev := (gauges.same .wev).trans (lines.same .wev)
  have pru : t.pru = d.pru := doors.same .pru
  have pru' : c.pru = s.pru := published.trans ((gauges.same .pru).trans (lines.same .pru))
  have dmn : d.dmn = s.dmn := (lamps.same .dmn).trans ((rules.same .dmn).trans ((gauges.same .dmn).trans (lines.same .dmn)))
  refine ⟨(((lineClears.trans gaugeClears).trans ruleClears).trans lampClears).trans doorClears, fun n => ?_, ?_, fun k => ?_, ?_,
    fun m => ?_, ?_, fun n => ?_, fun p => ?_, fun e => ?_, ?_, only⟩
  · exact (congrArg (fun h : Hlm => h.lines[n]) hlm).trans (line n)
  · exact ⟨(congrArg Hlm.detail hlm).trans summary.1, (congrArg Hlm.summaryNo hlm).trans summary.2⟩
  · have before : a.channel k = s.channel k := congrArg (fun g : Gve => g.channels[k]) gve'
    rw [← before, ← channel k]
    exact congrArg (fun g : Gve => g.channels[k]) gve
  · rw [gve, units, gve']
  · rw [← State.rule_eq s wev' m, ← rule m]
    exact State.rule_eq c wev m
  · rw [wev, seq, wev']
  · have before : c.lamp n = s.lamp n := congrArg (fun p : Pru => p.lamps[n]) pru'
    rw [← before, ← lamp n]
    exact congrArg (fun p : Pru => p.lamps[n]) pru
  · rw [pru, rest p, pru']
  · have before : d.door e = s.door e := congrArg (fun m : Dmn => m.doors[e]) dmn
    rw [door e, before]
  · rw [interlock.1, interlock.2, dmn]
    exact ⟨rfl, rfl⟩

/-- R60: whose two codes a channel settles. -/
theorem Tables.mem_gaugeCodes (w : Tables) (k : Fin 6) (c : FaultCode) : c ∈ w.gaugeCodes k ↔
    (c = .gauge k .lost ∧ (w.channels[k]).source ≠ .host) ∨
      (c = .gauge k .pulseNoise ∧ (w.channels[k]).source ≠ .pulse) := by
  rw [Tables.gaugeCodes]
  cases (w.channels[k]).source <;> simp [Source.settles]

theorem mem_ite_nil {α : Type} (p : Prop) [Decidable p] (l : List α) (x : α) :
    x ∈ (if p then l else []) ↔ p ∧ x ∈ l := by
  by_cases h : p <;> simp [h]

theorem Tables.settles_line (w : Tables) (n : Fin 32) (y : LineSym) : w.settles (.line n y) = w.settlesLine n := by
  rw [Tables.settles, Tables.settlesLine]
  cases (w.lines[n]).fn <;> rfl

theorem Tables.settles_gauge (w : Tables) (k : Fin 6) : w.settles (.gauge k .lost) = (w.channels[k]).source.settles.1 ∧
    w.settles (.gauge k .pulseNoise) = (w.channels[k]).source.settles.2 := by
  rw [Tables.settles, Tables.settles]
  cases (w.channels[k]).source <;> exact ⟨rfl, rfl⟩

/-- R33, R60, R107, R127, R142, R150, R205: which codes these are, with HOST_SILENT. -/
theorem Tables.blockCodes_contains (w : Tables) (c : FaultCode) : (w.blockCodes ++ [FaultCode.hostSilent]).contains c = w.settles c := by
  have sets (d : Fin 4) : w.doorCodes d =
      if (w.doors[d]).configured = false then doorSyms.map (FaultCode.door d) else [] := by
    rw [Tables.doorCodes]
    cases (w.doors[d]).configured <;> rfl
  rw [Bool.eq_iff_iff, List.contains_iff_mem]
  simp only [Tables.blockCodes, sets, List.mem_append, List.mem_flatMap, List.mem_finRange, true_and,
    List.mem_singleton, mem_ite_nil, Tables.mem_gaugeCodes, List.mem_map]
  cases c with
  | line n y =>
    have whole : y ∈ lineSyms := by cases y <;> decide
    simp [w.settles_line n y, whole]
  | gauge k y => cases y <;> simp [Tables.settles]
  | lamp n y => cases y <;> simp [Tables.settles]
  | door d y =>
    have whole : y ∈ doorSyms := by cases y <;> decide
    simp [Tables.settles, whole]
  | rule m => simp [Tables.settles, Tables.settlesRule]
  | _ => simp [Tables.settles]

end Sys2Proof.Machine
end

section
/-! PROOFS. The entry to RUN or STANDBY by the accepted IGN, at the end of STARTUP and at the exit from SETUP
(R7, R12, R151, R202). -/

namespace Sys2Proof.Machine
set_option Elab.async false

/-- Turns that leave a state as it is. -/
theorem forEach_idle {n : Nat} (f : Fin n → State → State) (s : State) (idle : ∀ i, f i s = s) : forEach f s = s := by
  have turns (l : List (Fin n)) : l.foldl (fun s i => f i s) s = s := by
    induction l with
    | nil => rfl
    | cons i l ih => rw [List.foldl_cons, idle i, ih]
  exact turns _

section
variable (s : State)

/-- R103: without a LATCHED_ACK rule an ignition-on ends none. -/
theorem State.endIgnitionLatches_idle (none_ : ∀ m, (s.rule m).st ≠ .latchedAck) : s.endIgnitionLatches = s :=
  forEach_idle _ s fun m => if_neg (none_ m)

/-- R11, R123: the ignition-on before the needles and the outputs. -/
def State.cycleBegun : State :=
  (((s.setMode .run).bump ignitionPlace).modMctl fun c => { c with cycle := true, minute := c.minute.goOn s.now }).startLampCheck

theorem State.cycleBegun_only : OnlyChanges [.mctl, .pru, .fmy] s s.cycleBegun :=
  (((s.setMode_only .run).andThen (State.bump_only _ _) (n := [.mctl, .fmy])).andThen (State.modMctl_only _ _)
    (n := [.mctl, .fmy])).andThen (State.startLampCheck_only _)

theorem State.enterRun_idle (none_ : ∀ m, (s.rule m).st ≠ .latchedAck) :
    s.enterRun = s.cycleBegun.runNeedles.publishLamps.refreshChime := by
  have goes : s.enterRun = s.cycleBegun.endIgnitionLatches.runNeedles.publishLamps.refreshChime := rfl
  rw [goes, State.endIgnitionLatches_idle]
  intro m
  rw [State.rule_eq s (s.cycleBegun_only.same .wev) m]
  exact none_ m

/-- R156, R158: without a LATCHED_ACK rule an ignition-on makes no report. -/
theorem State.enterRun_table (none_ : ∀ m, (s.rule m).st ≠ .latchedAck) : s.enterRun.fmy.table = s.fmy.table := by
  have after : OnlyChanges [.ndr, .pru] s.cycleBegun s.enterRun := by
    rw [s.enterRun_idle none_]
    exact ((State.runNeedles_only _).andThen (State.publishLamps_only _) (n := [.ndr, .pru])).andThen
      (State.refreshChime_only _)
  rw [after.same .fmy]
  rfl

/-! ### What PRU keeps beside its outputs -/

/-- The list, the flash phase, the SINGLE marks and the diagnosis of every lamp stay. -/
structure KeepsPru (s t : State) : Prop where
  list : t.pru.list = s.pru.list
  shown : t.pru.shown = s.pru.shown
  phase : t.pru.phase = s.pru.phase
  marks : t.pru.singleMarks = s.pru.singleMarks
  lamp : ∀ n, t.lamp n = { s.lamp n with published := (t.lamp n).published, success := (t.lamp n).success }

theorem PutsOut.keeps {s t : State} (h : PutsOut s t) : KeepsPru s t := ⟨h.list, h.shown, h.phase, h.marks, h.lamp⟩

theorem KeepsPru.of_pru {s t : State} (h : t.pru = s.pru) : KeepsPru s t := by
  refine ⟨by rw [h], by rw [h], by rw [h], by rw [h], fun n => ?_⟩
  rw [State.lamp, h, State.lamp]

theorem KeepsPru.trans {s t u : State} (h : KeepsPru s t) (k : KeepsPru t u) : KeepsPru s u where
  list := k.list.trans h.list
  shown := k.shown.trans h.shown
  phase := k.phase.trans h.phase
  marks := k.marks.trans h.marks
  lamp n := by rw [k.lamp n, h.lamp n]

theorem State.enterRun_keepsPru (none_ : ∀ m, (s.rule m).st ≠ .latchedAck) : KeepsPru s s.enterRun := by
  have first : KeepsPru s s.cycleBegun.runNeedles := ⟨rfl, rfl, rfl, rfl, fun _ => rfl⟩
  rw [s.enterRun_idle none_]
  exact first.trans ((State.publishLamps_putsOut _).trans (State.refreshChime_putsOut _)).keeps

/-! ### The mode by the accepted IGN -/

/-- R7, R12: RUN by the accepted ACTIVE, otherwise STANDBY. -/
def State.byIgnition : State := if s.mctl.ign = .active then s.enterRun else s.setMode .standby

/-- What the entry to RUN or STANDBY leaves. -/
structure ByIgnition (s t : State) : Prop where
  mode : t.mode = if s.mctl.ign = .active then .run else .standby
  run : t.mode = .run → EntersRun s t
  standby : t.mode ≠ .run → OnlyChanges [.mctl] s t
  table : (∀ m, (s.rule m).st ≠ .latchedAck) → t.fmy.table = s.fmy.table
  lights : (∀ m, (s.rule m).st ≠ .latchedAck) → KeepsPru s t
  only : OnlyChanges ignitionParts s t

theorem State.byIgnition_spec : ByIgnition s s.byIgnition := by
  unfold State.byIgnition
  by_cases active : s.mctl.ign = .active
  · have spec := s.enterRun_spec
    have table := s.enterRun_table
    have lights := s.enterRun_keepsPru
    rw [if_pos active]
    generalize s.enterRun = t at spec table lights
    have mode : t.mode = .run := congrArg Mctl.mode spec.mctl
    refine ⟨?_, fun _ => spec, fun out => absurd mode out, table, lights, spec.only⟩
    rw [if_pos active, mode]
  · rw [if_neg active]
    refine ⟨(if_neg active).symm, fun run => ?_, fun _ => s.setMode_only _, fun _ => rfl, fun _ => .of_pru rfl, (s.setMode_only _).mono⟩
    cases run

theorem ByIgnition.rule {s t : State} (h : ByIgnition s t) (none_ : ∀ m, (s.rule m).st ≠ .latchedAck) (m : Fin 64) :
    t.rule m = s.rule m := by
  by_cases run : t.mode = .run
  · rw [(h.run run).rule m, if_neg (none_ m)]
  · exact State.rule_eq s ((h.standby run).same .wev) m

theorem ByIgnition.counter {s t : State} (h : ByIgnition s t) : t.counter ignitionPlace =
    if t.mode = .run then min (s.counter ignitionPlace + 1) counterMax else s.counter ignitionPlace := by
  by_cases run : t.mode = .run
  · rw [if_pos run]
    exact (h.run run).count
  · rw [if_neg run, State.counter, (h.standby run).same .fmy, State.counter]

/-! ### The interlock out of FORCED -/

/-- R149: a report or an override episode leaves the ignition cycles alone. -/
theorem State.freeInterlock_cycles : s.freeInterlock.counter ignitionPlace = s.counter ignitionPlace := by
  unfold State.freeInterlock
  split
  · have count (u : State) : (u.reportActive .override).counter ignitionPlace = u.counter ignitionPlace :=
      congrArg (fun v : Vector Nat 12 => v[ignitionPlace]) (u.report_counters .override true)
    have set : (s.setInterlock .overridden .stopped).counter ignitionPlace = s.counter ignitionPlace := by
      rw [State.counter, (s.setInterlock_only _ _).same .fmy, State.counter]
    rw [State.beginOverride, count, ← set]
    exact (State.bump_counter _ overridePlace ignitionPlace).trans (if_neg (by decide))
  · split
    all_goals rw [State.counter, (s.setInterlock_only _ _).same .fmy, State.counter]

/-- R149, R151: without an override the interlock alone changes, and no report is made. -/
theorem State.freeInterlock_quiet (off : s.overrideActive = false) : OnlyChanges [.dmn, .attention] s s.freeInterlock ∧
    ∀ d, s.freeInterlock.door d = s.door d := by
  have set (i : Interlock) (x : Timer) (d : Fin 4) : (s.setInterlock i x).door d = s.door d :=
    (congrArg (fun m : Dmn => m.doors[d]) (s.setInterlock_dmn i x) :)
  unfold State.freeInterlock
  rw [off, if_neg Bool.false_ne_true]
  split
  · exact ⟨s.setInterlock_only _ _, set _ _⟩
  · exact ⟨s.setInterlock_only _ _, set _ _⟩

/-! ### Both, with the silence timer -/

theorem State.leaveStartup_passed : s.leaveStartup true = s.byIgnition.freeInterlock.startSilenceTimer := by
  rw [State.leaveStartup, if_pos rfl, State.byIgnition]

/-- R7, R12, R151, R202: what the entry to RUN or STANDBY leaves, with the interlock and the silence timer. -/
structure Begins (s t : State) : Prop where
  mode : t.mode = if s.mctl.ign = .active then .run else .standby
  run : t.mode = .run → t.mctl.cycle = true ∧ IgnitionOn s t
  standby : t.mode ≠ .run → t.ndr = s.ndr ∧ t.pru = s.pru
  counter : t.counter ignitionPlace =
    if t.mode = .run then min (s.counter ignitionPlace + 1) counterMax else s.counter ignitionPlace
  rule : (∀ m, (s.rule m).st ≠ .latchedAck) → ∀ m, t.rule m = s.rule m
  table : (∀ m, (s.rule m).st ≠ .latchedAck) → s.overrideActive = false → t.fmy.table = s.fmy.table
  lights : (∀ m, (s.rule m).st ≠ .latchedAck) → KeepsPru s t
  door : s.overrideActive = false → ∀ d, t.door d = s.door d
  interlock : s.overrideActive = false → t.dmn.interlock = if t.anyCondition then .held else .delay
  timer : t.lif.link = { s.lif.link with silenceTimer := if s.lif.silence then .stopped else .running s.now }
  only : OnlyChanges (.dmn :: .link :: ignitionParts) s t

theorem State.leaveStartup_begins : Begins s (s.leaveStartup true) := by
  have only := s.leaveStartup_only true
  have goes := s.leaveStartup_passed
  generalize s.leaveStartup true = t at only goes
  have spec := s.byIgnition_spec
  generalize s.byIgnition = a at goes spec
  have freed := a.freeInterlock_only
  have cycles := a.freeInterlock_cycles
  have interlock := a.freeInterlock_interlock
  have quiet := a.freeInterlock_quiet
  generalize a.freeInterlock = b at goes freed cycles interlock quiet
  have last : OnlyChanges [.link] b t := goes ▸ b.startSilenceTimer_only
  have after : OnlyChanges (.link :: doorParts) a t := freed.andThen last
  have mode : t.mode = a.mode := after.keepsMode
  have dmn : t.dmn = b.dmn := last.same .dmn
  have override : a.overrideActive = s.overrideActive := spec.only.overrideActive_eq
  refine ⟨mode.trans spec.mode, fun run => ?_, fun stands => ?_, ?_, fun none_ m => ?_, fun none_ off => ?_, fun none_ => ?_,
    fun off d => ?_, fun off => ?_, ?_, only⟩
  · have enters := spec.run (mode ▸ run)
    refine ⟨?_, ?_⟩
    · rw [after.same .mctl, enters.mctl]
    · obtain ⟨homes, others, sweep, check⟩ := enters.ignition
      have tables : t.tables = a.tables := after.same .tables
      have ndr : t.ndr = a.ndr := after.same .ndr
      have needle (k : Fin 6) : t.needle k = a.needle k := congrArg (fun n : Ndr => n.needles[k]) ndr
      have cfg (k : Fin 6) : t.channelCfg k = a.channelCfg k := by rw [State.channelCfg, State.channelCfg, tables]
      refine ⟨fun k h => ?_, fun k moves h => ?_, ?_, ?_⟩
      · rw [cfg] at h ⊢
        rw [needle]
        exact homes k h
      · rw [cfg] at h
        rw [needle]
        exact others k moves h
      · rw [ndr, sweep]
      · rw [after.same .pru, tables, after.same .now]
        exact check
  · have early := spec.standby (mode ▸ stands)
    exact ⟨(after.same .ndr).trans (early.same .ndr), (after.same .pru).trans (early.same .pru)⟩
  · rw [mode, ← spec.counter, ← cycles, State.counter, last.same .fmy, State.counter]
  · rw [State.rule_eq a (after.same .wev) m]
    exact spec.rule none_ m
  · have still := (quiet (override.trans off)).1
    rw [last.same .fmy, still.same .fmy]
    exact spec.table none_
  · exact (spec.lights none_).trans (.of_pru (after.same .pru))
  · have still := (quiet (override.trans off)).2 d
    have early : a.door d = s.door d := congrArg (fun m : Dmn => m.doors[d]) (spec.only.same .dmn)
    rw [← early, ← still]
    exact congrArg (fun m : Dmn => m.doors[d]) dmn
  · have doors := (quiet (override.trans off)).2
    have same : t.anyCondition = a.anyCondition := by
      refine after.anyCondition_eq fun d => ?_
      rw [show t.door d = b.door d from congrArg (fun m : Dmn => m.doors[d]) dmn, doors d]
      exact ⟨rfl, rfl⟩
    rw [dmn, interlock, override, off, same, if_neg Bool.false_ne_true]
  · have before : OnlyChanges (.dmn :: ignitionParts) s b := spec.only.andThen freed
    have link : b.lif.link = s.lif.link := before.link_eq
    have silence : b.lif.silence = s.lif.silence := (congrArg Lif.silence link :)
    have now : b.now = s.now := before.same .now
    rw [← link, ← silence, ← now, goes]
    rfl

end

end Sys2Proof.Machine
end

section
/-! PROOFS. The end of STARTUP (O5). -/

namespace Sys2Proof.Machine
set_option Elab.async false

/-! ### The attention causes of the settling -/

section
variable (s : State)

theorem Raises.forEach {cs : List Cause} {n : Nat} (f : Fin n → State → State) (turn : ∀ i s, Raises cs s (f i s)) (s : State) :
    Raises cs s (Machine.forEach f s) := .foldl _ (fun s i => turn i s) _ s

theorem State.settleBlocks_raises : Raises [.fault, .lost] s s.settleBlocks := by
  have all (u : State) (l : List FaultCode) : Raises [.fault, .lost] u (u.reportAllCleared l) := State.reportAllCleared_raises l
  have lines (u : State) : Raises [.fault, .lost] u u.settleLines := by
    unfold State.settleLines
    exact .forEach _ (fun n u => .ite ((all u _).trans (State.modLine_only _ n _).raises) (.refl _ u)) u
  have gauges (u : State) : Raises [.fault, .lost] u u.settleGauges := by
    rw [State.settleGauges_eq]
    refine .forEach _ (fun k u => ?_) u
    have turn : Raises [.fault, .lost] u (u.settleGauge k) := by
      delta State.settleGauge
      extract_lets x v
      have first : Raises [.fault, .lost] u v := .ite (u.reportCleared_raises _) (.refl _ u)
      exact first.trans (.ite (v.reportCleared_raises _) (.refl _ v))
    exact turn.trans (State.modChannel_only _ k _).raises
  have rules (u : State) : Raises [.fault, .lost] u u.settleRules := by
    unfold State.settleRules
    exact .forEach _ (fun m u => .ite (.refl _ u) ((u.reportCleared_raises _).trans (State.modRule_only _ m _).raises)) u
  have lamps (u : State) : Raises [.fault, .lost] u u.settleLamps := by
    unfold State.settleLamps
    exact .forEach _ (fun n u => .ite ((all u _).trans (State.modLamp_only _ n _).raises) (.refl _ u)) u
  have doors (u : State) : Raises [.fault, .lost] u u.settleDoors := by
    unfold State.settleDoors
    exact (Raises.forEach _ (fun d u => .ite (.refl _ u) ((all u _).trans (State.modDoor_only _ d _).raises)) u).trans
      (State.reportCleared_raises _ _)
  unfold State.settleBlocks
  exact ((((lines s).trans (gauges _)).trans (rules _)).trans (lamps _)).trans (doors _)

theorem State.leaveStartup_attends (passed : Bool) (h : s.lif.attention.has .mode = true) :
    (s.leaveStartup passed).lif.attention.has .mode = true := by
  have latches (u : State) : Raises [.warn, .fault, .lost] u u.endIgnitionLatches := by
    unfold State.endIgnitionLatches
    exact .forEach _ (fun m u => .ite (u.changeRule_raises m _) (.refl _ u)) u
  have runs : s.enterRun.lif.attention.has .mode = true := by
    have goes : s.enterRun = s.cycleBegun.endIgnitionLatches.runNeedles.publishLamps.refreshChime := rfl
    have after (u : State) : OnlyChanges [.ndr, .pru] u u.runNeedles.publishLamps.refreshChime :=
      ((State.runNeedles_only _).andThen (State.publishLamps_only _) (n := [.ndr, .pru])).andThen (State.refreshChime_only _)
    rw [goes, (after _).same .attention]
    exact (latches _).keeps _ h
  cases passed with
  | true =>
    rw [State.leaveStartup_passed]
    refine (s.byIgnition.freeInterlock_raises).keeps _ ?_
    unfold State.byIgnition
    split
    · exact runs
    · exact h
  | false => exact h

end

/-! ### The blocks settled -/

section
variable (s : State)

/-- R28, R37, R44: the lines, units and services at the end of STARTUP. -/
def State.servicesBegun : State := s.dropUnclassified.startComparators.startUnits.startServices

theorem State.servicesBegun_only : OnlyChanges [.hlm, .gve, .sched] s s.servicesBegun :=
  (((State.dropUnclassified_only _).andThen (State.startComparators_only _) (n := [.hlm])).andThen
    (State.startUnits_only _) (n := [.hlm, .gve])).andThen (State.startServices_only _)

theorem forLines_line (f : Fin 32 → LineRec → LineRec) (n : Fin 32) : (forLines f s).line n = f n (s.line n) := by
  rw [State.line, forLines, State.modHlm_hlm]
  exact updAll_get _ _ n

theorem State.startComparators_line (n : Fin 32) : s.startComparators.line n =
    { s.line n with comparator := if (s.lineCfg n).fn = .pulse then .fresh else .stopped } := forLines_line s _ n

theorem State.dropUnclassified_line (n : Fin 32) : s.dropUnclassified.line n =
    if (s.lineCfg n).fn.classified then s.line n else { s.line n with measured := none } := forLines_line s _ n

theorem State.servicesBegun_line (n : Fin 32) : s.servicesBegun.line n = { s.line n with
    measured := if (s.lineCfg n).fn.classified then (s.line n).measured else none,
    comparator := if (s.lineCfg n).fn = .pulse then .fresh else .stopped } := by
  have drop := s.dropUnclassified_line n
  have same := s.dropUnclassified_only.same .tables
  have goes : s.servicesBegun = s.dropUnclassified.startComparators.startUnits.startServices := rfl
  generalize s.dropUnclassified = u at drop same goes
  have cfg : u.lineCfg n = s.lineCfg n := by rw [State.lineCfg, same, State.lineCfg]
  have start := u.startComparators_line n
  have later : OnlyChanges [.gve, .sched] u.startComparators s.servicesBegun :=
    goes ▸ (State.startUnits_only _).andThen (State.startServices_only _)
  have end_ : s.servicesBegun.line n = u.startComparators.line n := congrArg (fun h : Hlm => h.lines[n]) (later.same .hlm)
  rw [end_, start, drop, cfg]
  split <;> rfl

theorem State.startUnits_parts : (∀ u, s.startUnits.unit u = { base := .running s.now, tRef := none, tLast := none, edges := 0, glitches := 0 }) ∧
    ∀ k, s.startUnits.channel k = s.channel k := by
  refine ⟨fun u => ?_, fun k => ?_⟩
  · rw [State.unit, State.startUnits, forUnits, State.modGve_gve]
    exact updAll_get _ _ u
  · rw [State.channel, State.startUnits, forUnits, State.modGve_gve, State.channel]

theorem State.servicesBegun_gauges : (∀ u, s.servicesBegun.unit u =
      { base := .running s.now, tRef := none, tLast := none, edges := 0, glitches := 0 }) ∧
    ∀ k, s.servicesBegun.channel k = s.channel k := by
  have goes : s.servicesBegun = s.dropUnclassified.startComparators.startUnits.startServices := rfl
  have before : OnlyChanges [.hlm] s s.dropUnclassified.startComparators :=
    s.dropUnclassified_only.trans (State.startComparators_only _)
  generalize s.dropUnclassified.startComparators = u at goes before
  obtain ⟨units, channels⟩ := u.startUnits_parts
  have later : OnlyChanges [.sched] u.startUnits s.servicesBegun := goes ▸ State.startServices_only _
  have gve : s.servicesBegun.gve = u.startUnits.gve := later.same .gve
  have now : u.now = s.now := before.same .now
  refine ⟨fun q => ?_, fun k => ?_⟩
  · rw [← now, ← units q]
    exact congrArg (fun g : Gve => g.units[q]) gve
  · have still : u.channel k = s.channel k := congrArg (fun g : Gve => g.channels[k]) (before.same .gve)
    rw [← still, ← channels k]
    exact congrArg (fun g : Gve => g.channels[k]) gve

/-- R7: the end of STARTUP before the new mode. -/
def State.startupSettled : State :=
  ((s.tablesTaken.attend .mode).report .imageBad s.mctl.loaded.isNone).settleBlocks.settleLink.servicesBegun

/-- R8, R9: the tables that the end of STARTUP takes. -/
def State.startupTables : Tables := s.mctl.loaded.getD {}

theorem State.endStartup_settled : s.endStartup =
    (s.startupSettled.leaveStartup s.mctl.loaded.isSome).holdIfAsserted.refreshPru := by
  have absent : (!s.mctl.loaded.isSome) = s.mctl.loaded.isNone := by cases s.mctl.loaded <;> rfl
  rw [State.startupSettled, ← absent]
  rfl

/-- What is left of the records before the new mode. -/
structure StartupSettled (s t : State) : Prop where
  tables : t.tables = s.startupTables
  mctl : t.mctl = { s.mctl with loaded := none }
  attends : t.lif.attention.has .mode = true
  link : t.lif.link = { s.lif.link with linkMark := false }
  counters : t.fmy.counters = s.fmy.counters
  table : (s.fmy.table.map (·.code)).Nodup → s.fmy.loading = false →
    t.fmy.table = (s.report .imageBad s.mctl.loaded.isNone).fmy.table.map fun e =>
      if s.startupTables.settles e.code then { e with active := false } else e
  line : ∀ n, t.line n = { s.line n with
    measured := if (s.startupTables.lines[n]).fn.classified then (s.line n).measured else none,
    symptom := if s.startupTables.settles (.line n .openWire) then .nothing else (s.line n).symptom,
    comparator := if (s.startupTables.lines[n]).fn = .pulse then .fresh else .stopped }
  channel : ∀ k, t.channel k = { s.channel k with
    lostMark := (s.channel k).lostMark && !s.startupTables.settles (.gauge k .lost),
    noiseMark := (s.channel k).noiseMark && !s.startupTables.settles (.gauge k .pulseNoise) }
  unit : ∀ u, t.unit u = { base := .running s.now, tRef := none, tLast := none, edges := 0, glitches := 0 }
  rule : ∀ m, t.rule m = { s.rule m with mark := (s.rule m).mark && !s.startupTables.settles (.rule m) }
  lamp : ∀ n, t.lamp n = (s.lamp n).settled (s.startupTables.lamps[n]).suppressed
  check : t.pru.lampCheck = s.pru.lampCheck
  door : ∀ d, t.door d = { s.door d with marks := if (s.startupTables.doors[d]).configured then (s.door d).marks else [] }
  only : OnlyChanges [.sched, .mctl, .hlm, .gve, .wev, .pru, .dmn, .fmy, .cursor, .attention, .link, .tables] s t

theorem State.startupSettled_spec : StartupSettled s s.startupSettled := by
  have goes : s.startupSettled = ((s.tablesTaken.attend .mode).report .imageBad s.mctl.loaded.isNone).settleBlocks.settleLink.servicesBegun := rfl
  generalize s.startupSettled = t at goes
  let a := s.tablesTaken.attend .mode
  have reported := a.report_only .imageBad s.mctl.loaded.isNone
  have reportedCounters := a.report_counters .imageBad s.mctl.loaded.isNone
  have reportedAttends := (a.report_raises .imageBad s.mctl.loaded.isNone).keeps .mode (Attention.has_raise s.lif.attention .mode)
  have reportedFmy : (a.report .imageBad s.mctl.loaded.isNone).fmy = (s.report .imageBad s.mctl.loaded.isNone).fmy := by
    have same : a.fmy = s.fmy := rfl
    simp only [State.report, same]
    split
    · simp [same, FaultCode.priority]
    · exact State.handleReport_fmy_congr same _ (fun h => absurd h (by decide)) _ _
  have one : s.OneEach → s.fmy.loading = false → (a.report .imageBad s.mctl.loaded.isNone).OneEach := by
    intro distinct loaded
    cases s.mctl.loaded.isNone
    · exact State.OneEach.reportCleared (s := a) .imageBad distinct loaded
    · exact State.OneEach.reportActive (s := a) .imageBad distinct loaded
  have loading := a.report_loading .imageBad s.mctl.loaded.isNone
  generalize a.report .imageBad s.mctl.loaded.isNone = b at goes reported reportedCounters reportedAttends reportedFmy one loading
  have settles := b.settleBlocks_settles
  have settledAttends := b.settleBlocks_raises.keeps .mode reportedAttends
  generalize b.settleBlocks = c at goes settles settledAttends
  have settledTables : c.tables = b.tables := settles.clears.tables
  let d := c.reportCleared .hostSilent
  have last : OnlyChanges faultParts c d := c.reportCleared_only _
  have lastAttends : d.lif.attention.has .mode = true := (c.reportCleared_raises _).keeps .mode settledAttends
  have taken : b.tables = s.startupTables := reported.same .tables
  have clears : Clears (s.startupTables.blockCodes ++ [.hostSilent]) b d := taken ▸ settles.clears.trans (.one c _)
  have goes : t = (d.modLif fun l => { l with linkMark := false }).servicesBegun := goes
  generalize d = d at goes last lastAttends clears
  let e := d.modLif fun l => { l with linkMark := false }
  have after : OnlyChanges [.hlm, .gve, .sched] e t := goes ▸ e.servicesBegun_only
  have line := e.servicesBegun_line
  obtain ⟨unit, channel⟩ := e.servicesBegun_gauges
  rw [← show t = e.servicesBegun from goes] at line unit channel
  have early : OnlyChanges settleParts b d := settles.only.andThen last
  have before : OnlyChanges (.mctl :: .tables :: settleParts) s d := by
    have first : OnlyChanges [.mctl, .tables, .attention] s a :=
      .trans (t := s.tablesTaken) (by intro p hp; cases p <;> first | exact absurd (by decide) hp | rfl)
        (s.tablesTaken.attend_only _).mono
    exact first.andThen (reported.andThen early (n := settleParts))
  have fmy : t.fmy = d.fmy := after.same .fmy
  have cfg : t.tables = s.startupTables := (after.same .tables).trans (clears.tables.trans taken)
  refine ⟨cfg, ?_, ?_, ?_, ?_, fun distinct loaded => ?_, fun n => ?_, fun k => ?_, fun u => ?_, fun m => ?_, fun n => ?_, ?_,
    fun q => ?_, ?_⟩
  · rw [after.same .mctl]
    exact (early.same .mctl).trans (reported.same .mctl)
  · rw [after.same .attention]
    exact lastAttends
  · rw [after.link_eq]
    have link : d.lif.link = s.lif.link := before.link_eq
    rw [← link]
    rfl
  · rw [fmy, clears.fmy, State.reportAllCleared_counters, reportedCounters]
    rfl
  · rw [fmy, clears.fmy, State.reportAllCleared_table _ (loading.trans loaded) (one distinct loaded), reportedFmy]
    refine List.map_congr_left fun x _ => ?_
    unfold FaultEntry.cleared
    rw [Tables.blockCodes_contains]
  · have old : b.line n = s.line n := congrArg (fun h : Hlm => h.lines[n]) (reported.same .hlm)
    have mid : d.line n = c.line n := congrArg (fun h : Hlm => h.lines[n]) (last.same .hlm)
    have settled : d.line n = _ := mid.trans (settles.line n)
    rw [old, taken] at settled
    have cfg : e.lineCfg n = s.startupTables.lines[n] := by
      have same : e.lineCfg n = d.lineCfg n := rfl
      rw [same, State.lineCfg, clears.tables, taken]
    have still : e.line n = d.line n := rfl
    rw [line, still, settled, cfg, Tables.settles_line]
  · have old : b.channel k = s.channel k := congrArg (fun g : Gve => g.channels[k]) (reported.same .gve)
    have mid : d.channel k = c.channel k := congrArg (fun g : Gve => g.channels[k]) (last.same .gve)
    have end_ : t.channel k = d.channel k := channel k
    obtain ⟨lost, noise⟩ := s.startupTables.settles_gauge k
    rw [end_, mid, settles.channel, old, taken, lost, noise]
    rfl
  · have now : e.now = s.now := before.same .now
    rw [unit, now]
  · have wev : t.wev = c.wev := (after.same .wev).trans (last.same .wev)
    rw [State.rule_eq c wev, settles.rule, State.rule_eq s (reported.same .wev), taken]
    rfl
  · have old : b.lamp n = s.lamp n := congrArg (fun p : Pru => p.lamps[n]) (reported.same .pru)
    have end_ : t.lamp n = c.lamp n := congrArg (fun p : Pru => p.lamps[n]) ((after.same .pru).trans (last.same .pru))
    rw [end_, settles.lamp, old, taken]
  · have kept : c.pru.lampCheck = b.pru.lampCheck := (congrArg Pru.lampCheck (settles.pru s.pru.lamps) :)
    rw [after.same .pru]
    exact (congrArg Pru.lampCheck (last.same .pru)).trans (kept.trans (congrArg Pru.lampCheck (reported.same .pru)))
  · have old : b.door q = s.door q := congrArg (fun m : Dmn => m.doors[q]) (reported.same .dmn)
    have end_ : t.door q = c.door q := congrArg (fun m : Dmn => m.doors[q]) ((after.same .dmn).trans (last.same .dmn))
    rw [end_, settles.door, old, taken]
  · have link : OnlyChanges [.link] d e := d.modLif_only _ (by intro; rfl)
    exact (before.andThen link (n := .link :: .mctl :: .tables :: settleParts)).andThen after

/-! ### The new mode -/

theorem Needle.beginHoming_homesOver (n : Needle) (pmax : Nat) : n.beginHoming pmax = n.homesOver pmax := by
  unfold Needle.beginHoming Needle.become Needle.homesOver
  by_cases suspended : n.st = .suspended <;> simp [suspended]

/-- R7: UNCONFIGURED homes every needle. -/
theorem State.leaveStartup_failed : (s.leaveStartup false).mode = .unconfigured ∧
    (∀ k, (s.leaveStartup false).needle k = (s.needle k).homesOver (s.channelCfg k).pmax) ∧
    (s.leaveStartup false).ndr.sweep = s.ndr.sweep ∧ OnlyChanges [.mctl, .ndr] s (s.leaveStartup false) := by
  have goes : s.leaveStartup false = (s.setMode .unconfigured).homeAllNeedles := rfl
  have homes : OnlyChanges [.ndr] (s.setMode .unconfigured) (s.leaveStartup false) := goes ▸ State.homeAllNeedles_only _
  refine ⟨homes.keepsMode, fun k => ?_, rfl, (s.setMode_only _).andThen homes⟩
  have turned : (s.leaveStartup false).needle k = (s.needle k).beginHoming (s.channelCfg k).pmax := updAll_get _ _ k
  rw [turned]
  exact Needle.beginHoming_homesOver _ _

/-- R206, R207: the hold and the outputs at the end of STARTUP leave the rest as the new mode has it. -/
theorem State.holdIfAsserted_refreshPru : OnlyChanges [.link, .pru] s s.holdIfAsserted.refreshPru ∧
    KeepsPru s s.holdIfAsserted.refreshPru ∧ s.holdIfAsserted.refreshPru.pru.lampCheck = s.pru.lampCheck ∧
    s.holdIfAsserted.refreshPru.lif.linkMark = s.lif.linkMark ∧
    s.holdIfAsserted.refreshPru.lif.hold = (s.lif.hold || s.pins.holdAsserted) := by
  have held := s.holdIfAsserted_only
  have hold : s.holdIfAsserted.lif.linkMark = s.lif.linkMark ∧
      s.holdIfAsserted.lif.hold = (s.lif.hold || s.pins.holdAsserted) := by
    unfold State.holdIfAsserted
    cases s.pins.holdAsserted
    · exact ⟨rfl, (Bool.or_false _).symm⟩
    · exact ⟨rfl, (Bool.or_true _).symm⟩
  generalize s.holdIfAsserted = u at held hold
  have out := u.refreshPru_putsOut
  have link : u.refreshPru.lif.link = u.lif.link := out.only.link_eq
  refine ⟨held.andThen out.only, (KeepsPru.of_pru (held.same .pru)).trans out.keeps, ?_, ?_, ?_⟩
  · rw [out.check, held.same .pru]
  · exact (congrArg Lif.linkMark link :).trans hold.1
  · exact (congrArg Lif.hold link :).trans hold.2

end

/-- What the end of STARTUP leaves, with the blocks settled before it in `d`, and the new mode in `e`. -/
structure StartupEnds (s d e t : State) : Prop where
  settled : StartupSettled s d
  left : if s.mctl.loaded = none
    then e.mode = .unconfigured ∧ (∀ k, e.needle k = (d.needle k).homesOver (d.channelCfg k).pmax) ∧
      e.ndr.sweep = d.ndr.sweep ∧ OnlyChanges [.mctl, .ndr] d e
    else Begins d e
  leaves : OnlyChanges (.dmn :: .link :: ignitionParts) d e
  attends : e.lif.attention.has .mode = true
  ends : OnlyChanges [.link, .pru] e t ∧ KeepsPru e t ∧ t.pru.lampCheck = e.pru.lampCheck ∧
    t.lif.linkMark = e.lif.linkMark ∧ t.lif.hold = (e.lif.hold || e.pins.holdAsserted)

theorem State.endStartup_ends (s : State) : ∃ d e, StartupEnds s d e s.endStartup := by
  have goes := s.endStartup_settled
  have settled := s.startupSettled_spec
  generalize s.startupSettled = d at goes settled
  have leaves := d.leaveStartup_only s.mctl.loaded.isSome
  have attends := d.leaveStartup_attends s.mctl.loaded.isSome settled.attends
  have ends := (d.leaveStartup s.mctl.loaded.isSome).holdIfAsserted_refreshPru
  rw [← goes] at ends
  refine ⟨d, d.leaveStartup s.mctl.loaded.isSome, settled, ?_, leaves, attends, ends⟩
  cases s.mctl.loaded with
  | none =>
    rw [if_pos rfl]
    exact d.leaveStartup_failed
  | some w =>
    rw [if_neg (Option.some_ne_none w)]
    exact d.leaveStartup_begins

namespace StartupEnds

variable {s d e t : State} (h : StartupEnds s d e t)
include h

theorem mode : t.mode = if s.mctl.loaded = none then .unconfigured else if s.mctl.ign = .active then .run else .standby := by
  have last : t.mode = e.mode := h.ends.1.keepsMode
  have left := h.left
  rw [last]
  by_cases failed : s.mctl.loaded = none
  · rw [if_pos failed] at left ⊢
    exact left.1
  · rw [if_neg failed] at left ⊢
    rw [left.mode, h.settled.mctl]

/-- In RUN the entry by the accepted IGN was taken. -/
theorem run (m : t.mode = .run) : Begins d e ∧ e.mode = .run := by
  have last : t.mode = e.mode := h.ends.1.keepsMode
  have left := h.left
  split at left
  case isTrue => rw [last, left.1] at m; cases m
  case isFalse => exact ⟨left, last ▸ m⟩

theorem needle (k : Fin 6) : d.needle k = s.needle k := congrArg (fun n : Ndr => n.needles[k]) (h.settled.only.same .ndr)

theorem counter : t.counter ignitionPlace =
    if t.mode = .run then min (s.counter ignitionPlace + 1) counterMax else s.counter ignitionPlace := by
  have before : d.counter ignitionPlace = s.counter ignitionPlace :=
    congrArg (fun v : Vector Nat 12 => v[ignitionPlace]) h.settled.counters
  have after : t.counter ignitionPlace = e.counter ignitionPlace := by
    rw [State.counter, h.ends.1.same .fmy, State.counter]
  have last : t.mode = e.mode := h.ends.1.keepsMode
  have left := h.left
  rw [after, last, ← before]
  split at left
  case isTrue =>
    obtain ⟨mode, -, -, only⟩ := left
    rw [mode, if_neg (by decide), State.counter, only.same .fmy, State.counter]
  case isFalse => exact left.counter

theorem ignitionOn (m : t.mode = .run) : IgnitionOn s t := by
  obtain ⟨begins, running⟩ := h.run m
  obtain ⟨homes, others, sweep, check⟩ := (begins.run running).2
  obtain ⟨only, -, lampCheck, -, -⟩ := h.ends
  have tables : t.tables = e.tables := only.same .tables
  have ndr : t.ndr = e.ndr := only.same .ndr
  have early : d.ndr = s.ndr := h.settled.only.same .ndr
  have cfg (k : Fin 6) : t.channelCfg k = e.channelCfg k := by rw [State.channelCfg, tables, State.channelCfg]
  have needle (k : Fin 6) : t.needle k = e.needle k := congrArg (fun n : Ndr => n.needles[k]) ndr
  refine ⟨fun k homing => ?_, fun k moves stays => ?_, ?_, ?_⟩
  · rw [cfg, ← h.needle] at homing ⊢
    rw [needle]
    exact homes k homing
  · rw [cfg, ← h.needle] at stays
    rw [← h.needle] at moves ⊢
    rw [needle]
    exact others k moves stays
  · rw [ndr, sweep, early]
  · rw [lampCheck, check, tables, only.same .now]

theorem elsewhere (m : t.mode ≠ .run) : t.ndr.sweep = s.ndr.sweep ∧ t.pru.lampCheck = s.pru.lampCheck ∧
    ∀ k, t.needle k = if t.mode = .unconfigured then (s.needle k).homesOver (t.channelCfg k).pmax else s.needle k := by
  obtain ⟨only, -, lampCheck, -, -⟩ := h.ends
  have last : t.mode = e.mode := only.keepsMode
  have ndr : t.ndr = e.ndr := only.same .ndr
  have early : d.ndr = s.ndr := h.settled.only.same .ndr
  have needle (k : Fin 6) : t.needle k = e.needle k := congrArg (fun n : Ndr => n.needles[k]) ndr
  have cfg (k : Fin 6) : t.channelCfg k = d.channelCfg k := by
    rw [State.channelCfg, only.same .tables, h.leaves.same .tables, State.channelCfg]
  have left := h.left
  rw [lampCheck, ndr, ← h.settled.check, ← early, last]
  split at left
  case isTrue =>
    obtain ⟨mode, homes, sweep, changes⟩ := left
    refine ⟨sweep, by rw [changes.same .pru], fun k => ?_⟩
    rw [needle, homes, mode, if_pos rfl, cfg, h.needle]
  case isFalse =>
    obtain ⟨stays, pru⟩ := left.standby (last ▸ m)
    refine ⟨by rw [stays], by rw [pru], fun k => ?_⟩
    have configured : e.mode ≠ .unconfigured := by rw [left.mode]; split <;> decide
    rw [needle, if_neg configured, ← h.needle]
    exact congrArg (fun n : Ndr => n.needles[k]) stays

theorem settles (off : ∀ m, (s.rule m).st = .off) (unknown : ∀ n, (s.line n).accepted = none) (loaded : s.fmy.loading = false) :
    StartupSettles s t := by
  obtain ⟨only, lights, -, -, -⟩ := h.ends
  have after : OnlyChanges (.dmn :: .link :: ignitionParts) d t := h.leaves.andThen only
  have tables : t.tables = s.startupTables := (after.same .tables).trans h.settled.tables
  have idle (m : Fin 64) : (d.rule m).st ≠ .latchedAck := by
    rw [h.settled.rule]
    exact fun latched => absurd ((off m).symm.trans latched) (by decide)
  have silent : d.overrideActive = false := by
    have values (n : Fin 32) : d.logical n = .invalid := by
      have accepted : (d.line n).accepted = none := by
        rw [h.settled.line]
        exact unknown n
      rw [State.logical, accepted]
      rfl
    rw [State.overrideActive, State.roleValue]
    cases d.tables.roles.of .override with
    | none => rfl
    | some n =>
      rw [Option.map_some, values]
      rfl
  have left := h.left
  have fmy : t.fmy = e.fmy := only.same .fmy
  have faults : e.fmy.table = d.fmy.table := by
    split at left
    case isTrue => rw [left.2.2.2.same .fmy]
    case isFalse => exact left.table idle silent
  have rules (m : Fin 64) : e.rule m = d.rule m := by
    split at left
    case isTrue => exact State.rule_eq d (left.2.2.2.same .wev) m
    case isFalse => exact left.rule idle m
  have lamps : KeepsPru d e := by
    split at left
    case isTrue => exact .of_pru (left.2.2.2.same .pru)
    case isFalse => exact left.lights idle
  have doors (q : Fin 4) : e.door q = d.door q := by
    split at left
    case isTrue => exact congrArg (fun m : Dmn => m.doors[q]) (left.2.2.2.same .dmn)
    case isFalse => exact left.door silent q
  refine ⟨fun distinct => ?_, fun n => ?_, fun k => ?_, fun u => ?_, fun m => ?_, fun n => ?_, fun q => ?_, fun configured => ?_⟩
  · rw [fmy, faults, h.settled.table distinct loaded, tables]
  · have same : t.line n = d.line n := congrArg (fun h : Hlm => h.lines[n]) (after.same .hlm)
    rw [same, h.settled.line, State.lineCfg, tables]
  · have same : t.channel k = d.channel k := congrArg (fun g : Gve => g.channels[k]) (after.same .gve)
    rw [same, h.settled.channel, tables]
  · have same : t.unit u = d.unit u := congrArg (fun g : Gve => g.units[u]) (after.same .gve)
    have now : t.now = s.now := (after.same .now).trans (h.settled.only.same .now)
    rw [same, h.settled.unit, now]
  · rw [State.rule_eq e (only.same .wev), rules, h.settled.rule, tables]
  · have cfg : t.lampCfg n = s.startupTables.lamps[n] := by rw [State.lampCfg, tables]
    rw [cfg, (lamps.trans lights).lamp n, h.settled.lamp]
    exact ⟨rfl, rfl⟩
  · have cfg : t.doorCfg q = s.startupTables.doors[q] := by rw [State.doorCfg, tables]
    have same : t.door q = e.door q := congrArg (fun m : Dmn => m.doors[q]) (only.same .dmn)
    rw [same, doors, h.settled.door, cfg]
  · have last : t.mode = e.mode := only.keepsMode
    have same : t.anyCondition = e.anyCondition := only.anyCondition_eq fun q => by
      rw [show t.door q = e.door q from congrArg (fun m : Dmn => m.doors[q]) (only.same .dmn)]
      exact ⟨rfl, rfl⟩
    rw [only.same .dmn, same]
    split at left
    case isTrue => exact absurd (last.trans left.1) configured
    case isFalse => exact left.interlock silent

end StartupEnds

/-- Settles O5, from the blocks settled, the new mode, and the hold and the outputs after it. -/
theorem startupEndsByImageAndIgnition : Obligations.StartupEndsByImageAndIgnition := by
  intro s live startup loaded known
  have ready : s.startupOver = true := by
    simp only [State.startupOver, startup, loaded, beq_self_eq_true, Bool.not_false, Bool.true_and, bne_iff_ne]
    exact known
  have runs : exec .startupEnd s = .next s.endStartup := by
    rw [exec_runs _ s rfl live]
    exact congrArg _ (if_pos ready)
  have only := s.endStartup_only
  obtain ⟨d, e, h⟩ := s.endStartup_ends
  generalize s.endStartup = t at runs only h
  obtain ⟨changes, -, -, mark, hold⟩ := h.ends
  have link : d.lif.link = { s.lif.link with linkMark := false } := h.settled.link
  have timer : e.lif.link = { d.lif.link with silenceTimer := e.lif.link.silenceTimer } := by
    have left := h.left
    split at left
    case isTrue => rw [left.2.2.2.link_eq]
    case isFalse => rw [left.timer]
  rw [link] at timer
  have eMark : e.lif.linkMark = false := (congrArg Lif.linkMark timer :)
  have eHold : e.lif.hold = s.lif.hold := (congrArg Lif.hold timer :)
  have pins : e.pins = s.pins := (h.leaves.same .pins).trans (h.settled.only.same .pins)
  have attention : t.lif.attention.has .mode = true := by
    rw [changes.same .attention]
    exact h.attends
  refine ⟨t, runs, (changes.same .tables).trans ((h.leaves.same .tables).trans h.settled.tables), h.mode, attention,
    mark.trans eMark, ?_, fun m => ⟨?_, ?_⟩, fun m => ?_, h.ignitionOn, h.elsewhere, fun off unknown => h.settles off unknown loaded,
    only⟩
  · rw [hold, eHold, pins]
  · obtain ⟨begins, running⟩ := h.run m
    rw [changes.same .mctl]
    exact (begins.run running).1
  · rw [h.counter, if_pos m]
  · rw [h.counter, if_neg m]

end Sys2Proof.Machine
end

section
/-! PROOFS. What the exit from SETUP leaves (R12, R41, R63, R83, R111, R131, R154, R162). -/

namespace Sys2Proof.Machine
set_option Elab.async false

/-! ### Entries through CLEARED reports -/

/-- What a CLEARED report leaves of an entry. -/
def FaultEntry.identity (e : FaultEntry) : FaultCode × Nat × Nat := (e.code, e.aging, e.created)

theorem State.reportCleared_identities (s : State) (c : FaultCode) :
    (s.reportCleared c).fmy.table.map FaultEntry.identity = s.fmy.table.map FaultEntry.identity := by
  cases loaded : s.fmy.loading with
  | true =>
    have held : s.reportCleared c = s.modFmy fun m => { m with held := m.held ++ [(c, c.priority s.tables, false)] } :=
      if_pos loaded
    rw [held]
    rfl
  | false =>
    have goes : s.reportCleared c = s.clearedReport c := s.report_eq c false loaded
    rw [goes]
    cases found : s.fmy.position c with
    | none => rw [State.clearedReport_absent (Fmy.position_eq_none_iff.mp found)]
    | some i =>
      obtain ⟨e, h⟩ := Fmy.exists_of_position found
      rw [State.clearedReport_present found h]
      split
      · obtain ⟨inside, same⟩ := List.getElem?_eq_some_iff.mp h
        have stays : FaultEntry.identity { e with active := false } = (s.fmy.table[i]).identity := by rw [same]; rfl
        rw [State.changeEntry_table_set h, List.map_set, stays, ← List.getElem_map FaultEntry.identity (h := by simpa using inside),
          List.set_getElem_self]
      · rfl

theorem State.reportAllCleared_identities (l : List FaultCode) (s : State) :
    (s.reportAllCleared l).fmy.table.map FaultEntry.identity = s.fmy.table.map FaultEntry.identity := by
  induction l generalizing s with
  | nil => rfl
  | cons c l ih => exact (ih _).trans (s.reportCleared_identities c)

/-! ### The outputs of PRU without a rule -/

/-- Every rule is OFF, the chime has no winner, and no lamp has been on for a time. -/
structure Calm (s : State) : Prop where
  rule : ∀ m, (s.rule m).st = .off
  winner : s.pru.winner = none
  tone : s.pru.tone = false
  lamp : ∀ n, (s.lamp n).success = .stopped ∨ (s.lamp n).success = .running s.now

/-- The published levels and the success timers are as due now. -/
def State.Fresh (s : State) : Prop := ∀ n, (s.lamp n).published = s.presentedLevel n ∧
  (s.lamp n).success = if s.driverOn n then .running s.now else .stopped

section
variable {s t : State}

theorem Calm.idle (h : Calm s) (m : Fin 64) : (s.rule m).st ≠ .latchedAck := by
  rw [h.rule]
  decide

theorem Calm.dueWinner (h : Calm s) : s.dueWinner = none := by
  refine s.dueWinner_none.mpr (.inr fun m candidate => ?_)
  obtain ⟨new, -⟩ := candidate
  rw [h.rule] at new
  obtain new | new := new <;> cases new

theorem Calm.of_reads (h : Calm s) (reads : ReadsSame s t) (pru : t.pru = s.pru) (now : t.now = s.now) : Calm t where
  rule m := (reads.rules m).1.trans (h.rule m)
  winner := by rw [pru]; exact h.winner
  tone := by rw [pru]; exact h.tone
  lamp n := by rw [State.lamp, pru, now]; exact h.lamp n

theorem State.Fresh.of_reads (h : s.Fresh) (reads : ReadsSame s t) (pru : t.pru = s.pru) (now : t.now = s.now) : t.Fresh := by
  intro n
  have lamp : t.lamp n = s.lamp n := congrArg (fun p : Pru => p.lamps[n]) pru
  have on : t.driverOn n = s.driverOn n := by rw [State.driverOn, lamp, pru, State.driverOn]
  rw [lamp, reads.presentedLevel, on, now]
  exact h n

/-- R128: without a candidate the chime stays as it is. -/
theorem Calm.refreshChime (h : Calm s) : s.refreshChime = s := by
  have same : s.dueWinner = s.pru.winner := h.dueWinner.trans h.winner.symm
  unfold State.refreshChime
  exact if_pos same

theorem Calm.publishLamps (h : Calm s) : Calm s.publishLamps ∧ s.publishLamps.Fresh := by
  have out := s.publishLamps_putsOut
  have reads := out.readsSame
  have sounder : s.publishLamps.pru.winner = s.pru.winner ∧ s.publishLamps.pru.tone = s.pru.tone := by
    simp only [State.publishLamps, State.followCalls, State.modPru_pru, and_self]
  have now : s.publishLamps.now = s.now := out.only.same .now
  have timer (n : Fin 24) : (s.publishLamps.lamp n).success =
      if s.publishLamps.driverOn n then .running s.publishLamps.now else .stopped := by
    let l : Lamp := { s.lamp n with published := s.presentedLevel n }
    have lamp : s.publishLamps.lamp n = l.timeSuccess s.pru.phase s.now := s.publishLamps_lamp n
    have on : s.publishLamps.driverOn n = l.driverOn s.pru.phase := by
      rw [State.driverOn, lamp, out.phase, Lamp.timeSuccess_eq]
      rfl
    have before : l.success = .stopped ∨ l.success = .running s.now := h.lamp n
    rw [lamp, on, now, Lamp.timeSuccess]
    by_cases calls : l.driverOn s.pru.phase = true
    · rw [if_pos calls, if_pos calls]
      obtain stopped | runs := before
      · rw [if_pos (by rw [stopped]; rfl)]
      · rw [if_neg (by rw [runs]; exact Bool.false_ne_true), runs]
    · rw [if_neg calls, if_neg calls]
  refine ⟨⟨fun m => (reads.rules m).1.trans (h.rule m), sounder.1.trans h.winner, sounder.2.trans h.tone, fun n => ?_⟩,
    fun n => ⟨?_, timer n⟩⟩
  · rw [timer n]
    split
    · exact .inr rfl
    · exact .inl rfl
  · rw [s.publishLamps_published, reads.presentedLevel]

/-- R124: what a refresh leaves, where a frozen output was fresh before. -/
theorem Calm.refreshPru (h : Calm s) (frozen : s.lampsFrozen = true → s.Fresh) : Calm s.refreshPru ∧ s.refreshPru.Fresh := by
  unfold State.refreshPru State.refreshLamps
  by_cases freezes : s.lampsFrozen = true
  · rw [if_pos freezes, h.refreshChime]
    exact ⟨h, frozen freezes⟩
  · rw [if_neg freezes]
    obtain ⟨calm, fresh⟩ := h.publishLamps
    rw [calm.refreshChime]
    exact ⟨calm, fresh⟩

/-- R11, R124: an ignition-on publishes. -/
theorem Calm.enterRun (h : Calm s) : Calm s.enterRun ∧ s.enterRun.Fresh := by
  rw [s.enterRun_idle h.idle]
  have before : Calm s.cycleBegun.runNeedles := ⟨h.rule, h.winner, h.tone, h.lamp⟩
  obtain ⟨calm, fresh⟩ := before.publishLamps
  rw [calm.refreshChime]
  exact ⟨calm, fresh⟩

/-- R103: without a rule that an ignition-on ends, the rules and their sequence numbers stay. -/
theorem Calm.wev (h : Calm s) : (s.leaveStartup true).wev = s.wev := by
  have after (u : State) : OnlyChanges [.dmn, .link, .fmy, .cursor, .attention] u u.freeInterlock.startSilenceTimer :=
    u.freeInterlock_only.andThen (State.startSilenceTimer_only _)
  rw [s.leaveStartup_passed, (after _).same .wev]
  unfold State.byIgnition
  split
  · have outputs : OnlyChanges [.ndr, .pru] s.cycleBegun s.enterRun := by
      rw [s.enterRun_idle h.idle]
      exact ((State.runNeedles_only _).andThen (State.publishLamps_only _) (n := [.ndr, .pru])).andThen
        (State.refreshChime_only _)
    exact (outputs.same .wev).trans (s.cycleBegun_only.same .wev)
  · rfl

/-- R124: the outputs after the entry to RUN or STANDBY. -/
theorem Calm.begins (h : Calm s) : Calm (s.leaveStartup true).refreshPru ∧ (s.leaveStartup true).refreshPru.Fresh := by
  rw [s.leaveStartup_passed]
  have mode := s.byIgnition_spec.mode
  have calm : Calm s.byIgnition ∧ (s.mctl.ign = .active → s.byIgnition.Fresh) := by
    unfold State.byIgnition
    split
    case isTrue active => exact ⟨h.enterRun.1, fun _ => h.enterRun.2⟩
    case isFalse off => exact ⟨⟨h.rule, h.winner, h.tone, h.lamp⟩, fun active => absurd active off⟩
  generalize s.byIgnition = u at mode calm
  have freed := u.freeInterlock_only
  have reads : ReadsSame u u.freeInterlock.startSilenceTimer := freed.readsSame.trans (.modLif _ _ rfl rfl)
  have pru : u.freeInterlock.startSilenceTimer.pru = u.pru := freed.same .pru
  have now : u.freeInterlock.startSilenceTimer.now = u.now := freed.same .now
  generalize u.freeInterlock.startSilenceTimer = v at reads pru now
  refine (calm.1.of_reads reads pru now).refreshPru fun frozen => ?_
  refine (calm.2 ?_).of_reads reads pru now
  by_contra off
  rw [reads.lampsFrozen, State.lampsFrozen, mode, if_neg off] at frozen
  cases frozen

end

end Sys2Proof.Machine
end

section
/-! PROOFS. The exit from SETUP, block by block (R12, R151, R162, R202). -/

namespace Sys2Proof.Machine
set_option Elab.async false

section
variable (s : State) (w : Tables)

/-! ### The tables taken up, without the over-aged entries -/

/-- R12, R162: the tables and the reset values, without the entries that the new aging limit makes too old. -/
def State.tablesSetUp : State := (s.takeUpTables w).removeOverAged w.general.agingLimit

/-- R62: the channels are reset, and of the units all but the time base. -/
theorem State.resetGauges_parts : (∀ k, s.resetGauges.channel k = {}) ∧ ∀ u, s.resetGauges.unit u = { base := (s.unit u).base } := by
  refine ⟨fun k => ?_, fun u => ?_⟩
  · rw [State.channel, State.resetGauges, forUnits, State.modGve_gve, forChannels, State.modGve_gve]
    exact updAll_get _ _ k
  · rw [State.unit, State.resetGauges, forUnits, State.modGve_gve, forChannels, State.modGve_gve]
    exact updAll_get _ _ u

structure SetUp (s t : State) (w : Tables) : Prop where
  tables : t.tables = w
  written : t.written = none
  mctl : t.mctl = s.mctl
  link : t.lif.link = s.lif.link
  hlm : t.hlm = { summaryNo := s.hlm.summaryNo }
  channel : ∀ k, t.channel k = {}
  unit : ∀ u, t.unit u = { base := (s.unit u).base }
  ndr : t.ndr = {}
  wev : t.wev = {}
  pru : t.pru = {}
  dmn : t.dmn = {}
  table : t.fmy.table = s.fmy.table.filter fun e => decide (e.aging < w.general.agingLimit)
  counters : t.fmy.counters = s.fmy.counters
  now : t.now = s.now

theorem State.tablesSetUp_spec : SetUp s (s.tablesSetUp w) w := by
  have removed : OnlyChanges [.fmy, .cursor, .attention] (s.takeUpTables w) (s.tablesSetUp w) := State.removeEntries_only _ _
  have table := ((s.takeUpTables w).removeEntries_removal (pick := fun e => w.general.agingLimit ≤ e.aging)).table_eq
  have counters := removeWhere_counters (s.takeUpTables w) (fun e => w.general.agingLimit ≤ e.aging) (s.takeUpTables w).fmy.table.length 0
  let a : State := { s with
    tables := w, written := none, hlm := { summaryNo := s.hlm.summaryNo }, ndr := {}, wev := {}, pru := {}, dmn := {} }
  have goes : s.takeUpTables w = a.resetGauges := rfl
  have gauges : OnlyChanges [.gve] a (s.takeUpTables w) := goes ▸ a.resetGauges_only
  obtain ⟨channels, units⟩ := a.resetGauges_parts
  rw [← goes] at channels units
  have fmy : (s.takeUpTables w).fmy = s.fmy := gauges.same .fmy
  have end_ : (s.takeUpTables w).removeEntries (fun e => w.general.agingLimit ≤ e.aging) = s.tablesSetUp w := rfl
  have ends : removeWhere (fun e => w.general.agingLimit ≤ e.aging) (s.takeUpTables w).fmy.table.length 0 (s.takeUpTables w) =
      s.tablesSetUp w := rfl
  rw [end_, List.nil_append, fmy] at table
  rw [ends, fmy] at counters
  have both := gauges.andThen removed (n := [.gve, .fmy, .cursor, .attention])
  have gve : (s.tablesSetUp w).gve = (s.takeUpTables w).gve := removed.same .gve
  generalize s.tablesSetUp w = t at removed table counters end_ ends both gve
  refine ⟨both.same .tables, both.same .written, both.same .mctl, both.link_eq, both.same .hlm, fun k => ?_, fun u => ?_,
    both.same .ndr, both.same .wev, both.same .pru, both.same .dmn, ?_, counters, both.same .now⟩
  · rw [← channels k]
    exact congrArg (fun g : Gve => g.channels[k]) gve
  · have unit : t.unit u = (s.takeUpTables w).unit u := congrArg (fun g : Gve => g.units[u]) gve
    exact unit.trans (units u)
  · rw [table]
    refine List.filter_congr fun e _ => ?_
    rw [← decide_not]
    exact decide_eq_decide.mpr Nat.not_le

/-! ### The blocks settled -/

/-- R12, R37, R62: the periodic series after the exit from SETUP. -/
def State.seriesBegun : State :=
  s.modSched fun c => { c with lines := c.lines.map (onGrid (ms 4) s.now), pass := s.now + ms 10, flash := s.now + ms 1 }

/-- R12: the exit from SETUP before the new mode. -/
def State.setupSettled : State := (s.tablesSetUp w).settleBlocks.startComparators.seriesBegun

theorem State.exitSetup_settled : s.exitSetup w = ((s.setupSettled w).leaveStartup true).refreshPru := by
  rw [State.setupSettled, State.tablesSetUp]
  delta State.exitSetup State.leaveStartup State.seriesBegun
  extract_lets
  rw [if_pos rfl]

structure SetupSettled (s t : State) (w : Tables) : Prop where
  tables : t.tables = w
  written : t.written = none
  mctl : t.mctl = s.mctl
  link : t.lif.link = s.lif.link
  now : t.now = s.now
  line : ∀ n, t.line n =
    { measured := none, usable := none, candidate := none, count := 0, accepted := none, status := .clear, timer := .stopped,
      flag := false,
      symptom := if (w.lines[n]).fn = .off ∨ (w.lines[n]).fn = .pulse ∨ (w.lines[n]).suppressed = true then .nothing else .any,
      comparator := if (w.lines[n]).fn = .pulse then .fresh else .stopped }
  detail : t.hlm.detail = none
  summaryNo : t.hlm.summaryNo = s.hlm.summaryNo
  channel : ∀ k, t.channel k =
    { st := .init, e := none, f256 := 0, f := none, standstill := false, pLast := none, start := none, fed := none,
      newFeed := false, feedTimer := .stopped, expiries := 0, lostMark := (w.channels[k]).source == .host,
      noiseMark := (w.channels[k]).source == .pulse }
  unit : ∀ u, t.unit u = { base := (s.unit u).base, tRef := none, tLast := none, edges := 0, glitches := 0 }
  ndr : t.ndr = {}
  rule : ∀ m, t.rule m =
    { st := .off, cond := false, raw := .no, res0 := .no, res1 := .no, res2 := .no, hyst0 := false, hyst1 := false,
      hyst2 := false, onset := 0, release := none, reminder := 0, seq := none,
      mark := (w.rules[m]).enabled && (w.rules[m]).record, qualHeld := false, frozen := false }
  seq : t.wev.seq = 0
  pru : ∀ p, { t.pru with lamps := p } = { lamps := p }
  lamp : ∀ n, t.lamp n = ({} : Lamp).settled (w.lamps[n]).suppressed
  door : ∀ d, t.door d =
    { st := .unknown, openTimer := .stopped, closeTimer := .stopped, lockTimer := .stopped, inconTimer := .stopped,
      inconMark := false, openWhileMoving := false, repeatedObstruction := false, closeTimeout := false, notLocked := false,
      obstructions := 0, cycle := false, grant := false, output := false,
      marks := if (w.doors[d]).configured then doorSyms else [] }
  table : t.fmy.table.map FaultEntry.identity =
    (s.fmy.table.filter fun e => decide (e.aging < w.general.agingLimit)).map FaultEntry.identity
  counters : t.fmy.counters = s.fmy.counters

theorem State.setupSettled_spec : SetupSettled s (s.setupSettled w) w := by
  have setUp := s.tablesSetUp_spec w
  have goes : s.setupSettled w = (s.tablesSetUp w).settleBlocks.startComparators.seriesBegun := rfl
  generalize s.tablesSetUp w = a at setUp goes
  have settles := a.settleBlocks_settles
  generalize a.settleBlocks = b at goes settles
  have comparators := b.startComparators_line
  have kept : KeepsSummary b b.startComparators := forLines_summary _ _
  have after : OnlyChanges [.hlm, .sched] b (s.setupSettled w) := goes ▸ b.startComparators_only.andThen (State.modSched_only _ _)
  have hlm : (s.setupSettled w).hlm = b.startComparators.hlm := by rw [goes]; exact (State.modSched_only _ _).same .hlm
  generalize s.setupSettled w = t at goes after hlm
  have all : OnlyChanges (.sched :: settleParts) a t := settles.only.andThen after
  refine ⟨?_, ?_, ?_, ?_, ?_, fun n => ?_, ?_, ?_, fun k => ?_, fun u => ?_, ?_, fun m => ?_, ?_, fun p => ?_, fun n => ?_,
    fun d => ?_, ?_, ?_⟩
  · rw [all.same .tables, setUp.tables]
  · rw [all.same .written, setUp.written]
  · rw [all.same .mctl, setUp.mctl]
  · rw [all.link_eq, setUp.link]
  · rw [all.same .now, setUp.now]
  · have same : t.line n = b.startComparators.line n := congrArg (fun h : Hlm => h.lines[n]) hlm
    have fresh : a.line n = {} := by rw [State.line, setUp.hlm]; simp
    have cfg : b.lineCfg n = w.lines[n] := by rw [State.lineCfg, settles.clears.tables, setUp.tables]
    have fns : w.settlesLine n = true ↔ (w.lines[n]).fn = .off ∨ (w.lines[n]).fn = .pulse ∨ (w.lines[n]).suppressed = true := by
      rw [Tables.settlesLine]
      cases (w.lines[n]).fn <;> simp [LineFn.classified]
    rw [same, comparators, settles.line, fresh, cfg, setUp.tables, if_congr fns rfl rfl]
  · rw [hlm, kept.1, settles.summary.1, setUp.hlm]
  · rw [hlm, kept.2, settles.summary.2, setUp.hlm]
  · have same : t.channel k = b.channel k := congrArg (fun g : Gve => g.channels[k]) (after.same .gve)
    rw [same, settles.channel, setUp.channel, setUp.tables, Channel.settled]
    cases (w.channels[k]).source <;> rfl
  · have same : t.unit u = a.unit u := congrArg (fun v : Vector Capture 2 => v[u]) ((congrArg Gve.units (after.same .gve)).trans settles.units)
    rw [same, setUp.unit]
  · rw [all.same .ndr, setUp.ndr]
  · have fresh : a.rule m = {} := by rw [State.rule, setUp.wev]; simp
    rw [State.rule_eq b (after.same .wev), settles.rule, fresh, setUp.tables, Tables.settlesRule, Bool.not_not]
    rfl
  · rw [after.same .wev, settles.seq, setUp.wev]
  · rw [after.same .pru, settles.pru, setUp.pru]
  · have same : t.lamp n = b.lamp n := congrArg (fun p : Pru => p.lamps[n]) (after.same .pru)
    have fresh : a.lamp n = {} := by rw [State.lamp, setUp.pru]; simp
    rw [same, settles.lamp, fresh, setUp.tables]
  · have same : t.door d = b.door d := congrArg (fun m : Dmn => m.doors[d]) (after.same .dmn)
    have fresh : a.door d = {} := by rw [State.door, setUp.dmn]; simp
    rw [same, settles.door, fresh, setUp.tables]
    rfl
  · rw [after.same .fmy, settles.clears.fmy, State.reportAllCleared_identities, setUp.table]
  · rw [after.same .fmy, settles.clears.fmy, State.reportAllCleared_counters, setUp.counters]

end

end Sys2Proof.Machine
end

section
/-! PROOFS. The seven findings of the cross-table checks (R214). -/

namespace Sys2Proof.Machine
set_option Elab.async false

/-! ### Objects of a vector that a test picks -/

section
variable {α β : Type} {n : Nat}

theorem toList_eq_finRange (v : Vector α n) : v.toList = (List.finRange n).map fun i => v[i] := by
  refine List.ext_getElem (by simp) fun i h k => ?_
  simp

theorem filter_map_eq_filterMap (p : α → Bool) (g : α → β) (l : List α) :
    (l.filter p).map g = l.filterMap fun x => if p x then some (g x) else none := by
  induction l with
  | nil => rfl
  | cons x l ih => by_cases h : p x = true <;> simp [h, ih]

/-- The picked objects have different values, said by index. -/
theorem nodup_picked (v : Vector α n) (p : α → Bool) (g : α → β) : ((v.toList.filter p).map g).Nodup ↔
    ∀ j k : Fin n, p v[j] = true → p v[k] = true → g v[j] = g v[k] → j = k := by
  have slots : (v.toList.filter p).map g = (List.finRange n).filterMap fun i => if p v[i] then some (g v[i]) else none := by
    rw [filter_map_eq_filterMap, toList_eq_finRange, List.filterMap_map]
    rfl
  rw [slots, nodup_named List.mem_finRange _ (List.nodup_finRange n)]
  refine ⟨fun h j k hj hk same => h j k (g v[j]) (if_pos hj) (by rw [if_pos hk, same]), fun h j k x hj hk => ?_⟩
  obtain ⟨pj, rfl⟩ := (Option.ite_none_right_eq_some.mp hj : _ ∧ some _ = some x).imp id Option.some.inj
  obtain ⟨pk, same⟩ := (Option.ite_none_right_eq_some.mp hk : _ ∧ some _ = some _).imp id Option.some.inj
  exact h j k pj pk same.symm

/-- At most one object is picked, said by index. -/
theorem length_picked (v : Vector α n) (p : α → Bool) : (v.toList.filter p).length ≤ 1 ↔
    ∀ j k : Fin n, p v[j] = true → p v[k] = true → j = k := by
  have same := nodup_picked v p fun _ => ()
  rw [List.map_const', List.nodup_replicate] at same
  simpa using same

end

section
variable (w : Tables)

/-- The lines of the configured door sets, by set and slot. -/
theorem Tables.doorLines_eq : w.doorLines =
    (List.finRange 4 ×ˢ doorSlots).filterMap fun q => if (w.doors[q.1]).configured then (w.doors[q.1]).line q.2 else none := by
  have sets (l : List (Fin 4)) : ((l.map fun d => w.doors[d]).filter (·.configured)).flatMap DoorCfg.named =
      (l ×ˢ doorSlots).filterMap fun q => if (w.doors[q.1]).configured then (w.doors[q.1]).line q.2 else none := by
    induction l with
    | nil => rfl
    | cons d l ih =>
      rw [List.product_cons, List.filterMap_append, List.filterMap_map, ← ih, List.map_cons]
      have turn : List.filterMap ((fun q : Fin 4 × DoorSlot => if (w.doors[q.1]).configured then (w.doors[q.1]).line q.2 else none) ∘
          Prod.mk d) doorSlots = if (w.doors[d]).configured then (w.doors[d]).named else [] := by
        have same : ((fun q : Fin 4 × DoorSlot => if (w.doors[q.1]).configured then (w.doors[q.1]).line q.2 else none) ∘
            Prod.mk d) = fun j => if (w.doors[d]).configured then (w.doors[d]).line j else none := rfl
        rw [same, DoorCfg.named_eq]
        split
        · rfl
        · exact List.filterMap_eq_nil_iff.mpr fun _ _ => rfl
      rw [turn]
      by_cases configured : (w.doors[d]).configured = true
      · rw [List.filter_cons_of_pos configured, List.flatMap_cons, if_pos configured]
      · rw [List.filter_cons_of_neg configured, if_neg configured, List.nil_append]
  rw [Tables.doorLines, toList_eq_finRange, sets]

/-- R214: a line in two slots, or a PULSE line in a slot, of configured door sets. -/
def Tables.FindsDoorLine : Prop :=
  (∃ (d e : Fin 4) (j k : DoorSlot) (n : Fin 32), (d, j) ≠ (e, k) ∧
    (w.doors[d]).configured = true ∧ (w.doors[e]).configured = true ∧
    (w.doors[d]).line j = some n ∧ (w.doors[e]).line k = some n) ∨
  ∃ (d : Fin 4) (j : DoorSlot) (n : Fin 32), (w.doors[d]).configured = true ∧
    (w.doors[d]).line j = some n ∧ (w.lines[n]).fn = .pulse

theorem Tables.doorLines_ok : (decide w.doorLines.Nodup && w.doorLines.all (!w.isPulse ·)) = true ↔ ¬ w.FindsDoorLine := by
  have all (q : Fin 4 × DoorSlot) : q ∈ List.finRange 4 ×ˢ doorSlots :=
    List.mem_product.mpr ⟨List.mem_finRange _, mem_doorSlots _⟩
  have distinct : (List.finRange 4 ×ˢ doorSlots).Nodup := (List.nodup_finRange 4).product (by decide)
  have slot (q : Fin 4 × DoorSlot) (n : Fin 32) : (if (w.doors[q.1]).configured then (w.doors[q.1]).line q.2 else none) = some n ↔
      (w.doors[q.1]).configured = true ∧ (w.doors[q.1]).line q.2 = some n := Option.ite_none_right_eq_some
  rw [Bool.and_eq_true, decide_eq_true_eq, w.doorLines_eq, nodup_named all _ distinct, all_named all]
  simp only [slot, w.isPulse_iff]
  rw [Tables.FindsDoorLine, not_or]
  refine and_congr ⟨fun h => ?_, fun h p q n hp hq => ?_⟩ ⟨fun h => ?_, fun h q n hq pulse => ?_⟩
  · rintro ⟨d, e, j, k, n, apart, cd, ce, ld, le⟩
    exact apart (h (d, j) (e, k) n ⟨cd, ld⟩ ⟨ce, le⟩)
  · by_contra apart
    exact h ⟨p.1, q.1, p.2, q.2, n, apart, hp.1, hq.1, hp.2, hq.2⟩
  · rintro ⟨d, j, n, configured, line, pulse⟩
    exact h (d, j) n ⟨configured, line⟩ pulse
  · exact h ⟨q.1, q.2, n, hq.1, hq.2, pulse⟩

/-- R22, R214: a role on a PULSE line, or a line in two roles. -/
def Tables.FindsRole : Prop :=
  (∃ (r : Role) (n : Fin 32), w.roles.of r = some n ∧ (w.lines[n]).fn = .pulse) ∨
  ∃ (q r : Role) (n : Fin 32), q ≠ r ∧ w.roles.of q = some n ∧ w.roles.of r = some n

theorem Tables.roles_ok : w.rolesOk = true ↔ ¬ w.FindsRole := by
  rw [w.rolesOk_iff, Tables.FindsRole, not_or]
  refine and_congr ⟨fun h => ?_, fun h r n of pulse => h ⟨r, n, of, pulse⟩⟩ ⟨fun h => ?_, fun h q r n hq hr => ?_⟩
  · rintro ⟨r, n, of, pulse⟩
    exact h r n of pulse
  · rintro ⟨q, r, n, apart, hq, hr⟩
    exact apart (h q r n hq hr)
  · by_contra apart
    exact h ⟨q, r, n, apart, hq, hr⟩

/-- R214: a term on a PULSE line. -/
def Tables.FindsTerm : Prop :=
  ∃ (m : Fin 64) (n : Fin 32) (x : LineTest), ((w.rules[m]).slot0 = some (.line n x) ∨
    (w.rules[m]).slot1 = some (.line n x) ∨ (w.rules[m]).slot2 = some (.line n x)) ∧ (w.lines[n]).fn = .pulse

theorem Tables.terms_ok : w.rules.toList.all (fun c => c.terms.all fun q =>
      match q with
      | .line n _ => !w.isPulse n
      | _ => true) = true ↔ ¬ w.FindsTerm := by
  rw [toList_eq_finRange, List.all_map, List.all_eq_true]
  simp only [List.mem_finRange, forall_const, Function.comp_apply, List.all_eq_true, RuleCfg.mem_terms]
  constructor
  · rintro h ⟨m, n, x, slot, pulse⟩
    exact (w.isPulse_iff n).mp (h m (.line n x) slot) pulse
  · intro h m q slot
    split
    case h_1 n x => exact (w.isPulse_iff n).mpr fun pulse => h ⟨m, n, x, slot, pulse⟩
    case h_2 => rfl

/-- R214: two channels with the SPEED role. -/
def Tables.FindsSpeed : Prop :=
  ∃ j k : Fin 6, j ≠ k ∧ (w.channels[j]).source ≠ .unused ∧ (w.channels[j]).speedRole = true ∧
    (w.channels[k]).source ≠ .unused ∧ (w.channels[k]).speedRole = true

theorem Tables.speed_ok : (w.channels.toList.filter ChannelCfg.hasSpeedRole).length ≤ 1 ↔ ¬ w.FindsSpeed := by
  rw [length_picked]
  simp only [ChannelCfg.hasSpeedRole, Bool.and_eq_true, bne_iff_ne]
  constructor
  · rintro h ⟨j, k, apart, sj, rj, sk, rk⟩
    exact apart (h j k ⟨sj, rj⟩ ⟨sk, rk⟩)
  · intro h j k hj hk
    by_contra apart
    exact h ⟨j, k, apart, hj.1, hj.2, hk.1, hk.2⟩

/-- R214: a LINE channel without a sensor table or an ANALOG line. -/
def Tables.FindsSensor : Prop :=
  ∃ k : Fin 6, (w.channels[k]).source = .line ∧ (w.sensors[k] = [] ∨
    ∀ n : Fin 32, (w.channels[k]).input = n.val → (w.lines[n]).fn ≠ .analogRatio ∧ (w.lines[n]).fn ≠ .analogVolt)

/-- R214: a channel without a dial table within its Pmax. -/
def Tables.FindsDial : Prop :=
  ∃ k : Fin 6, (w.channels[k]).source ≠ .unused ∧ (w.dials[k] = [] ∨ ∃ q ∈ w.dials[k], ((w.channels[k]).pmax : Int) < q.2)

theorem Tables.analog_iff (i : Nat) : ((finOf 32 i).map fun n =>
      w.lines[n].fn == .analogRatio || w.lines[n].fn == .analogVolt).getD false = true ↔
    ∃ n : Fin 32, i = n.val ∧ ((w.lines[n]).fn = .analogRatio ∨ (w.lines[n]).fn = .analogVolt) := by
  unfold finOf
  split
  case isTrue inside =>
    simp only [Option.map_some, Option.getD_some, Bool.or_eq_true, beq_iff_eq]
    refine ⟨fun h => ⟨⟨i, inside⟩, rfl, h⟩, ?_⟩
    rintro ⟨n, rfl, h⟩
    exact h
  case isFalse outside =>
    simp only [Option.map_none, Option.getD_none, Bool.false_eq_true, false_iff]
    rintro ⟨n, rfl, -⟩
    exact outside n.isLt

theorem Tables.gauges_ok : (List.finRange 6).all (fun k =>
      let c := w.channels[k]
      (c.source != .line || (((finOf 32 c.input).map fun n =>
          w.lines[n].fn == .analogRatio || w.lines[n].fn == .analogVolt).getD false && !w.sensors[k].isEmpty))
        && (c.source == .unused || (!w.dials[k].isEmpty && curvePositionsOk w.dials[k] c.pmax))) = true ↔
    ¬ w.FindsSensor ∧ ¬ w.FindsDial := by
  rw [List.all_eq_true]
  simp only [List.mem_finRange, forall_const, Bool.and_eq_true, Bool.or_eq_true, bne_iff_ne, beq_iff_eq, Bool.not_eq_true',
    List.isEmpty_eq_false_iff, curvePositionsOk_iff, w.analog_iff]
  rw [forall_and]
  refine and_congr ⟨?_, fun h k => ?_⟩ ⟨?_, fun h k => ?_⟩
  · rintro h ⟨k, source, finding⟩
    obtain other | ⟨⟨n, input, analog⟩, sensor⟩ := h k
    · exact other source
    · obtain empty | none_ := finding
      · exact sensor empty
      · obtain ⟨ratio, volt⟩ := none_ n input
        exact analog.elim ratio volt
  · by_cases source : (w.channels[k]).source = .line
    · refine .inr ⟨?_, fun empty => h ⟨k, source, .inl empty⟩⟩
      by_contra none_
      refine h ⟨k, source, .inr fun n input => ?_⟩
      exact ⟨fun ratio => none_ ⟨n, input, .inl ratio⟩, fun volt => none_ ⟨n, input, .inr volt⟩⟩
    · exact .inl source
  · rintro h ⟨k, source, finding⟩
    obtain off | ⟨dial, within⟩ := h k
    · exact source off
    · obtain empty | ⟨q, mem, beyond⟩ := finding
      · exact dial empty
      · exact absurd (within q mem) (not_le.mpr beyond)
  · by_cases source : (w.channels[k]).source = .unused
    · exact .inl source
    · refine .inr ⟨fun empty => h ⟨k, source, .inl empty⟩, fun q mem => ?_⟩
      by_contra beyond
      exact h ⟨k, source, .inr ⟨q, mem, not_le.mp beyond⟩⟩

/-- R214: two PULSE channels on one unit, or two PULSE lines on one. -/
def Tables.FindsPulse : Prop :=
  (∃ j k : Fin 6, j ≠ k ∧ (w.channels[j]).source = .pulse ∧ (w.channels[k]).source = .pulse ∧
    (w.channels[j]).input = (w.channels[k]).input) ∨
  ∃ m n : Fin 32, m ≠ n ∧ (w.lines[m]).fn = .pulse ∧ (w.lines[n]).fn = .pulse ∧ (w.lines[m]).unitC1 = (w.lines[n]).unitC1

theorem Tables.pulses_ok : (((w.channels.toList.filter (·.source == .pulse)).map ChannelCfg.input).Nodup ∧
    ((w.lines.toList.filter (·.fn == .pulse)).map LineCfg.unitC1).Nodup) ↔ ¬ w.FindsPulse := by
  rw [nodup_picked, nodup_picked, Tables.FindsPulse, not_or]
  simp only [beq_iff_eq]
  refine and_congr ⟨?_, fun h j k hj hk same => ?_⟩ ⟨?_, fun h j k hj hk same => ?_⟩
  · rintro h ⟨j, k, apart, hj, hk, same⟩
    exact apart (h j k hj hk same)
  · by_contra apart
    exact h ⟨j, k, apart, hj, hk, same⟩
  · rintro h ⟨m, n, apart, hm, hn, same⟩
    exact apart (h m n hm hn same)
  · by_contra apart
    exact h ⟨j, k, apart, hj, hk, same⟩

/-- R214: the checks fail exactly for the seven findings. -/
theorem Tables.crossOk_false_iff : w.crossOk = false ↔ w.FindsDoorLine ∨ w.FindsRole ∨ w.FindsTerm ∨ w.FindsSpeed ∨
    w.FindsSensor ∨ w.FindsPulse ∨ w.FindsDial := by
  have passes : w.crossOk = true ↔ ((((¬ w.FindsDoorLine ∧ ¬ w.FindsRole) ∧ ¬ w.FindsTerm) ∧ ¬ w.FindsSpeed) ∧
      (¬ w.FindsSensor ∧ ¬ w.FindsDial)) ∧ ¬ w.FindsPulse := by
    rw [← w.doorLines_ok, ← w.roles_ok, ← w.terms_ok, ← w.speed_ok, ← w.gauges_ok, ← w.pulses_ok]
    unfold Tables.crossOk
    simp only [Bool.and_eq_true, decide_eq_true_eq]
    constructor
    · rintro ⟨⟨⟨⟨⟨⟨doors, roles⟩, terms⟩, speed⟩, gauges⟩, channels⟩, lines⟩
      exact ⟨⟨⟨⟨⟨doors, roles⟩, terms⟩, speed⟩, gauges⟩, channels, lines⟩
    · rintro ⟨⟨⟨⟨⟨doors, roles⟩, terms⟩, speed⟩, gauges⟩, channels, lines⟩
      exact ⟨⟨⟨⟨⟨⟨doors, roles⟩, terms⟩, speed⟩, gauges⟩, channels⟩, lines⟩
  rw [← Bool.not_eq_true, passes]
  tauto

end

end Sys2Proof.Machine
end

section
/-! PROOFS. SETUP is left (O26). -/

namespace Sys2Proof.Machine
set_option Elab.async false

section
variable {s e t : State} {w : Tables}

/-! ### What follows from the blocks settled -/

namespace SetupSettled

variable (h : SetupSettled s e w)
include h

theorem calm : Calm e := by
  have pru := h.pru e.pru.lamps
  refine ⟨fun m => by rw [h.rule], (congrArg Pru.winner pru :), (congrArg Pru.tone pru :), fun n => .inl ?_⟩
  rw [h.lamp]
  rfl

theorem logical (n : Fin 32) : e.logical n = .invalid := by
  rw [State.logical, h.line]
  rfl

theorem overrideActive : e.overrideActive = false := by
  rw [State.overrideActive, State.roleValue]
  cases e.tables.roles.of .override with
  | none => rfl
  | some n =>
    rw [Option.map_some, h.logical]
    rfl

/-- R149: with every door UNKNOWN and every line INVALID. -/
theorem anyCondition : e.anyCondition = true ↔ w.doors.toList.any (·.configured) ∨ w.roles.kneel.isSome = true := by
  have cfg (d : Fin 4) : e.doorCfg d = w.doors[d] := by rw [State.doorCfg, h.tables]
  have kneel : e.condKneel = w.roles.kneel.isSome := by
    have of : w.roles.of .kneel = w.roles.kneel := rfl
    rw [State.condKneel, State.roleValue, h.tables, of]
    cases w.roles.kneel with
    | none => rfl
    | some n =>
      rw [Option.map_some, h.logical]
      rfl
  have doors : e.condDoors = true ↔ ∃ d : Fin 4, (w.doors[d]).configured = true := by
    simp [State.condDoors, cfg, h.door]
  have ramps (ramp : e.condRamps = true) : ∃ d : Fin 4, (w.doors[d]).configured = true := by
    rw [State.condRamps, List.any_eq_true] at ramp
    obtain ⟨d, -, both⟩ := ramp
    rw [cfg, Bool.and_eq_true] at both
    exact ⟨d, both.1⟩
  have grants : e.condGrants = false := by
    simp [State.condGrants, h.door]
  have named : w.doors.toList.any (·.configured) = true ↔ ∃ d : Fin 4, (w.doors[d]).configured = true := by
    rw [toList_eq_finRange, List.any_map, List.any_eq_true]
    simp
  rw [State.anyCondition, grants, Bool.or_false, Bool.or_eq_true, Bool.or_eq_true, kneel, named, doors]
  constructor
  · rintro ((door | ramp) | lowered)
    · exact .inl door
    · exact .inl (ramps ramp)
    · exact .inr lowered
  · rintro (door | lowered)
    · exact .inl (.inl door)
    · exact .inr lowered

end SetupSettled

/-- The exit from SETUP: the blocks settled in `e`, the new mode in `g`, and the outputs after it. -/
structure SetupEnds (s e g t : State) (w : Tables) : Prop where
  settled : SetupSettled s e w
  begins : Begins e g
  wev : g.wev = e.wev
  out : PutsOut g t
  calm : Calm t
  fresh : t.Fresh

theorem State.exitSetup_ends (s : State) (w : Tables) : ∃ e g, SetupEnds s e g (s.exitSetup w) w := by
  have goes := s.exitSetup_settled w
  have settled := s.setupSettled_spec w
  generalize s.setupSettled w = e at goes settled
  have begins := e.leaveStartup_begins
  have due := settled.calm.begins
  have out := (e.leaveStartup true).refreshPru_putsOut
  rw [← goes] at due out
  exact ⟨e, _, settled, begins, settled.calm.wev, out, due.1, due.2⟩

namespace SetupEnds

variable {g : State} (h : SetupEnds s e g t w)
include h

theorem mode : t.mode = if s.mctl.ign = .active then .run else .standby := by
  have last : t.mode = g.mode := h.out.only.keepsMode
  rw [last, h.begins.mode, h.settled.mctl]

theorem tables : t.tables = w ∧ t.written = none := by
  rw [h.out.only.same .tables, h.out.only.same .written, h.begins.only.same .tables, h.begins.only.same .written]
  exact ⟨h.settled.tables, h.settled.written⟩

theorem now : t.now = s.now := (h.out.only.same .now).trans ((h.begins.only.same .now).trans h.settled.now)

theorem count (m : t.mode = .run) : t.counter ignitionPlace = min (s.counter ignitionPlace + 1) counterMax := by
  have last : t.mode = g.mode := h.out.only.keepsMode
  have same : t.counter ignitionPlace = g.counter ignitionPlace := by rw [State.counter, h.out.only.same .fmy, State.counter]
  have before : e.counter ignitionPlace = s.counter ignitionPlace :=
    congrArg (fun v : Vector Nat 12 => v[ignitionPlace]) h.settled.counters
  rw [same, h.begins.counter, if_pos (last ▸ m), before]

theorem hlm : t.hlm = e.hlm := (h.out.only.same .hlm).trans (h.begins.only.same .hlm)

theorem gve : t.gve = e.gve := (h.out.only.same .gve).trans (h.begins.only.same .gve)

theorem needles : (∀ k, t.needle k = if t.mode = .run
    then { st := .homingDriving, count := (w.channels[k]).pmax + 64, pos := none, speed := 0, dir := .down, latest := 0,
           published := 0, resume := none }
    else { st := .homingWaiting, count := 0, pos := none, speed := 0, dir := .up, latest := 0, published := 0,
           resume := none }) ∧ t.ndr.sweep = false := by
  have last : t.mode = g.mode := h.out.only.keepsMode
  have ndr : t.ndr = g.ndr := h.out.only.same .ndr
  have same (k : Fin 6) : t.needle k = g.needle k := congrArg (fun n : Ndr => n.needles[k]) ndr
  have fresh (k : Fin 6) : e.needle k = {} := by rw [State.needle, h.settled.ndr]; simp
  rw [last, ndr]
  by_cases m : g.mode = .run
  · obtain ⟨homes, -, sweep, -⟩ := (h.begins.run m).2
    refine ⟨fun k => ?_, by rw [sweep, h.settled.ndr]⟩
    have cfg : g.channelCfg k = w.channels[k] := by
      rw [State.channelCfg, h.begins.only.same .tables, h.settled.tables]
    rw [if_pos m, same, homes k (.inl (by rw [fresh])), fresh, cfg]
    rfl
  · obtain ⟨stays, -⟩ := h.begins.standby m
    refine ⟨fun k => ?_, by rw [stays, h.settled.ndr]⟩
    rw [if_neg m, same, State.needle, stays]
    exact fresh k

theorem rule (m : Fin 64) : t.rule m = e.rule m := by
  rw [State.rule_eq g (h.out.only.same .wev), State.rule_eq e h.wev]

theorem seq : t.wev.seq = 0 := by
  rw [h.out.only.same .wev, h.wev]
  exact h.settled.seq

theorem keepsPru : KeepsPru e t := (h.begins.lights h.settled.calm.idle).trans h.out.keeps

theorem lamp (n : Fin 24) : (t.lamp n).openStatus = (if (w.lamps[n]).suppressed then .good else .unsettled) ∧
    (t.lamp n).shortStatus = (t.lamp n).openStatus ∧ (t.lamp n).openCount = 0 ∧ (t.lamp n).retry = .stopped ∧
    (t.lamp n).trips = 0 := by
  rw [h.keepsPru.lamp n, h.settled.lamp]
  exact ⟨rfl, rfl, rfl, rfl, rfl⟩

theorem check : t.pru.lampCheck = if t.mode = .run ∧ w.general.lampCheck ≠ 0 then .running s.now else .stopped := by
  have last : t.mode = g.mode := h.out.only.keepsMode
  have now : g.now = s.now := (h.begins.only.same .now).trans h.settled.now
  have tables : g.tables = w := (h.begins.only.same .tables).trans h.settled.tables
  rw [h.out.check, last]
  by_cases m : g.mode = .run
  · rw [(h.begins.run m).2.lampCheck, tables, now]
    by_cases zero : w.general.lampCheck = 0
    · rw [if_pos zero, if_neg fun both => both.2 zero]
    · rw [if_neg zero, if_pos ⟨m, zero⟩]
  · rw [(h.begins.standby m).2, if_neg fun both => m both.1]
    exact (congrArg Pru.lampCheck (h.settled.pru e.pru.lamps) :)

theorem door (d : Fin 4) : t.door d = e.door d := by
  rw [← h.begins.door h.settled.overrideActive d]
  exact congrArg (fun m : Dmn => m.doors[d]) (h.out.only.same .dmn)

theorem interlock : t.dmn.interlock =
    if w.doors.toList.any (·.configured) ∨ w.roles.kneel.isSome = true then .held else .delay := by
  have same : g.anyCondition = e.anyCondition := h.begins.only.anyCondition_eq fun d => by
    rw [h.begins.door h.settled.overrideActive d]
    exact ⟨rfl, rfl⟩
  rw [h.out.only.same .dmn, h.begins.interlock h.settled.overrideActive, same]
  exact if_congr h.settled.anyCondition rfl rfl

theorem identities : t.fmy.table.map FaultEntry.identity =
    (s.fmy.table.filter fun e => decide (e.aging < w.general.agingLimit)).map FaultEntry.identity := by
  rw [h.out.only.same .fmy, h.begins.table h.settled.calm.idle h.settled.overrideActive, h.settled.table]

theorem young (x : FaultEntry) (mem : x ∈ t.fmy.table) : x.aging < w.general.agingLimit := by
  have there := List.mem_map_of_mem (f := FaultEntry.identity) mem
  rw [h.identities] at there
  obtain ⟨y, kept, same⟩ := List.mem_map.mp there
  have aging : y.aging = x.aging := congrArg (fun q : FaultCode × Nat × Nat => q.2.1) same
  rw [← aging]
  exact of_decide_eq_true (List.mem_filter.mp kept).2

theorem keeps (x : FaultEntry) (mem : x ∈ s.fmy.table) (young : x.aging < w.general.agingLimit) :
    ∃ y ∈ t.fmy.table, y.code = x.code ∧ y.aging = x.aging ∧ y.created = x.created := by
  have stays : x ∈ s.fmy.table.filter fun e => decide (e.aging < w.general.agingLimit) :=
    List.mem_filter.mpr ⟨mem, decide_eq_true young⟩
  have there := List.mem_map_of_mem (f := FaultEntry.identity) stays
  rw [← h.identities] at there
  obtain ⟨y, kept, same⟩ := List.mem_map.mp there
  exact ⟨y, kept, congrArg (fun q : FaultCode × Nat × Nat => q.1) same,
    congrArg (fun q : FaultCode × Nat × Nat => q.2.1) same, congrArg (fun q : FaultCode × Nat × Nat => q.2.2) same⟩

theorem timer : t.lif.silenceTimer = if s.lif.silence then .stopped else .running s.now := by
  have link : t.lif.link = g.lif.link := h.out.only.link_eq
  have silence : e.lif.silence = s.lif.silence := (congrArg Lif.silence h.settled.link :)
  rw [← silence, ← h.settled.now]
  exact (congrArg Lif.silenceTimer (link.trans h.begins.timer) :)

end SetupEnds

end

/-- Settles O26, from the blocks settled, the entry to the new mode, and the findings of the checks. -/
theorem setupIsLeft : Obligations.SetupIsLeft := by
  refine ⟨fun s tag x w ready named m written => ?_, fun w => w.crossOk_false_iff⟩
  have startup : s.mode ≠ .startup := by rw [m]; decide
  have service : setModeService x.toNat s = leaveSetupService s := by
    obtain rfl | rfl := named
    · exact if_pos m
    · exact if_pos m
  have leaves : leaveSetupService s = if w.crossOk then (s.exitSetup w, .ok, []) else (s, .refusedArg, []) := by
    rw [leaveSetupService, written]
    rfl
  refine ⟨fun fails => ?_, fun passes => ?_⟩
  · refine exec_setMode ready startup ?_
    rw [service, leaves, if_neg (by rw [fails]; decide)]
  · have answer := exec_setMode ready startup (service.trans (leaves.trans (if_pos passes)))
    have only := s.exitSetup_only w
    obtain ⟨e, g, h⟩ := s.exitSetup_ends w
    generalize s.exitSetup w = t at answer only h
    have reads : ReadsSame t (t.replying ⟨0x04, tag, [x]⟩ .ok []) := .modLif t _ rfl rfl
    have pru := h.settled.pru e.pru.lamps
    obtain ⟨needles, sweep⟩ := h.needles
    refine ⟨_, answer, h.tables.1, h.tables.2, rfl, h.mode, h.count, fun n => ?_, ?_, ?_, fun k => ?_, fun u => ?_, needles, sweep,
      fun m => (h.rule m).trans (h.settled.rule m), ?_, ?_, ?_, ?_, h.calm.winner, h.calm.tone, fun m => ?_, fun n => ?_, h.check,
      fun d => (h.door d).trans (h.settled.door d), h.young, h.keeps, h.interlock, h.timer, ?_⟩
    · exact (congrArg (fun l : Hlm => l.lines[n]) h.hlm).trans (h.settled.line n)
    · exact (congrArg Hlm.detail h.hlm).trans h.settled.detail
    · exact (congrArg Hlm.summaryNo h.hlm).trans h.settled.summaryNo
    · exact (congrArg (fun v : Gve => v.channels[k]) h.gve).trans (h.settled.channel k)
    · exact (congrArg (fun v : Gve => v.units[u]) h.gve).trans (h.settled.unit u)
    · exact h.seq
    · exact h.keepsPru.list.trans (congrArg Pru.list pru :)
    · exact h.keepsPru.shown.trans (congrArg Pru.shown pru :)
    · exact h.keepsPru.phase.trans (congrArg Pru.phase pru :)
    · have marks : t.pru.singleMarks = Vector.replicate 64 false := h.keepsPru.marks.trans (congrArg Pru.singleMarks pru :)
      change t.pru.singleMarks[m] = false
      rw [marks]
      simp
    · obtain ⟨opens, shorts, counts, retry, trips⟩ := h.lamp n
      obtain ⟨level, success⟩ := h.fresh n
      rw [h.now] at success
      refine ⟨opens, shorts, counts, retry, trips, success, ?_⟩
      rw [reads.presentedLevel]
      exact level
    · exact only.andThen (State.replying_only _ _ _ _)

end Sys2Proof.Machine
end

section
/-! PROOFS. The readings laid out: bytes of flags, packed values, and blocks of one length after each other (R210). -/

namespace Sys2Proof.Machine
set_option Elab.async false

/-! ### Flags of a byte -/

theorem weigh_eq_ite (b : Bool) (w : Nat) : (if b then w else 0) = weigh b w := rfl

@[simp] theorem weigh_false (w : Nat) : weigh false w = 0 := rfl

theorem bits_nil : bits [] = 0 := rfl

theorem bits_cons (b : Bool) (l : List Bool) : bits (b :: l) = weigh b 1 + 2 * bits l := rfl

theorem two_mul_weigh (b : Bool) (w : Nat) : 2 * weigh b w = weigh b (2 * w) := by cases b <;> rfl

/-- Two to five flags at their weights. -/
theorem bits_two_weighed (a b : Bool) : bits [a, b] = weigh a 1 + weigh b 2 := by
  simp only [bits_cons, bits_nil, Nat.mul_zero, Nat.add_zero, two_mul_weigh, Nat.reduceMul]

theorem bits_three_weighed (a b c : Bool) : bits [a, b, c] = weigh a 1 + weigh b 2 + weigh c 4 := by
  rw [bits_cons, bits_two_weighed, Nat.mul_add, two_mul_weigh, two_mul_weigh, ← Nat.add_assoc]

theorem bits_four_weighed (a b c d : Bool) : bits [a, b, c, d] = weigh a 1 + weigh b 2 + weigh c 4 + weigh d 8 := by
  rw [bits_cons, bits_three_weighed]
  simp only [Nat.mul_add, two_mul_weigh, Nat.reduceMul, ← Nat.add_assoc]

theorem bits_five_weighed (a b c d e : Bool) : bits [a, b, c, d, e] = weigh a 1 + weigh b 2 + weigh c 4 + weigh d 8 + weigh e 16 := by
  rw [bits_cons, bits_four_weighed]
  simp only [Nat.mul_add, two_mul_weigh, Nat.reduceMul, ← Nat.add_assoc]

/-- The bits of a byte of flags are the flags. -/
theorem bits_testBit (l : List Bool) (i : Nat) : (bits l).testBit i = l.getD i false := by
  induction l generalizing i with
  | nil => exact Nat.zero_testBit i
  | cons b l ih =>
    rw [bits_cons]
    cases i with
    | zero => cases b <;> simp [Nat.testBit_zero, weigh]
    | succ i =>
      have half : (weigh b 1 + 2 * bits l) / 2 = bits l := by rw [weigh]; split <;> omega
      rw [Nat.testBit_succ, half, ih, List.getD_cons_succ]

/-! ### Packed values and flags (R39) -/

/-- Four values of 2 bits to a byte. -/
theorem pack4_getD (l : List Nat) (small : ∀ x ∈ l, x < 4) (whole : 4 ∣ l.length) (i : Nat) (inside : i < l.length) :
    ((pack4 l).getD (i / 4) 0).toNat / 4 ^ (3 - i % 4) % 4 = l.getD i 0 := by
  induction l using pack4.induct generalizing i with
  | case1 a b c d rest ih =>
    have ha : a < 4 := small a (by simp)
    have hb : b < 4 := small b (by simp)
    have hc : c < 4 := small c (by simp)
    have hd : d < 4 := small d (by simp)
    by_cases first : i < 4
    · have byte : ((pack4 (a :: b :: c :: d :: rest)).getD (i / 4) 0).toNat = 64 * a + 16 * b + 4 * c + d := by
        rw [Nat.div_eq_of_lt first, pack4, u8, List.singleton_append, List.getD_cons_zero, BitVec.toNat_ofNat]
        omega
      rw [byte]
      obtain rfl | rfl | rfl | rfl : i = 0 ∨ i = 1 ∨ i = 2 ∨ i = 3 := by omega
      all_goals simp; omega
    · obtain ⟨j, rfl⟩ : ∃ j, i = j + 4 := ⟨i - 4, by omega⟩
      have later : (j + 4) / 4 = j / 4 + 1 := by omega
      have place : (j + 4) % 4 = j % 4 := by omega
      have rest_ := ih (fun x mem => small x (by simp [mem])) ((Nat.dvd_add_left (by decide : 4 ∣ 4)).mp whole) j
        (by simpa using inside)
      rw [later, place, pack4, u8, List.singleton_append, List.getD_cons_succ, rest_]
      simp
  | case2 l short =>
    have few : l.length < 4 := by
      by_contra many
      match l, many with
      | a :: b :: c :: d :: rest, _ => exact short a b c d rest rfl
      | [], many | [_], many | [_, _], many | [_, _, _], many => simp at many
    omega

/-- Eight flags to a byte. -/
theorem pack8_getLsbD (l : List Bool) (whole : 8 ∣ l.length) (i : Nat) (inside : i < l.length) :
    ((pack8 l).getD (i / 8) 0).getLsbD (7 - i % 8) = l.getD i false := by
  induction l using pack8.induct generalizing i with
  | case1 a b c d e f g h rest ih =>
    by_cases first : i < 8
    · rw [Nat.div_eq_of_lt first, pack8, u8, List.singleton_append, List.getD_cons_zero, BitVec.getLsbD_ofNat, bits_testBit,
        decide_eq_true (by omega), Bool.true_and]
      obtain rfl | rfl | rfl | rfl | rfl | rfl | rfl | rfl :
        i = 0 ∨ i = 1 ∨ i = 2 ∨ i = 3 ∨ i = 4 ∨ i = 5 ∨ i = 6 ∨ i = 7 := by omega
      all_goals rfl
    · obtain ⟨j, rfl⟩ : ∃ j, i = j + 8 := ⟨i - 8, by omega⟩
      have later : (j + 8) / 8 = j / 8 + 1 := by omega
      have place : (j + 8) % 8 = j % 8 := by omega
      have rest_ := ih ((Nat.dvd_add_left (by decide : 8 ∣ 8)).mp whole) j (by simpa using inside)
      rw [later, place, pack8, u8, List.singleton_append, List.getD_cons_succ, rest_]
      simp
  | case2 l short =>
    have few : l.length < 8 := by
      by_contra many
      match l, many with
      | a :: b :: c :: d :: e :: f :: g :: h :: rest, _ => exact short a b c d e f g h rest rfl
      | [], many | [_], many | [_, _], many | [_, _, _], many | [_, _, _, _], many | [_, _, _, _, _], many
      | [_, _, _, _, _, _], many | [_, _, _, _, _, _, _], many => simp at many
    omega

/-! ### Blocks of one length -/

section
variable {α β : Type} {f : α → List β} {k : Nat} (size : ∀ x, (f x).length = k)
include size

theorem length_blocks (l : List α) : (l.flatMap f).length = k * l.length := by
  simp [List.length_flatMap, size, Nat.mul_comm]

/-- The block of an object, at its place among the others. -/
theorem block_at {l : List α} {i : Nat} {x : α} (h : l[i]? = some x) (rest : List β) :
    ((l.flatMap f ++ rest).drop (k * i)).take k = f x := by
  induction l generalizing i with
  | nil => cases h
  | cons y l ih =>
    cases i with
    | zero =>
      obtain rfl : y = x := Option.some.inj h
      rw [Nat.mul_zero, List.drop_zero, List.flatMap_cons, List.append_assoc, ← size y, List.take_left]
    | succ i =>
      rw [List.flatMap_cons, List.append_assoc, Nat.mul_succ, Nat.add_comm, ← List.drop_drop, ← size y, List.drop_left, size y]
      exact ih h

/-- The block of an object, where other bytes stand first. -/
theorem block_behind {l : List α} {i a : Nat} {x : α} (first : List β) (place : first.length = a) (h : l[i]? = some x)
    (rest : List β) : ((first ++ (l.flatMap f ++ rest)).drop (a + k * i)).take k = f x := by
  rw [← List.drop_drop, ← place, List.drop_left]
  exact block_at size h rest

end

theorem finRange_getElem? {n : Nat} (i : Fin n) : (List.finRange n)[i.val]? = some i := by
  rw [List.getElem?_eq_getElem (by simp), List.getElem_finRange]
  rfl

theorem window_getElem? {α : Type} (l : List α) {first count i : Nat} (inside : i < count) :
    ((l.drop first).take count)[i]? = l[first + i]? := by
  rw [List.getElem?_take_of_lt inside, List.getElem?_drop]

end Sys2Proof.Machine
end

section
/-! PROOFS. Every reading item by item (O21): lengths, places and codes (R210, R211, 11.4, 8.1). -/

namespace Sys2Proof.Machine
set_option Elab.async false

/-! ### Lengths -/

section
variable (s : State)

theorem State.channelItems_length (k : Fin 6) : (s.channelItems k).length = 8 := rfl
theorem State.needleItems_length (k : Fin 6) : (s.needleItems k).length = 11 := rfl
theorem State.ruleItems_length (m : Fin 64) : (s.ruleItems m).length = 7 := rfl
theorem ListEntry.bytes_length (e : ListEntry) : e.bytes.length = 7 := rfl
theorem State.telltaleItems_length (n : Fin 24) : (s.telltaleItems n).length = 2 := rfl
theorem State.doorItems_length (d : Fin 4) : (s.doorItems d).length = 5 := rfl
theorem LineSnap.bytes_length (x : LineSnap) : x.bytes.length = 5 := rfl
theorem FaultEntry.bytes_length (e : FaultEntry) (i : Nat) : (e.bytes i).length = 24 := rfl
theorem State.rawLineItems_length (n : Fin 32) : (s.rawLineItems n).length = 21 := rfl
theorem State.statusItems_length : s.statusItems.length = 13 := rfl
theorem State.summaryItems_length (n : Nat) : (s.summaryItems n).length = 14 := rfl
theorem u32_length (v : Nat) : (u32 v).length = 4 := rfl

/-- R39 to R200: the lengths of the readings. -/
theorem State.items_lengths : s.statusItems.length = 13 ∧ (∀ n, (s.summaryItems n).length = 14) ∧
    s.gaugesItems.length = 2 + 6 * 8 + 6 * 11 ∧
    (∀ first count, first + count ≤ 64 → (s.rulesItems first count).length = 4 + 7 * count) ∧
    s.presentationItems.length = 5 + 7 * s.pru.shown.length + 24 * 2 ∧
    s.doorsItems.length = 4 * 5 + 4 ∧ s.countersItems.length = 12 * 4 + 11 ∧
    (∀ n, (s.rawLineItems n).length = 21) ∧ ∀ (e : FaultEntry) (i : Nat), (e.bytes i).length = 24 := by
  refine ⟨s.statusItems_length, s.summaryItems_length, ?_, fun first count inside => ?_, ?_, ?_, ?_, s.rawLineItems_length,
    FaultEntry.bytes_length⟩
  · rw [State.gaugesItems, List.length_append, List.length_append, length_blocks s.channelItems_length,
      length_blocks s.needleItems_length, List.length_finRange]
    rfl
  · rw [State.rulesItems, List.length_append, length_blocks s.ruleItems_length, u32_length]
    simp only [List.length_take, List.length_drop, List.length_finRange]
    omega
  · rw [State.presentationItems, List.length_append, List.length_append, length_blocks ListEntry.bytes_length,
      length_blocks s.telltaleItems_length, List.length_finRange]
    rfl
  · rw [State.doorsItems]
    simp only [List.length_append, length_blocks s.doorItems_length, List.length_finRange]
    rfl
  · rw [State.countersItems]
    simp only [List.length_append, length_blocks u32_length, Vector.length_toList]
    rfl

/-! ### Lines (R39, R40) -/

theorem Logical.code_lt (v : Logical) : v.code < 4 := by cases v <;> decide

theorem State.summaryItems_places (no : Nat) : (s.summaryItems no).drop 12 = u16 no ∧ ∀ n : Fin 32,
    ((s.summaryItems no).getD (n.val / 4) 0).toNat / 4 ^ (3 - n.val % 4) % 4 = (s.logical n).code ∧
    ((s.summaryItems no).getD (8 + n.val / 8) 0).getLsbD (7 - n.val % 8) = (s.line n).flag := by
  let values := (List.finRange 32).map fun n => (s.logical n).code
  let flags := (List.finRange 32).map fun n => (s.line n).flag
  have goes : s.summaryItems no = pack4 values ++ (pack8 flags ++ u16 no) := List.append_assoc _ _ _
  have four : (pack4 values).length = 8 := rfl
  have eight : (pack8 flags).length = 4 := rfl
  refine ⟨?_, fun n => ⟨?_, ?_⟩⟩
  · rw [goes, ← List.append_assoc, show 12 = (pack4 values ++ pack8 flags).length from rfl, List.drop_left]
  · have value : values.getD n.val 0 = (s.logical n).code := by simp [values]
    rw [goes, List.getD_append _ _ _ _ (by rw [four]; omega), ← value]
    refine pack4_getD values (fun x mem => ?_) (by simp [values]) n.val (by simp [values])
    obtain ⟨m, -, rfl⟩ := List.mem_map.mp mem
    exact Logical.code_lt _
  · have value : flags.getD n.val false = (s.line n).flag := by simp [flags]
    rw [goes, List.getD_append_right _ _ _ _ (by rw [four]; omega), four, Nat.add_sub_cancel_left,
      List.getD_append _ _ _ _ (by rw [eight]; omega), ← value]
    exact pack8_getLsbD flags (by simp [flags]) n.val (by simp [flags])

/-- R210: an absent value has its bytes at zero. -/
theorem u16_zero : u16 0 = [0, 0] := by decide

/-- R40: a line's entry of the detail snapshot. -/
theorem LineSnap.bytes_eq (x : LineSnap) : x.bytes =
    u8 (x.status.code + 4 * (match x.accepted with
        | some k => k.code
        | none => 6) + weigh x.measured.isNone 128)
      ++ (match x.measured with
        | some m => u16 m.1 ++ u16 m.2
        | none => [0, 0, 0, 0]) := by
  obtain ⟨status, accepted, measured⟩ := x
  have code : acceptedCode accepted = match accepted with
      | some k => k.code
      | none => 6 := by cases accepted <;> rfl
  rw [LineSnap.bytes, code, weigh_eq_ite, List.append_assoc]
  refine congrArg _ ?_
  cases measured with
  | none =>
    change u16 0 ++ u16 0 = _
    rw [u16_zero]
    rfl
  | some m => rfl

theorem Hlm.detailItems_places (h : Hlm) (first count : Nat) : (h.detail = none → h.detailItems first count = [0, 0]) ∧
    ∀ no v, h.detail = some (no, v) → first + count ≤ 32 →
      (h.detailItems first count).length = 2 + 5 * count ∧ (h.detailItems first count).take 2 = u16 no ∧
      ∀ (i : Nat) (n : Fin 32), i < count → n.val = first + i →
        ((h.detailItems first count).drop (2 + 5 * i)).take 5 = v[n].bytes := by
  refine ⟨fun empty => ?_, fun no v taken inside => ?_⟩
  · rw [Hlm.detailItems, empty]
    rfl
  · have goes : h.detailItems first count = u16 no ++ ((v.toList.drop first).take count).flatMap LineSnap.bytes := by
      rw [Hlm.detailItems, taken]
    rw [goes]
    refine ⟨?_, rfl, fun i n below place => ?_⟩
    · rw [List.length_append, length_blocks LineSnap.bytes_length]
      simp only [List.length_take, List.length_drop, Vector.length_toList]
      rw [show (u16 no).length = 2 from rfl]
      omega
    · have there : ((v.toList.drop first).take count)[i]? = some v[n] := by
        rw [window_getElem? _ below, ← place]
        simp
      have block := block_behind LineSnap.bytes_length (a := 2) (u16 no) rfl there []
      rwa [List.append_nil] at block

/-- R190: the readings of one line. -/
theorem State.rawLineItems_eq (n : Fin 32) : s.rawLineItems n =
    u8 (s.lineCfg n).fn.code
      ++ u8 (weigh (s.biasConnected n) 1 + weigh (s.line n).measured.isNone 2
        + weigh (s.line n).usable.isNone 4 + weigh ((s.line n).comparator == .stopped) 8
        + weigh ((s.line n).comparator == .high) 16)
      ++ (match (s.line n).measured with
        | some m => u16 m.1 ++ u16 m.2 ++ u8 ((s.lineCfg n).band ((s.lineCfg n).compared m))
            ++ u8 ((s.lineCfg n).classAt ((s.lineCfg n).compared m)).code
        | none => [0, 0, 0, 0, 0, 0])
      ++ (match (s.line n).usable with
        | some m => u16 m.1 ++ u16 m.2
        | none => [0, 0, 0, 0])
      ++ u8 (match (s.line n).candidate with
        | some k => k.code
        | none => 0xFF)
      ++ u8 (s.line n).count
      ++ u8 (match (s.line n).accepted with
        | some k => k.code
        | none => 6)
      ++ u8 (s.logical n).code ++ u8 (s.line n).status.code ++ u8 (s.line n).timer.code
      ++ u16 ((s.line n).timer.elapsed s.now / 1000) ++ u8 (s.line n).symptom.code := by
  have code : acceptedCode (s.line n).accepted = match (s.line n).accepted with
      | some k => k.code
      | none => 6 := by cases (s.line n).accepted <;> rfl
  have candidate : ((s.line n).candidate.map LineClass.code).getD 0xFF = match (s.line n).candidate with
      | some k => k.code
      | none => 0xFF := by cases (s.line n).candidate <;> rfl
  have usable : u16? ((s.line n).usable.map (·.1)) ++ u16? ((s.line n).usable.map (·.2)) = match (s.line n).usable with
      | some m => u16 m.1 ++ u16 m.2
      | none => [0, 0, 0, 0] := by cases (s.line n).usable <;> rfl
  have measured : u16? ((s.line n).measured.map (·.1)) ++ u16? ((s.line n).measured.map (·.2)) ++
      u8 ((((s.line n).measured.map (s.lineCfg n).compared).map (s.lineCfg n).band).getD 0) ++
      u8 ((((s.line n).measured.map (s.lineCfg n).compared).map fun v => ((s.lineCfg n).classAt v).code).getD 0) =
      match (s.line n).measured with
      | some m => u16 m.1 ++ u16 m.2 ++ u8 ((s.lineCfg n).band ((s.lineCfg n).compared m))
          ++ u8 ((s.lineCfg n).classAt ((s.lineCfg n).compared m)).code
      | none => [0, 0, 0, 0, 0, 0] := by cases (s.line n).measured <;> rfl
  rw [← code, ← candidate, ← usable, ← measured, State.rawLineItems]
  simp only [bits_five_weighed, List.append_assoc]

/-! ### Fault entries (11.4, R187) -/

theorem FaultEntry.bytes_eq (e : FaultEntry) (i : Nat) : e.bytes i =
    u8 i ++ u8 e.code.sourceClass.code ++ u8 e.code.index ++ u8 e.code.symptom ++ u8 e.priority
      ++ u8 (weigh e.active 1 + weigh e.snapshot.isSome 2) ++ u8 e.occurrences ++ u8 e.aging
      ++ u32 e.first.minutes ++ u32 e.first.cycles ++ u32 e.last.minutes ++ u32 e.last.cycles := by
  rw [FaultEntry.bytes, bits_two_weighed, Stamp.bytes, Stamp.bytes]
  simp only [List.append_assoc]

theorem Snapshot.bytes_eq (x : Snapshot) : x.bytes =
    u16 x.vb ++ u8 x.mode.code ++ u8 (weigh x.speed.isSome 1) ++ i16 (x.speed.getD 0)
      ++ u8 x.values.length ++ x.values.flatMap (fun v => u8 v.1.val ++ i16 v.2)
      ++ u8 (x.doors[0]).code ++ u8 (x.doors[1]).code ++ u8 (x.doors[2]).code
      ++ u8 (x.doors[3]).code ++ u8 (weigh x.ilk 1) := by
  have doors : x.doors.toList = [x.doors[0], x.doors[1], x.doors[2], x.doors[3]] := by
    refine List.ext_getElem (by simp) fun i h k => ?_
    have small : i < 4 := by simpa using h
    obtain rfl | rfl | rfl | rfl : i = 0 ∨ i = 1 ∨ i = 2 ∨ i = 3 := by omega
    all_goals simp
  rw [Snapshot.bytes, doors]
  simp only [List.flatMap_cons, List.flatMap_nil, List.append_nil, List.append_assoc, weigh_eq_ite]
  rfl

/-- The first entry of a code stands where the readout finds it. -/
theorem Fmy.position_first {m : Fmy} {c : FaultCode} {i : Nat} {e : FaultEntry} (here : m.table[i]? = some e) (code : e.code = c)
    (first : ∀ (j : Nat) (x : FaultEntry), m.table[j]? = some x → x.code = c → i ≤ j) : m.position c = some i := by
  cases found : m.position c with
  | none =>
    obtain ⟨inside, rfl⟩ := List.getElem?_eq_some_iff.mp here
    exact absurd code (Fmy.position_eq_none_iff.mp found _ (List.getElem_mem inside))
  | some j =>
    obtain ⟨inside, at_, before⟩ := List.findIdx?_eq_some_iff_getElem.mp found
    have low := first j m.table[j] (List.getElem?_eq_getElem inside) (eq_of_beq at_)
    by_contra other
    have below : i < j := lt_of_le_of_ne low fun same => other (by rw [same])
    obtain ⟨_, rfl⟩ := List.getElem?_eq_some_iff.mp here
    exact before i below (beq_iff_eq.mpr code)

theorem Fmy.detailItems_eq (m : Fmy) (c : FaultCode) : ((∀ e ∈ m.table, e.code ≠ c) → m.detailItems c = [0]) ∧
    ∀ (i : Nat) (e : FaultEntry), m.table[i]? = some e → e.code = c →
      (∀ (j : Nat) (x : FaultEntry), m.table[j]? = some x → x.code = c → i ≤ j) →
      m.detailItems c = u8 1 ++ e.bytes i ++ u32 e.created ++ u8 e.slot.val
        ++ u8 (if m.write.slotNo = some e.slot then 2 else if e.slot ∈ m.writes then 1 else 0)
        ++ match e.snapshot with
          | none => []
          | some x =>
            u16 x.vb ++ u8 x.mode.code ++ u8 (weigh x.speed.isSome 1) ++ i16 (x.speed.getD 0)
              ++ u8 x.values.length ++ x.values.flatMap (fun v => u8 v.1.val ++ i16 v.2)
              ++ u8 (x.doors[0]).code ++ u8 (x.doors[1]).code ++ u8 (x.doors[2]).code
              ++ u8 (x.doors[3]).code ++ u8 (weigh x.ilk 1) := by
  refine ⟨fun absent => ?_, fun i e here code first => ?_⟩
  · rw [Fmy.detailItems, Fmy.position_eq_none_iff.mpr absent]
    rfl
  · have found : m.detailItems c = m.detailOf i e := by
      simp only [Fmy.detailItems, Fmy.position_first here code first, here]
    rw [found, Fmy.detailOf, Fmy.writeCode]
    refine congrArg _ ?_
    cases e.snapshot with
    | none => rfl
    | some x => exact x.bytes_eq

/-! ### Gauges, needles and rules (R61, R82, R110) -/

theorem State.channelItems_eq (k : Fin 6) : s.channelItems k =
    u8 (s.channelCfg k).source.code
      ++ u8 (if (s.wsv.needles[k]).isSome then 5 else (s.channel k).st.code)
      ++ u8 (s.channel k).st.code
      ++ u8 (weigh ((s.channelCfg k).source != .unused && (s.channelCfg k).speedRole) 1
        + weigh (s.channel k).standstill 2 + weigh (s.knownE k).isSome 4
        + weigh (s.knownF k).isSome 8)
      ++ i16 ((s.knownE k).getD 0) ++ i16 ((s.knownF k).getD 0) := by
  rw [State.channelItems, bits_four_weighed]
  rfl

theorem State.needleItems_eq (k : Fin 6) : s.needleItems k =
    u8 (s.needle k).st.code
      ++ u8 (weigh (s.needle k).pos.isSome 1 + weigh ((s.needle k).dir == .down) 2
        + weigh (s.wsv.needles[k]).isSome 4)
      ++ u16 ((s.needle k).pos.getD 0) ++ u8 (s.needle k).speed ++ u16 (s.needle k).latest
      ++ u16 (s.needle k).published ++ u16 ((s.wsv.needles[k]).getD 0) := by
  rw [State.needleItems, bits_three_weighed]
  rfl

theorem State.gaugesItems_places : s.gaugesItems.take 2 =
      u8 (weigh s.speed.isSome 1 + weigh s.standing 2 + weigh s.moving 4 + weigh s.ndr.sweep 8
        + weigh s.lif.hold 16) ++ u8 (maskOf s.isMember) ∧
    (∀ k : Fin 6, (s.gaugesItems.drop (2 + 8 * k.val)).take 8 = s.channelItems k) ∧
    ∀ k : Fin 6, (s.gaugesItems.drop (50 + 11 * k.val)).take 11 = s.needleItems k := by
  let first := u8 (bits [s.speed.isSome, s.standing, s.moving, s.ndr.sweep, s.lif.hold]) ++ u8 (maskOf s.isMember)
  let channels := (List.finRange 6).flatMap s.channelItems
  let needles := (List.finRange 6).flatMap s.needleItems
  have goes : s.gaugesItems = first ++ (channels ++ needles) := List.append_assoc _ _ _
  have later : s.gaugesItems = (first ++ channels) ++ (needles ++ []) := by rw [List.append_nil]; rfl
  refine ⟨?_, fun k => ?_, fun k => ?_⟩
  · rw [← bits_five_weighed]
    rfl
  · rw [goes]
    exact block_behind s.channelItems_length first rfl (finRange_getElem? k) needles
  · rw [later]
    refine block_behind s.needleItems_length (first ++ channels) ?_ (finRange_getElem? k) []
    rw [List.length_append, length_blocks s.channelItems_length, List.length_finRange]
    rfl

theorem State.ruleItems_eq (m : Fin 64) : s.ruleItems m =
    u8 (s.rule m).st.code
      ++ u8 (weigh (s.rule m).cond 1 + weigh (s.rule m).qualHeld 2 + weigh (s.rule m).frozen 4
        + weigh (s.rule m).seq.isSome 8)
      ++ u32 ((s.rule m).seq.getD 0)
      ++ u8 ((s.rule m).raw.code
        + 4 * (if (s.ruleCfg m).slot0 = none then 3 else (s.rule m).res0.code)
        + 16 * (if (s.ruleCfg m).slot1 = none then 3 else (s.rule m).res1.code)
        + 64 * (if (s.ruleCfg m).slot2 = none then 3 else (s.rule m).res2.code)) := by
  have result (t : Option Term) (r : TermResult) : resultCode t r = if t = none then 3 else r.code :=
    if_congr Option.isNone_iff_eq_none rfl rfl
  rw [State.ruleItems, bits_four_weighed, result, result, result]

theorem State.rulesItems_places (first count : Nat) :
    (s.rulesItems first count).take 4 = u32 s.wev.seq ∧
      ∀ (i : Nat) (m : Fin 64), i < count → m.val = first + i →
        ((s.rulesItems first count).drop (4 + 7 * i)).take 7 = s.ruleItems m := by
  refine ⟨rfl, fun i m below place => ?_⟩
  have there : (((List.finRange 64).drop first).take count)[i]? = some m := by
    rw [window_getElem? _ below, ← place]
    exact finRange_getElem? m
  have block := block_behind s.ruleItems_length (a := 4) (u32 s.wev.seq) rfl there []
  rwa [List.append_nil] at block

/-! ### The presentation (R119) -/

theorem State.telltaleItems_eq (n : Fin 24) : s.telltaleItems n =
    u8 ((s.lampLevel n).code + 4 * (s.lamp n).published.code + weigh (s.driverOn n) 16)
      ++ u8 ((s.lamp n).openStatus.code + 4 * (s.lamp n).shortStatus.code) := rfl

theorem State.presentationItems_places : s.presentationItems.take 5 =
      u8 (weigh s.lif.hold 1 + weigh s.pru.lampCheck.isRunning 2 + weigh s.wsv.chime.isSome 4)
        ++ u8 s.pru.shown.length ++ u8 s.waiting.length
        ++ u8 (match s.pru.winner with
          | some m => m.val
          | none => 0xFF)
        ++ u8 (match s.pru.winner.bind fun m => (s.ruleCfg m).chime with
          | none => 0
          | some .single => 1
          | some .repeatSlow => 2
          | some .repeatFast => 3
          | some .continuous => 4) ∧
    (∀ (i : Nat) (e : ListEntry), s.pru.shown[i]? = some e →
      (s.presentationItems.drop (5 + 7 * i)).take 7 = e.bytes) ∧
    ∀ n : Fin 24, (s.presentationItems.drop (5 + 7 * s.pru.shown.length + 2 * n.val)).take 2 = s.telltaleItems n := by
  let first := u8 (bits [s.lif.hold, s.pru.lampCheck.isRunning, s.wsv.chime.isSome])
    ++ u8 s.pru.shown.length ++ u8 s.waiting.length ++ u8 (indexCode s.pru.winner)
    ++ u8 (patternCode (s.pru.winner.bind fun m => (s.ruleCfg m).chime))
  let shown := s.pru.shown.flatMap ListEntry.bytes
  let lamps := (List.finRange 24).flatMap s.telltaleItems
  have goes : s.presentationItems = first ++ (shown ++ lamps) := List.append_assoc _ _ _
  have later : s.presentationItems = (first ++ shown) ++ (lamps ++ []) := by rw [List.append_nil]; rfl
  refine ⟨?_, fun i e here => ?_, fun n => ?_⟩
  · have begins : s.presentationItems.take 5 = first := by rw [goes]; exact List.take_left' rfl
    have winner : indexCode s.pru.winner = match s.pru.winner with
        | some m => m.val
        | none => 0xFF := by cases s.pru.winner <;> rfl
    have pattern (x : Option Pattern) : patternCode x = match x with
        | none => 0
        | some .single => 1
        | some .repeatSlow => 2
        | some .repeatFast => 3
        | some .continuous => 4 := rfl
    rw [begins, ← winner, ← pattern, ← bits_three_weighed]
  · rw [goes]
    exact block_behind ListEntry.bytes_length first rfl here lamps
  · rw [later]
    refine block_behind s.telltaleItems_length (first ++ shown) ?_ (finRange_getElem? n) []
    rw [List.length_append, length_blocks ListEntry.bytes_length]
    rfl

/-! ### Door sets (R153) -/

theorem State.doorItems_eq (d : Fin 4) : s.doorItems d =
    u8 (weigh (s.doorCfg d).configured 1 + weigh (s.door d).grant 2 + weigh (s.door d).output 4
        + weigh (s.door d).openWhileMoving 16 + weigh (s.door d).repeatedObstruction 32
        + weigh (s.door d).closeTimeout 64 + weigh (s.door d).notLocked 128)
      ++ u8 (s.door d).st.code ++ u8 (s.door d).obstructions
      ++ u8 ((s.door d).openTimer.code + 4 * (s.door d).closeTimer.code
        + 16 * (s.door d).lockTimer.code + 64 * (s.door d).inconTimer.code)
      ++ u8 0 := by
  rw [State.doorItems, bits_eight]
  simp only [weigh_eq_ite, weigh_false, Nat.add_zero]

theorem State.doorsItems_places : (∀ d : Fin 4, (s.doorsItems.drop (5 * d.val)).take 5 = s.doorItems d) ∧
    s.doorsItems.drop 20 =
      u8 (maskOf fun d => (s.doorCfg d).configured && (s.doorCfg d).inMask)
        ++ u8 (weigh s.ilk 1 + 2 * s.dmn.interlock.code + weigh (s.dmn.interlock == .overridden) 16)
        ++ u8 (weigh s.condDoors 1 + weigh s.condRamps 2 + weigh s.condKneel 4
          + weigh s.condGrants 8)
        ++ u8 (weigh s.speed.isSome 1 + weigh s.aboveWithdraw 2 + weigh s.standing 4) := by
  have mask : (fun d => s.buttonMask.contains d) = fun d => (s.doorCfg d).configured && (s.doorCfg d).inMask := by
    funext d
    rw [Bool.eq_iff_iff, List.contains_iff_mem, State.buttonMask, List.mem_filter]
    simp
  have goes : s.doorsItems = (List.finRange 4).flatMap s.doorItems ++
      (u8 (maskOf fun d => (s.doorCfg d).configured && (s.doorCfg d).inMask)
        ++ u8 (weigh s.ilk 1 + 2 * s.dmn.interlock.code + weigh (s.dmn.interlock == .overridden) 16)
        ++ u8 (weigh s.condDoors 1 + weigh s.condRamps 2 + weigh s.condKneel 4 + weigh s.condGrants 8)
        ++ u8 (weigh s.speed.isSome 1 + weigh s.aboveWithdraw 2 + weigh s.standing 4)) := by
    rw [State.doorsItems, mask, bits_four_weighed, bits_three_weighed]
    simp only [List.append_assoc, weigh_eq_ite]
  have size : ((List.finRange 4).flatMap s.doorItems).length = 20 := by
    rw [length_blocks s.doorItems_length, List.length_finRange]
  rw [goes]
  refine ⟨fun d => block_at s.doorItems_length (finRange_getElem? d) _, ?_⟩
  rw [← size, List.drop_left]

/-! ### Counters (R175) -/

theorem State.countersItems_places : (∀ c : Fin 12, (s.countersItems.drop (4 * c.val)).take 4 = u32 (s.counter c)) ∧
    s.countersItems.drop 48 =
      u32 s.fmy.saveNo.toNat
        ++ u8 (weigh s.fmy.counterDue 1 + weigh s.fmy.storeRequested 2
          + weigh s.fmy.clear.isSome 4)
        ++ u16 s.fmy.lost ++ u8 s.fmy.table.length ++ u8 (s.fmy.table.filter (·.active)).length
        ++ u8 s.fmy.writes.length
        ++ u8 (match s.fmy.write with
          | .slot n _ _ => n.val
          | .counters _ => 0xFD
          | .image _ => 0xFE
          | .idle => 0xFF) := by
  have code : s.fmy.write.code = match s.fmy.write with
      | .slot n _ _ => n.val
      | .counters _ => 0xFD
      | .image _ => 0xFE
      | .idle => 0xFF := by cases s.fmy.write <;> rfl
  have goes : s.countersItems = s.fmy.counters.toList.flatMap u32 ++ (u32 s.fmy.saveNo.toNat
      ++ u8 (bits [s.fmy.counterDue, s.fmy.storeRequested, s.fmy.clear.isSome])
      ++ u16 s.fmy.lost ++ u8 s.fmy.table.length ++ u8 (s.fmy.table.filter (·.active)).length
      ++ u8 s.fmy.writes.length ++ u8 s.fmy.write.code) := by
    rw [State.countersItems]
    simp only [List.append_assoc]
  have size : (s.fmy.counters.toList.flatMap u32).length = 48 := by
    rw [length_blocks u32_length, Vector.length_toList]
  rw [← code, ← bits_three_weighed, goes]
  refine ⟨fun c => block_at u32_length ?_ _, ?_⟩
  · rw [State.counter]
    simp
  · exact List.drop_left' size

end

/-! ### Codes (8.1, R210) -/

theorem Attention.set_eq (a : Attention) : a.set = weigh a.reset 1 + weigh a.supply 2 + weigh a.line 4 + weigh
      a.warn 8 + weigh a.door 16 + weigh a.fault 32 + weigh a.lost 64 + weigh a.link 128 +
      weigh a.opdone 256 + weigh a.hold 512 + weigh a.hostsil 1024 + weigh a.mode 2048 := by
  rw [Attention.set, bits_cons, bits_cons, bits_cons, bits_cons, bits_eight]
  simp only [weigh_eq_ite, Nat.mul_add, two_mul_weigh, Nat.reduceMul, ← Nat.add_assoc]

theorem Status.byte_toNat (x : Status) : x.byte.toNat = x.code := by cases x <;> rfl

/-- Settles O21, reading by reading, and the codes one by one. -/
theorem repliesHaveTheirLengths : Obligations.RepliesHaveTheirLengths := by
  refine ⟨State.items_lengths, State.summaryItems_places, FaultEntry.bytes_eq, Fmy.detailItems_eq, fun h first count => ?_,
    fun s => ?_, fun s => ?_, State.countersItems_places, State.rawLineItems_eq, ?_⟩
  · obtain ⟨empty, taken⟩ := h.detailItems_places first count
    refine ⟨empty, fun no v detail inside => ?_⟩
    obtain ⟨size, number, entries⟩ := taken no v detail inside
    exact ⟨size, number, fun i n below place => (entries i n below place).trans (LineSnap.bytes_eq _)⟩
  · obtain ⟨first, channels, needles⟩ := s.gaugesItems_places
    refine ⟨first, fun k => (channels k).trans (s.channelItems_eq k), fun k => (needles k).trans (s.needleItems_eq k),
      fun first count _ => ?_⟩
    obtain ⟨seq, rules⟩ := s.rulesItems_places first count
    exact ⟨seq, fun i m below place => (rules i m below place).trans (s.ruleItems_eq m)⟩
  · obtain ⟨first, shown, lamps⟩ := s.presentationItems_places
    obtain ⟨doors, last⟩ := s.doorsItems_places
    exact ⟨first, shown, lamps, fun d => (doors d).trans (s.doorItems_eq d), last⟩
  · repeat refine ⟨rfl, ?_⟩
    refine ⟨fun _ => rfl, fun _ => rfl, Status.byte_toNat, Attention.set_eq, fun _ => ⟨rfl, rfl, rfl, fun _ => ⟨rfl, rfl⟩⟩,
      fun _ => ⟨rfl, rfl, fun _ => ⟨rfl, rfl⟩⟩, fun _ => ⟨rfl, rfl, fun _ => ⟨rfl, rfl⟩⟩,
      fun _ => ⟨rfl, rfl, rfl, rfl, rfl, rfl, fun _ => ⟨rfl, rfl⟩⟩, ⟨rfl, rfl, rfl⟩, fun _ => ⟨rfl, rfl, rfl⟩,
      ⟨rfl, rfl, fun _ => ⟨rfl, rfl⟩⟩, ⟨rfl, rfl, rfl⟩, ⟨rfl, rfl, rfl⟩, fun _ => ⟨rfl, rfl, rfl⟩⟩

end Sys2Proof.Machine
end
